-- ==== Sys2Proof/Word.lean ====
section
/-! DEFINITION. Word.lean: the words of the machine and their plainest arithmetic. A register is 32 bits (R8), a byte of
device memory 8 bits; counts, addresses and times are natural numbers that are narrowed where they are stored. -/

namespace Sys2Proof

/-- One byte. -/
abbrev Byte := BitVec 8

/-- A 32-bit register word (R8). -/
abbrev Word := BitVec 32

/-- The two's-complement value of the low `w` bits of `n`. -/
def signed (w n : Nat) : Int :=
  if n % 2 ^ w < 2 ^ (w - 1) then (n % 2 ^ w : Int) else (n % 2 ^ w : Int) - 2 ^ w

/-- The low `w` bits of the two's complement of `z`. -/
def unsigned (w : Nat) (z : Int) : Nat := (z % (2 ^ w : Int)).toNat

/-- `z` held between `lo` and `hi`. -/
def clampInt (lo hi z : Int) : Int := max lo (min hi z)

end Sys2Proof
end

