-- ==== Sys2Proof/Machine/Cells.lean ====
section
/-! DEFINITION. Machine/Cells.lean: sparse tables. A table is a list of (key, value) pairs with strictly rising keys; a
key that is not listed has the value its owner calls the default, and no listed value equals it, so equal tables are
equal lists. Device memory, the register file and every indexed piece of state are tables. -/

namespace Sys2Proof.Machine

/-- A sparse table from natural-number keys. -/
abbrev Tab (α : Type) := List (Nat × α)

/-- The listed value of a key, if any. -/
def Tab.find {α : Type} : Tab α → Nat → Option α
  | [], _ => none
  | (k, v) :: t, a => if k = a then some v else Tab.find t a

/-- The value of a key, `d` when it is not listed. -/
def Tab.get {α : Type} (t : Tab α) (d : α) (a : Nat) : α := (Tab.find t a).getD d

/-- The table with `v` listed at `a`. -/
def Tab.put {α : Type} : Tab α → Nat → α → Tab α
  | [], a, v => [(a, v)]
  | (k, w) :: t, a, v =>
    if a < k then (a, v) :: (k, w) :: t
    else if a = k then (a, v) :: t
    else (k, w) :: Tab.put t a v

/-- The table with nothing listed at `a`. -/
def Tab.del {α : Type} : Tab α → Nat → Tab α
  | [], _ => []
  | (k, w) :: t, a => if k = a then Tab.del t a else (k, w) :: Tab.del t a

/-- The table whose value at `a` is `v`, where `d` is what an unlisted `a` reads as: writing the default removes
the entry. -/
def Tab.set {α : Type} [DecidableEq α] (t : Tab α) (d : α) (a : Nat) (v : α) : Tab α :=
  if v = d then Tab.del t a else Tab.put t a v

/-- The entry at `a` changed by `f`. -/
def Tab.upd {α : Type} [DecidableEq α] (t : Tab α) (d : α) (a : Nat) (f : α → α) : Tab α :=
  Tab.set t d a (f (Tab.get t d a))

/-- An element put before the first that it goes before or with. -/
def insertBy {α : Type} (le : α → α → Bool) (x : α) : List α → List α
  | [] => [x]
  | y :: ys => if le x y then x :: y :: ys else y :: insertBy le x ys

/-- A list sorted, equal elements in their order. -/
def sortBy {α : Type} (le : α → α → Bool) : List α → List α
  | [] => []
  | x :: xs => insertBy le x (sortBy le xs)

/-- Every key of the table is above `b`, and the keys rise strictly. -/
def Tab.above {α : Type} : Tab α → Nat → Bool
  | [], _ => true
  | (k, _) :: t, b => Nat.blt b k && Tab.above t k

/-- The canonical form: keys strictly rising, and no entry equal to the default `d` of its key. -/
def Tab.wf {α : Type} [DecidableEq α] (t : Tab α) (d : Nat → α) : Bool :=
  (match t with
   | [] => true
   | (k, _) :: u => Tab.above u k) && t.all (fun e => !decide (e.2 = d e.1))

end Sys2Proof.Machine
end

