-- ==== Sys2Proof/Machine/Parts.lean ====
section
/-! DEFINITION. Machine/Parts.lean: the structures of which the state is made, one or more for each subsystem, as plain data. What a
register field shows lives in the register file (`Dev.regs`, State.lean); here stands what no register shows. A table (`Tab`) lists only the
entries that differ from the default its docstring names. -/

namespace Sys2Proof.Machine

/-- What the device sends to the host over PCIe (R71, R79, R86, R88, R74). -/
inductive HostOut where
  /-- a posted write of bytes at a host address -/
  | write (addr : Nat) (bytes : List Byte)
  /-- the first posted write of an event record's slot at a host address: its bytes 0 to 11 and 16 to 31 (R86) -/
  | record (addr : Nat) (front back : List Byte)
  /-- a read request for `len` bytes at a host address -/
  | readReq (addr len : Nat)
  /-- an MSI-X message of a vector -/
  | msix (vector : Nat)
  /-- the data of a completed host read -/
  | completion (bytes : List Byte)
  /-- a read completed with Unsupported Request -/
  | unsupportedRequest
  /-- a read completed with Completer Abort -/
  | completerAbort
  /-- a request logged in AER as Unsupported Request -/
  | aerUnsupported
  /-- a completion or a received posted write with a bad ECRC, or a completion with another error status, logged in AER -/
  | aerError
deriving DecidableEq, Repr

/-- An event on its way to the host (R311, R312): the TB2 time of its raising, source ID, severity, code, arguments, the
event ring its chapter names (none: routed by FLT_ROUTE), and the flags. -/
structure EvRec where
  time : Nat
  src : Nat
  sev : Nat
  code : Nat
  arg0 : Nat
  arg1 : Nat
  ring : Option Nat
  backlog : Bool
  partner : Bool
  retained : Bool
deriving DecidableEq, Repr

/-- One source's queue of raised events on their way to FLT (R315), oldest first, with the events dropped since
EV_FLT_DROPPED was last posted. -/
structure EvQueue where
  waiting : List EvRec
  dropped : Nat
deriving DecidableEq, Repr

/-- The empty source queue. -/
abbrev EvQueue.empty : EvQueue := ⟨[], 0⟩

/-- One event ring's backlog (R87): the waiting records, oldest first; the records discarded since EV_HDMA_EVR_LOST was
last written and the first sequence number such a discard consumed; the next sequence number. -/
structure EvRing where
  waiting : List EvRec
  lost : Nat
  firstLost : Nat
  nextSeq : Nat
deriving DecidableEq, Repr

/-- The empty backlog. -/
abbrev EvRing.empty : EvRing := ⟨[], 0, 0, 1⟩

/-- A SAFE cause that waits for entry (R323): the cause code of Table 2-3, and the causing event's code, source ID, severity and arg0
(0 where no event caused it). -/
structure SafeReq where
  cause : Nat
  code : Nat
  src : Nat
  sev : Nat
  arg0 : Nat
deriving DecidableEq, Repr

/-- FLT (chapter 16): the source queues by source ID, the event rings' backlogs by ring 0 to 7, the SAFE cause waiting
for entry (R323), whether EV_FLT_THERMAL_WARN may be posted again, the events dropped since EV_FLT_DROPPED was last posted and the
source of the first of them. -/
structure Flt where
  queues : Tab EvQueue
  rings : Tab EvRing
  safeReq : Option SafeReq
  warnArmed : Bool
  droppedTotal : Nat
  droppedSrc : Nat
deriving DecidableEq, Repr

/-- The metadata of a 64-byte line of device memory (R295): poison, class, source and generation. -/
structure LineMeta where
  poison : Bool
  cls : Nat
  src : Nat
  gen : Nat
deriving DecidableEq, Repr

/-- Device memory: the listed bytes (an unlisted byte is 0, the fill's value, R285, unless it lies in a range of `undef`),
the metadata of the lines written since FILL by line number, and the ranges (start, length, seed) whose bytes the spec
calls undefined (R89): an unlisted byte of one is a free value. `margined`: the channels and thousands of lines that a margin run wrote
(R284). -/
structure Mem where
  cells : List Host.Cell
  lines : Tab LineMeta
  undef : List (Nat × Nat × Nat)
  margined : List (Nat × Nat)
deriving DecidableEq, Repr

/-- A reader of device memory that a failing line answers to (Table 15-4). -/
inductive Requester where
  | none
  | copy (ring : Nat)
  | bar2 (addr len : Nat)
  | seqBlock (ctx : Nat)
  | defectSync
  | decoder (tile : Nat)
  | exportContext
  | exportSource
  | store (port z : Nat)
  | shadow (nrg : Bool) (arg0 arg1 : Nat)
  | scrub
  | other (src : Nat)
deriving DecidableEq, Repr

/-- What comes back from the DRAM on a read: 64 data bytes and the 128-bit check word, and whether a byte's parity was wrong on the way to
the reader (R25, transfer paths inside the core). -/
structure ReadLine where
  data : List Byte
  check : Nat
  parity : Bool
deriving DecidableEq, Repr

/-- What a Millpond line that fails its CRC-16 holds (Table 15-8), with the arguments its owner reports; or a transfer-parity failure on
a channel that carries no device-memory region (R25, Table 16-8). -/
inductive MillpondUse where
  /-- a granule of a tile ID's cache entry -/
  | tile (tile : Nat)
  /-- a line of a band buffer: staging or committed, band line, plane, first of its 128 columns -/
  | band (staging : Bool) (line plane column : Nat)
  /-- a correction table, to be reread from the shadow: Millpond offset, page line that needed it -/
  | dcrTable (offset line : Nat)
  /-- a carry line; `lost`: its second copy fails too -/
  | carry (offset line : Nat) (lost : Bool)
  /-- a class map or shape table, to be reread from the shadow: kind 2 or 3, Millpond offset, port, line that needed it -/
  | nrgTable (kind offset port line : Nat)
  /-- a line of bitmaps, of elements 128 * block to 128 * block + 127 of a port; the line that needed it -/
  | history (offset port line block : Nat)
  /-- a line in a port's lookahead buffer -/
  | lookahead (port line : Nat)
  /-- a context's prefetched block -/
  | prefetch (ctx : Nat)
  /-- a decoder's window -/
  | decoderWindow (u : Nat)
  /-- an encoder's window, by the stream it serves -/
  | segmentWindow (e : Nat)
  | exportWindow
  | rejoinWindow
  /-- a ring's staged data -/
  | staging (ring : Nat)
  /-- a channel without a recovery class, by its source ID -/
  | transfer (src : Nat)
deriving DecidableEq, Repr

/-- A refetch that waits for the host (R302): its line, the readers that wait for it with the rereads each has made, whether a full-line
write has landed since the failed read (it answers), whether any write has (a poisoning is then dropped, R306), whether
EV_MIG_REFETCH has been posted, what the failed read returned, and its TB2 ns (Table 15-7). -/
structure Refetch where
  line : Nat
  waiting : List (Requester × Nat)
  written : Bool
  touched : Bool
  posted : Bool
  readData : List Byte
  since : Nat
deriving DecidableEq, Repr

/-- A scrub pass (R303 to R305). -/
structure Scrub where
  start : Nat
  len : Nat
  record : Nat
  pos : Nat
  startNs : Nat
  linesRead : Nat
  reread : Nat
  refetched : Nat
  poisoned : Nat
  already : Nat
  openAtCancel : Nat
  passId : Nat
  cancelled : Bool
deriving DecidableEq, Repr

/-- MIG (chapter 15): the refetches in force, the next request number, the scrub pass, the retirement entries in force
(frames and banks in table order) and whether EV_MIG_RETIRED is still owed. -/
structure Mig where
  refetches : List Refetch
  nextRequest : Nat
  scrub : Option Scrub
  frames : List Nat
  banks : List Nat
  retiredOwed : Bool
deriving DecidableEq, Repr

/-- One channel of the memory controller (chapter 14): whether it drains writes, the kind of its last batch (1 real-time reads, 2 other
reads, 3 writes), the lines its write queue holds for each subchannel, how many of them the batch under way takes (R293), the times of the
parity alerts of the last second (R288), which subchannels are stopped by an alert with the commands to reissue, the refreshes and ZQ calibrations run, and
the polls of the thermal sensors without an answer. -/
structure Chan where
  draining : Bool
  lastBatch : Nat
  queued : Nat × Nat
  formed : Nat × Nat
  alerts : List Nat
  stopped : List (Nat × Nat)
  refreshes : Nat
  zqs : Nat
  silentPolls : Nat
deriving DecidableEq, Repr

/-- The idle channel. -/
abbrev Chan.idle : Chan := ⟨false, 0, (0, 0), (0, 0), [], [], 0, 0, 0⟩

/-- What the controller writes to the DRAM at the start of FILL (R282): a mode register by MRW to a rank of a channel, a control word of an
RDIMM's RCD, the DQ reference (MR10) of a byte lane, the command reference (MR11) of a subchannel. -/
inductive ModeWrite where
  | mrw (chan rank reg value : Nat)
  | rcd (chan word value : Nat)
  | mr10 (chan sub lane value : Nat)
  | mr11 (chan sub value : Nat)
deriving DecidableEq, Repr

/-- MEM (chapter 14): the channels, the margin offsets (key: channel, subchannel, lane, field) as two's complement, the margin run in
progress (its channel and thousands of lines), the port lines whose store reads are in flight by port (R291), and what was written to the
DRAM at FILL, in order (R282). -/
structure MemCtl where
  chans : Tab Chan
  margins : Tab Int
  marginOp : Option (Nat × Nat)
  inFlight : Tab Nat
  writes : List ModeWrite
deriving DecidableEq, Repr

/-- A copy descriptor in progress (R79, R80): its slot, its fields, the bytes moved so far in order, the running CRC-32C
register, the bytes that have arrived in order and are not yet written, the read data that arrived ahead of its turn by
offset, the offset of a failed read, the reads reissued once, the
status it will complete with, its bytes 0 to 23 as read, and the D2H data that a SHADOW keeps back (R339). -/
structure CopyJob where
  index : Nat
  hostAddr : Nat
  devAddr : Nat
  length : Nat
  tag : Nat
  flags : Nat
  moved : Nat
  crc : Nat
  buf : List Byte
  staged : Tab (List Byte)
  failAt : Option Nat
  reissued : List Nat
  status : Option Nat
  raw : List Byte
  kept : List (Nat × List Byte)
deriving DecidableEq, Repr

/-- A job descriptor (Table 4-5): its slot and its fields, whether a reserved field or undefined flag is set, and whether
its context has taken it, its bytes 0 to 23 as read. -/
structure JobDesc where
  index : Nat
  head : Nat
  jobId : Nat
  flags : Nat
  reservedBad : Bool
  taken : Bool
  raw : List Byte
deriving DecidableEq, Repr

/-- A ring beside its registers: the descriptor in progress, whether the fetch of the slot at its head has been reissued after an ECRC
error (R71), the MSI-X holdoff in force, the cause that arose during it, and whether a cause of the ring stands as its vector's
pending bit (R88). -/
structure Ring where
  copy : Option CopyJob
  job : Option JobDesc
  fetchAgain : Bool
  holdoff : Bool
  holdoffCause : Bool
  masked : Bool
deriving DecidableEq, Repr

/-- A ring with nothing in progress. -/
abbrev Ring.idle : Ring := ⟨none, none, false, false, false, false⟩

/-- The host-written part of the configuration space that no register shows (Table 4-1, R69): the addresses of BAR0 and BAR2, and whether
the function is in D3hot. -/
structure Pci where
  bar0 : Nat
  bar2 : Nat
  d3hot : Bool
deriving DecidableEq, Repr

/-- An abort that resolves (R89): its ring, the first slot, the slots in scope not yet decided, and how many completed
ABORTED. -/
structure Abort where
  ring : Nat
  index : Nat
  slots : List Nat
  aborted : Nat
deriving DecidableEq, Repr

/-- HDMA (chapter 4): the rings, the abort in force, the link resets since the last EV_HDMA_LINK_RESET record, the MSI-X
Enable and function-mask bits of the configuration space and its other host-written values, the job chains orphaned by a link reset
(context, job_id), the BAR2 reads (address, length) held behind one that awaits a refetch (R33), and what has been sent to the host,
oldest first. -/
structure Hdma where
  rings : Tab Ring
  abort : Option Abort
  linkResets : Nat
  msixEnable : Bool
  msixFuncMask : Bool
  pci : Pci
  orphans : List (Nat × Nat)
  bar2Held : List (Nat × Nat)
  out : List HostOut
deriving DecidableEq, Repr

/-- A flash command in progress (R65): its op, its address and length, and the result it will complete with. -/
structure FlashCmd where
  op : Nat
  addr : Nat
  len : Nat
  result : Nat
deriving DecidableEq, Repr

/-- CFG (chapter 3): the configuration flash (an unlisted byte is 0xFF, erased), the 64 KiB buffer (an unlisted byte is 0),
the command in progress, the on-chip tables by table_id with their listed entries, the staged MEMCOPY data, whether a
boot job is loaded and waits to start on context 1. -/
structure Cfg where
  flash : Tab Byte
  buf : Tab Byte
  cmd : Option FlashCmd
  tables : Tab (Tab Nat)
  staged : List (Nat × List Byte)
  bootLoaded : Bool
  bootPending : Bool
  bootRunning : Bool
deriving DecidableEq, Repr

/-- GLB (chapters 1 and 2): the IDCODE register of the IEEE 1149.1 port (R433), the calm count and the lowest slack of the interval of the AVS loop (R17), the voltage of the
transaction under way, whether the last transaction failed, whether EV_GLB_AVS_VMAX was posted since the print mode was
entered, whether the slack alarm may be posted again, the VoltageRail commands sent over AVSBus (rail, mV), oldest first; the target of the accepted request that is pending (R37); the trigger of the exit from SERVICE and
of the entry to SLEEP that are under way (R46); whether a keep-wet cycle is under way, whether its return to SLEEP is cancelled (R41), whether its spit has
been fired, and the ports it spat. -/
structure Glb where
  idcode : BitVec 32
  calm : Nat
  minSlack : Nat
  avsBusy : Option Nat
  avsFailed : Bool
  vmaxPosted : Bool
  alarmArmed : Bool
  avsOut : List (Nat × Nat)
  request : Option Nat
  leavingService : Option Nat
  sleepTrigger : Option Nat
  keepwet : Bool
  keepwetCancelled : Bool
  keepwetFired : Bool
  keepwetSpat : Nat
deriving DecidableEq, Repr

/-! ### Sequencer (chapter 5) -/

/-- A job's log (R118): where it lies, its length in records, the records written and those discarded, and whether
EV_SEQ_LOG_FULL has been posted. -/
structure JobLog where
  base : Nat
  len : Nat
  written : Nat
  discarded : Nat
  fullPosted : Bool
deriving DecidableEq, Repr

/-- A job: its context and ID, its log, the number of the line start of its Z = 0 (R219; line starts are counted from 1
since the print mode was entered), the first Z not yet taken in program order, the gap lines owed before the next sheet
(R221), whether SKIP_LINES came since the last page, the pages opened and the PAGE records written, the blank lines of
those pages, whether it is closed, and its total of feed lines (R232). -/
structure Job where
  ctx : Nat
  id : Nat
  log : JobLog
  start : Nat
  cursor : Nat
  skip : Nat
  afterSkip : Bool
  pages : Nat
  done : Nat
  blanks : Nat
  closed : Bool
  feedLines : Nat
deriving DecidableEq, Repr

/-- The job that no entry lists. -/
abbrev Job.empty : Job := ⟨0, 0, ⟨0, 0, 0, 0, false⟩, 0, 0, 0, false, 0, 0, 0, true, 0⟩

/-- Consecutive lines of a page whose reference indices are consecutive: the first page line, the count, the Z of the first
(none until a sheet's datum gives it, R227), and in PRINT_SCAN the pass's direction and row mask. -/
structure Seg where
  first : Nat
  count : Nat
  z : Option Nat
  reverse : Bool
  mask : Nat
deriving DecidableEq, Repr

/-- A page on its way through the device: job, index, length in lines, what its PAGE_BEGIN asked for, its flags (R118), the
defect table version of its first line, its segments, the port lines settled and the blank ones, the times of its first
and last line start, whether its PAGE_END has executed, the bands committed, the lines its passes cover, whether carries
and histories are cleared at its first line because SKIP_LINES or a new job came before it. -/
structure Page where
  job : Nat
  index : Nat
  length : Nat
  evt : Bool
  evr : Nat
  cached : Bool
  copy : Bool
  spoiled : Bool
  aborted : Bool
  overflow : Bool
  version : Nat
  segs : List Seg
  settled : Nat
  blanks : Nat
  firstNs : Nat
  lastNs : Nat
  closed : Bool
  bands : Nat
  corrected : Nat
  afterSkip : Bool
  recorded : Bool
  lastPass : Option Nat
  takes : Option Nat
  gap : Nat
deriving DecidableEq, Repr

/-- The page that no entry lists. -/
abbrev Page.empty : Page :=
  ⟨0, 0, 0, false, 0, false, false, false, false, false, 0, [], 0, 0, 0, 0, true, 0, 0, false, true, Option.none, Option.none, 0⟩

/-- Why a context waits (Table 5-6, R258). -/
inductive Waiting where
  | nothing
  /-- until TB2 passes a time in ns -/
  | time (untilNs : Nat)
  | sync (counter value : Nat)
  | axis (mask faulted : Nat)
  | msr
  /-- a tile, by its ID -/
  | tile (tile : Nat)
  /-- a page of a job; no job serial until context 0 opens the next one -/
  | page (job : Option Nat) (n : Nat)
  /-- spit bursts, until every one is acknowledged or the time has passed -/
  | spit
deriving DecidableEq, Repr

/-- A command that a context holds (states 5 and 6 of Table 5-16): its two words and how many of its parts have been done
(the placements of a REPEAT, the copies of a COPIES). -/
structure Held where
  w0 : Nat
  w1 : Nat
  step : Nat
deriving DecidableEq, Repr

/-- A sequencer context beside its registers: the call stack (return address and generation), its parameters (R104, R258,
R265), what it waits for, the command it holds, the last command executed (address and first word), whether its chain
has executed a JOB_BEGIN, its open job, whether a doorbell asks for one more link-word read (R100), the definitions it
has dropped (R93), whether it stops with a status once its page has fired (R117), the placements executed in the open page in
program order (first and second word and command address), its measurement parameters, and whether a refetch holds it in WAIT_TAIL. -/
structure Ctx where
  stack : List (Nat × Nat)
  logBase : Nat
  logLen : Nat
  evtRing : Nat
  wait : Waiting
  held : Option Held
  lastCmd : Nat
  lastWord : Nat
  begun : Bool
  job : Option Nat
  doorbell : Bool
  drops : List Nat
  stopping : Option Nat
  placed : List (Nat × Nat × Nat)
  vsetCode : Nat
  spitCfg : Nat
  resultBase : Nat
  defectOut : Nat
  defectVer : Nat
  tailHeld : Bool
deriving DecidableEq, Repr

/-- A context as LOAD leaves it. -/
abbrev Ctx.idle : Ctx :=
  ⟨[], 0, 0, 0, .nothing, none, 0, 0, false, none, false, [], none, [], 0, 0, 0, 0, 0, false⟩

/-- SEQ: the contexts, the jobs and pages by serial number with the next numbers, the open page of context 0, the
page-cache parameters, the placements of context 0's chain whose tiles' decodes are not over (definition, command address, first word). -/
structure Seq where
  ctxs : Tab Ctx
  jobs : Tab Job
  nextJob : Nat
  pages : Tab Page
  nextPage : Nat
  openPage : Option Nat
  pcacheBase : Nat
  pcacheLen : Nat
  uses : List (Nat × Nat × Nat)
deriving DecidableEq, Repr

/-! ### Runners (chapter 6) -/

/-- What a checked frame header says (Table 6-1). -/
structure Header where
  width : Nat
  height : Nat
  format : Nat
  payloadLen : Nat
  crc : Nat
  dictId : Nat
  usesDict : Bool
deriving DecidableEq, Repr

/-- A tile definition: the tile ID, its frame, pin and dict, the context that asked for its decode, its header once checked,
the status its decode failed with (R127), whether it lost its pin (R132), whether the directory still names it, whether a
decode is under way, the placements that use it and are not composed, when the composer last finished one (R131). -/
structure TileDef where
  tile : Nat
  frame : Nat
  len : Nat
  pin : Bool
  dict : Bool
  ctx : Nat
  header : Option Header
  failed : Option Nat
  unpinned : Bool
  current : Bool
  busy : Bool
  refs : Nat
  placed : Nat
deriving DecidableEq, Repr

/-- The definition that no entry lists. -/
abbrev TileDef.empty : TileDef := ⟨0, 0, 0, false, false, 0, Option.none, Option.none, false, false, false, 0, 0⟩

/-- A cached tile: its bytes, whether it is pinned, its place in the order of decodes. -/
structure CacheEntry where
  bytes : List Byte
  pinned : Bool
  decoded : Nat
deriving DecidableEq, Repr

/-- What a decoder works on: a tile definition, or segment `s` of a band of a copied page. -/
inductive DecItem where
  | tile (serial : Nat)
  | seg (page band s : Nat)
deriving DecidableEq, Repr

/-- A decode asked for or under way: what, the decoder (none while it waits), the first attempt's decoder and status
when it is the second (R127), and the decoder whose window failed, when it starts again (R308). -/
structure Decode where
  item : DecItem
  decoder : Option Nat
  first : Option (Nat × Nat)
  avoid : Option Nat
deriving DecidableEq, Repr

/-- The export stream (R136, R142): its settings and source, the output bytes still to be written, those written to all areas,
the input length and CRC-32C, the output area, the encoder that serves it (4: none), whether a source line failed, the input bytes known
to be consumed, and whether its record stands in slot 0 (R137). -/
structure Export where
  depth : Nat
  dyn : Bool
  src : Nat
  len : Nat
  rest : List Byte
  total : Nat
  crc : Nat
  dst : Nat
  area : Nat
  encoder : Nat
  memFail : Bool
  consumed : Nat
  saved : Bool
deriving DecidableEq, Repr

/-- The rejoin stream that is open (R138): its input so far, the frames it came from, and whether its record stands in slot 1 (R137). -/
structure RejoinStream where
  input : List Byte
  frames : List Nat
  saved : Bool
deriving DecidableEq, Repr

/-- RUN: the directory (tile ID to serial number), the definitions and the cache by serial number, counters of serial numbers,
placements and decodes, the decodes in the order asked for, the fault counts of decoders and encoders, the segments being
encoded with their encoders (band * 4 + s), the end of the page-cache entry written so far, the encoder that wrote each
segment, the export stream, the area of the page-cache entry that is written (R139), and the rejoin stream. -/
structure Run where
  dir : Tab Nat
  defs : Tab TileDef
  nextDef : Nat
  cache : Tab CacheEntry
  placeCount : Nat
  decodeCount : Nat
  decodes : List Decode
  decFaults : Tab Nat
  encFaults : Tab Nat
  segments : List (Nat × Nat)
  pcacheEnd : Nat
  segWriter : Tab Nat
  pcachePage : Option Nat
  pcacheInvalid : Bool
  export_ : Option Export
  entryBase : Nat
  entryLen : Nat
  rejoin : Option RejoinStream
deriving DecidableEq, Repr

/-! ### Composer (chapter 7) -/

/-- A placement as the composer keeps it (R157): its kind (0 PLACE, 1 FILL, 2 MASK), its first command word, the definition
it uses, its footprint, its top-left element, the address of its command, and its PMU tag number if it is tagged. -/
structure Plc where
  kind : Nat
  w0 : Nat
  serial : Nat
  width : Nat
  height : Nat
  x : Int
  y : Int
  cmd : Nat
  tag : Option Nat
deriving DecidableEq, Repr

/-- The band in staging: page, band, lines, whether COPIES fills it, the record in program order, whether it has overflowed,
the tokens each logical lane has applied, the tokens applied by each
physical lane, the segments decoded (a mask), the band's values, what could not be decoded or recomposed (as in the committed band), and confirmation. -/
structure Staging where
  page : Nat
  band : Nat
  lines : Nat
  copy : Bool
  entries : List Plc
  overflow : Bool
  lanes : Tab Nat
  tokens : Tab Nat
  segs : Nat
  cells : Tab Nat
  bad : List (Nat × Nat × Nat)
  confirmed : Bool
deriving DecidableEq, Repr

/-- The committed band: page, band, lines, the lines corrected, the record, its values, the segments not yet written to the
page cache, and what could not be recomposed: (line, plane, first column), plane 8 for the whole line (R141, R159). -/
structure Committed where
  page : Nat
  band : Nat
  lines : Nat
  next : Nat
  copy : Bool
  entries : List Plc
  overflow : Bool
  cells : Tab Nat
  segsLeft : Nat
  bad : List (Nat × Nat × Nat)
deriving DecidableEq, Repr

/-- CMP: the two band buffers, the last band staged of the last page, the fault counts of the physical lanes, the lines of the
buffers that failed their check (1 staging, 0 committed; line, plane, first column) and wait for recomposition. -/
structure Cmp where
  staging : Option Staging
  committed : Option Committed
  faults : Tab Nat
  failed : List (Nat × Nat × Nat × Nat)
deriving DecidableEq, Repr

/-! ### Dose correction, line assembly, energy control (chapters 8 to 10) -/

/-- A defect table version: version number, hide_curve, the defective elements in rising order. -/
structure DefTab where
  version : Nat
  hideCurve : Nat
  bits : List Nat
deriving DecidableEq, Repr

/-- The complete table with no defects (Table 8-1). -/
abbrev DefTab.empty : DefTab := ⟨0, 0, []⟩

/-- DCR: the defect table versions kept (R202) by serial number, the active and the pending one, the table being checked
(address, version asked for, whether a read failed), the carries (plane * C + column), and the ports whose history is cleared before
the next line that correction hands them (R199). -/
structure Dcr where
  versions : Tab DefTab
  nextVersion : Nat
  active : Nat
  pending : Option Nat
  sync : Option (Nat × Nat × Bool)
  carry : Tab Int
  clears : List Nat
deriving DecidableEq, Repr

/-- A port line between correction and firing: its page, page line and Z, the line start at which it fires, the store slot,
whether histories are cleared before it (R199), the defect version that corrected it, the detail with which it is blank for
memory if it is, and once it has entered the buffer its classes and digest and the Z and page line of the lines that its port's bitmaps
rested on before it, four at most. -/
structure PortLine where
  page : Nat
  line : Nat
  z : Nat
  start : Nat
  clear : Bool
  version : Nat
  mem : Option Nat
  classes : List Nat
  digest : Nat
  before : List (Nat × Nat)
deriving DecidableEq, Repr

/-- An open run of blank lines (R194): first line, count, row, page, cause, detail. -/
structure BlankRun where
  first : Nat
  count : Nat
  row : Nat
  page : Nat
  cause : Nat
  detail : Nat
deriving DecidableEq, Repr

/-- ASM: per port the lines written to the store and not yet read, in firing order, and those in the lookahead buffer; the
store slots that failed their check (ring, slot; ring 32 is parity), the open blank runs (port * 8 + reporter: 0 assembly,
1 pacing, 2 head link, 3 pair, 4 cover), and the repairs of correction (false) and energy (true) data that are not complete, by the
arguments of their event, while the line that needed the data is held (R175, R209). -/
structure Asm where
  store : Tab (List PortLine)
  look : Tab (List PortLine)
  bad : List (Nat × Nat)
  runs : Tab (Option BlankRun)
  repairs : List (Bool × Nat × Nat)
deriving DecidableEq, Repr

/-- NRG: fire bitmaps and last classes (port * 8192 + element), the latest report of each port (θ and its TB2 ns), whether a
decision has been made in the job, ports whose last decision was stale, and the bands of each page band (page serial *
2^26 + band), two bits a port, the number of bands decided of each page, and the Z and page line of each port's last lines, four at most,
that its bitmaps rest on since its last clearing (R209). -/
structure Nrg where
  hist : Tab Nat
  lastClass : Tab Nat
  report : Tab (Nat × Nat)
  decided : Bool
  prev : Tab Nat
  stale : Tab Bool
  bands : Tab Nat
  decidedBands : Tab Nat
  recent : Tab (List (Nat × Nat))
deriving DecidableEq, Repr

/-! ### Line pacing (chapter 11) -/

/-- The filter of one of line pacing's input balls (R213) or of an axis's switches: the filtered level once known, the level and length of the run of equal samples,
and the time of the run's first sample (TB2, 2^-16 ns). -/
structure Ball where
  level : Option Bool
  raw : Bool
  run : Nat
  since : Nat
deriving DecidableEq, Repr

/-- What an encoder output has driven (R234): a pulse on its STEP ball, a pulse on its DIR ball (format up/down), a DIR level. -/
inductive OutAct where
  | step
  | down
  | dir (level : Bool)
deriving DecidableEq, Repr

/-- An encoder channel: its counts of either sign since RESET, and the position of its last index edge when that edge
came forward. -/
structure Encoder where
  counts : Nat
  lastIndex : Option Nat
deriving DecidableEq, Repr

/-- A queued scan pass (R230, R231): page, segment, pass-table entry, lines, first Z, direction, feed lines if marked. -/
structure Pass where
  page : Nat
  entry : Nat
  first : Nat
  lines : Nat
  z : Nat
  reverse : Bool
  feed : Bool
deriving DecidableEq, Repr

/-- An encoder output (R233, R234): the steps that wait (their signs), those dropped, the DIR level driven, what the STEP and DIR balls
have sent, oldest first, and the index edges forwarded. -/
structure EncOut where
  waiting : List Bool
  dropped : Nat
  dir : Bool
  sent : List OutAct
  idx : Nat
deriving DecidableEq, Repr

/-- PAC: the encoders, the time of the last count that moved H (TB2, 2^-16 ns), the grid (datum P0, q, rem, j), whether the grid
is in force, the line starts made since the print mode was entered, the times of the last two line starts, the greatest
H - p of the excursion, the time of each port's last line start that was not blanked for overspeed (R224), the sheet datums that wait (line start numbers), the position
of the last TOS edge, the passes queued, the pass in progress with its line starts made, whether it is armed, whether the
feed after the last pass is pending (its page, entry, lines, start time) and FEED_REQ, the run of fast or slow intervals,
the outputs, the level driven on GOV_OUT, and the filters of the input balls (3c STEP, 3c + 1 DIR, 3c + 2 IDX of channel c, 6 TOS_IN,
7 SOS_IN, 8 FEED_DONE). -/
structure Pac where
  enc : Tab Encoder
  lastMove : Option Nat
  p0 : Int
  q : Nat
  rem : Nat
  j : Nat
  grid : Bool
  starts : Nat
  lastTime : Option Nat
  excursion : Nat
  lastFire : Tab Nat
  datums : List Nat
  tosPos : Option Nat
  passes : List Pass
  pass : Option Pass
  passStarts : Nat
  passEnd : Nat
  feed : Option (Nat × Nat × Nat × Nat)
  feedReq : Bool
  slow : Nat
  outs : Tab EncOut
  govOut : Bool
  balls : Tab Ball
deriving DecidableEq, Repr

/-! ### Head link (chapter 12) -/

/-- A port line at its line start: page, page line, line start number, fire instant (TB2, 2^-16 ns), the blank cause decided (0
none) and its detail, whether its frame has been sent, what its commit point decided in a pair (none before it: committed or ready,
or not), whether its FIRE block went out with blank = 1, and whether a NAK of it is not this device's to count. -/
structure Shot where
  page : Nat
  line : Nat
  start : Nat
  time : Nat
  cause : Nat
  detail : Nat
  framed : Bool
  ready : Option Bool
  blank : Bool
  counted : Bool
deriving DecidableEq, Repr

/-- What a head port sends: a frame (START, payload and END bytes), a FIRE block (its 8 bytes) at a block boundary (TB2, in units of
10 ps), the IDLE block that fills the lane from now on (its 8 bytes), or electrical idle from now on. -/
inductive HeadOut where
  | frame (port : Nat) (bytes : List Byte)
  | fire (port : Nat) (boundary : Int) (bytes : List Byte)
  | idle (port : Nat) (bytes : List Byte)
  | dark (port : Nat)
deriving DecidableEq, Repr

/-- A head port beside its registers: shots due and not yet sent, shots sent whose ACK is expected, frames sent and unfired, the
page lines whose transmit digest failed (page, line), the frame sequence number, the SHAPE and CTRL frames whose ACK is expected
(sequence, kind, op), the SYNC frames sent and the round trips measured (units of 10 ps), the times of the record errors
(TB2 ns), the line starts made when it became UP, the boundary of its last FIRE block (10 ps),
whether its return lane holds character lock; the TB2 time (2^-16 ns) at which the frame of an unfired line ended (page, line, time); the
code and disparity errors of the last 1,024 characters (TB2 ns, number); payload byte 1 of the IDLE block that fills its transmit lane
(none: electrical idle). -/
structure HPort where
  due : List Shot
  sent : List Shot
  frames : List PortLine
  void : List (Nat × Nat)
  seq : Nat
  expect : List (Nat × Nat × Nat)
  syncs : List Nat
  rtts : List Nat
  rxErrs : List Nat
  upAt : Nat
  lastFire : Int
  locked : Bool
  ends : List (Nat × Nat × Nat)
  charErrs : List (Nat × Nat)
  idle : Option Nat
deriving DecidableEq, Repr

/-- A port that is off. -/
abbrev HPort.off : HPort := ⟨[], [], [], [], 0, [], [], [], [], 0, -1000000, false, [], [], none⟩

/-- Spit bursts under way: the context that asked (none: a keep-wet wake), the ports not yet done, those done and failed. -/
structure Spit where
  ctx : Option Nat
  wait : Nat
  done : Nat
  failed : Nat
deriving DecidableEq, Repr

/-- HLK: the ports, what they have sent, oldest first, and the spits under way in the order asked for. -/
structure Hlk where
  ports : Tab HPort
  out : List HeadOut
  spits : List Spit
deriving DecidableEq, Repr

/-! ### Performance monitoring (chapter 22) -/

/-- A tagged placement that is followed (R418): the last stage raised, its tile definition (none for FILL), the serial number and
index of its page, its top band, the first page line it writes on this device, and the port its FIRE stage names. -/
structure TagRec where
  stage : Nat
  tile : Option Nat
  page : Nat
  index : Nat
  band : Nat
  line : Nat
  port : Nat
deriving DecidableEq, Repr

/-- PMU: the register L, the next tag number, the placements followed by tag number, the sampling down-counter, and the sample
not yet raised (context, commands of skid left). -/
structure Pmu where
  l : Nat
  nextTag : Nat
  followed : Tab TagRec
  down : Nat
  sample : Option (Nat × Nat)
deriving DecidableEq, Repr

/-! ### Motion (chapter 20) -/

/-- An axis beside its registers: position p (2^-24 microsteps), speed v (2^-24 microsteps a cycle), acceleration a (2^-32), target
T (microsteps), the profile and microstep table in force, whether the position is valid, whether it is driven, moving, its
fault, its homing phase (0 none), whether that phase seeks the home switch, where the phase began, p_h, the filtered switch
levels (active or not; none while unknown), whether the holding current has taken over, the
cycles for which the switch it moves to has been active, the chatter windows of the two switches (start ns, edges, posted),
the coil currents of the cycle before, the step pulses sent (signed), the DIR output. -/
structure Axis where
  p : Int
  v : Int
  a : Int
  target : Int
  vmax : Nat
  accel : Nat
  decel : Nat
  jerk : Nat
  table : Nat
  valid : Bool
  powered : Bool
  moving : Bool
  fault : Nat
  phase : Nat
  seek : Bool
  from_ : Int
  latch : Int
  home : Option Bool
  lim : Option Bool
  holding : Bool
  limCount : Nat
  winHome : Nat × Nat × Bool
  winLim : Nat × Nat × Bool
  iA : Int
  iB : Int
  steps : Int
  dir : Bool
deriving DecidableEq, Repr

/-- An axis after RESET. -/
abbrev Axis.rest : Axis :=
  ⟨0, 0, 0, 0, 0x10000000, 0x10000, 0x10000, 0, 0, false, false, false, 0, 0, false, 0, 0, Option.none, Option.none, false, 0,
   (0, 0, false), (0, 0, false), 0, 0, 0, false⟩

/-- MOT: the axes; whether the supply is below vm_min_dv; the motion requests executed for each axis, and in SHADOW how many of them the
ACTIVE had executed at its last STATE (R338, R397); the filters of the switches (2k home, 2k + 1 limit of axis k), and each axis's position
(microsteps) when the run of its home switch began (R398). -/
structure Mot where
  axes : Tab Axis
  vmLow : Bool
  asked : Tab Nat
  told : Tab Nat
  switches : Tab Ball
  runAt : Tab Int
deriving DecidableEq, Repr

/-! ### Measurement (chapter 13) -/

/-- A sweep (R265 to R269): its context, port mask, result base, defect output address, version and enable; for each channel the
ports still to sweep (the first under way) and the next element; the elements out of band and the logical elements to set;
whether it runs, whether it is to be abandoned at the end of the slot (R268), and the channels whose next slot may start where a trigger
paces the slots (Table 19-3). -/
structure Sweep where
  ctx : Nat
  mask : Nat
  base : Nat
  defectOut : Nat
  version : Nat
  enable : Bool
  chans : List (List Nat × Nat)
  oob : Nat
  bits : List Nat
  started : Bool
  cut : Bool
  due : List Nat
deriving DecidableEq, Repr

/-- A SAMPLE request (R270): context, mask, quantity, count, the tag of each port's READ frame, the ports that refused, and the
values received. -/
structure SampleReq where
  ctx : Nat
  mask : Nat
  quantity : Nat
  count : Nat
  tags : Tab Nat
  refused : Nat
  values : Tab (List Nat)
deriving DecidableEq, Repr

/-- A VSET_APPLY request: context, mask, code, and whether it has been written. -/
structure VsetReq where
  ctx : Nat
  mask : Nat
  code : Nat
  written : Bool
deriving DecidableEq, Repr

/-- MSR: the requests pending in issue order, the calibration step that runs, the candidate trims (by step, in the order of their
registers), the qualities of the eight channels at steps 2 and 3, and the DISCONNECTs of an abandoned sweep whose ACK is awaited (port,
frame sequence number, TB2 ns, R268). -/
structure Msr where
  sweeps : List Sweep
  samples : List SampleReq
  vsets : List VsetReq
  step : Option Nat
  trims : Tab (List Int)
  quals : Tab (List Nat)
  discon : List (Nat × Nat × Nat)
deriving DecidableEq, Repr

/-! ### Pair operation (chapter 17) -/

/-- A host write that the ACTIVE relays (R339): of a register, or through the BAR2 window. -/
inductive HostWrite where
  | reg (addr value : Nat)
  | bar2 (offset : Nat) (bytes : List Byte)
deriving DecidableEq, Repr

/-- What a pair keeps of a committed band for a dispute (R350, R357): page, band, lines, whether it is a copy, its record, whether that
overflowed, and the carries before its first line. -/
structure Checkpoint where
  page : Nat
  band : Nat
  lines : Nat
  copy : Bool
  entries : List Plc
  overflow : Bool
  carry : Tab Int
deriving DecidableEq, Repr

/-- What the snapshot of a rejoin holds (R355): the sequencer, the tile directory, the band, the carries, the histories as the store lines
give them, line pacing's grid, the requests that contexts wait for, and the registers that show them. -/
structure Snap where
  seq : Seq
  run : Run
  cmp : Cmp
  dcr : Dcr
  hist : Tab Nat
  recent : Tab (List (Nat × Nat))
  lastClass : Tab Nat
  pac : Pac
  rings : Tab Ring
  msr : Msr
  spits : List Spit
  asked : Tab Nat
  regs : List (Nat × BitVec 32)
  ckpts : List Checkpoint
deriving DecidableEq, Repr

/-- What a REJOIN message carries (R355): a 64 KiB frame of a region, or the snapshot. -/
inductive RejoinPart where
  | frame (n : Nat) (bytes : List Byte)
  | snapshot (s : Snap)
deriving DecidableEq, Repr

/-- What the survivor's read of a ring slot gives (R348): ring, slot, bytes. -/
abbrev SlotRead := Nat × Nat × List Byte

/-- A message of the pair link (Table 17-1). Roles: 0 none, 1 ACTIVE, 2 SHADOW. -/
inductive PairMsg where
  | beat (role mode : Nat) (mirror : Bool) (tb3 : Nat)
  | time (tb3 : Nat)
  | lineStart (z t mask : Nat)
  | datum (kind : Nat) (position : Int) (z : Nat)
  | digest (port line pseq digest flags : Nat)
  | lstat (port line : Nat) (ready : Bool) (cause : Nat)
  | release (cause : Nat)
  | recomp (port line : Nat) (digest : Option Nat)
  | band (page band classes : Nat)
  | host (w : HostWrite)
  | done (ring index status result : Nat)
  | event (ring slot : Nat) (bytes : List Byte)
  | state (vset : List (Nat × Nat)) (axes : List (Nat × Nat × Axis)) (done : List Nat) (lines : List (Nat × List Byte))
  | frame (n : Nat) (bytes : List Byte)
  | snapshot (s : Snap)
deriving DecidableEq, Repr

/-- The partner as its BEATs and beacons report it. -/
structure Peer where
  role : Nat
  mode : Nat
  mirror : Bool
deriving DecidableEq, Repr

/-- A completion on its way to its ring (R340): ring, slot, offset of its bytes, the bytes, the descriptor's flags, status and arg1,
the descriptor's bytes 0 to 23, and D2H data kept back. -/
structure Completion where
  ring : Nat
  index : Nat
  offset : Nat
  bytes : List Byte
  flags : Nat
  status : Nat
  arg1 : Nat
  raw : List Byte
  data : List (Nat × List Byte)
deriving DecidableEq, Repr

/-- A dispute (R350): port, page and line, the two digests, the recomputations once known (none inside: failed). -/
structure Dispute where
  port : Nat
  page : Nat
  line : Nat
  mine : Nat
  theirs : Nat
  own : Option (Option Nat)
  other : Option (Option Nat)
deriving DecidableEq, Repr

/-- PAIR: the messages sent with their link sequence numbers and the next number, the partner, beacons sent, the TB2 ns at which an ACK
last named the partner's input, LINESTARTs that came before their own line start, own and partner's digests not yet compared (port,
page line, pseq, digest), the partner's LSTATs (port, line, ready, cause), the disputes, those blanked (port, line), the bands of
the ACTIVE (page index, band, bands), the completions that wait for the partner's DONE, the partner's DONEs (ring, index, status, result), the own completions that
no DONE of the ACTIVE has announced, those announced last in each slot, the event records announced (ring, slot, bytes), the rejoin: frames written
since they were sent, start (ms), the snapshot once it is captured, the ACTIVE's mode when it began, whether a frame beyond F has come
(R356); and the checkpoints of the last four committed bands (R357). -/
structure Pair where
  out : List (Nat × PairMsg)
  seq : Nat
  peer : Option Peer
  beacons : Nat
  otherAck : Option Nat
  starts : List (Nat × Nat × Nat)
  mine : List (Nat × Nat × Nat × Nat)
  theirs : List (Nat × Nat × Nat × Nat)
  lstats : List (Nat × Nat × Bool × Nat)
  disputes : List Dispute
  unresolved : List (Nat × Nat)
  bands : List (Nat × Nat × Nat)
  held : List Completion
  dones : List (Nat × Nat × Nat × Nat)
  finished : List Completion
  announced : List Completion
  records : List (Nat × Nat × List Byte)
  dirty : List Nat
  startMs : Nat
  snap : Option Snap
  rejoinMode : Nat
  beyond : Bool
  ckpts : List Checkpoint
deriving DecidableEq, Repr

/-! ### Check-value units (chapter 18) -/

/-- A check-value unit: the scan that runs (space, polynomial, address, length, value to compare, whether it compares and posts), the
CRC register the last scan left before its final XOR, the polynomial of the last scan if it may be continued, and the first address
of a line of the running scan that could not be read (R364). -/
structure CrcUnit where
  running : Bool
  space : Nat
  poly : Nat
  addr : Nat
  len : Nat
  expect : Nat
  cmp : Bool
  evt : Bool
  start : Nat
  left : Nat
  cont : Option Nat
  failAt : Option Nat
deriving DecidableEq, Repr

/-- A unit after RESET. -/
abbrev CrcUnit.rest : CrcUnit := ⟨false, 0, 0, 0, 0, 0, false, false, 0, 0, Option.none, Option.none⟩

/-! ### Time and network (chapter 19) -/

/-- A time base: V at the last group boundary in 2^-40 ns, adj in 2^-40, and the steps that wait for the next group boundary, in 2^-16 ns
(R374). -/
structure TimeBase where
  v : Nat
  adj : Int
  step : Int
deriving DecidableEq, Repr

/-- The dataset of an Announce: priority1, clockClass, clockAccuracy, variance, priority2, grandmaster identity, steps removed, sender
identity. -/
structure ClockSet where
  prio1 : Nat
  class_ : Nat
  accuracy : Nat
  variance : Nat
  prio2 : Nat
  gm : Nat
  steps : Nat
  sender : Nat
deriving DecidableEq, Repr

/-- A PTP message's body (Table 19-1); times in 2^-16 ns; identities are port identities (80 bits). -/
inductive PtpBody where
  | sync (twoStep : Bool) (origin : Nat)
  | followUp (origin : Nat)
  | delayReq
  | delayResp (receive requester : Nat)
  | pdelayReq
  | pdelayResp (twoStep : Bool) (receipt requester : Nat)
  | pdelayFollowUp (origin requester : Nat)
  | announce (set : ClockSet)
  | other
deriving DecidableEq, Repr

/-- A PTP message: domainNumber, sequenceId, correctionField (2^-16 ns), sourcePortIdentity, body. -/
structure Ptp where
  domain : Nat
  seq : Nat
  corr : Int
  source : Nat
  body : PtpBody
deriving DecidableEq, Repr

/-- What makes a BAR0 request bad (R8, R71): a read or a write that BAR0 does not support, or a posted write whose ECRC fails. -/
inductive BadRequest where
  | read
  | write
  | ecrc
deriving DecidableEq, Repr

/-- A posted write: its bytes, and whether its ECRC fails (R71). -/
structure Posted where
  bytes : List Byte
  badEcrc : Bool
deriving DecidableEq, Repr

/-- What a descriptor fetch brings (R71, R79): the 32 bytes of the slot, a completion whose ECRC fails, or UR, CA or a timeout. -/
inductive Fetched where
  | slot (bytes : List Byte)
  | badEcrc
  | failed
deriving DecidableEq, Repr

/-- A return record as it came (R238): its code and disparity errors, its data characters, and its CRC-8. -/
structure RecordRead where
  chars : Nat
  data : List Byte
  crc : Nat
deriving DecidableEq, Repr

/-- Where an Ethernet frame goes (R369). -/
inductive EthDst where
  | own
  | peerDelay
  | reserved
  | ptpMulticast
  | other
deriving DecidableEq, Repr

/-- An Ethernet frame as the ports see it: destination, length, 802.1Q tags, whether its FCS fails, its PTP message, whether it is the
beacon of a pair (R335). -/
structure EthFrame where
  dst : EthDst
  len : Nat
  tags : Nat
  fcsBad : Bool
  ptp : Option Ptp
  beacon : Bool
deriving DecidableEq, Repr

/-- What carries an own PTP message (R373): Layer 2 (Ethertype 0x88F7), or UDP from the device's IPv4 or IPv6 address (R370). -/
inductive Carrier where
  | layer2
  | udp4 (source : Nat)
  | udp6 (source : Nat)
deriving DecidableEq, Repr

/-- An own frame that waits to leave a port, untagged: a PTP message of a domain (none: peer delay) on its carrier, or the pair's
beacon. -/
inductive OwnFrame where
  | ptp (dom : Option Nat) (carrier : Carrier) (m : Ptp)
  | beacon (dest role mode : Nat) (mirror : Bool) (tb3 counter : Nat)
deriving DecidableEq, Repr

/-- What has left an Ethernet port. -/
inductive EthOut where
  | forwarded (port : Nat) (f : EthFrame)
  | sent (port : Nat) (f : OwnFrame)
deriving DecidableEq, Repr

/-- A domain (R377 to R380): the foreign masters with the port each was heard on; the servo's integral i, its run of samples within
lock_ns; the path measurements, newest first (2^-16 ns); the latest t2 - t1 - corrections since the base stepped; a two-step Sync that waits
for its Follow_Up (sequence, source, port, t2, correction, changes at its ingress); the Delay_Req whose response is awaited (sequence, t3);
steps and rate changes of the base; the next sequence numbers of Sync, Announce and Delay_Req. -/
structure Domain where
  foreign : List (ClockSet × Nat)
  integral : Int
  good : Nat
  paths : List Int
  last : Option Int
  sync : Option (Nat × Nat × Nat × Int × Int × Nat)
  req : Option (Nat × Int)
  changes : Nat
  syncSeq : Nat
  annSeq : Nat
  reqSeq : Nat
deriving DecidableEq, Repr

/-- A domain after RESET. -/
abbrev Domain.rest : Domain := ⟨[], 0, 0, [], Option.none, Option.none, Option.none, 0, 0, 0, 0⟩

/-- An Ethernet port: own frames waiting, link drops, the Pdelay_Req whose answer is awaited (sequence, t1), a two-step answer that waits
for its Follow_Up (sequence, t4 - t1 less the correction, receipt), the peer delays measured, newest first (2^-16 ns), its next
sequence number, the over-long frames dropped (R368) and the consumed frames discarded (R369). -/
structure EthPort where
  own : List OwnFrame
  drops : Nat
  req : Option (Nat × Int)
  resp : Option (Nat × Int × Nat)
  delays : List Int
  seqs : Nat
  tooLong : Nat
  discarded : Nat
deriving DecidableEq, Repr

/-- An Ethernet port after RESET. -/
abbrev EthPort.rest : EthPort := ⟨[], 0, Option.none, Option.none, [], 0, 0, 0⟩

/-- A trigger unit: armed, its start S and the number k of its next event (2^-16 ns), the events raised since it was armed. -/
structure Trg where
  armed : Bool
  start : Nat
  k : Nat
  raised : Nat
deriving DecidableEq, Repr

/-- TIM: the tick of the group of five, the time bases, the domains, the Ethernet ports, the trigger units, what has left the ports, and
the GPIO pulses driven (output, width). -/
structure Tim where
  tick : Nat
  bases : Tab TimeBase
  doms : Tab Domain
  ports : Tab EthPort
  trgs : Tab Trg
  out : List EthOut
  pulses : List (Nat × Nat)
deriving DecidableEq, Repr

/-! ### Fantail (chapter 21) -/

/-- An analogue input: the filter's s (1/16 code), the last samples, newest first, and the time of the last (TB2, 2^-16 ns). -/
structure FanIn where
  s : Int
  samples : List Nat
  last : Nat
deriving DecidableEq, Repr

/-- A digital filter (R213): the level known, the raw level of the run, its length. -/
structure DinFilter where
  level : Option Bool
  raw : Bool
  run : Nat
deriving DecidableEq, Repr

/-- The Fantail: its inputs, digital filters (16 is WAKE_N), rules (true, count), aon_ms of recent encoder edges, the log's 16-byte entries
by index, the saved log, whether PWR_EN is being raised or released, wake causes that wait, the wake event owed (causes, aon_ms),
whether the AON_UP event is owed (its sequence number), whether the wake is a keep-wet one, and the levels driven on FAN_OUT[7:0]. -/
structure Fan where
  ain : Tab FanIn
  din : Tab DinFilter
  rules : Tab (Bool × Nat)
  edges : List Nat
  log : Tab (List Byte)
  saved : Tab Nat
  raising : Bool
  releasing : Bool
  pendingCauses : Nat
  wakeOwed : Option (Nat × Nat)
  aonOwed : Option Nat
  keepwet : Bool
  pins : Nat
deriving DecidableEq, Repr

/-- A digital filter whose level is unknown. -/
abbrev DinFilter.unknown : DinFilter := ⟨Option.none, false, 0⟩
/-- An analogue input without a sample. -/
abbrev FanIn.none_ : FanIn := ⟨0, [], 0⟩


end Sys2Proof.Machine
end

