-- ==== Sys2Proof/Syntax.lean ====
section
/-! DEFINITION. Syntax.lean: the commands of the block, one constructor for each row of spec/opcode_table.json: first the rows
with operands, then those without, each in the table's order (compiled Lean builds terms only of a type's first 245 constructors with
operands). Operands carry what the outside decides: the register and the value written, a command word, what a memory or a partner answers. The table gives no row any bits. -/

namespace Sys2Proof

open Machine

/-- A command. -/
inductive Instr where
  /-- REGISTER_WRITE (R8): a write of `value` at BAR0 offset `addr`. -/
  | registerWrite (addr : Nat) (value : Word)
  /-- LO_READ_LATCH (R9): a read at BAR0 offset `addr`. -/
  | loReadLatch (addr : Nat)
  /-- HI_WRITE_COMMIT (R9): a write of `value` at BAR0 offset `addr`. -/
  | hiWriteCommit (addr : Nat) (value : Word)
  /-- LO_WRITE_STAGE (R9): a write of `value` at BAR0 offset `addr`. -/
  | loWriteStage (addr : Nat) (value : Word)
  /-- RC_READ (R10): a read at BAR0 offset `addr`. -/
  | rcRead (addr : Nat)
  /-- W1C_WRITE (R10): a write of `value` at BAR0 offset `addr`. -/
  | w1cWrite (addr : Nat) (value : Word)
  /-- BAR0_BAD_REQUEST (R70): what is bad, at BAR0 offset `addr`. -/
  | bar0BadRequest (bad : BadRequest) (addr : Nat)
  /-- RESET_TO_LOAD (R35): what SFDP reports: the interface mode in force, the density, the revision. -/
  | resetToLoad (ifMode : Nat) (density : Nat) (major : Nat) (minor : Nat)
  /-- LOAD_COMPLETE (R59): the time that LOAD took, in 0.1 ms. -/
  | loadComplete (ms100 : Nat)
  /-- FILL_COMPLETE (R285): the fill's duration, the capacity in GiB that each channel's SPD gave, the samples that failed with their
  channels, the masks of units that failed their tests, a MEMCOPY line that failed. -/
  | fillComplete (ms : Nat) (spd : List (Nat × Nat)) (samples : List (Nat × Nat)) (decoders : Nat) (encoders : Nat) (lanes : Nat) (bad : Option Nat)
  /-- MODE_REQ_CALIBRATE (R37): the key written. -/
  | modeReqCalibrate (key : Nat)
  /-- MODE_REQ_SAFE (R37): the key written. -/
  | modeReqSafe (key : Nat)
  /-- MODE_REQ_SLEEP (R37): the key written. -/
  | modeReqSleep (key : Nat)
  /-- MODE_REQ_STANDBY (R37): the key written. -/
  | modeReqStandby (key : Nat)
  /-- MODE_REQ_SERVICE (R37): the key written. -/
  | modeReqService (key : Nat)
  /-- MODE_REQ_LOAD (R440): the key written. -/
  | modeReqLoad (key : Nat)
  /-- MODE_REQ_ILLEGAL (R37): the key and the target written. -/
  | modeReqIllegal (key : Nat) (target : Nat)
  /-- CONTEXT_STOP (R441): the context. -/
  | contextStop (ctx : Nat)
  /-- AVS_TRANSACTION_DONE (R17): whether the transaction succeeded, and the voltage read back in mV. -/
  | avsTransactionDone (ok : Bool) (readback : Nat)
  /-- FLASH_READ (R65): len_m1 of CFG_FLASH_CMD. -/
  | flashRead (lenM1 : Nat)
  /-- FLASH_PROGRAM (R65): len_m1 of CFG_FLASH_CMD. -/
  | flashProgram (lenM1 : Nat)
  /-- FLASH_CMD_DONE (R65): whether the flash reported a failure. -/
  | flashCmdDone (failed : Bool)
  /-- BAR2_READ (R74): the bytes read, in the BAR2 window. -/
  | bar2Read (offset : Nat) (len : Nat)
  /-- BAR2_WRITE (R74): the offset in the BAR2 window, and the write. -/
  | bar2Write (offset : Nat) (posted : Posted)
  /-- RING_ENABLE (R76): the ring and the word written to HDMA_RING_CTL. -/
  | ringEnable (ring : Nat) (value : Word)
  /-- RING_DISABLE (R76): the ring and the word written to HDMA_RING_CTL. -/
  | ringDisable (ring : Nat) (value : Word)
  /-- RING_DOORBELL (R77): the ring and the new tail. -/
  | ringDoorbell (ring : Nat) (tail : Nat)
  /-- EVENT_RING_CONSUME (R86): the ring and the consumer index. -/
  | eventRingConsume (ring : Nat) (index : Nat)
  /-- DESCRIPTOR_FETCH (R79): the ring, and what the fetch brings. -/
  | descriptorFetch (ring : Nat) (slot : Fetched)
  /-- HOST_READ_COMPLETION (R71): the ring, where in the descriptor's bytes the data begins, the data (none where the read failed), whether
  the link reported an error. -/
  | hostReadCompletion (ring : Nat) (offset : Nat) (data : Option (List Byte)) (error : Bool)
  /-- COPY_COMPLETE (R28): the ring. -/
  | copyComplete (ring : Nat)
  /-- JOB_DESCRIPTOR_TAKE (R85): the context of the job ring. -/
  | jobDescriptorTake (ctx : Nat)
  /-- EVENT_RECORD_WRITE (R86): the event ring, 0 to 7 (HDMA ring 56 + `ring`). -/
  | eventRecordWrite (ring : Nat)
  /-- MSIX_HOLDOFF_EXPIRY (R88): the ring. -/
  | msixHoldoffExpiry (ring : Nat)
  /-- MSIX_UNMASK (R88): the vector, none for the function mask. -/
  | msixUnmask (vector : Option Nat)
  /-- ABORT_ONE (R89): the ring and the index written to HDMA_ABORT. -/
  | abortOne (ring : Nat) (index : Nat)
  /-- ABORT_SCOPE (R89): the ring and the index written to HDMA_ABORT. -/
  | abortScope (ring : Nat) (index : Nat)
  /-- NOP (R101): the context, and bits 55:0 of the command word. -/
  | nop (ctx : Nat) (word : BitVec 56)
  /-- JOB_BEGIN (R219): the context, and bits 55:0 of the command word. -/
  | jobBegin (ctx : Nat) (word : BitVec 56)
  /-- JOB_END (R118): the context, and bits 55:0 of the command word. -/
  | jobEnd (ctx : Nat) (word : BitVec 56)
  /-- PAGE_BEGIN (R113): the context, and bits 55:0 of the command word. -/
  | pageBegin (ctx : Nat) (word : BitVec 56)
  /-- PAGE_END (R108): the context, and bits 55:0 of the command word. -/
  | pageEnd (ctx : Nat) (word : BitVec 56)
  /-- SKIP_LINES (R221): the context, and bits 55:0 of the command word. -/
  | skipLines (ctx : Nat) (word : BitVec 56)
  /-- COPIES (R114): the context, and bits 55:0 of the command word. -/
  | copies (ctx : Nat) (word : BitVec 56)
  /-- TILE_DEF (R103): the context, bits 55:0 of the first word and the second word. -/
  | tileDef (ctx : Nat) (word : BitVec 56) (word1 : BitVec 64)
  /-- TILE_DROP (R133): the context, and bits 55:0 of the command word. -/
  | tileDrop (ctx : Nat) (word : BitVec 56)
  /-- SET_LOG_BASE (R104): the context, and bits 47:0 of the word. -/
  | setLogBase (ctx : Nat) (value : BitVec 48)
  /-- SET_LOG_LEN (R104): the context, and bits 47:0 of the word. -/
  | setLogLen (ctx : Nat) (value : BitVec 48)
  /-- SET_PCACHE_BASE (R104): the context, and bits 47:0 of the word. -/
  | setPcacheBase (ctx : Nat) (value : BitVec 48)
  /-- SET_PCACHE_LEN (R104): the context, and bits 47:0 of the word. -/
  | setPcacheLen (ctx : Nat) (value : BitVec 48)
  /-- SET_EVT_RING (R104): the context, and bits 47:0 of the word. -/
  | setEvtRing (ctx : Nat) (value : BitVec 48)
  /-- SET_PARAM_UNDEFINED (R104): the context, the parameter and bits 47:0 of the word. -/
  | setParamUndefined (ctx : Nat) (param : BitVec 8) (value : BitVec 48)
  /-- MOVE_ABS (R396): the context, and bits 47:0 of the word. -/
  | moveAbs (ctx : Nat) (value : BitVec 48)
  /-- MOVE_REL (R396): the context, and bits 47:0 of the word. -/
  | moveRel (ctx : Nat) (value : BitVec 48)
  /-- SET_VMAX (R396): the context, and bits 47:0 of the word. -/
  | setVmax (ctx : Nat) (value : BitVec 48)
  /-- SET_ACCEL (R396): the context, and bits 47:0 of the word. -/
  | setAccel (ctx : Nat) (value : BitVec 48)
  /-- SET_DECEL (R396): the context, and bits 47:0 of the word. -/
  | setDecel (ctx : Nat) (value : BitVec 48)
  /-- SET_JERK (R396): the context, and bits 47:0 of the word. -/
  | setJerk (ctx : Nat) (value : BitVec 48)
  /-- HOME (R398): the context, and bits 47:0 of the word. -/
  | home (ctx : Nat) (value : BitVec 48)
  /-- STOP (R390): the context, and bits 47:0 of the word. -/
  | stop (ctx : Nat) (value : BitVec 48)
  /-- SET_POS (R396): the context, and bits 47:0 of the word. -/
  | setPos (ctx : Nat) (value : BitVec 48)
  /-- POWER (R395): the context, and bits 47:0 of the word. -/
  | power (ctx : Nat) (value : BitVec 48)
  /-- TABLE (R396): the context, and bits 47:0 of the word. -/
  | table (ctx : Nat) (value : BitVec 48)
  /-- RESULT_BASE (R265): the context, and bits 47:0 of the word. -/
  | resultBase (ctx : Nat) (value : BitVec 48)
  /-- DEFECT_OUT (R265): the context, and bits 47:0 of the word. -/
  | defectOut (ctx : Nat) (value : BitVec 48)
  /-- DEFECT_VER (R265): the context, and bits 47:0 of the word. -/
  | defectVer (ctx : Nat) (value : BitVec 48)
  /-- SWEEP (R265): the context, and bits 47:0 of the word. -/
  | sweep (ctx : Nat) (value : BitVec 48)
  /-- SAMPLE (R270): the context, and bits 47:0 of the word. -/
  | sample (ctx : Nat) (value : BitVec 48)
  /-- VSET_CODE (R265): the context, and bits 47:0 of the word. -/
  | vsetCode (ctx : Nat) (value : BitVec 48)
  /-- VSET_APPLY (R273): the context, and bits 47:0 of the word. -/
  | vsetApply (ctx : Nat) (value : BitVec 48)
  /-- SPIT_CFG (R258): the context, and bits 47:0 of the word. -/
  | spitCfg (ctx : Nat) (value : BitVec 48)
  /-- SPIT_GO (R258): the context, and bits 47:0 of the word. -/
  | spitGo (ctx : Nat) (value : BitVec 48)
  /-- WAIT_TIME (R105): the context, and bits 51:0 of the word. -/
  | waitTime (ctx : Nat) (value : BitVec 52)
  /-- WAIT_SYNC (R105): the context, and bits 51:0 of the word. -/
  | waitSync (ctx : Nat) (value : BitVec 52)
  /-- WAIT_AXIS (R105): the context, and bits 51:0 of the word. -/
  | waitAxis (ctx : Nat) (value : BitVec 52)
  /-- WAIT_MSR (R105): the context, and bits 51:0 of the word. -/
  | waitMsr (ctx : Nat) (value : BitVec 52)
  /-- WAIT_TILE (R105): the context, and bits 51:0 of the word. -/
  | waitTile (ctx : Nat) (value : BitVec 52)
  /-- WAIT_PAGE (R105): the context, and bits 51:0 of the word. -/
  | waitPage (ctx : Nat) (value : BitVec 52)
  /-- WAIT_SATISFIED (R105): the context. -/
  | waitSatisfied (ctx : Nat)
  /-- SIGNAL (R93): the context, and bits 55:0 of the command word. -/
  | signal (ctx : Nat) (word : BitVec 56)
  /-- MARK (R118): the context, and bits 55:0 of the command word. -/
  | mark (ctx : Nat) (word : BitVec 56)
  /-- BARRIER (R93): the context, and bits 55:0 of the command word. -/
  | barrier (ctx : Nat) (word : BitVec 56)
  /-- BARRIER_DONE (R93): the context. -/
  | barrierDone (ctx : Nat)
  /-- CALL (R115): the context, and bits 55:0 of the command word. -/
  | call (ctx : Nat) (word : BitVec 56)
  /-- RETURN (R115): the context, and bits 55:0 of the command word. -/
  | return_ (ctx : Nat) (word : BitVec 56)
  /-- PASS (R230): the context, and bits 55:0 of the command word. -/
  | pass (ctx : Nat) (word : BitVec 56)
  /-- FEED (R230): the context, and bits 55:0 of the command word. -/
  | feed (ctx : Nat) (word : BitVec 56)
  /-- DEFECT_SYNC (R172): the context, and bits 55:0 of the command word. -/
  | defectSync (ctx : Nat) (word : BitVec 56)
  /-- PLACE (R106): the context, bits 55:0 of the first word and the second word. -/
  | place (ctx : Nat) (word : BitVec 56) (word1 : BitVec 64)
  /-- FILL (R151): the context, bits 55:0 of the first word and the second word. -/
  | fill (ctx : Nat) (word : BitVec 56) (word1 : BitVec 64)
  /-- MASK (R152): the context, bits 55:0 of the first word and the second word. -/
  | mask (ctx : Nat) (word : BitVec 56) (word1 : BitVec 64)
  /-- REPEAT (R111): the context, bits 55:0 of the first word and the second word. -/
  | repeat_ (ctx : Nat) (word : BitVec 56) (word1 : BitVec 64)
  /-- BAD_OPCODE (R101): the context and the whole command word. -/
  | badOpcode (ctx : Nat) (word : BitVec 64)
  /-- LINK_WORD (R97): the context. -/
  | linkWord (ctx : Nat)
  /-- SEQ_CTX_DB (R99): the context. -/
  | seqCtxDb (ctx : Nat)
  /-- SEQ_SYNC_INC (R93): the word written. -/
  | seqSyncInc (value : Word)
  /-- WAIT_TAIL_REREAD (R100): the context. -/
  | waitTailReread (ctx : Nat)
  /-- WAIT_TAIL_POLL (R100): the context. -/
  | waitTailPoll (ctx : Nat)
  /-- CONTEXT_ABORT (R117): the context. -/
  | contextAbort (ctx : Nat)
  /-- DECODE_START (R128): the decoder. -/
  | decodeStart (unit : Nat)
  /-- DECODE_HEADER_CHECKED (R112): the tile ID. -/
  | decodeHeaderChecked (tile : Nat)
  /-- DECODE_COMPLETE (R126): the decoder, and the status that a fault of the decoder itself gave. -/
  | decodeComplete (unit : Nat) (fault : Option Nat)
  /-- PCACHE_SEGMENT_DONE (R140): the encoder. -/
  | pcacheSegmentDone (unit : Nat)
  /-- START (R142): depth_m1 and dyn of RUN_XP_CMD. -/
  | start (depthM1 : Nat) (dyn : Bool)
  /-- OUT_FULL (R136): the input bytes that the output written so far stands for. -/
  | outFull (consumed : Nat)
  /-- EXPORT_SUSPEND (R138): the blocks ended. -/
  | exportSuspend (blocks : Nat)
  /-- TOKEN_APPLY (R154): the logical lane, and the cause where the lane's parity fails. -/
  | tokenApply (lane : Nat) (parity : Option Nat)
  /-- LANE_TOKEN_TIMEOUT (R161): the logical lane, and the tokens that it has taken beside the first. -/
  | laneTokenTimeout (lane : Nat) (more : Nat)
  /-- BAND_LINE_RECOMPOSE (R158): whether the recomposition missed its deadline. -/
  | bandLineRecompose (deadline : Bool)
  /-- STORE_READ (R188): the port. -/
  | storeRead (port : Nat)
  /-- ENCODER_COUNT (R212): the channel, and a sample of its STEP and DIR balls with its stamp: TB2's nanoseconds and fraction. -/
  | encoderCount (channel : Nat) (step : Bool) (dir : Bool) (ns : Nat) (frac : Nat)
  /-- INDEX_EDGE (R223): the channel, and a sample of its IDX ball. -/
  | indexEdge (ball : Nat × Bool)
  /-- TOS_EDGE (R227): a sample of TOS_IN. -/
  | tosEdge (level : Bool)
  /-- SOS_EDGE (R231): a sample of SOS_IN. -/
  | sosEdge (level : Bool)
  /-- FEED_DONE_EDGE (R232): a sample of FEED_DONE. -/
  | feedDoneEdge (level : Bool)
  /-- ENC_OUT_STEP (R234): the encoder output. -/
  | encOutStep (output : Nat)
  /-- LINE_FRAME_SEND (R247): the port, and the classes as they went out where they differ from the line's. -/
  | lineFrameSend (port : Nat) (sent : Option (List Nat))
  /-- FIRE_BLOCK_SEND (R245): the port and the sub-position. -/
  | fireBlockSend (port : Nat) (phase : Nat)
  /-- BRINGUP_RETRY (R250): the port. -/
  | bringupRetry (port : Nat)
  /-- BRINGUP_TIMEOUT (R250): the port. -/
  | bringupTimeout (port : Nat)
  /-- BRINGUP_SYNC_SEND (R250): the port. -/
  | bringupSyncSend (port : Nat)
  /-- CHAR_LOCK (R239): the port, and the consecutive valid characters after comma alignment. -/
  | charLock (run : Nat × Nat)
  /-- CHAR_LOCK_LOSS (R257): the port, and the code and disparity errors seen with the nanoseconds without a valid character. -/
  | charLockLoss (port : Nat) (loss : Nat × Nat)
  /-- ACK (R254): the port and the record's fields. -/
  | ack (port : Nat) (input : Nat) (pseq : Nat) (kind : Nat) (id : Nat) (result : Nat)
  /-- TEMP (R249): the port, the sensors present and their temperatures. -/
  | temp (port : Nat) (mask : Nat) (temps : List Nat)
  /-- STATUS (R257): the port and the record's word. -/
  | status (port : Nat) (word : Word)
  /-- CAP (R250): the port and the record's bytes. -/
  | cap (port : Nat) (bytes : List Byte)
  /-- ECHO (R244): the port, the sequence echoed and the RTT measured. -/
  | echo (port : Nat) (seq : Nat) (rtt : Nat)
  /-- SAMPLE_RECORD (R263): the port, the value and the tag. -/
  | sampleRecord (port : Nat) (value : Nat) (tag : Nat)
  /-- RETURN_RECORD_ERROR (R249): the port, and the record as it came. -/
  | returnRecordError (port : Nat) (record : RecordRead)
  /-- ACK_TIMEOUT (R254): the port. -/
  | ackTimeout (port : Nat)
  /-- RETRAIN (R257): the port and the word written to HLK_PORT_CTL. -/
  | retrain (port : Nat) (value : Word)
  /-- SPIT_TIMEOUT (R258): the context whose burst it is, none for the keep-wet spit. -/
  | spitTimeout (ctx : Option Nat)
  /-- SWEEP_SLOT (R266): the channel, whether CONNECT was answered, the window's conversions. -/
  | sweepSlot (channel : Nat) (connected : Bool) (convs : List Nat)
  /-- SAMPLE_TIMEOUT (R265): the context. -/
  | sampleTimeout (ctx : Nat)
  /-- VSET_SETTLED (R273): the context. -/
  | vsetSettled (ctx : Nat)
  /-- CAL_STEP_DONE (R274): the mean ADC codes of the reference readings, the trims needed, and the codes read again with the candidates. -/
  | calStepDone (readings : List Nat) (trims : List Int) (again : List Nat)
  /-- MEM_WRITE_ACCEPT (R290): the writer's source ID and generation, the address and the bytes. -/
  | memWriteAccept (src : Nat) (gen : Nat) (addr : Nat) (bytes : List Byte)
  /-- MEM_READ_COMPLETE (R296): the line, who reads it, what the DRAM gave and what the rereads gave. -/
  | memReadComplete (line : Nat) (req : Requester) (first : ReadLine) (again : List ReadLine)
  /-- REFETCH_ANSWER (R302): the line. -/
  | refetchAnswer (line : Nat)
  /-- REFETCH_TIMEOUT (R302): the line. -/
  | refetchTimeout (line : Nat)
  /-- BATCH_BOUNDARY (R293): the channel, the real-time and other reads that wait, the ports for whose next line the batch issues the first
  store reads. -/
  | batchBoundary (channel : Nat) (rtQueued : Nat) (rdQueued : Nat) (ports : List Nat)
  /-- CA_PARITY_ALERT (R288): the channel, the subchannel, the commands issued to it and those known to have completed. -/
  | caParityAlert (channel : Nat) (sub : Nat) (issued : Nat) (known : Nat)
  /-- DRAM_TEMP_POLL (R287): the channel, and its hottest sensor in quarter degrees (none where none answers). -/
  | dramTempPoll (channel : Nat) (reading : Option Int)
  /-- DRAM_REFRESH (R287): the channel. -/
  | dramRefresh (channel : Nat)
  /-- MARGIN_RUN (R284): the lines that the pattern covers. -/
  | marginRun (lines : Nat)
  /-- MARGIN_RUN_DONE (R284): the failing lanes and the errors. -/
  | marginRunDone (lanes : Nat) (errors : Nat)
  /-- SCRUB_START (R303): pass_id of MIG_SCRUB_CTL. -/
  | scrubStart (passId : Nat)
  /-- SCRUB_READ (R304): what the DRAM gave and what the rereads gave. -/
  | scrubRead (first : ReadLine) (again : List ReadLine)
  /-- MILLPOND_CHECK_FAIL (R308): what the line holds. -/
  | millpondCheckFail (use : MillpondUse)
  /-- EVENT_RAISE (R315): the event: the ring its chapter names, code, severity, source, arguments. -/
  | eventRaise (ring : Option Nat) (code : Nat) (sev : Nat) (src : Nat) (arg0 : Nat) (arg1 : Nat)
  /-- EVENT_ACCEPT (R317): the source whose queue is served. -/
  | eventAccept (src : Nat)
  /-- WATCHDOG_PROBE (R326): the blocks that do not answer. -/
  | watchdogProbe (silent : List Nat)
  /-- JUNCTION_TEMP (R325): the temperature in quarter degrees. -/
  | junctionTemp (quarters : Nat)
  /-- CLOCK_LOSS (R325): the references lost and the island. -/
  | clockLoss (bits : Nat) (island : Nat)
  /-- PAIR_LINK_UP (R332): the lanes in lock, the latency in ns, the partner's match value. -/
  | pairLinkUp (lanes : Nat) (latency : Nat) (peerMatch : Nat)
  /-- PAIR_LINK_DOWN (R354): the lanes still in lock. -/
  | pairLinkDown (lanes : Nat)
  /-- PAIR_REPLAY_TIMEOUT (R333): the message's sequence number. -/
  | pairReplayTimeout (seq : Nat)
  /-- BEACON_RECEIVE (R335): the partner's mode. -/
  | beaconReceive (mode : Nat)
  /-- BEAT (R347): the partner's role, mode and sub-state. -/
  | beat (role : Nat) (mode : Nat) (mirror : Bool)
  /-- TIME (R336): the partner's TB3. -/
  | time (tb3 : Nat)
  /-- LINESTART (R336): the line start, its time and the overspeed decisions. -/
  | lineStart (z : Nat) (t : Nat) (mask : Nat)
  /-- DATUM (R336): the kind of datum and its position. -/
  | datum (kind : Nat) (position : Nat)
  /-- DIGEST (R350): the port, the line, its page sequence and its digest. -/
  | digest (port : Nat) (line : Nat) (pseq : Nat) (value : Nat)
  /-- LSTAT (R345): the port, the line, its state and blank cause. -/
  | lstat (port : Nat) (line : Nat) (ready : Bool) (cause : Nat)
  /-- RELEASE (R347): the cause. -/
  | release (cause : Nat)
  /-- RECOMP (R351): the port, the line and the partner's recomputed digest. -/
  | recomp (port : Nat) (line : Nat) (result : Option Nat)
  /-- BAND (R337): the page, the band and the thermal bands. -/
  | band (page : Nat) (band : Nat) (classes : Nat)
  /-- HOST (R339): the host write that is relayed. -/
  | host (write : HostWrite)
  /-- DONE (R340): the ring, the slot, the status and the result. -/
  | done (ring : Nat) (index : Nat) (status : Nat) (result : Nat)
  /-- EVENT (R342): the ring, the slot and the record. -/
  | event (ring : Nat) (slot : Nat) (bytes : List Byte)
  /-- STATE (R338): VSET codes, axes, requests completed and the lines they wrote. -/
  | state (vset : List (Nat × Nat)) (axes : List (Nat × Nat × Axis)) (done : List Nat) (lines : List (Nat × List Byte))
  /-- REJOIN (R355): a region frame or the snapshot. -/
  | rejoin (part : RejoinPart)
  /-- LINE_COMMIT_POINT (R344): the port. -/
  | lineCommitPoint (port : Nat)
  /-- FAILOVER_RING_SERVE (R348): what the reads of the rings' slots give. -/
  | failoverRingServe (reads : List SlotRead)
  /-- DISPUTE_RECOMPUTE_DONE (R350): what a computation fault made of the recomputation, if one did. -/
  | disputeRecomputeDone (fault : Option (Option Nat))
  /-- REJOIN_ABANDON (R356): the reason. -/
  | rejoinAbandon (reason : Nat)
  /-- CRC_START (R360): the unit and the word written to CRC_CTL. -/
  | crcStart (unit : Nat) (word : Word)
  /-- CRC_CANCEL (R365): the unit, and the bytes scanned so far. -/
  | crcCancel (unit : Nat) (scanned : Nat)
  /-- CRC_SCAN_END (R367): the unit, and the address whose read failed. -/
  | crcScanEnd (unit : Nat) (fail : Option Nat)
  /-- ETH_FRAME_RECEIVE (R369): the port, the residence time, whether the other port's FIFO has no room, the frame. -/
  | ethFrameReceive (port : Nat) (residence : Nat) (fifoFull : Bool) (frame : EthFrame)
  /-- ETH_LINK_CHANGE (R385): the port and its link. -/
  | ethLinkChange (port : Nat) (up : Bool)
  /-- OWN_FRAME_SEND (R370): the port. -/
  | ownFrameSend (port : Nat)
  /-- PTP_SYNC_RECEIVE (R379): the port and the message. -/
  | ptpSyncReceive (port : Nat) (msg : Ptp)
  /-- PTP_FOLLOW_UP_RECEIVE (R379): the port and the message. -/
  | ptpFollowUpReceive (port : Nat) (msg : Ptp)
  /-- PTP_DELAY_REQ_RECEIVE (R378): the port and the message. -/
  | ptpDelayReqReceive (port : Nat) (msg : Ptp)
  /-- PTP_DELAY_RESP_RECEIVE (R379): the port and the message. -/
  | ptpDelayRespReceive (port : Nat) (msg : Ptp)
  /-- PTP_PDELAY_REQ_RECEIVE (R373): the port and the message. -/
  | ptpPdelayReqReceive (port : Nat) (msg : Ptp)
  /-- PTP_PDELAY_RESP_RECEIVE (R373): the port and the message. -/
  | ptpPdelayRespReceive (port : Nat) (msg : Ptp)
  /-- PTP_ANNOUNCE_RECEIVE (R377): the port and the message. -/
  | ptpAnnounceReceive (port : Nat) (msg : Ptp)
  /-- PTP_SYNC_TIMER (R378): the domain. -/
  | ptpSyncTimer (domain : Nat)
  /-- PTP_ANNOUNCE_TIMER (R378): the domain. -/
  | ptpAnnounceTimer (domain : Nat)
  /-- PTP_PDELAY_TIMER (R373): the port. -/
  | ptpPdelayTimer (port : Nat)
  /-- PTP_DELAY_REQ_TIMER (R379): the domain. -/
  | ptpDelayReqTimer (domain : Nat)
  /-- PTP_ANNOUNCE_TIMEOUT (R377): the domain. -/
  | ptpAnnounceTimeout (domain : Nat)
  /-- TRIGGER_EVENT (R381): the unit, MOT_VM_SENSE in mV, the analogue inputs in µV. -/
  | triggerEvent (unit : Nat) (sense : Nat) (uvs : List Nat)
  /-- TRIGGER_ARM (R381): the word written to TIM_TRG_CTL. -/
  | triggerArm (word : Word)
  /-- TRIGGER_DISARM (R381): the word written to TIM_TRG_CTL. -/
  | triggerDisarm (word : Word)
  /-- AXIS_IDLE_TIMER (R392): the axis. -/
  | axisIdleTimer (axis : Nat)
  /-- AXIS_POWER_DOWN (R395): the axis. -/
  | axisPowerDown (axis : Nat)
  /-- SWITCH_EDGE (R399): the axis, the switch (0 home, 1 limit), the level of a 1 MHz sample. -/
  | switchEdge (axis : Nat) (which : Nat) (high : Bool)
  /-- FAN_AIN_SAMPLE (R403): the input and its voltage in µV. -/
  | fanAinSample (input : Nat) (microvolts : Nat)
  /-- FAN_DIN_SAMPLE (R402): the levels of the inputs and of WAKE_N. -/
  | fanDinSample (levels : Nat) (wakeN : Bool)
  /-- PCIE_LINK_UP (R68): the width and the speed trained. -/
  | pcieLinkUp (width : Nat) (speed : Nat)
  /-- PCIE_CONFIG_WRITE (R68): the max payload and max read request codes, the ECRC enables, the MSI-X Enable with the function mask, the
  base addresses and the power state. -/
  | pcieConfigWrite (mps : Nat) (mrrs : Nat) (ecrcGen : Bool) (ecrcChk : Bool) (msix : Bool × Bool) (pci : Pci)
  /-- ALERT_N_CLEAR (R288): the channel and the subchannel. -/
  | alertNClear (channel : Nat) (sub : Nat)
  /-- POWER_ON (R36). -/
  | powerOn
  /-- SYS_RST_ASSERT (R424). -/
  | sysRstAssert
  /-- PRINT_MODE_EXIT (R35). -/
  | printModeExit
  /-- HELD_JOB_BEGIN (R39). -/
  | heldJobBegin
  /-- SERVICE_EXIT (R40). -/
  | serviceExit
  /-- KEEPWET_SERVICE_ENTRY (R41). -/
  | keepwetServiceEntry
  /-- KEEPWET_RETURN (R41). -/
  | keepwetReturn
  /-- SLEEP_ENTRY_COMPLETE (R406). -/
  | sleepEntryComplete
  /-- SHADOW_ENTRY (R331). -/
  | shadowEntry
  /-- SAFE_ENTRY (R44). -/
  | safeEntry
  /-- PCIE_RESET (R72). -/
  | pcieReset
  /-- AVS_INTERVAL (R17). -/
  | avsInterval
  /-- FLASH_ERASE_64K (R65). -/
  | flashErase64k
  /-- FLASH_CHECK_SLOT (R65). -/
  | flashCheckSlot
  /-- ABORT_RESOLVE (R90). -/
  | abortResolve
  /-- DEFECT_TABLE_CHECK_DONE (R172). -/
  | defectTableCheckDone
  /-- BAND_CLEAR_DONE (R155). -/
  | bandClearDone
  /-- BAND_COMMIT (R108). -/
  | bandCommit
  /-- PAGE_RECORD_WRITE (R118). -/
  | pageRecordWrite
  /-- CONTINUE (R136). -/
  | continue_
  /-- CANCEL (R142). -/
  | cancel
  /-- EXPORT_DONE (R142). -/
  | exportDone
  /-- EXPORT_RESUME (R138). -/
  | exportResume
  /-- LINE_CORRECT (R166). -/
  | lineCorrect
  /-- FEED_START (R232). -/
  | feedStart
  /-- SWEEP_ABANDON (R268). -/
  | sweepAbandon
  /-- ZERO (R274). -/
  | zero
  /-- VREF (R274). -/
  | vref
  /-- RREF (R274). -/
  | rref
  /-- APPLY (R276). -/
  | apply
  /-- ABANDON (R274). -/
  | abandon
  /-- CAL_TIMEOUT (R275). -/
  | calTimeout
  /-- ZQ_CALIBRATION (R282). -/
  | zqCalibration
  /-- MARGIN_APPLY (R284). -/
  | marginApply
  /-- MARGIN_CLEAR (R284). -/
  | marginClear
  /-- SCRUB_CANCEL (R305). -/
  | scrubCancel
  /-- SCRUB_END (R305). -/
  | scrubEnd
  /-- FLT_DROPPED_POST (R315). -/
  | fltDroppedPost
  /-- SUPPLY_TRIP (R349). -/
  | supplyTrip
  /-- BEAT_TIMER (R334). -/
  | beatTimer
  /-- TIME_TIMER (R334). -/
  | timeTimer
  /-- BEACON_TIMER (R335). -/
  | beaconTimer
  /-- PAIR_SILENCE_TIMEOUT (R347). -/
  | pairSilenceTimeout
  /-- REJOIN_START (R355). -/
  | rejoinStart
  /-- REJOIN_PHASE_END (R355). -/
  | rejoinPhaseEnd
  /-- AON_POWER_UP (R401). -/
  | aonPowerUp
  /-- FAN_ENCODER_EDGE (R407). -/
  | fanEncoderEdge
  /-- KEEPWET_TIMER (R408). -/
  | keepwetTimer
  /-- FANTAIL_WAKE (R406). -/
  | fantailWake
  /-- PWR_EN_STEP (R406). -/
  | pwrEnStep
  /-- PMU_CLEAR (R414). -/
  | pmuClear
  /-- PMU_SNAP (R415). -/
  | pmuSnap
  /-- PMU_FREEZE (R414). -/
  | pmuFreeze
  /-- PMU_UNFREEZE (R414). -/
  | pmuUnfreeze
  /-- FEED_DONE_INACTIVE (R232). -/
  | feedDoneInactive
  /-- BEACON_NOT_CURRENT (R335). -/
  | beaconNotCurrent
deriving DecidableEq, Repr

end Sys2Proof
end

