-- ==== Sys2Proof/Decode.lean ====
section
/-! DEFINITION. Decode.lean: the words of the block's own programs. The opcode table gives no row any bits, so no table word spells a command;
the command words that a context reads from device memory (Tables 5-3 to 5-6) spell one each. -/

namespace Sys2Proof

/-- The command that a word of the opcode table spells: none, since the table gives no row any bits. -/
def decodeTableWord (_nbits _w : Nat) : Option Instr := none

/-! ### Command words (R101 to R105) -/

/-- The SET of a parameter (Tables 5-5, 13-2 and 20-3, R258). -/
def setOf (ctx : Nat) (param : BitVec 8) (value : BitVec 48) : Instr :=
  match param with
  | 0x01 => .setLogBase ctx value
  | 0x02 => .setLogLen ctx value
  | 0x03 => .setPcacheBase ctx value
  | 0x04 => .setPcacheLen ctx value
  | 0x05 => .setEvtRing ctx value
  | 0x40 => .moveAbs ctx value
  | 0x41 => .moveRel ctx value
  | 0x42 => .setVmax ctx value
  | 0x43 => .setAccel ctx value
  | 0x44 => .setDecel ctx value
  | 0x45 => .setJerk ctx value
  | 0x46 => .home ctx value
  | 0x47 => .stop ctx value
  | 0x48 => .setPos ctx value
  | 0x49 => .power ctx value
  | 0x4A => .table ctx value
  | 0x60 => .resultBase ctx value
  | 0x62 => .defectOut ctx value
  | 0x61 => .defectVer ctx value
  | 0x63 => .sweep ctx value
  | 0x64 => .sample ctx value
  | 0x65 => .vsetCode ctx value
  | 0x66 => .vsetApply ctx value
  | 0x71 => .spitCfg ctx value
  | 0x70 => .spitGo ctx value
  | _ => .setParamUndefined ctx param value

/-- The WAIT of a kind (Table 5-6); a word with a kind that the table does not list is a bad command. -/
def waitOf (ctx : Nat) (kind : BitVec 4) (value : BitVec 52) (w0 : BitVec 64) : Instr :=
  match kind with
  | 0 => .waitTime ctx value
  | 1 => .waitSync ctx value
  | 2 => .waitAxis ctx value
  | 3 => .waitMsr ctx value
  | 4 => .waitTile ctx value
  | 5 => .waitPage ctx value
  | _ => .badOpcode ctx w0

/-- The command that context `ctx` reads: the opcode is bits 63:56 of the first word, the second word belongs to a 128-bit command only. -/
def commandOf (ctx : Nat) (w0 w1 : BitVec 64) : Instr :=
  let word := w0.extractLsb' 0 56
  match w0.extractLsb' 56 8 with
  | 0x00 => .nop ctx word
  | 0x01 => .jobBegin ctx word
  | 0x02 => .jobEnd ctx word
  | 0x03 => .pageBegin ctx word
  | 0x04 => .pageEnd ctx word
  | 0x05 => .skipLines ctx word
  | 0x06 => .copies ctx word
  | 0x11 => .tileDrop ctx word
  | 0x20 => setOf ctx (w0.extractLsb' 48 8) (w0.extractLsb' 0 48)
  | 0x21 => waitOf ctx (w0.extractLsb' 52 4) (w0.extractLsb' 0 52) w0
  | 0x22 => .signal ctx word
  | 0x23 => .mark ctx word
  | 0x24 => .barrier ctx word
  | 0x30 => .call ctx word
  | 0x31 => .return_ ctx word
  | 0x40 => .pass ctx word
  | 0x41 => .feed ctx word
  | 0x50 => .defectSync ctx word
  | 0x80 => .place ctx word w1
  | 0x81 => .fill ctx word w1
  | 0x82 => .mask ctx word w1
  | 0x83 => .repeat_ ctx word w1
  | 0x90 => .tileDef ctx word w1
  | _ => .badOpcode ctx w0

/-- A first word from its opcode and its operand bits. -/
def opWord (op : BitVec 8) (word : BitVec 56) : BitVec 64 := op ++ word
/-- The word of a SET. -/
def setWord (param : BitVec 8) (value : BitVec 48) : BitVec 64 := opWord 0x20 (param ++ value)
/-- The word of a WAIT. -/
def waitWord (kind : BitVec 4) (value : BitVec 52) : BitVec 64 := opWord 0x21 (kind ++ value)

/-- The context and the two words of a command that a context reads (the second is 0 for a 64-bit command); none for the commands of
every other kind. -/
def Instr.words (i : Instr) : Option (Nat × BitVec 64 × BitVec 64) :=
  match i with
  | .registerWrite _ _ => none
  | .loReadLatch _ => none
  | .hiWriteCommit _ _ => none
  | .loWriteStage _ _ => none
  | .rcRead _ => none
  | .w1cWrite _ _ => none
  | .bar0BadRequest _ _ => none
  | .powerOn => none
  | .sysRstAssert => none
  | .resetToLoad _ _ _ _ => none
  | .loadComplete _ => none
  | .fillComplete _ _ _ _ _ _ _ => none
  | .modeReqCalibrate _ => none
  | .modeReqSafe _ => none
  | .modeReqSleep _ => none
  | .modeReqStandby _ => none
  | .modeReqService _ => none
  | .modeReqLoad _ => none
  | .modeReqIllegal _ _ => none
  | .printModeExit => none
  | .heldJobBegin => none
  | .serviceExit => none
  | .keepwetServiceEntry => none
  | .keepwetReturn => none
  | .sleepEntryComplete => none
  | .shadowEntry => none
  | .safeEntry => none
  | .contextStop _ => none
  | .pcieReset => none
  | .avsInterval => none
  | .avsTransactionDone _ _ => none
  | .flashRead _ => none
  | .flashProgram _ => none
  | .flashErase64k => none
  | .flashCheckSlot => none
  | .flashCmdDone _ => none
  | .bar2Read _ _ => none
  | .bar2Write _ _ => none
  | .ringEnable _ _ => none
  | .ringDisable _ _ => none
  | .ringDoorbell _ _ => none
  | .eventRingConsume _ _ => none
  | .descriptorFetch _ _ => none
  | .hostReadCompletion _ _ _ _ => none
  | .copyComplete _ => none
  | .jobDescriptorTake _ => none
  | .eventRecordWrite _ => none
  | .msixHoldoffExpiry _ => none
  | .msixUnmask _ => none
  | .abortOne _ _ => none
  | .abortScope _ _ => none
  | .abortResolve => none
  | .nop ctx word => some (ctx, opWord 0x00 word, 0)
  | .jobBegin ctx word => some (ctx, opWord 0x01 word, 0)
  | .jobEnd ctx word => some (ctx, opWord 0x02 word, 0)
  | .pageBegin ctx word => some (ctx, opWord 0x03 word, 0)
  | .pageEnd ctx word => some (ctx, opWord 0x04 word, 0)
  | .skipLines ctx word => some (ctx, opWord 0x05 word, 0)
  | .copies ctx word => some (ctx, opWord 0x06 word, 0)
  | .tileDef ctx word word1 => some (ctx, opWord 0x90 word, word1)
  | .tileDrop ctx word => some (ctx, opWord 0x11 word, 0)
  | .setLogBase ctx value => some (ctx, setWord 0x01 value, 0)
  | .setLogLen ctx value => some (ctx, setWord 0x02 value, 0)
  | .setPcacheBase ctx value => some (ctx, setWord 0x03 value, 0)
  | .setPcacheLen ctx value => some (ctx, setWord 0x04 value, 0)
  | .setEvtRing ctx value => some (ctx, setWord 0x05 value, 0)
  | .setParamUndefined ctx param value => some (ctx, setWord param value, 0)
  | .moveAbs ctx value => some (ctx, setWord 0x40 value, 0)
  | .moveRel ctx value => some (ctx, setWord 0x41 value, 0)
  | .setVmax ctx value => some (ctx, setWord 0x42 value, 0)
  | .setAccel ctx value => some (ctx, setWord 0x43 value, 0)
  | .setDecel ctx value => some (ctx, setWord 0x44 value, 0)
  | .setJerk ctx value => some (ctx, setWord 0x45 value, 0)
  | .home ctx value => some (ctx, setWord 0x46 value, 0)
  | .stop ctx value => some (ctx, setWord 0x47 value, 0)
  | .setPos ctx value => some (ctx, setWord 0x48 value, 0)
  | .power ctx value => some (ctx, setWord 0x49 value, 0)
  | .table ctx value => some (ctx, setWord 0x4A value, 0)
  | .resultBase ctx value => some (ctx, setWord 0x60 value, 0)
  | .defectOut ctx value => some (ctx, setWord 0x62 value, 0)
  | .defectVer ctx value => some (ctx, setWord 0x61 value, 0)
  | .sweep ctx value => some (ctx, setWord 0x63 value, 0)
  | .sample ctx value => some (ctx, setWord 0x64 value, 0)
  | .vsetCode ctx value => some (ctx, setWord 0x65 value, 0)
  | .vsetApply ctx value => some (ctx, setWord 0x66 value, 0)
  | .spitCfg ctx value => some (ctx, setWord 0x71 value, 0)
  | .spitGo ctx value => some (ctx, setWord 0x70 value, 0)
  | .waitTime ctx value => some (ctx, waitWord 0 value, 0)
  | .waitSync ctx value => some (ctx, waitWord 1 value, 0)
  | .waitAxis ctx value => some (ctx, waitWord 2 value, 0)
  | .waitMsr ctx value => some (ctx, waitWord 3 value, 0)
  | .waitTile ctx value => some (ctx, waitWord 4 value, 0)
  | .waitPage ctx value => some (ctx, waitWord 5 value, 0)
  | .waitSatisfied _ => none
  | .signal ctx word => some (ctx, opWord 0x22 word, 0)
  | .mark ctx word => some (ctx, opWord 0x23 word, 0)
  | .barrier ctx word => some (ctx, opWord 0x24 word, 0)
  | .barrierDone _ => none
  | .call ctx word => some (ctx, opWord 0x30 word, 0)
  | .return_ ctx word => some (ctx, opWord 0x31 word, 0)
  | .pass ctx word => some (ctx, opWord 0x40 word, 0)
  | .feed ctx word => some (ctx, opWord 0x41 word, 0)
  | .defectSync ctx word => some (ctx, opWord 0x50 word, 0)
  | .defectTableCheckDone => none
  | .place ctx word word1 => some (ctx, opWord 0x80 word, word1)
  | .fill ctx word word1 => some (ctx, opWord 0x81 word, word1)
  | .mask ctx word word1 => some (ctx, opWord 0x82 word, word1)
  | .repeat_ ctx word word1 => some (ctx, opWord 0x83 word, word1)
  | .badOpcode ctx word => some (ctx, word, 0)
  | .linkWord _ => none
  | .seqCtxDb _ => none
  | .seqSyncInc _ => none
  | .waitTailReread _ => none
  | .waitTailPoll _ => none
  | .contextAbort _ => none
  | .bandClearDone => none
  | .bandCommit => none
  | .pageRecordWrite => none
  | .decodeStart _ => none
  | .decodeHeaderChecked _ => none
  | .decodeComplete _ _ => none
  | .pcacheSegmentDone _ => none
  | .start _ _ => none
  | .continue_ => none
  | .cancel => none
  | .outFull _ => none
  | .exportDone => none
  | .exportSuspend _ => none
  | .exportResume => none
  | .tokenApply _ _ => none
  | .laneTokenTimeout _ _ => none
  | .bandLineRecompose _ => none
  | .lineCorrect => none
  | .storeRead _ => none
  | .encoderCount _ _ _ _ _ => none
  | .indexEdge _ => none
  | .tosEdge _ => none
  | .sosEdge _ => none
  | .feedStart => none
  | .feedDoneEdge _ => none
  | .encOutStep _ => none
  | .lineFrameSend _ _ => none
  | .fireBlockSend _ _ => none
  | .bringupRetry _ => none
  | .bringupTimeout _ => none
  | .bringupSyncSend _ => none
  | .charLock _ => none
  | .charLockLoss _ _ => none
  | .ack _ _ _ _ _ _ => none
  | .temp _ _ _ => none
  | .status _ _ => none
  | .cap _ _ => none
  | .echo _ _ _ => none
  | .sampleRecord _ _ _ => none
  | .returnRecordError _ _ => none
  | .ackTimeout _ => none
  | .retrain _ _ => none
  | .spitTimeout _ => none
  | .sweepSlot _ _ _ => none
  | .sweepAbandon => none
  | .sampleTimeout _ => none
  | .vsetSettled _ => none
  | .zero => none
  | .vref => none
  | .rref => none
  | .apply => none
  | .abandon => none
  | .calStepDone _ _ _ => none
  | .calTimeout => none
  | .memWriteAccept _ _ _ _ => none
  | .memReadComplete _ _ _ _ => none
  | .refetchAnswer _ => none
  | .refetchTimeout _ => none
  | .batchBoundary _ _ _ _ => none
  | .caParityAlert _ _ _ _ => none
  | .dramTempPoll _ _ => none
  | .dramRefresh _ => none
  | .zqCalibration => none
  | .marginApply => none
  | .marginRun _ => none
  | .marginClear => none
  | .marginRunDone _ _ => none
  | .scrubStart _ => none
  | .scrubCancel => none
  | .scrubRead _ _ => none
  | .scrubEnd => none
  | .millpondCheckFail _ => none
  | .eventRaise _ _ _ _ _ _ => none
  | .eventAccept _ => none
  | .fltDroppedPost => none
  | .watchdogProbe _ => none
  | .junctionTemp _ => none
  | .clockLoss _ _ => none
  | .supplyTrip => none
  | .pairLinkUp _ _ _ => none
  | .pairLinkDown _ => none
  | .pairReplayTimeout _ => none
  | .beatTimer => none
  | .timeTimer => none
  | .beaconTimer => none
  | .beaconReceive _ => none
  | .beat _ _ _ => none
  | .time _ => none
  | .lineStart _ _ _ => none
  | .datum _ _ => none
  | .digest _ _ _ _ => none
  | .lstat _ _ _ _ => none
  | .release _ => none
  | .recomp _ _ _ => none
  | .band _ _ _ => none
  | .host _ => none
  | .done _ _ _ _ => none
  | .event _ _ _ => none
  | .state _ _ _ _ => none
  | .rejoin _ => none
  | .lineCommitPoint _ => none
  | .pairSilenceTimeout => none
  | .failoverRingServe _ => none
  | .disputeRecomputeDone _ => none
  | .rejoinStart => none
  | .rejoinPhaseEnd => none
  | .rejoinAbandon _ => none
  | .crcStart _ _ => none
  | .crcCancel _ _ => none
  | .crcScanEnd _ _ => none
  | .ethFrameReceive _ _ _ _ => none
  | .ethLinkChange _ _ => none
  | .ownFrameSend _ => none
  | .ptpSyncReceive _ _ => none
  | .ptpFollowUpReceive _ _ => none
  | .ptpDelayReqReceive _ _ => none
  | .ptpDelayRespReceive _ _ => none
  | .ptpPdelayReqReceive _ _ => none
  | .ptpPdelayRespReceive _ _ => none
  | .ptpAnnounceReceive _ _ => none
  | .ptpSyncTimer _ => none
  | .ptpAnnounceTimer _ => none
  | .ptpPdelayTimer _ => none
  | .ptpDelayReqTimer _ => none
  | .ptpAnnounceTimeout _ => none
  | .triggerEvent _ _ _ => none
  | .triggerArm _ => none
  | .triggerDisarm _ => none
  | .axisIdleTimer _ => none
  | .axisPowerDown _ => none
  | .switchEdge _ _ _ => none
  | .aonPowerUp => none
  | .fanAinSample _ _ => none
  | .fanDinSample _ _ => none
  | .fanEncoderEdge => none
  | .keepwetTimer => none
  | .fantailWake => none
  | .pwrEnStep => none
  | .pmuClear => none
  | .pmuSnap => none
  | .pmuFreeze => none
  | .pmuUnfreeze => none
  | .pcieLinkUp _ _ => none
  | .pcieConfigWrite _ _ _ _ _ _ => none
  | .feedDoneInactive => none
  | .alertNClear _ _ => none
  | .beaconNotCurrent => none

/-- The opcodes of Table 5-3. -/
def opcodeDefined (op : BitVec 8) : Bool :=
  [0x00, 0x01, 0x02, 0x03, 0x04, 0x05, 0x06, 0x11, 0x20, 0x21, 0x22, 0x23, 0x24, 0x30, 0x31, 0x40, 0x41, 0x50, 0x80, 0x81, 0x82, 0x83, 0x90].contains op.toNat

/-- The parameters that a table of the spec lists. -/
def paramListed (param : BitVec 8) : Bool :=
  [0x01, 0x02, 0x03, 0x04, 0x05, 0x40, 0x41, 0x42, 0x43, 0x44, 0x45, 0x46, 0x47, 0x48, 0x49, 0x4A, 0x60, 0x62, 0x61, 0x63, 0x64, 0x65, 0x66, 0x71, 0x70].contains param.toNat

end Sys2Proof
end

