-- ==== Sys2Proof/Config.lean ====
section
/-! DEFINITION. Config.lean: what the spec leaves open as a VALUE. Each constant has no body, so nothing can be proved of
the value it takes; a statement that holds of the model holds whatever it is. The assumption log names each of them. -/

namespace Sys2Proof

/-- A free byte, numbered by the counter `freeCtr` of the state: the bytes the spec calls undefined or does not state (the destination
of an aborted copy, R89; the flash bytes of a failed or abandoned command, R65; the shadow of the tables, R175; Millpond's bytes as a
check-value unit reads them, R361). -/
opaque Config.freeByte : Nat → BitVec 8

/-- A free natural number, numbered by the counter `freeCtr` of the state: a quantity the spec does not fix (the skid of a sampled
command, R416; the arguments of an event whose meaning no rule gives; a cancelled scan's CRC value, R366). -/
opaque Config.freeNat : Nat → Nat

/-- The number of this die, bits 31:0 of the PCIe Device Serial Number (Table 4-1). -/
opaque Config.dieNumber : BitVec 32

/-- What the scrambler of a port's transmit lane holds when the lane leaves electrical idle: Clause 49's scrambler has no stated start. -/
opaque Config.scramblerStart : Nat → BitVec 58

/-- The codes that an encoder builds from the symbols of a dynamic block (a literal b is b, a match of length n at distance k is
2^16 + (n - 3) * 2^15 + (k - 1)): the lengths of the literal/length code, of the distance code and of the code-length code, and the header's
code-length symbols with their extra values. R135 says the construction is the same on every device and does not state it. -/
opaque Config.dynamicCodes : List Nat → List Nat × List Nat × List Nat × List (Nat × Nat)

/-- The detail, 1 to 4, of a line that is blank because its recomposition failed (R159), less 1, modulo 4: R196 names none for it. -/
opaque Config.recompDetail : Nat

end Sys2Proof
end

