-- ==== Sys2Proof/Machine/RegNames.lean ====
section
/-! DEFINITION. Machine/RegNames.lean: the registers of BAR0 by name: an address for each register and a bit range for each
field, as the register lines and field tables of the spec give them (R4, R8; every chapter's register section). -/

namespace Sys2Proof.Machine

/-- A bit range of one 32-bit register: its BAR0 offset and its highest and lowest bit. -/
structure Fld where
  reg : Nat
  hi : Nat
  lo : Nat
deriving DecidableEq, Repr

/-- GLB_ID (R7, spec/00_scope.md). -/
abbrev Reg.GLB_ID.addr : Nat := 0x100000
abbrev Reg.GLB_ID.part : Fld := ⟨Reg.GLB_ID.addr, 31, 16⟩
abbrev Reg.GLB_ID.step_major : Fld := ⟨Reg.GLB_ID.addr, 15, 12⟩
abbrev Reg.GLB_ID.step_minor : Fld := ⟨Reg.GLB_ID.addr, 11, 8⟩
abbrev Reg.GLB_ID.package : Fld := ⟨Reg.GLB_ID.addr, 7, 4⟩
abbrev Reg.GLB_ID.grade : Fld := ⟨Reg.GLB_ID.addr, 3, 0⟩
/-- GLB_SLACK_NOW (R19, spec/01_dataflow_and_promises.md). -/
abbrev Reg.GLB_SLACK_NOW.addr : Nat := 0x100400
abbrev Reg.GLB_SLACK_NOW.valid : Fld := ⟨Reg.GLB_SLACK_NOW.addr, 31, 31⟩
abbrev Reg.GLB_SLACK_NOW.late : Fld := ⟨Reg.GLB_SLACK_NOW.addr, 30, 30⟩
abbrev Reg.GLB_SLACK_NOW.slack : Fld := ⟨Reg.GLB_SLACK_NOW.addr, 15, 0⟩
/-- GLB_SLACK_MIN (R19, spec/01_dataflow_and_promises.md). -/
abbrev Reg.GLB_SLACK_MIN.addr : Nat := 0x100404
abbrev Reg.GLB_SLACK_MIN.min_slack : Fld := ⟨Reg.GLB_SLACK_MIN.addr, 15, 0⟩
/-- GLB_SLACK_CFG (R19, spec/01_dataflow_and_promises.md). -/
abbrev Reg.GLB_SLACK_CFG.addr : Nat := 0x100408
abbrev Reg.GLB_SLACK_CFG.slack_alarm : Fld := ⟨Reg.GLB_SLACK_CFG.addr, 23, 16⟩
abbrev Reg.GLB_SLACK_CFG.slack_hyst : Fld := ⟨Reg.GLB_SLACK_CFG.addr, 15, 8⟩
abbrev Reg.GLB_SLACK_CFG.slack_target : Fld := ⟨Reg.GLB_SLACK_CFG.addr, 7, 0⟩
/-- GLB_AVS_CFG (R19, spec/01_dataflow_and_promises.md). -/
abbrev Reg.GLB_AVS_CFG.addr : Nat := 0x10040C
abbrev Reg.GLB_AVS_CFG.avs_rail : Fld := ⟨Reg.GLB_AVS_CFG.addr, 23, 20⟩
abbrev Reg.GLB_AVS_CFG.avs_calm : Fld := ⟨Reg.GLB_AVS_CFG.addr, 19, 16⟩
abbrev Reg.GLB_AVS_CFG.avs_interval : Fld := ⟨Reg.GLB_AVS_CFG.addr, 15, 8⟩
abbrev Reg.GLB_AVS_CFG.avs_step_mv : Fld := ⟨Reg.GLB_AVS_CFG.addr, 7, 4⟩
abbrev Reg.GLB_AVS_CFG.avs_en : Fld := ⟨Reg.GLB_AVS_CFG.addr, 0, 0⟩
/-- GLB_AVS_LIMITS (R19, spec/01_dataflow_and_promises.md). -/
abbrev Reg.GLB_AVS_LIMITS.addr : Nat := 0x100410
abbrev Reg.GLB_AVS_LIMITS.avs_vmax_mv : Fld := ⟨Reg.GLB_AVS_LIMITS.addr, 25, 16⟩
abbrev Reg.GLB_AVS_LIMITS.avs_vmin_mv : Fld := ⟨Reg.GLB_AVS_LIMITS.addr, 9, 0⟩
/-- GLB_AVS_IDLE (R19, spec/01_dataflow_and_promises.md). -/
abbrev Reg.GLB_AVS_IDLE.addr : Nat := 0x100414
abbrev Reg.GLB_AVS_IDLE.avs_idle_mv : Fld := ⟨Reg.GLB_AVS_IDLE.addr, 9, 0⟩
/-- GLB_AVS_VOUT (R19, spec/01_dataflow_and_promises.md). -/
abbrev Reg.GLB_AVS_VOUT.addr : Nat := 0x100418
abbrev Reg.GLB_AVS_VOUT.readback_mv : Fld := ⟨Reg.GLB_AVS_VOUT.addr, 25, 16⟩
abbrev Reg.GLB_AVS_VOUT.cmd_mv : Fld := ⟨Reg.GLB_AVS_VOUT.addr, 9, 0⟩
/-- GLB_AVS_STAT (R19, spec/01_dataflow_and_promises.md). -/
abbrev Reg.GLB_AVS_STAT.addr : Nat := 0x10041C
abbrev Reg.GLB_AVS_STAT.slack_alarm : Fld := ⟨Reg.GLB_AVS_STAT.addr, 2, 2⟩
abbrev Reg.GLB_AVS_STAT.vmax_hit : Fld := ⟨Reg.GLB_AVS_STAT.addr, 1, 1⟩
abbrev Reg.GLB_AVS_STAT.bus_err : Fld := ⟨Reg.GLB_AVS_STAT.addr, 0, 0⟩
/-- GLB_MODE (R47, spec/02_operating_modes.md). -/
abbrev Reg.GLB_MODE.addr : Nat := 0x100010
abbrev Reg.GLB_MODE.transit : Fld := ⟨Reg.GLB_MODE.addr, 31, 31⟩
abbrev Reg.GLB_MODE.prev_mode : Fld := ⟨Reg.GLB_MODE.addr, 11, 8⟩
abbrev Reg.GLB_MODE.mode : Fld := ⟨Reg.GLB_MODE.addr, 3, 0⟩
/-- GLB_SHADOW_OF (R47, spec/02_operating_modes.md). -/
abbrev Reg.GLB_SHADOW_OF.addr : Nat := 0x100014
abbrev Reg.GLB_SHADOW_OF.valid : Fld := ⟨Reg.GLB_SHADOW_OF.addr, 31, 31⟩
abbrev Reg.GLB_SHADOW_OF.sub_state : Fld := ⟨Reg.GLB_SHADOW_OF.addr, 9, 8⟩
abbrev Reg.GLB_SHADOW_OF.partner_mode : Fld := ⟨Reg.GLB_SHADOW_OF.addr, 3, 0⟩
/-- GLB_MODE_REQ (R47, spec/02_operating_modes.md). -/
abbrev Reg.GLB_MODE_REQ.addr : Nat := 0x100018
abbrev Reg.GLB_MODE_REQ.key : Fld := ⟨Reg.GLB_MODE_REQ.addr, 31, 24⟩
abbrev Reg.GLB_MODE_REQ.target : Fld := ⟨Reg.GLB_MODE_REQ.addr, 3, 0⟩
/-- GLB_MODE_REQ_STAT (R47, spec/02_operating_modes.md). -/
abbrev Reg.GLB_MODE_REQ_STAT.addr : Nat := 0x10001C
abbrev Reg.GLB_MODE_REQ_STAT.req_count : Fld := ⟨Reg.GLB_MODE_REQ_STAT.addr, 31, 16⟩
abbrev Reg.GLB_MODE_REQ_STAT.last_target : Fld := ⟨Reg.GLB_MODE_REQ_STAT.addr, 7, 4⟩
abbrev Reg.GLB_MODE_REQ_STAT.result : Fld := ⟨Reg.GLB_MODE_REQ_STAT.addr, 3, 0⟩
/-- GLB_SAFE_CAUSE (R47, spec/02_operating_modes.md). -/
abbrev Reg.GLB_SAFE_CAUSE.addr : Nat := 0x100020
abbrev Reg.GLB_SAFE_CAUSE.cause : Fld := ⟨Reg.GLB_SAFE_CAUSE.addr, 31, 24⟩
abbrev Reg.GLB_SAFE_CAUSE.source_id : Fld := ⟨Reg.GLB_SAFE_CAUSE.addr, 23, 16⟩
abbrev Reg.GLB_SAFE_CAUSE.event_code : Fld := ⟨Reg.GLB_SAFE_CAUSE.addr, 15, 0⟩
/-- GLB_STATUS (R47, spec/02_operating_modes.md). -/
abbrev Reg.GLB_STATUS.addr : Nat := 0x100024
abbrev Reg.GLB_STATUS.thermal_warn : Fld := ⟨Reg.GLB_STATUS.addr, 10, 10⟩
abbrev Reg.GLB_STATUS.aon_ok : Fld := ⟨Reg.GLB_STATUS.addr, 9, 9⟩
abbrev Reg.GLB_STATUS.pair_active : Fld := ⟨Reg.GLB_STATUS.addr, 8, 8⟩
abbrev Reg.GLB_STATUS.pair_link_up : Fld := ⟨Reg.GLB_STATUS.addr, 7, 7⟩
abbrev Reg.GLB_STATUS.fill_done : Fld := ⟨Reg.GLB_STATUS.addr, 6, 6⟩
abbrev Reg.GLB_STATUS.image_slot : Fld := ⟨Reg.GLB_STATUS.addr, 5, 5⟩
abbrev Reg.GLB_STATUS.image_valid : Fld := ⟨Reg.GLB_STATUS.addr, 4, 4⟩
abbrev Reg.GLB_STATUS.pcie_up : Fld := ⟨Reg.GLB_STATUS.addr, 3, 3⟩
abbrev Reg.GLB_STATUS.pll_time : Fld := ⟨Reg.GLB_STATUS.addr, 2, 2⟩
abbrev Reg.GLB_STATUS.pll_serdes : Fld := ⟨Reg.GLB_STATUS.addr, 1, 1⟩
abbrev Reg.GLB_STATUS.refclk_ok : Fld := ⟨Reg.GLB_STATUS.addr, 0, 0⟩
/-- CFG_IMAGE_STAT (R67, spec/03_configuration_image.md). -/
abbrev Reg.CFG_IMAGE_STAT.addr : Nat := 0x200000
abbrev Reg.CFG_IMAGE_STAT.valid : Fld := ⟨Reg.CFG_IMAGE_STAT.addr, 31, 31⟩
abbrev Reg.CFG_IMAGE_STAT.slot : Fld := ⟨Reg.CFG_IMAGE_STAT.addr, 16, 16⟩
abbrev Reg.CFG_IMAGE_STAT.fmt_major : Fld := ⟨Reg.CFG_IMAGE_STAT.addr, 15, 8⟩
abbrev Reg.CFG_IMAGE_STAT.fmt_minor : Fld := ⟨Reg.CFG_IMAGE_STAT.addr, 7, 0⟩
/-- CFG_IMAGE_SEQ (R67, spec/03_configuration_image.md). -/
abbrev Reg.CFG_IMAGE_SEQ.addr : Nat := 0x200004
abbrev Reg.CFG_IMAGE_SEQ.sequence : Fld := ⟨Reg.CFG_IMAGE_SEQ.addr, 31, 0⟩
/-- CFG_IMAGE_CRC (R67, spec/03_configuration_image.md). -/
abbrev Reg.CFG_IMAGE_CRC.addr : Nat := 0x200008
abbrev Reg.CFG_IMAGE_CRC.header_crc : Fld := ⟨Reg.CFG_IMAGE_CRC.addr, 31, 0⟩
/-- CFG_BOARD_ID (R67, spec/03_configuration_image.md). -/
abbrev Reg.CFG_BOARD_ID.addr : Nat := 0x20000C
abbrev Reg.CFG_BOARD_ID.board_id : Fld := ⟨Reg.CFG_BOARD_ID.addr, 31, 0⟩
/-- CFG_SLOT_STAT (R67, spec/03_configuration_image.md). -/
abbrev Reg.CFG_SLOT_STAT.addr : Nat := 0x200010
abbrev Reg.CFG_SLOT_STAT.b_cause : Fld := ⟨Reg.CFG_SLOT_STAT.addr, 23, 20⟩
abbrev Reg.CFG_SLOT_STAT.b_checked : Fld := ⟨Reg.CFG_SLOT_STAT.addr, 16, 16⟩
abbrev Reg.CFG_SLOT_STAT.a_cause : Fld := ⟨Reg.CFG_SLOT_STAT.addr, 7, 4⟩
abbrev Reg.CFG_SLOT_STAT.a_checked : Fld := ⟨Reg.CFG_SLOT_STAT.addr, 0, 0⟩
/-- CFG_SLOT_A_SEQ (R67, spec/03_configuration_image.md). -/
abbrev Reg.CFG_SLOT_A_SEQ.addr : Nat := 0x200014
abbrev Reg.CFG_SLOT_A_SEQ.sequence : Fld := ⟨Reg.CFG_SLOT_A_SEQ.addr, 31, 0⟩
/-- CFG_SLOT_B_SEQ (R67, spec/03_configuration_image.md). -/
abbrev Reg.CFG_SLOT_B_SEQ.addr : Nat := 0x200018
abbrev Reg.CFG_SLOT_B_SEQ.sequence : Fld := ⟨Reg.CFG_SLOT_B_SEQ.addr, 31, 0⟩
/-- CFG_LOAD_TIME (R67, spec/03_configuration_image.md). -/
abbrev Reg.CFG_LOAD_TIME.addr : Nat := 0x200020
abbrev Reg.CFG_LOAD_TIME.fill_ms : Fld := ⟨Reg.CFG_LOAD_TIME.addr, 31, 16⟩
abbrev Reg.CFG_LOAD_TIME.load_100us : Fld := ⟨Reg.CFG_LOAD_TIME.addr, 15, 0⟩
/-- CFG_FLASH_INFO (R67, spec/03_configuration_image.md). -/
abbrev Reg.CFG_FLASH_INFO.addr : Nat := 0x200024
abbrev Reg.CFG_FLASH_INFO.density_log2 : Fld := ⟨Reg.CFG_FLASH_INFO.addr, 31, 24⟩
abbrev Reg.CFG_FLASH_INFO.sfdp_minor : Fld := ⟨Reg.CFG_FLASH_INFO.addr, 23, 16⟩
abbrev Reg.CFG_FLASH_INFO.sfdp_major : Fld := ⟨Reg.CFG_FLASH_INFO.addr, 15, 8⟩
abbrev Reg.CFG_FLASH_INFO.if_mode : Fld := ⟨Reg.CFG_FLASH_INFO.addr, 1, 0⟩
/-- CFG_FLASH_ADDR (R67, spec/03_configuration_image.md). -/
abbrev Reg.CFG_FLASH_ADDR.addr : Nat := 0x200030
abbrev Reg.CFG_FLASH_ADDR.addr_ : Fld := ⟨Reg.CFG_FLASH_ADDR.addr, 31, 0⟩
/-- CFG_FLASH_CMD (R67, spec/03_configuration_image.md). -/
abbrev Reg.CFG_FLASH_CMD.addr : Nat := 0x200034
abbrev Reg.CFG_FLASH_CMD.op : Fld := ⟨Reg.CFG_FLASH_CMD.addr, 19, 16⟩
abbrev Reg.CFG_FLASH_CMD.len_m1 : Fld := ⟨Reg.CFG_FLASH_CMD.addr, 15, 0⟩
/-- CFG_FLASH_STAT (R67, spec/03_configuration_image.md). -/
abbrev Reg.CFG_FLASH_STAT.addr : Nat := 0x200038
abbrev Reg.CFG_FLASH_STAT.busy : Fld := ⟨Reg.CFG_FLASH_STAT.addr, 31, 31⟩
abbrev Reg.CFG_FLASH_STAT.cmd_count : Fld := ⟨Reg.CFG_FLASH_STAT.addr, 23, 16⟩
abbrev Reg.CFG_FLASH_STAT.result : Fld := ⟨Reg.CFG_FLASH_STAT.addr, 3, 0⟩
/-- CFG_BOOT_STAT (R67, spec/03_configuration_image.md). -/
abbrev Reg.CFG_BOOT_STAT.addr : Nat := 0x200040
abbrev Reg.CFG_BOOT_STAT.state : Fld := ⟨Reg.CFG_BOOT_STAT.addr, 3, 0⟩
/-- CFG_BOOT_ADDR_LO (R67, spec/03_configuration_image.md). -/
abbrev Reg.CFG_BOOT_ADDR_LO.addr : Nat := 0x200044
abbrev Reg.CFG_BOOT_ADDR_LO.addr_lo : Fld := ⟨Reg.CFG_BOOT_ADDR_LO.addr, 31, 0⟩
/-- CFG_BOOT_ADDR_HI (R67, spec/03_configuration_image.md). -/
abbrev Reg.CFG_BOOT_ADDR_HI.addr : Nat := 0x200048
abbrev Reg.CFG_BOOT_ADDR_HI.addr_hi : Fld := ⟨Reg.CFG_BOOT_ADDR_HI.addr, 7, 0⟩
/-- HDMA_PCI_STAT (R90, spec/04_host_interface.md). -/
abbrev Reg.HDMA_PCI_STAT.addr : Nat := 0x300000
abbrev Reg.HDMA_PCI_STAT.link_up : Fld := ⟨Reg.HDMA_PCI_STAT.addr, 18, 18⟩
abbrev Reg.HDMA_PCI_STAT.ecrc_chk : Fld := ⟨Reg.HDMA_PCI_STAT.addr, 17, 17⟩
abbrev Reg.HDMA_PCI_STAT.ecrc_gen : Fld := ⟨Reg.HDMA_PCI_STAT.addr, 16, 16⟩
abbrev Reg.HDMA_PCI_STAT.mrrs : Fld := ⟨Reg.HDMA_PCI_STAT.addr, 15, 13⟩
abbrev Reg.HDMA_PCI_STAT.mps : Fld := ⟨Reg.HDMA_PCI_STAT.addr, 12, 10⟩
abbrev Reg.HDMA_PCI_STAT.width : Fld := ⟨Reg.HDMA_PCI_STAT.addr, 9, 4⟩
abbrev Reg.HDMA_PCI_STAT.speed : Fld := ⟨Reg.HDMA_PCI_STAT.addr, 3, 0⟩
/-- HDMA_WIN_BASE (R90, spec/04_host_interface.md). -/
abbrev Reg.HDMA_WIN_BASE.addr : Nat := 0x300010
abbrev Reg.HDMA_WIN_BASE.win_base : Fld := ⟨Reg.HDMA_WIN_BASE.addr, 7, 0⟩
/-- HDMA_WIN_STAT (R90, spec/04_host_interface.md). -/
abbrev Reg.HDMA_WIN_STAT.addr : Nat := 0x300014
abbrev Reg.HDMA_WIN_STAT.range : Fld := ⟨Reg.HDMA_WIN_STAT.addr, 2, 2⟩
abbrev Reg.HDMA_WIN_STAT.not_ready : Fld := ⟨Reg.HDMA_WIN_STAT.addr, 1, 1⟩
abbrev Reg.HDMA_WIN_STAT.mem_err : Fld := ⟨Reg.HDMA_WIN_STAT.addr, 0, 0⟩
/-- HDMA_ABORT (R90, spec/04_host_interface.md). -/
abbrev Reg.HDMA_ABORT.addr : Nat := 0x300020
abbrev Reg.HDMA_ABORT.ring : Fld := ⟨Reg.HDMA_ABORT.addr, 29, 24⟩
abbrev Reg.HDMA_ABORT.scope : Fld := ⟨Reg.HDMA_ABORT.addr, 16, 16⟩
abbrev Reg.HDMA_ABORT.index : Fld := ⟨Reg.HDMA_ABORT.addr, 15, 0⟩
/-- HDMA_ABORT_STAT (R90, spec/04_host_interface.md). -/
abbrev Reg.HDMA_ABORT_STAT.addr : Nat := 0x300024
abbrev Reg.HDMA_ABORT_STAT.result : Fld := ⟨Reg.HDMA_ABORT_STAT.addr, 31, 28⟩
abbrev Reg.HDMA_ABORT_STAT.ring : Fld := ⟨Reg.HDMA_ABORT_STAT.addr, 27, 22⟩
abbrev Reg.HDMA_ABORT_STAT.count : Fld := ⟨Reg.HDMA_ABORT_STAT.addr, 15, 0⟩
/-- HDMA_REFETCH_CFG (R90, spec/04_host_interface.md). -/
abbrev Reg.HDMA_REFETCH_CFG.addr : Nat := 0x300030
abbrev Reg.HDMA_REFETCH_CFG.refetch_tmo_ms : Fld := ⟨Reg.HDMA_REFETCH_CFG.addr, 15, 0⟩
/-- HDMA_RING_CFG n (R90, spec/04_host_interface.md). -/
abbrev Reg.HDMA_RING_CFG.addr (n : Nat) : Nat := 0x301000 + 0x40 * n
abbrev Reg.HDMA_RING_CFG.type_ (n : Nat) : Fld := ⟨Reg.HDMA_RING_CFG.addr n, 31, 30⟩
abbrev Reg.HDMA_RING_CFG.evr (n : Nat) : Fld := ⟨Reg.HDMA_RING_CFG.addr n, 29, 27⟩
abbrev Reg.HDMA_RING_CFG.size_log2 (n : Nat) : Fld := ⟨Reg.HDMA_RING_CFG.addr n, 20, 16⟩
abbrev Reg.HDMA_RING_CFG.vector (n : Nat) : Fld := ⟨Reg.HDMA_RING_CFG.addr n, 6, 0⟩
/-- HDMA_RING_BASE_LO n (R90, spec/04_host_interface.md). -/
abbrev Reg.HDMA_RING_BASE_LO.addr (n : Nat) : Nat := 0x301004 + 0x40 * n
abbrev Reg.HDMA_RING_BASE_LO.base_lo (n : Nat) : Fld := ⟨Reg.HDMA_RING_BASE_LO.addr n, 31, 12⟩
/-- HDMA_RING_BASE_HI n (R90, spec/04_host_interface.md). -/
abbrev Reg.HDMA_RING_BASE_HI.addr (n : Nat) : Nat := 0x301008 + 0x40 * n
abbrev Reg.HDMA_RING_BASE_HI.base_hi (n : Nat) : Fld := ⟨Reg.HDMA_RING_BASE_HI.addr n, 31, 0⟩
/-- HDMA_RING_CTL n (R90, spec/04_host_interface.md). -/
abbrev Reg.HDMA_RING_CTL.addr (n : Nat) : Nat := 0x30100C + 0x40 * n
abbrev Reg.HDMA_RING_CTL.holdoff_us (n : Nat) : Fld := ⟨Reg.HDMA_RING_CTL.addr n, 15, 8⟩
abbrev Reg.HDMA_RING_CTL.enable (n : Nat) : Fld := ⟨Reg.HDMA_RING_CTL.addr n, 0, 0⟩
/-- HDMA_RING_DB n (R90, spec/04_host_interface.md). -/
abbrev Reg.HDMA_RING_DB.addr (n : Nat) : Nat := 0x301010 + 0x40 * n
abbrev Reg.HDMA_RING_DB.index (n : Nat) : Fld := ⟨Reg.HDMA_RING_DB.addr n, 15, 0⟩
/-- HDMA_RING_PTR n (R90, spec/04_host_interface.md). -/
abbrev Reg.HDMA_RING_PTR.addr (n : Nat) : Nat := 0x301014 + 0x40 * n
abbrev Reg.HDMA_RING_PTR.tail (n : Nat) : Fld := ⟨Reg.HDMA_RING_PTR.addr n, 31, 16⟩
abbrev Reg.HDMA_RING_PTR.head (n : Nat) : Fld := ⟨Reg.HDMA_RING_PTR.addr n, 15, 0⟩
/-- HDMA_RING_STAT n (R90, spec/04_host_interface.md). -/
abbrev Reg.HDMA_RING_STAT.addr (n : Nat) : Nat := 0x301018 + 0x40 * n
abbrev Reg.HDMA_RING_STAT.state (n : Nat) : Fld := ⟨Reg.HDMA_RING_STAT.addr n, 31, 28⟩
abbrev Reg.HDMA_RING_STAT.disable_refused (n : Nat) : Fld := ⟨Reg.HDMA_RING_STAT.addr n, 3, 3⟩
abbrev Reg.HDMA_RING_STAT.db_overrun (n : Nat) : Fld := ⟨Reg.HDMA_RING_STAT.addr n, 2, 2⟩
abbrev Reg.HDMA_RING_STAT.host_err (n : Nat) : Fld := ⟨Reg.HDMA_RING_STAT.addr n, 1, 1⟩
abbrev Reg.HDMA_RING_STAT.desc_err (n : Nat) : Fld := ⟨Reg.HDMA_RING_STAT.addr n, 0, 0⟩
/-- HDMA_RING_SEQ n (R90, spec/04_host_interface.md). -/
abbrev Reg.HDMA_RING_SEQ.addr (n : Nat) : Nat := 0x30101C + 0x40 * n
abbrev Reg.HDMA_RING_SEQ.seq (n : Nat) : Fld := ⟨Reg.HDMA_RING_SEQ.addr n, 31, 0⟩
/-- HDMA_EVR_LOST n (R90, spec/04_host_interface.md). -/
abbrev Reg.HDMA_EVR_LOST.addr (n : Nat) : Nat := 0x301020 + 0x40 * n
abbrev Reg.HDMA_EVR_LOST.lost (n : Nat) : Fld := ⟨Reg.HDMA_EVR_LOST.addr n, 31, 0⟩
/-- SEQ_STAT (R119, spec/05_job_programs.md). -/
abbrev Reg.SEQ_STAT.addr : Nat := 0x400000
abbrev Reg.SEQ_STAT.tail_mask : Fld := ⟨Reg.SEQ_STAT.addr, 23, 16⟩
abbrev Reg.SEQ_STAT.held_mask : Fld := ⟨Reg.SEQ_STAT.addr, 15, 8⟩
abbrev Reg.SEQ_STAT.busy_mask : Fld := ⟨Reg.SEQ_STAT.addr, 7, 0⟩
/-- SEQ_BAND (R119, spec/05_job_programs.md). -/
abbrev Reg.SEQ_BAND.addr : Nat := 0x400004
abbrev Reg.SEQ_BAND.valid : Fld := ⟨Reg.SEQ_BAND.addr, 31, 31⟩
abbrev Reg.SEQ_BAND.band : Fld := ⟨Reg.SEQ_BAND.addr, 25, 0⟩
/-- SEQ_PAGE (R119, spec/05_job_programs.md). -/
abbrev Reg.SEQ_PAGE.addr : Nat := 0x400008
abbrev Reg.SEQ_PAGE.page : Fld := ⟨Reg.SEQ_PAGE.addr, 31, 0⟩
/-- SEQ_SYNC_INC (R119, spec/05_job_programs.md). -/
abbrev Reg.SEQ_SYNC_INC.addr : Nat := 0x400080
abbrev Reg.SEQ_SYNC_INC.counter : Fld := ⟨Reg.SEQ_SYNC_INC.addr, 20, 16⟩
abbrev Reg.SEQ_SYNC_INC.amount : Fld := ⟨Reg.SEQ_SYNC_INC.addr, 15, 0⟩
/-- SEQ_SYNC n (R119, spec/05_job_programs.md). -/
abbrev Reg.SEQ_SYNC.addr (n : Nat) : Nat := 0x400100 + 0x4 * n
abbrev Reg.SEQ_SYNC.count (n : Nat) : Fld := ⟨Reg.SEQ_SYNC.addr n, 31, 0⟩
/-- SEQ_CTX_STAT n (R119, spec/05_job_programs.md). -/
abbrev Reg.SEQ_CTX_STAT.addr (n : Nat) : Nat := 0x401000 + 0x40 * n
abbrev Reg.SEQ_CTX_STAT.state (n : Nat) : Fld := ⟨Reg.SEQ_CTX_STAT.addr n, 31, 28⟩
abbrev Reg.SEQ_CTX_STAT.depth (n : Nat) : Fld := ⟨Reg.SEQ_CTX_STAT.addr n, 27, 24⟩
abbrev Reg.SEQ_CTX_STAT.in_job (n : Nat) : Fld := ⟨Reg.SEQ_CTX_STAT.addr n, 23, 23⟩
abbrev Reg.SEQ_CTX_STAT.in_page (n : Nat) : Fld := ⟨Reg.SEQ_CTX_STAT.addr n, 22, 22⟩
abbrev Reg.SEQ_CTX_STAT.boot (n : Nat) : Fld := ⟨Reg.SEQ_CTX_STAT.addr n, 21, 21⟩
abbrev Reg.SEQ_CTX_STAT.last_err (n : Nat) : Fld := ⟨Reg.SEQ_CTX_STAT.addr n, 15, 8⟩
/-- SEQ_CTX_PC_LO n (R119, spec/05_job_programs.md). -/
abbrev Reg.SEQ_CTX_PC_LO.addr (n : Nat) : Nat := 0x401004 + 0x40 * n
abbrev Reg.SEQ_CTX_PC_LO.pc_lo (n : Nat) : Fld := ⟨Reg.SEQ_CTX_PC_LO.addr n, 31, 0⟩
/-- SEQ_CTX_PC_HI n (R119, spec/05_job_programs.md). -/
abbrev Reg.SEQ_CTX_PC_HI.addr (n : Nat) : Nat := 0x401008 + 0x40 * n
abbrev Reg.SEQ_CTX_PC_HI.pc_hi (n : Nat) : Fld := ⟨Reg.SEQ_CTX_PC_HI.addr n, 7, 0⟩
/-- SEQ_CTX_GEN n (R119, spec/05_job_programs.md). -/
abbrev Reg.SEQ_CTX_GEN.addr (n : Nat) : Nat := 0x40100C + 0x40 * n
abbrev Reg.SEQ_CTX_GEN.gen (n : Nat) : Fld := ⟨Reg.SEQ_CTX_GEN.addr n, 15, 0⟩
/-- SEQ_CTX_JOB n (R119, spec/05_job_programs.md). -/
abbrev Reg.SEQ_CTX_JOB.addr (n : Nat) : Nat := 0x401010 + 0x40 * n
abbrev Reg.SEQ_CTX_JOB.job_id (n : Nat) : Fld := ⟨Reg.SEQ_CTX_JOB.addr n, 31, 0⟩
/-- SEQ_CTX_DB n (R119, spec/05_job_programs.md). -/
abbrev Reg.SEQ_CTX_DB.addr (n : Nat) : Nat := 0x401014 + 0x40 * n
abbrev Reg.SEQ_CTX_DB.nudge (n : Nat) : Fld := ⟨Reg.SEQ_CTX_DB.addr n, 31, 0⟩
/-- SEQ_CTX_CMDS n (R119, spec/05_job_programs.md). -/
abbrev Reg.SEQ_CTX_CMDS.addr (n : Nat) : Nat := 0x401018 + 0x40 * n
abbrev Reg.SEQ_CTX_CMDS.count (n : Nat) : Fld := ⟨Reg.SEQ_CTX_CMDS.addr n, 31, 0⟩
/-- RUN_DEC_STAT (R144, spec/06_tile_codec.md). -/
abbrev Reg.RUN_DEC_STAT.addr : Nat := 0x500000
abbrev Reg.RUN_DEC_STAT.active : Fld := ⟨Reg.RUN_DEC_STAT.addr, 25, 0⟩
/-- RUN_DEC_RETIRED (R144, spec/06_tile_codec.md). -/
abbrev Reg.RUN_DEC_RETIRED.addr : Nat := 0x500004
abbrev Reg.RUN_DEC_RETIRED.retired : Fld := ⟨Reg.RUN_DEC_RETIRED.addr, 25, 0⟩
/-- RUN_ENC_STAT (R144, spec/06_tile_codec.md). -/
abbrev Reg.RUN_ENC_STAT.addr : Nat := 0x500008
abbrev Reg.RUN_ENC_STAT.rejoin : Fld := ⟨Reg.RUN_ENC_STAT.addr, 11, 8⟩
abbrev Reg.RUN_ENC_STAT.retired : Fld := ⟨Reg.RUN_ENC_STAT.addr, 7, 4⟩
abbrev Reg.RUN_ENC_STAT.busy : Fld := ⟨Reg.RUN_ENC_STAT.addr, 3, 0⟩
/-- RUN_CACHE_USED (R144, spec/06_tile_codec.md). -/
abbrev Reg.RUN_CACHE_USED.addr : Nat := 0x500010
abbrev Reg.RUN_CACHE_USED.used : Fld := ⟨Reg.RUN_CACHE_USED.addr, 16, 0⟩
/-- RUN_CACHE_PIN (R144, spec/06_tile_codec.md). -/
abbrev Reg.RUN_CACHE_PIN.addr : Nat := 0x500014
abbrev Reg.RUN_CACHE_PIN.pinned : Fld := ⟨Reg.RUN_CACHE_PIN.addr, 16, 0⟩
/-- RUN_DIR_STAT (R144, spec/06_tile_codec.md). -/
abbrev Reg.RUN_DIR_STAT.addr : Nat := 0x500018
abbrev Reg.RUN_DIR_STAT.defined : Fld := ⟨Reg.RUN_DIR_STAT.addr, 17, 0⟩
/-- RUN_CACHE_CFG (R144, spec/06_tile_codec.md). -/
abbrev Reg.RUN_CACHE_CFG.addr : Nat := 0x500020
abbrev Reg.RUN_CACHE_CFG.pin_limit_mib : Fld := ⟨Reg.RUN_CACHE_CFG.addr, 4, 0⟩
/-- RUN_SPARE_CFG (R144, spec/06_tile_codec.md). -/
abbrev Reg.RUN_SPARE_CFG.addr : Nat := 0x500024
abbrev Reg.RUN_SPARE_CFG.fail_limit : Fld := ⟨Reg.RUN_SPARE_CFG.addr, 3, 0⟩
/-- RUN_PCACHE_CFG (R144, spec/06_tile_codec.md). -/
abbrev Reg.RUN_PCACHE_CFG.addr : Nat := 0x500028
abbrev Reg.RUN_PCACHE_CFG.dyn : Fld := ⟨Reg.RUN_PCACHE_CFG.addr, 8, 8⟩
abbrev Reg.RUN_PCACHE_CFG.depth_m1 : Fld := ⟨Reg.RUN_PCACHE_CFG.addr, 7, 0⟩
/-- RUN_REJOIN_CFG (R144, spec/06_tile_codec.md). -/
abbrev Reg.RUN_REJOIN_CFG.addr : Nat := 0x50002C
abbrev Reg.RUN_REJOIN_CFG.dyn : Fld := ⟨Reg.RUN_REJOIN_CFG.addr, 8, 8⟩
abbrev Reg.RUN_REJOIN_CFG.depth_m1 : Fld := ⟨Reg.RUN_REJOIN_CFG.addr, 7, 0⟩
/-- RUN_CTX_BASE_LO (R144, spec/06_tile_codec.md). -/
abbrev Reg.RUN_CTX_BASE_LO.addr : Nat := 0x500030
abbrev Reg.RUN_CTX_BASE_LO.base_lo : Fld := ⟨Reg.RUN_CTX_BASE_LO.addr, 31, 16⟩
/-- RUN_CTX_BASE_HI (R144, spec/06_tile_codec.md). -/
abbrev Reg.RUN_CTX_BASE_HI.addr : Nat := 0x500034
abbrev Reg.RUN_CTX_BASE_HI.base_hi : Fld := ⟨Reg.RUN_CTX_BASE_HI.addr, 7, 0⟩
/-- RUN_PCACHE_STAT (R144, spec/06_tile_codec.md). -/
abbrev Reg.RUN_PCACHE_STAT.addr : Nat := 0x500040
abbrev Reg.RUN_PCACHE_STAT.committed : Fld := ⟨Reg.RUN_PCACHE_STAT.addr, 31, 31⟩
abbrev Reg.RUN_PCACHE_STAT.overflow : Fld := ⟨Reg.RUN_PCACHE_STAT.addr, 30, 30⟩
abbrev Reg.RUN_PCACHE_STAT.busy : Fld := ⟨Reg.RUN_PCACHE_STAT.addr, 29, 29⟩
abbrev Reg.RUN_PCACHE_STAT.generation : Fld := ⟨Reg.RUN_PCACHE_STAT.addr, 15, 0⟩
/-- RUN_PCACHE_USED (R144, spec/06_tile_codec.md). -/
abbrev Reg.RUN_PCACHE_USED.addr : Nat := 0x500044
abbrev Reg.RUN_PCACHE_USED.used_4k : Fld := ⟨Reg.RUN_PCACHE_USED.addr, 31, 0⟩
/-- RUN_XP_SRC_LO (R144, spec/06_tile_codec.md). -/
abbrev Reg.RUN_XP_SRC_LO.addr : Nat := 0x500050
abbrev Reg.RUN_XP_SRC_LO.addr_lo : Fld := ⟨Reg.RUN_XP_SRC_LO.addr, 31, 0⟩
/-- RUN_XP_SRC_HI (R144, spec/06_tile_codec.md). -/
abbrev Reg.RUN_XP_SRC_HI.addr : Nat := 0x500054
abbrev Reg.RUN_XP_SRC_HI.addr_hi : Fld := ⟨Reg.RUN_XP_SRC_HI.addr, 7, 0⟩
/-- RUN_XP_DST_LO (R144, spec/06_tile_codec.md). -/
abbrev Reg.RUN_XP_DST_LO.addr : Nat := 0x50005C
abbrev Reg.RUN_XP_DST_LO.addr_lo : Fld := ⟨Reg.RUN_XP_DST_LO.addr, 31, 0⟩
/-- RUN_XP_DST_HI (R144, spec/06_tile_codec.md). -/
abbrev Reg.RUN_XP_DST_HI.addr : Nat := 0x500060
abbrev Reg.RUN_XP_DST_HI.addr_hi : Fld := ⟨Reg.RUN_XP_DST_HI.addr, 7, 0⟩
/-- RUN_XP_LEN (R144, spec/06_tile_codec.md). -/
abbrev Reg.RUN_XP_LEN.addr : Nat := 0x500058
abbrev Reg.RUN_XP_LEN.len : Fld := ⟨Reg.RUN_XP_LEN.addr, 31, 0⟩
/-- RUN_XP_DLEN (R144, spec/06_tile_codec.md). -/
abbrev Reg.RUN_XP_DLEN.addr : Nat := 0x500064
abbrev Reg.RUN_XP_DLEN.len : Fld := ⟨Reg.RUN_XP_DLEN.addr, 31, 0⟩
/-- RUN_XP_CMD (R144, spec/06_tile_codec.md). -/
abbrev Reg.RUN_XP_CMD.addr : Nat := 0x500068
abbrev Reg.RUN_XP_CMD.op : Fld := ⟨Reg.RUN_XP_CMD.addr, 17, 16⟩
abbrev Reg.RUN_XP_CMD.dyn : Fld := ⟨Reg.RUN_XP_CMD.addr, 8, 8⟩
abbrev Reg.RUN_XP_CMD.depth_m1 : Fld := ⟨Reg.RUN_XP_CMD.addr, 7, 0⟩
/-- RUN_XP_STAT (R144, spec/06_tile_codec.md). -/
abbrev Reg.RUN_XP_STAT.addr : Nat := 0x50006C
abbrev Reg.RUN_XP_STAT.state : Fld := ⟨Reg.RUN_XP_STAT.addr, 31, 28⟩
abbrev Reg.RUN_XP_STAT.result : Fld := ⟨Reg.RUN_XP_STAT.addr, 27, 24⟩
/-- RUN_XP_OUT (R144, spec/06_tile_codec.md). -/
abbrev Reg.RUN_XP_OUT.addr : Nat := 0x500070
abbrev Reg.RUN_XP_OUT.written : Fld := ⟨Reg.RUN_XP_OUT.addr, 31, 0⟩
/-- RUN_DECODES (R144, spec/06_tile_codec.md). -/
abbrev Reg.RUN_DECODES.addr : Nat := 0x500078
abbrev Reg.RUN_DECODES.count : Fld := ⟨Reg.RUN_DECODES.addr, 31, 0⟩
/-- RUN_RETRIES (R144, spec/06_tile_codec.md). -/
abbrev Reg.RUN_RETRIES.addr : Nat := 0x50007C
abbrev Reg.RUN_RETRIES.count : Fld := ⟨Reg.RUN_RETRIES.addr, 31, 0⟩
/-- CMP_GEOM (R163, spec/07_composition.md). -/
abbrev Reg.CMP_GEOM.addr : Nat := 0x600000
abbrev Reg.CMP_GEOM.c_log2 : Fld := ⟨Reg.CMP_GEOM.addr, 12, 8⟩
abbrev Reg.CMP_GEOM.i_log2 : Fld := ⟨Reg.CMP_GEOM.addr, 5, 4⟩
abbrev Reg.CMP_GEOM.p_log2 : Fld := ⟨Reg.CMP_GEOM.addr, 1, 0⟩
/-- CMP_PAGE_W (R163, spec/07_composition.md). -/
abbrev Reg.CMP_PAGE_W.addr : Nat := 0x600004
abbrev Reg.CMP_PAGE_W.page_w : Fld := ⟨Reg.CMP_PAGE_W.addr, 30, 0⟩
/-- CMP_X_ORIGIN (R163, spec/07_composition.md). -/
abbrev Reg.CMP_X_ORIGIN.addr : Nat := 0x600008
abbrev Reg.CMP_X_ORIGIN.x_origin : Fld := ⟨Reg.CMP_X_ORIGIN.addr, 30, 0⟩
/-- CMP_STAGE_STAT (R163, spec/07_composition.md). -/
abbrev Reg.CMP_STAGE_STAT.addr : Nat := 0x600010
abbrev Reg.CMP_STAGE_STAT.state : Fld := ⟨Reg.CMP_STAGE_STAT.addr, 31, 28⟩
abbrev Reg.CMP_STAGE_STAT.copy : Fld := ⟨Reg.CMP_STAGE_STAT.addr, 27, 27⟩
abbrev Reg.CMP_STAGE_STAT.rec_ovf : Fld := ⟨Reg.CMP_STAGE_STAT.addr, 26, 26⟩
abbrev Reg.CMP_STAGE_STAT.recomposing : Fld := ⟨Reg.CMP_STAGE_STAT.addr, 25, 25⟩
abbrev Reg.CMP_STAGE_STAT.outstanding : Fld := ⟨Reg.CMP_STAGE_STAT.addr, 24, 16⟩
abbrev Reg.CMP_STAGE_STAT.entries : Fld := ⟨Reg.CMP_STAGE_STAT.addr, 14, 0⟩
/-- CMP_COMMITS (R163, spec/07_composition.md). -/
abbrev Reg.CMP_COMMITS.addr : Nat := 0x600014
abbrev Reg.CMP_COMMITS.count : Fld := ⟨Reg.CMP_COMMITS.addr, 31, 0⟩
/-- CMP_DISCARDS (R163, spec/07_composition.md). -/
abbrev Reg.CMP_DISCARDS.addr : Nat := 0x600018
abbrev Reg.CMP_DISCARDS.count : Fld := ⟨Reg.CMP_DISCARDS.addr, 31, 0⟩
/-- CMP_BAND_TOKENS (R163, spec/07_composition.md). -/
abbrev Reg.CMP_BAND_TOKENS.addr : Nat := 0x600020
abbrev Reg.CMP_BAND_TOKENS.tokens : Fld := ⟨Reg.CMP_BAND_TOKENS.addr, 31, 0⟩
/-- CMP_BAND_MAXLANE (R163, spec/07_composition.md). -/
abbrev Reg.CMP_BAND_MAXLANE.addr : Nat := 0x600024
abbrev Reg.CMP_BAND_MAXLANE.lane : Fld := ⟨Reg.CMP_BAND_MAXLANE.addr, 31, 28⟩
abbrev Reg.CMP_BAND_MAXLANE.tokens : Fld := ⟨Reg.CMP_BAND_MAXLANE.addr, 27, 0⟩
/-- CMP_BAND_RECORD (R163, spec/07_composition.md). -/
abbrev Reg.CMP_BAND_RECORD.addr : Nat := 0x600028
abbrev Reg.CMP_BAND_RECORD.overflow : Fld := ⟨Reg.CMP_BAND_RECORD.addr, 31, 31⟩
abbrev Reg.CMP_BAND_RECORD.entries : Fld := ⟨Reg.CMP_BAND_RECORD.addr, 14, 0⟩
/-- CMP_LANE_STAT (R163, spec/07_composition.md). -/
abbrev Reg.CMP_LANE_STAT.addr : Nat := 0x600030
abbrev Reg.CMP_LANE_STAT.retired : Fld := ⟨Reg.CMP_LANE_STAT.addr, 24, 16⟩
abbrev Reg.CMP_LANE_STAT.active : Fld := ⟨Reg.CMP_LANE_STAT.addr, 8, 0⟩
/-- CMP_LANE_MAP (R163, spec/07_composition.md). -/
abbrev Reg.CMP_LANE_MAP.addr : Nat := 0x600034
abbrev Reg.CMP_LANE_MAP.lane_0 : Fld := ⟨Reg.CMP_LANE_MAP.addr, 3, 0⟩
abbrev Reg.CMP_LANE_MAP.lane_1 : Fld := ⟨Reg.CMP_LANE_MAP.addr, 7, 4⟩
abbrev Reg.CMP_LANE_MAP.lane_2 : Fld := ⟨Reg.CMP_LANE_MAP.addr, 11, 8⟩
abbrev Reg.CMP_LANE_MAP.lane_3 : Fld := ⟨Reg.CMP_LANE_MAP.addr, 15, 12⟩
abbrev Reg.CMP_LANE_MAP.lane_4 : Fld := ⟨Reg.CMP_LANE_MAP.addr, 19, 16⟩
abbrev Reg.CMP_LANE_MAP.lane_5 : Fld := ⟨Reg.CMP_LANE_MAP.addr, 23, 20⟩
abbrev Reg.CMP_LANE_MAP.lane_6 : Fld := ⟨Reg.CMP_LANE_MAP.addr, 27, 24⟩
abbrev Reg.CMP_LANE_MAP.lane_7 : Fld := ⟨Reg.CMP_LANE_MAP.addr, 31, 28⟩
/-- CMP_SPARE_CFG (R163, spec/07_composition.md). -/
abbrev Reg.CMP_SPARE_CFG.addr : Nat := 0x600040
abbrev Reg.CMP_SPARE_CFG.fail_limit : Fld := ⟨Reg.CMP_SPARE_CFG.addr, 3, 0⟩
/-- CMP_RECOMP (R163, spec/07_composition.md). -/
abbrev Reg.CMP_RECOMP.addr : Nat := 0x600050
abbrev Reg.CMP_RECOMP.failed : Fld := ⟨Reg.CMP_RECOMP.addr, 31, 16⟩
abbrev Reg.CMP_RECOMP.done : Fld := ⟨Reg.CMP_RECOMP.addr, 15, 0⟩
/-- CMP_TOKENS_LO (R163, spec/07_composition.md). -/
abbrev Reg.CMP_TOKENS_LO.addr : Nat := 0x600060
abbrev Reg.CMP_TOKENS_LO.tokens_lo : Fld := ⟨Reg.CMP_TOKENS_LO.addr, 31, 0⟩
/-- CMP_TOKENS_HI (R163, spec/07_composition.md). -/
abbrev Reg.CMP_TOKENS_HI.addr : Nat := 0x600064
abbrev Reg.CMP_TOKENS_HI.tokens_hi : Fld := ⟨Reg.CMP_TOKENS_HI.addr, 31, 0⟩
/-- CMP_LANE_FAULT n (R163, spec/07_composition.md). -/
abbrev Reg.CMP_LANE_FAULT.addr (n : Nat) : Nat := 0x600100 + 0x4 * n
abbrev Reg.CMP_LANE_FAULT.timeouts (n : Nat) : Fld := ⟨Reg.CMP_LANE_FAULT.addr n, 15, 8⟩
abbrev Reg.CMP_LANE_FAULT.parity (n : Nat) : Fld := ⟨Reg.CMP_LANE_FAULT.addr n, 7, 0⟩
/-- DCR_CFG (R176, spec/08_dose_correction.md). -/
abbrev Reg.DCR_CFG.addr : Nat := 0x700000
abbrev Reg.DCR_CFG.web_carry : Fld := ⟨Reg.DCR_CFG.addr, 2, 2⟩
abbrev Reg.DCR_CFG.keep_white : Fld := ⟨Reg.DCR_CFG.addr, 1, 1⟩
abbrev Reg.DCR_CFG.hide_en : Fld := ⟨Reg.DCR_CFG.addr, 0, 0⟩
/-- DCR_ACTIVE (R176, spec/08_dose_correction.md). -/
abbrev Reg.DCR_ACTIVE.addr : Nat := 0x700010
abbrev Reg.DCR_ACTIVE.version : Fld := ⟨Reg.DCR_ACTIVE.addr, 31, 16⟩
abbrev Reg.DCR_ACTIVE.hide_curve : Fld := ⟨Reg.DCR_ACTIVE.addr, 13, 8⟩
/-- DCR_ACTIVE_COUNT (R176, spec/08_dose_correction.md). -/
abbrev Reg.DCR_ACTIVE_COUNT.addr : Nat := 0x700014
abbrev Reg.DCR_ACTIVE_COUNT.defects : Fld := ⟨Reg.DCR_ACTIVE_COUNT.addr, 18, 0⟩
/-- DCR_UNHIDEABLE (R176, spec/08_dose_correction.md). -/
abbrev Reg.DCR_UNHIDEABLE.addr : Nat := 0x700018
abbrev Reg.DCR_UNHIDEABLE.count : Fld := ⟨Reg.DCR_UNHIDEABLE.addr, 18, 0⟩
/-- DCR_PENDING (R176, spec/08_dose_correction.md). -/
abbrev Reg.DCR_PENDING.addr : Nat := 0x700020
abbrev Reg.DCR_PENDING.valid : Fld := ⟨Reg.DCR_PENDING.addr, 31, 31⟩
abbrev Reg.DCR_PENDING.version : Fld := ⟨Reg.DCR_PENDING.addr, 15, 0⟩
/-- DCR_SHADOW_BASE_LO (R176, spec/08_dose_correction.md). -/
abbrev Reg.DCR_SHADOW_BASE_LO.addr : Nat := 0x700030
abbrev Reg.DCR_SHADOW_BASE_LO.base_lo : Fld := ⟨Reg.DCR_SHADOW_BASE_LO.addr, 31, 20⟩
/-- DCR_SHADOW_BASE_HI (R176, spec/08_dose_correction.md). -/
abbrev Reg.DCR_SHADOW_BASE_HI.addr : Nat := 0x700034
abbrev Reg.DCR_SHADOW_BASE_HI.base_hi : Fld := ⟨Reg.DCR_SHADOW_BASE_HI.addr, 7, 0⟩
/-- DCR_PROBE_SEL (R176, spec/08_dose_correction.md). -/
abbrev Reg.DCR_PROBE_SEL.addr : Nat := 0x700040
abbrev Reg.DCR_PROBE_SEL.element : Fld := ⟨Reg.DCR_PROBE_SEL.addr, 17, 0⟩
/-- DCR_PROBE_DATA (R176, spec/08_dose_correction.md). -/
abbrev Reg.DCR_PROBE_DATA.addr : Nat := 0x700044
abbrev Reg.DCR_PROBE_DATA.defect : Fld := ⟨Reg.DCR_PROBE_DATA.addr, 31, 31⟩
abbrev Reg.DCR_PROBE_DATA.defect_pending : Fld := ⟨Reg.DCR_PROBE_DATA.addr, 30, 30⟩
abbrev Reg.DCR_PROBE_DATA.curve : Fld := ⟨Reg.DCR_PROBE_DATA.addr, 5, 0⟩
/-- DCR_LINES_LO (R176, spec/08_dose_correction.md). -/
abbrev Reg.DCR_LINES_LO.addr : Nat := 0x700050
abbrev Reg.DCR_LINES_LO.lines_lo : Fld := ⟨Reg.DCR_LINES_LO.addr, 31, 0⟩
/-- DCR_LINES_HI (R176, spec/08_dose_correction.md). -/
abbrev Reg.DCR_LINES_HI.addr : Nat := 0x700054
abbrev Reg.DCR_LINES_HI.lines_hi : Fld := ⟨Reg.DCR_LINES_HI.addr, 31, 0⟩
/-- DCR_SAT (R176, spec/08_dose_correction.md). -/
abbrev Reg.DCR_SAT.addr : Nat := 0x700058
abbrev Reg.DCR_SAT.count : Fld := ⟨Reg.DCR_SAT.addr, 31, 0⟩
/-- DCR_LOST (R176, spec/08_dose_correction.md). -/
abbrev Reg.DCR_LOST.addr : Nat := 0x70005C
abbrev Reg.DCR_LOST.count : Fld := ⟨Reg.DCR_LOST.addr, 31, 0⟩
/-- DCR_REPAIRS (R176, spec/08_dose_correction.md). -/
abbrev Reg.DCR_REPAIRS.addr : Nat := 0x700060
abbrev Reg.DCR_REPAIRS.table : Fld := ⟨Reg.DCR_REPAIRS.addr, 31, 16⟩
abbrev Reg.DCR_REPAIRS.carry : Fld := ⟨Reg.DCR_REPAIRS.addr, 15, 0⟩
/-- ASM_CFG (R196, spec/09_line_assembly.md). -/
abbrev Reg.ASM_CFG.addr : Nat := 0x800000
abbrev Reg.ASM_CFG.lookahead : Fld := ⟨Reg.ASM_CFG.addr, 7, 0⟩
/-- ASM_EDGE (R196, spec/09_line_assembly.md). -/
abbrev Reg.ASM_EDGE.addr : Nat := 0x800004
abbrev Reg.ASM_EDGE.right_prof : Fld := ⟨Reg.ASM_EDGE.addr, 26, 25⟩
abbrev Reg.ASM_EDGE.right_w : Fld := ⟨Reg.ASM_EDGE.addr, 24, 16⟩
abbrev Reg.ASM_EDGE.left_prof : Fld := ⟨Reg.ASM_EDGE.addr, 10, 9⟩
abbrev Reg.ASM_EDGE.left_w : Fld := ⟨Reg.ASM_EDGE.addr, 8, 0⟩
/-- ASM_RDS_BASE_LO (R196, spec/09_line_assembly.md). -/
abbrev Reg.ASM_RDS_BASE_LO.addr : Nat := 0x800010
abbrev Reg.ASM_RDS_BASE_LO.base_lo : Fld := ⟨Reg.ASM_RDS_BASE_LO.addr, 31, 26⟩
/-- ASM_RDS_BASE_HI (R196, spec/09_line_assembly.md). -/
abbrev Reg.ASM_RDS_BASE_HI.addr : Nat := 0x800014
abbrev Reg.ASM_RDS_BASE_HI.base_hi : Fld := ⟨Reg.ASM_RDS_BASE_HI.addr, 7, 0⟩
/-- ASM_DLOG_BASE_LO (R196, spec/09_line_assembly.md). -/
abbrev Reg.ASM_DLOG_BASE_LO.addr : Nat := 0x800018
abbrev Reg.ASM_DLOG_BASE_LO.base_lo : Fld := ⟨Reg.ASM_DLOG_BASE_LO.addr, 31, 6⟩
/-- ASM_DLOG_BASE_HI (R196, spec/09_line_assembly.md). -/
abbrev Reg.ASM_DLOG_BASE_HI.addr : Nat := 0x80001C
abbrev Reg.ASM_DLOG_BASE_HI.base_hi : Fld := ⟨Reg.ASM_DLOG_BASE_HI.addr, 7, 0⟩
/-- ASM_DLOG_LEN (R196, spec/09_line_assembly.md). -/
abbrev Reg.ASM_DLOG_LEN.addr : Nat := 0x800020
abbrev Reg.ASM_DLOG_LEN.len : Fld := ⟨Reg.ASM_DLOG_LEN.addr, 31, 0⟩
/-- ASM_DLOG_PTR (R196, spec/09_line_assembly.md). -/
abbrev Reg.ASM_DLOG_PTR.addr : Nat := 0x800024
abbrev Reg.ASM_DLOG_PTR.written : Fld := ⟨Reg.ASM_DLOG_PTR.addr, 31, 0⟩
/-- ASM_STAT (R196, spec/09_line_assembly.md). -/
abbrev Reg.ASM_STAT.addr : Nat := 0x800030
abbrev Reg.ASM_STAT.active : Fld := ⟨Reg.ASM_STAT.addr, 31, 31⟩
abbrev Reg.ASM_STAT.stall : Fld := ⟨Reg.ASM_STAT.addr, 30, 30⟩
abbrev Reg.ASM_STAT.depth : Fld := ⟨Reg.ASM_STAT.addr, 13, 0⟩
/-- ASM_BLANK_LATE (R196, spec/09_line_assembly.md). -/
abbrev Reg.ASM_BLANK_LATE.addr : Nat := 0x800040
abbrev Reg.ASM_BLANK_LATE.count : Fld := ⟨Reg.ASM_BLANK_LATE.addr, 31, 0⟩
/-- ASM_BLANK_MEM (R196, spec/09_line_assembly.md). -/
abbrev Reg.ASM_BLANK_MEM.addr : Nat := 0x800044
abbrev Reg.ASM_BLANK_MEM.count : Fld := ⟨Reg.ASM_BLANK_MEM.addr, 31, 0⟩
/-- ASM_RECOMP (R196, spec/09_line_assembly.md). -/
abbrev Reg.ASM_RECOMP.addr : Nat := 0x800048
abbrev Reg.ASM_RECOMP.lost : Fld := ⟨Reg.ASM_RECOMP.addr, 31, 16⟩
abbrev Reg.ASM_RECOMP.done : Fld := ⟨Reg.ASM_RECOMP.addr, 15, 0⟩
/-- ASM_PORT_COL n (R196, spec/09_line_assembly.md). -/
abbrev Reg.ASM_PORT_COL.addr (n : Nat) : Nat := 0x801000 + 0x20 * n
abbrev Reg.ASM_PORT_COL.col_shift (n : Nat) : Fld := ⟨Reg.ASM_PORT_COL.addr n, 17, 0⟩
/-- ASM_PORT_CFG n (R196, spec/09_line_assembly.md). -/
abbrev Reg.ASM_PORT_CFG.addr (n : Nat) : Nat := 0x801004 + 0x20 * n
abbrev Reg.ASM_PORT_CFG.elems_m1 (n : Nat) : Fld := ⟨Reg.ASM_PORT_CFG.addr n, 28, 16⟩
abbrev Reg.ASM_PORT_CFG.mirror (n : Nat) : Fld := ⟨Reg.ASM_PORT_CFG.addr n, 15, 15⟩
abbrev Reg.ASM_PORT_CFG.join_prof (n : Nat) : Fld := ⟨Reg.ASM_PORT_CFG.addr n, 13, 12⟩
abbrev Reg.ASM_PORT_CFG.offset (n : Nat) : Fld := ⟨Reg.ASM_PORT_CFG.addr n, 11, 0⟩
/-- ASM_PORT_DIG_LO n (R196, spec/09_line_assembly.md). -/
abbrev Reg.ASM_PORT_DIG_LO.addr (n : Nat) : Nat := 0x801008 + 0x20 * n
abbrev Reg.ASM_PORT_DIG_LO.line (n : Nat) : Fld := ⟨Reg.ASM_PORT_DIG_LO.addr n, 31, 0⟩
/-- ASM_PORT_DIG_HI n (R196, spec/09_line_assembly.md). -/
abbrev Reg.ASM_PORT_DIG_HI.addr (n : Nat) : Nat := 0x80100C + 0x20 * n
abbrev Reg.ASM_PORT_DIG_HI.digest (n : Nat) : Fld := ⟨Reg.ASM_PORT_DIG_HI.addr n, 31, 0⟩
/-- ASM_PORT_STAT n (R196, spec/09_line_assembly.md). -/
abbrev Reg.ASM_PORT_STAT.addr (n : Nat) : Nat := 0x801010 + 0x20 * n
abbrev Reg.ASM_PORT_STAT.in_run (n : Nat) : Fld := ⟨Reg.ASM_PORT_STAT.addr n, 8, 8⟩
abbrev Reg.ASM_PORT_STAT.fill (n : Nat) : Fld := ⟨Reg.ASM_PORT_STAT.addr n, 4, 0⟩
/-- NRG_CFG (R211, spec/10_energy_control.md). -/
abbrev Reg.NRG_CFG.addr : Nat := 0x900000
abbrev Reg.NRG_CFG.stale_ms : Fld := ⟨Reg.NRG_CFG.addr, 23, 16⟩
abbrev Reg.NRG_CFG.init_band : Fld := ⟨Reg.NRG_CFG.addr, 13, 12⟩
abbrev Reg.NRG_CFG.tband_en : Fld := ⟨Reg.NRG_CFG.addr, 8, 8⟩
abbrev Reg.NRG_CFG.k_m1 : Fld := ⟨Reg.NRG_CFG.addr, 5, 4⟩
abbrev Reg.NRG_CFG.mode : Fld := ⟨Reg.NRG_CFG.addr, 1, 0⟩
/-- NRG_TBAND_LIM0 (R211, spec/10_energy_control.md). -/
abbrev Reg.NRG_TBAND_LIM0.addr : Nat := 0x900004
abbrev Reg.NRG_TBAND_LIM0.up2 : Fld := ⟨Reg.NRG_TBAND_LIM0.addr, 27, 16⟩
abbrev Reg.NRG_TBAND_LIM0.up1 : Fld := ⟨Reg.NRG_TBAND_LIM0.addr, 11, 0⟩
/-- NRG_TBAND_LIM1 (R211, spec/10_energy_control.md). -/
abbrev Reg.NRG_TBAND_LIM1.addr : Nat := 0x900008
abbrev Reg.NRG_TBAND_LIM1.hyst : Fld := ⟨Reg.NRG_TBAND_LIM1.addr, 23, 16⟩
abbrev Reg.NRG_TBAND_LIM1.up3 : Fld := ⟨Reg.NRG_TBAND_LIM1.addr, 11, 0⟩
/-- NRG_TBAND_LO (R211, spec/10_energy_control.md). -/
abbrev Reg.NRG_TBAND_LO.addr : Nat := 0x900010
abbrev Reg.NRG_TBAND_LO.bands : Fld := ⟨Reg.NRG_TBAND_LO.addr, 31, 0⟩
/-- NRG_TBAND_HI (R211, spec/10_energy_control.md). -/
abbrev Reg.NRG_TBAND_HI.addr : Nat := 0x900014
abbrev Reg.NRG_TBAND_HI.bands : Fld := ⟨Reg.NRG_TBAND_HI.addr, 31, 0⟩
/-- NRG_TBAND_WHERE_LO (R211, spec/10_energy_control.md). -/
abbrev Reg.NRG_TBAND_WHERE_LO.addr : Nat := 0x900018
abbrev Reg.NRG_TBAND_WHERE_LO.page : Fld := ⟨Reg.NRG_TBAND_WHERE_LO.addr, 31, 0⟩
/-- NRG_TBAND_WHERE_HI (R211, spec/10_energy_control.md). -/
abbrev Reg.NRG_TBAND_WHERE_HI.addr : Nat := 0x90001C
abbrev Reg.NRG_TBAND_WHERE_HI.band : Fld := ⟨Reg.NRG_TBAND_WHERE_HI.addr, 25, 0⟩
/-- NRG_STALE (R211, spec/10_energy_control.md). -/
abbrev Reg.NRG_STALE.addr : Nat := 0x900020
abbrev Reg.NRG_STALE.count : Fld := ⟨Reg.NRG_STALE.addr, 31, 0⟩
/-- NRG_PREHEATS_LO (R211, spec/10_energy_control.md). -/
abbrev Reg.NRG_PREHEATS_LO.addr : Nat := 0x900028
abbrev Reg.NRG_PREHEATS_LO.count_lo : Fld := ⟨Reg.NRG_PREHEATS_LO.addr, 31, 0⟩
/-- NRG_PREHEATS_HI (R211, spec/10_energy_control.md). -/
abbrev Reg.NRG_PREHEATS_HI.addr : Nat := 0x90002C
abbrev Reg.NRG_PREHEATS_HI.count_hi : Fld := ⟨Reg.NRG_PREHEATS_HI.addr, 31, 0⟩
/-- NRG_REPAIRS (R211, spec/10_energy_control.md). -/
abbrev Reg.NRG_REPAIRS.addr : Nat := 0x900030
abbrev Reg.NRG_REPAIRS.table : Fld := ⟨Reg.NRG_REPAIRS.addr, 31, 16⟩
abbrev Reg.NRG_REPAIRS.history : Fld := ⟨Reg.NRG_REPAIRS.addr, 15, 0⟩
/-- NRG_PROBE_SEL (R211, spec/10_energy_control.md). -/
abbrev Reg.NRG_PROBE_SEL.addr : Nat := 0x900040
abbrev Reg.NRG_PROBE_SEL.port : Fld := ⟨Reg.NRG_PROBE_SEL.addr, 20, 16⟩
abbrev Reg.NRG_PROBE_SEL.element : Fld := ⟨Reg.NRG_PROBE_SEL.addr, 12, 0⟩
/-- NRG_PROBE_DATA (R211, spec/10_energy_control.md). -/
abbrev Reg.NRG_PROBE_DATA.addr : Nat := 0x900044
abbrev Reg.NRG_PROBE_DATA.valid : Fld := ⟨Reg.NRG_PROBE_DATA.addr, 31, 31⟩
abbrev Reg.NRG_PROBE_DATA.last_class : Fld := ⟨Reg.NRG_PROBE_DATA.addr, 7, 4⟩
abbrev Reg.NRG_PROBE_DATA.hist : Fld := ⟨Reg.NRG_PROBE_DATA.addr, 3, 0⟩
/-- NRG_PORT_TEMP n (R211, spec/10_energy_control.md). -/
abbrev Reg.NRG_PORT_TEMP.addr (n : Nat) : Nat := 0x901000 + 0x10 * n
abbrev Reg.NRG_PORT_TEMP.valid (n : Nat) : Fld := ⟨Reg.NRG_PORT_TEMP.addr n, 31, 31⟩
abbrev Reg.NRG_PORT_TEMP.stale (n : Nat) : Fld := ⟨Reg.NRG_PORT_TEMP.addr n, 30, 30⟩
abbrev Reg.NRG_PORT_TEMP.age_ms (n : Nat) : Fld := ⟨Reg.NRG_PORT_TEMP.addr n, 23, 16⟩
abbrev Reg.NRG_PORT_TEMP.temp (n : Nat) : Fld := ⟨Reg.NRG_PORT_TEMP.addr n, 11, 0⟩
/-- PAC_CFG (R236, spec/11_line_pacing.md). -/
abbrev Reg.PAC_CFG.addr : Nat := 0xA00000
abbrev Reg.PAC_CFG.trg : Fld := ⟨Reg.PAC_CFG.addr, 11, 8⟩
abbrev Reg.PAC_CFG.interp_en : Fld := ⟨Reg.PAC_CFG.addr, 7, 7⟩
abbrev Reg.PAC_CFG.invert : Fld := ⟨Reg.PAC_CFG.addr, 6, 6⟩
abbrev Reg.PAC_CFG.line_src : Fld := ⟨Reg.PAC_CFG.addr, 5, 4⟩
abbrev Reg.PAC_CFG.print_mode : Fld := ⟨Reg.PAC_CFG.addr, 1, 0⟩
/-- PAC_ENC_CFG_A (R236, spec/11_line_pacing.md). -/
abbrev Reg.PAC_ENC_CFG_A.addr : Nat := 0xA00004
abbrev Reg.PAC_ENC_CFG_A.idx_n : Fld := ⟨Reg.PAC_ENC_CFG_A.addr, 23, 18⟩
abbrev Reg.PAC_ENC_CFG_A.filt_n : Fld := ⟨Reg.PAC_ENC_CFG_A.addr, 17, 12⟩
abbrev Reg.PAC_ENC_CFG_A.idx_pol : Fld := ⟨Reg.PAC_ENC_CFG_A.addr, 4, 4⟩
abbrev Reg.PAC_ENC_CFG_A.dir_pol : Fld := ⟨Reg.PAC_ENC_CFG_A.addr, 3, 3⟩
abbrev Reg.PAC_ENC_CFG_A.step_pol : Fld := ⟨Reg.PAC_ENC_CFG_A.addr, 2, 2⟩
abbrev Reg.PAC_ENC_CFG_A.format : Fld := ⟨Reg.PAC_ENC_CFG_A.addr, 0, 0⟩
/-- PAC_ENC_CFG_B (R236, spec/11_line_pacing.md). -/
abbrev Reg.PAC_ENC_CFG_B.addr : Nat := 0xA00008
abbrev Reg.PAC_ENC_CFG_B.idx_n : Fld := ⟨Reg.PAC_ENC_CFG_B.addr, 23, 18⟩
abbrev Reg.PAC_ENC_CFG_B.filt_n : Fld := ⟨Reg.PAC_ENC_CFG_B.addr, 17, 12⟩
abbrev Reg.PAC_ENC_CFG_B.idx_pol : Fld := ⟨Reg.PAC_ENC_CFG_B.addr, 4, 4⟩
abbrev Reg.PAC_ENC_CFG_B.dir_pol : Fld := ⟨Reg.PAC_ENC_CFG_B.addr, 3, 3⟩
abbrev Reg.PAC_ENC_CFG_B.step_pol : Fld := ⟨Reg.PAC_ENC_CFG_B.addr, 2, 2⟩
abbrev Reg.PAC_ENC_CFG_B.format : Fld := ⟨Reg.PAC_ENC_CFG_B.addr, 0, 0⟩
/-- PAC_LINE_NUM (R236, spec/11_line_pacing.md). -/
abbrev Reg.PAC_LINE_NUM.addr : Nat := 0xA0000C
abbrev Reg.PAC_LINE_NUM.value : Fld := ⟨Reg.PAC_LINE_NUM.addr, 23, 0⟩
/-- PAC_LINE_DEN (R236, spec/11_line_pacing.md). -/
abbrev Reg.PAC_LINE_DEN.addr : Nat := 0xA00010
abbrev Reg.PAC_LINE_DEN.value : Fld := ⟨Reg.PAC_LINE_DEN.addr, 23, 0⟩
/-- PAC_FIRE_DLY (R236, spec/11_line_pacing.md). -/
abbrev Reg.PAC_FIRE_DLY.addr : Nat := 0xA00014
abbrev Reg.PAC_FIRE_DLY.interp_cap_ns : Fld := ⟨Reg.PAC_FIRE_DLY.addr, 31, 16⟩
abbrev Reg.PAC_FIRE_DLY.fire_dly_ns : Fld := ⟨Reg.PAC_FIRE_DLY.addr, 15, 0⟩
/-- PAC_RECOVERY (R236, spec/11_line_pacing.md). -/
abbrev Reg.PAC_RECOVERY.addr : Nat := 0xA00018
abbrev Reg.PAC_RECOVERY.rec_ns : Fld := ⟨Reg.PAC_RECOVERY.addr, 19, 0⟩
/-- PAC_GOV (R236, spec/11_line_pacing.md). -/
abbrev Reg.PAC_GOV.addr : Nat := 0xA0001C
abbrev Reg.PAC_GOV.hold_lines : Fld := ⟨Reg.PAC_GOV.addr, 23, 16⟩
abbrev Reg.PAC_GOV.gov_pol : Fld := ⟨Reg.PAC_GOV.addr, 15, 15⟩
abbrev Reg.PAC_GOV.rel_pct : Fld := ⟨Reg.PAC_GOV.addr, 14, 8⟩
abbrev Reg.PAC_GOV.thresh_pct : Fld := ⟨Reg.PAC_GOV.addr, 6, 0⟩
/-- PAC_REVERSE (R236, spec/11_line_pacing.md). -/
abbrev Reg.PAC_REVERSE.addr : Nat := 0xA00020
abbrev Reg.PAC_REVERSE.reverse_limit : Fld := ⟨Reg.PAC_REVERSE.addr, 23, 0⟩
/-- PAC_IDX_CFG (R236, spec/11_line_pacing.md). -/
abbrev Reg.PAC_IDX_CFG.addr : Nat := 0xA00024
abbrev Reg.PAC_IDX_CFG.idx_chk_en : Fld := ⟨Reg.PAC_IDX_CFG.addr, 31, 31⟩
abbrev Reg.PAC_IDX_CFG.idx_tol : Fld := ⟨Reg.PAC_IDX_CFG.addr, 30, 24⟩
abbrev Reg.PAC_IDX_CFG.idx_nominal : Fld := ⟨Reg.PAC_IDX_CFG.addr, 23, 0⟩
/-- PAC_DET_CFG (R236, spec/11_line_pacing.md). -/
abbrev Reg.PAC_DET_CFG.addr : Nat := 0xA00028
abbrev Reg.PAC_DET_CFG.lockout : Fld := ⟨Reg.PAC_DET_CFG.addr, 31, 16⟩
abbrev Reg.PAC_DET_CFG.sos_pol : Fld := ⟨Reg.PAC_DET_CFG.addr, 15, 15⟩
abbrev Reg.PAC_DET_CFG.tos_pol : Fld := ⟨Reg.PAC_DET_CFG.addr, 14, 14⟩
abbrev Reg.PAC_DET_CFG.sos_n : Fld := ⟨Reg.PAC_DET_CFG.addr, 13, 8⟩
abbrev Reg.PAC_DET_CFG.tos_n : Fld := ⟨Reg.PAC_DET_CFG.addr, 5, 0⟩
/-- PAC_TOS_OFS (R236, spec/11_line_pacing.md). -/
abbrev Reg.PAC_TOS_OFS.addr : Nat := 0xA0002C
abbrev Reg.PAC_TOS_OFS.offset : Fld := ⟨Reg.PAC_TOS_OFS.addr, 23, 0⟩
/-- PAC_SOS_OFS (R236, spec/11_line_pacing.md). -/
abbrev Reg.PAC_SOS_OFS.addr : Nat := 0xA00030
abbrev Reg.PAC_SOS_OFS.offset : Fld := ⟨Reg.PAC_SOS_OFS.addr, 23, 0⟩
/-- PAC_FEED_CFG (R236, spec/11_line_pacing.md). -/
abbrev Reg.PAC_FEED_CFG.addr : Nat := 0xA00034
abbrev Reg.PAC_FEED_CFG.scale_q8 : Fld := ⟨Reg.PAC_FEED_CFG.addr, 31, 8⟩
abbrev Reg.PAC_FEED_CFG.src : Fld := ⟨Reg.PAC_FEED_CFG.addr, 3, 3⟩
abbrev Reg.PAC_FEED_CFG.axis : Fld := ⟨Reg.PAC_FEED_CFG.addr, 2, 0⟩
/-- PAC_OUT_CFG_0 (R236, spec/11_line_pacing.md). -/
abbrev Reg.PAC_OUT_CFG_0.addr : Nat := 0xA00040
abbrev Reg.PAC_OUT_CFG_0.pw : Fld := ⟨Reg.PAC_OUT_CFG_0.addr, 15, 8⟩
abbrev Reg.PAC_OUT_CFG_0.fmt : Fld := ⟨Reg.PAC_OUT_CFG_0.addr, 5, 5⟩
abbrev Reg.PAC_OUT_CFG_0.src : Fld := ⟨Reg.PAC_OUT_CFG_0.addr, 4, 4⟩
abbrev Reg.PAC_OUT_CFG_0.mode : Fld := ⟨Reg.PAC_OUT_CFG_0.addr, 1, 0⟩
/-- PAC_OUT_CFG_1 (R236, spec/11_line_pacing.md). -/
abbrev Reg.PAC_OUT_CFG_1.addr : Nat := 0xA00044
abbrev Reg.PAC_OUT_CFG_1.pw : Fld := ⟨Reg.PAC_OUT_CFG_1.addr, 15, 8⟩
abbrev Reg.PAC_OUT_CFG_1.fmt : Fld := ⟨Reg.PAC_OUT_CFG_1.addr, 5, 5⟩
abbrev Reg.PAC_OUT_CFG_1.src : Fld := ⟨Reg.PAC_OUT_CFG_1.addr, 4, 4⟩
abbrev Reg.PAC_OUT_CFG_1.mode : Fld := ⟨Reg.PAC_OUT_CFG_1.addr, 1, 0⟩
/-- PAC_OUT_DIV_0 (R236, spec/11_line_pacing.md). -/
abbrev Reg.PAC_OUT_DIV_0.addr : Nat := 0xA00048
abbrev Reg.PAC_OUT_DIV_0.div_m : Fld := ⟨Reg.PAC_OUT_DIV_0.addr, 31, 16⟩
abbrev Reg.PAC_OUT_DIV_0.div_n : Fld := ⟨Reg.PAC_OUT_DIV_0.addr, 15, 0⟩
/-- PAC_OUT_DIV_1 (R236, spec/11_line_pacing.md). -/
abbrev Reg.PAC_OUT_DIV_1.addr : Nat := 0xA0004C
abbrev Reg.PAC_OUT_DIV_1.div_m : Fld := ⟨Reg.PAC_OUT_DIV_1.addr, 31, 16⟩
abbrev Reg.PAC_OUT_DIV_1.div_n : Fld := ⟨Reg.PAC_OUT_DIV_1.addr, 15, 0⟩
/-- PAC_STAT (R236, spec/11_line_pacing.md). -/
abbrev Reg.PAC_STAT.addr : Nat := 0xA00100
abbrev Reg.PAC_STAT.gov : Fld := ⟨Reg.PAC_STAT.addr, 31, 31⟩
abbrev Reg.PAC_STAT.reverse_fault : Fld := ⟨Reg.PAC_STAT.addr, 30, 30⟩
abbrev Reg.PAC_STAT.dir_rev : Fld := ⟨Reg.PAC_STAT.addr, 29, 29⟩
abbrev Reg.PAC_STAT.armed : Fld := ⟨Reg.PAC_STAT.addr, 28, 28⟩
abbrev Reg.PAC_STAT.state : Fld := ⟨Reg.PAC_STAT.addr, 27, 24⟩
/-- PAC_LINE_Z (R236, spec/11_line_pacing.md). -/
abbrev Reg.PAC_LINE_Z.addr : Nat := 0xA00104
abbrev Reg.PAC_LINE_Z.z : Fld := ⟨Reg.PAC_LINE_Z.addr, 31, 0⟩
/-- PAC_PERIOD (R236, spec/11_line_pacing.md). -/
abbrev Reg.PAC_PERIOD.addr : Nat := 0xA00108
abbrev Reg.PAC_PERIOD.t_ns : Fld := ⟨Reg.PAC_PERIOD.addr, 31, 0⟩
/-- PAC_POS_A_LO (R236, spec/11_line_pacing.md). -/
abbrev Reg.PAC_POS_A_LO.addr : Nat := 0xA00110
abbrev Reg.PAC_POS_A_LO.pos_lo : Fld := ⟨Reg.PAC_POS_A_LO.addr, 31, 0⟩
/-- PAC_POS_A_HI (R236, spec/11_line_pacing.md). -/
abbrev Reg.PAC_POS_A_HI.addr : Nat := 0xA00114
abbrev Reg.PAC_POS_A_HI.pos_hi : Fld := ⟨Reg.PAC_POS_A_HI.addr, 15, 0⟩
/-- PAC_POS_B_LO (R236, spec/11_line_pacing.md). -/
abbrev Reg.PAC_POS_B_LO.addr : Nat := 0xA00118
abbrev Reg.PAC_POS_B_LO.pos_lo : Fld := ⟨Reg.PAC_POS_B_LO.addr, 31, 0⟩
/-- PAC_POS_B_HI (R236, spec/11_line_pacing.md). -/
abbrev Reg.PAC_POS_B_HI.addr : Nat := 0xA0011C
abbrev Reg.PAC_POS_B_HI.pos_hi : Fld := ⟨Reg.PAC_POS_B_HI.addr, 15, 0⟩
/-- PAC_HWM_LO (R236, spec/11_line_pacing.md). -/
abbrev Reg.PAC_HWM_LO.addr : Nat := 0xA00120
abbrev Reg.PAC_HWM_LO.pos_lo : Fld := ⟨Reg.PAC_HWM_LO.addr, 31, 0⟩
/-- PAC_HWM_HI (R236, spec/11_line_pacing.md). -/
abbrev Reg.PAC_HWM_HI.addr : Nat := 0xA00124
abbrev Reg.PAC_HWM_HI.pos_hi : Fld := ⟨Reg.PAC_HWM_HI.addr, 15, 0⟩
/-- PAC_BLANK_OVS (R236, spec/11_line_pacing.md). -/
abbrev Reg.PAC_BLANK_OVS.addr : Nat := 0xA00130
abbrev Reg.PAC_BLANK_OVS.count : Fld := ⟨Reg.PAC_BLANK_OVS.addr, 31, 0⟩
/-- PAC_IDX_STAT (R236, spec/11_line_pacing.md). -/
abbrev Reg.PAC_IDX_STAT.addr : Nat := 0xA00134
abbrev Reg.PAC_IDX_STAT.errors : Fld := ⟨Reg.PAC_IDX_STAT.addr, 31, 24⟩
abbrev Reg.PAC_IDX_STAT.distance : Fld := ⟨Reg.PAC_IDX_STAT.addr, 23, 0⟩
/-- PAC_DET_STAT (R236, spec/11_line_pacing.md). -/
abbrev Reg.PAC_DET_STAT.addr : Nat := 0xA00138
abbrev Reg.PAC_DET_STAT.tos_early : Fld := ⟨Reg.PAC_DET_STAT.addr, 31, 24⟩
abbrev Reg.PAC_DET_STAT.unused : Fld := ⟨Reg.PAC_DET_STAT.addr, 23, 16⟩
abbrev Reg.PAC_DET_STAT.sos_ignored : Fld := ⟨Reg.PAC_DET_STAT.addr, 15, 8⟩
abbrev Reg.PAC_DET_STAT.pending : Fld := ⟨Reg.PAC_DET_STAT.addr, 3, 0⟩
/-- PAC_PASS_STAT (R236, spec/11_line_pacing.md). -/
abbrev Reg.PAC_PASS_STAT.addr : Nat := 0xA0013C
abbrev Reg.PAC_PASS_STAT.feed : Fld := ⟨Reg.PAC_PASS_STAT.addr, 31, 30⟩
abbrev Reg.PAC_PASS_STAT.entry : Fld := ⟨Reg.PAC_PASS_STAT.addr, 21, 16⟩
abbrev Reg.PAC_PASS_STAT.feed_lines : Fld := ⟨Reg.PAC_PASS_STAT.addr, 15, 0⟩
/-- HLK_PORT_EN (R259, spec/12_head_link.md). -/
abbrev Reg.HLK_PORT_EN.addr : Nat := 0xB00000
abbrev Reg.HLK_PORT_EN.en : Fld := ⟨Reg.HLK_PORT_EN.addr, 31, 0⟩
/-- HLK_TIMING (R259, spec/12_head_link.md). -/
abbrev Reg.HLK_TIMING.addr : Nat := 0xB00004
abbrev Reg.HLK_TIMING.retry_ms : Fld := ⟨Reg.HLK_TIMING.addr, 23, 16⟩
abbrev Reg.HLK_TIMING.temp_100us : Fld := ⟨Reg.HLK_TIMING.addr, 15, 8⟩
abbrev Reg.HLK_TIMING.ack_tmo_us : Fld := ⟨Reg.HLK_TIMING.addr, 7, 0⟩
/-- HLK_HEAD_ID (R259, spec/12_head_link.md). -/
abbrev Reg.HLK_HEAD_ID.addr : Nat := 0xB00008
abbrev Reg.HLK_HEAD_ID.value : Fld := ⟨Reg.HLK_HEAD_ID.addr, 31, 0⟩
/-- HLK_HEAD_MASK (R259, spec/12_head_link.md). -/
abbrev Reg.HLK_HEAD_MASK.addr : Nat := 0xB0000C
abbrev Reg.HLK_HEAD_MASK.value : Fld := ⟨Reg.HLK_HEAD_MASK.addr, 31, 0⟩
/-- HLK_KEEPWET (R259, spec/12_head_link.md). -/
abbrev Reg.HLK_KEEPWET.addr : Nat := 0xB00010
abbrev Reg.HLK_KEEPWET.period_us : Fld := ⟨Reg.HLK_KEEPWET.addr, 31, 16⟩
abbrev Reg.HLK_KEEPWET.class_ : Fld := ⟨Reg.HLK_KEEPWET.addr, 15, 12⟩
abbrev Reg.HLK_KEEPWET.count : Fld := ⟨Reg.HLK_KEEPWET.addr, 11, 0⟩
/-- HLK_UP (R259, spec/12_head_link.md). -/
abbrev Reg.HLK_UP.addr : Nat := 0xB00020
abbrev Reg.HLK_UP.up : Fld := ⟨Reg.HLK_UP.addr, 31, 0⟩
/-- HLK_SPIT_BUSY (R259, spec/12_head_link.md). -/
abbrev Reg.HLK_SPIT_BUSY.addr : Nat := 0xB00024
abbrev Reg.HLK_SPIT_BUSY.busy : Fld := ⟨Reg.HLK_SPIT_BUSY.addr, 31, 0⟩
/-- HLK_SPIT_FAIL (R259, spec/12_head_link.md). -/
abbrev Reg.HLK_SPIT_FAIL.addr : Nat := 0xB00028
abbrev Reg.HLK_SPIT_FAIL.fail : Fld := ⟨Reg.HLK_SPIT_FAIL.addr, 31, 0⟩
/-- HLK_PORT_CFG n (R259, spec/12_head_link.md). -/
abbrev Reg.HLK_PORT_CFG.addr (n : Nat) : Nat := 0xB01000 + 0x40 * n
abbrev Reg.HLK_PORT_CFG.input (n : Nat) : Fld := ⟨Reg.HLK_PORT_CFG.addr n, 16, 16⟩
abbrev Reg.HLK_PORT_CFG.skew_ps (n : Nat) : Fld := ⟨Reg.HLK_PORT_CFG.addr n, 15, 0⟩
/-- HLK_PORT_STAT n (R259, spec/12_head_link.md). -/
abbrev Reg.HLK_PORT_STAT.addr (n : Nat) : Nat := 0xB01004 + 0x40 * n
abbrev Reg.HLK_PORT_STAT.state (n : Nat) : Fld := ⟨Reg.HLK_PORT_STAT.addr n, 31, 28⟩
abbrev Reg.HLK_PORT_STAT.cause (n : Nat) : Fld := ⟨Reg.HLK_PORT_STAT.addr n, 27, 24⟩
abbrev Reg.HLK_PORT_STAT.active (n : Nat) : Fld := ⟨Reg.HLK_PORT_STAT.addr n, 8, 8⟩
abbrev Reg.HLK_PORT_STAT.retries (n : Nat) : Fld := ⟨Reg.HLK_PORT_STAT.addr n, 7, 0⟩
/-- HLK_PORT_CTL n (R259, spec/12_head_link.md). -/
abbrev Reg.HLK_PORT_CTL.addr (n : Nat) : Nat := 0xB01008 + 0x40 * n
abbrev Reg.HLK_PORT_CTL.retrain (n : Nat) : Fld := ⟨Reg.HLK_PORT_CTL.addr n, 0, 0⟩
/-- HLK_PORT_CAP0 n (R259, spec/12_head_link.md). -/
abbrev Reg.HLK_PORT_CAP0.addr (n : Nat) : Nat := 0xB0100C + 0x40 * n
abbrev Reg.HLK_PORT_CAP0.head_id (n : Nat) : Fld := ⟨Reg.HLK_PORT_CAP0.addr n, 31, 0⟩
/-- HLK_PORT_CAP1 n (R259, spec/12_head_link.md). -/
abbrev Reg.HLK_PORT_CAP1.addr (n : Nat) : Nat := 0xB01010 + 0x40 * n
abbrev Reg.HLK_PORT_CAP1.serial (n : Nat) : Fld := ⟨Reg.HLK_PORT_CAP1.addr n, 31, 0⟩
/-- HLK_PORT_CAP2 n (R259, spec/12_head_link.md). -/
abbrev Reg.HLK_PORT_CAP2.addr (n : Nat) : Nat := 0xB01014 + 0x40 * n
abbrev Reg.HLK_PORT_CAP2.version (n : Nat) : Fld := ⟨Reg.HLK_PORT_CAP2.addr n, 31, 24⟩
abbrev Reg.HLK_PORT_CAP2.elems_m1 (n : Nat) : Fld := ⟨Reg.HLK_PORT_CAP2.addr n, 23, 16⟩
abbrev Reg.HLK_PORT_CAP2.buf_lines (n : Nat) : Fld := ⟨Reg.HLK_PORT_CAP2.addr n, 15, 8⟩
abbrev Reg.HLK_PORT_CAP2.inputs (n : Nat) : Fld := ⟨Reg.HLK_PORT_CAP2.addr n, 7, 4⟩
abbrev Reg.HLK_PORT_CAP2.sensors (n : Nat) : Fld := ⟨Reg.HLK_PORT_CAP2.addr n, 3, 0⟩
/-- HLK_PORT_CAP3 n (R259, spec/12_head_link.md). -/
abbrev Reg.HLK_PORT_CAP3.addr (n : Nat) : Nat := 0xB01018 + 0x40 * n
abbrev Reg.HLK_PORT_CAP3.turn_ns (n : Nat) : Fld := ⟨Reg.HLK_PORT_CAP3.addr n, 31, 16⟩
abbrev Reg.HLK_PORT_CAP3.lat_ns (n : Nat) : Fld := ⟨Reg.HLK_PORT_CAP3.addr n, 15, 0⟩
/-- HLK_PORT_CAP4 n (R259, spec/12_head_link.md). -/
abbrev Reg.HLK_PORT_CAP4.addr (n : Nat) : Nat := 0xB0101C + 0x40 * n
abbrev Reg.HLK_PORT_CAP4.spacing (n : Nat) : Fld := ⟨Reg.HLK_PORT_CAP4.addr n, 31, 24⟩
abbrev Reg.HLK_PORT_CAP4.groups (n : Nat) : Fld := ⟨Reg.HLK_PORT_CAP4.addr n, 23, 16⟩
abbrev Reg.HLK_PORT_CAP4.chk_ns (n : Nat) : Fld := ⟨Reg.HLK_PORT_CAP4.addr n, 15, 0⟩
/-- HLK_PORT_DELAY n (R259, spec/12_head_link.md). -/
abbrev Reg.HLK_PORT_DELAY.addr (n : Nat) : Nat := 0xB01020 + 0x40 * n
abbrev Reg.HLK_PORT_DELAY.spread (n : Nat) : Fld := ⟨Reg.HLK_PORT_DELAY.addr n, 31, 24⟩
abbrev Reg.HLK_PORT_DELAY.d_out_ps (n : Nat) : Fld := ⟨Reg.HLK_PORT_DELAY.addr n, 23, 0⟩
/-- HLK_PORT_HSTAT n (R259, spec/12_head_link.md). -/
abbrev Reg.HLK_PORT_HSTAT.addr (n : Nat) : Nat := 0xB01024 + 0x40 * n
abbrev Reg.HLK_PORT_HSTAT.status (n : Nat) : Fld := ⟨Reg.HLK_PORT_HSTAT.addr n, 31, 0⟩
/-- HLK_PORT_NAK n (R259, spec/12_head_link.md). -/
abbrev Reg.HLK_PORT_NAK.addr (n : Nat) : Nat := 0xB01028 + 0x40 * n
abbrev Reg.HLK_PORT_NAK.count (n : Nat) : Fld := ⟨Reg.HLK_PORT_NAK.addr n, 31, 0⟩
/-- HLK_PORT_RXERR n (R259, spec/12_head_link.md). -/
abbrev Reg.HLK_PORT_RXERR.addr (n : Nat) : Nat := 0xB0102C + 0x40 * n
abbrev Reg.HLK_PORT_RXERR.records (n : Nat) : Fld := ⟨Reg.HLK_PORT_RXERR.addr n, 31, 16⟩
abbrev Reg.HLK_PORT_RXERR.chars (n : Nat) : Fld := ⟨Reg.HLK_PORT_RXERR.addr n, 15, 0⟩
/-- HLK_PORT_LINES_LO n (R259, spec/12_head_link.md). -/
abbrev Reg.HLK_PORT_LINES_LO.addr (n : Nat) : Nat := 0xB01030 + 0x40 * n
abbrev Reg.HLK_PORT_LINES_LO.lines_lo (n : Nat) : Fld := ⟨Reg.HLK_PORT_LINES_LO.addr n, 31, 0⟩
/-- HLK_PORT_LINES_HI n (R259, spec/12_head_link.md). -/
abbrev Reg.HLK_PORT_LINES_HI.addr (n : Nat) : Nat := 0xB01034 + 0x40 * n
abbrev Reg.HLK_PORT_LINES_HI.lines_hi (n : Nat) : Fld := ⟨Reg.HLK_PORT_LINES_HI.addr n, 31, 0⟩
/-- MSR_CFG (R278, spec/13_head_measurement.md). -/
abbrev Reg.MSR_CFG.addr : Nat := 0xC00000
abbrev Reg.MSR_CFG.i_code : Fld := ⟨Reg.MSR_CFG.addr, 27, 16⟩
abbrev Reg.MSR_CFG.integ_us : Fld := ⟨Reg.MSR_CFG.addr, 15, 8⟩
abbrev Reg.MSR_CFG.elem_us : Fld := ⟨Reg.MSR_CFG.addr, 7, 0⟩
/-- MSR_RBAND (R278, spec/13_head_measurement.md). -/
abbrev Reg.MSR_RBAND.addr : Nat := 0xC00004
abbrev Reg.MSR_RBAND.r_hi : Fld := ⟨Reg.MSR_RBAND.addr, 31, 16⟩
abbrev Reg.MSR_RBAND.r_lo : Fld := ⟨Reg.MSR_RBAND.addr, 15, 0⟩
/-- MSR_CAL_CFG (R278, spec/13_head_measurement.md). -/
abbrev Reg.MSR_CAL_CFG.addr : Nat := 0xC00008
abbrev Reg.MSR_CAL_CFG.cal_tmo_s : Fld := ⟨Reg.MSR_CAL_CFG.addr, 31, 16⟩
abbrev Reg.MSR_CAL_CFG.qual_max_ppm : Fld := ⟨Reg.MSR_CAL_CFG.addr, 15, 0⟩
/-- MSR_SWEEP_STAT (R278, spec/13_head_measurement.md). -/
abbrev Reg.MSR_SWEEP_STAT.addr : Nat := 0xC00010
abbrev Reg.MSR_SWEEP_STAT.busy : Fld := ⟨Reg.MSR_SWEEP_STAT.addr, 31, 31⟩
abbrev Reg.MSR_SWEEP_STAT.stale : Fld := ⟨Reg.MSR_SWEEP_STAT.addr, 30, 30⟩
abbrev Reg.MSR_SWEEP_STAT.context : Fld := ⟨Reg.MSR_SWEEP_STAT.addr, 29, 27⟩
abbrev Reg.MSR_SWEEP_STAT.discards : Fld := ⟨Reg.MSR_SWEEP_STAT.addr, 26, 19⟩
abbrev Reg.MSR_SWEEP_STAT.oob : Fld := ⟨Reg.MSR_SWEEP_STAT.addr, 18, 0⟩
/-- MSR_CAL_CTL (R278, spec/13_head_measurement.md). -/
abbrev Reg.MSR_CAL_CTL.addr : Nat := 0xC00020
abbrev Reg.MSR_CAL_CTL.op : Fld := ⟨Reg.MSR_CAL_CTL.addr, 2, 0⟩
/-- MSR_CAL_STAT (R278, spec/13_head_measurement.md). -/
abbrev Reg.MSR_CAL_STAT.addr : Nat := 0xC00024
abbrev Reg.MSR_CAL_STAT.busy : Fld := ⟨Reg.MSR_CAL_STAT.addr, 31, 31⟩
abbrev Reg.MSR_CAL_STAT.cal_valid : Fld := ⟨Reg.MSR_CAL_STAT.addr, 30, 30⟩
abbrev Reg.MSR_CAL_STAT.done : Fld := ⟨Reg.MSR_CAL_STAT.addr, 29, 27⟩
abbrev Reg.MSR_CAL_STAT.op : Fld := ⟨Reg.MSR_CAL_STAT.addr, 7, 4⟩
abbrev Reg.MSR_CAL_STAT.result : Fld := ⟨Reg.MSR_CAL_STAT.addr, 3, 0⟩
/-- MSR_CH_TRIM_A n (R278, spec/13_head_measurement.md). -/
abbrev Reg.MSR_CH_TRIM_A.addr (n : Nat) : Nat := 0xC00800 + 0x10 * n
abbrev Reg.MSR_CH_TRIM_A.adc_gain (n : Nat) : Fld := ⟨Reg.MSR_CH_TRIM_A.addr n, 25, 16⟩
abbrev Reg.MSR_CH_TRIM_A.adc_off (n : Nat) : Fld := ⟨Reg.MSR_CH_TRIM_A.addr n, 9, 0⟩
/-- MSR_CH_TRIM_B n (R278, spec/13_head_measurement.md). -/
abbrev Reg.MSR_CH_TRIM_B.addr (n : Nat) : Nat := 0xC00804 + 0x10 * n
abbrev Reg.MSR_CH_TRIM_B.i_gain (n : Nat) : Fld := ⟨Reg.MSR_CH_TRIM_B.addr n, 25, 16⟩
abbrev Reg.MSR_CH_TRIM_B.i_off (n : Nat) : Fld := ⟨Reg.MSR_CH_TRIM_B.addr n, 7, 0⟩
/-- MSR_CH_QUAL n (R278, spec/13_head_measurement.md). -/
abbrev Reg.MSR_CH_QUAL.addr (n : Nat) : Nat := 0xC00808 + 0x10 * n
abbrev Reg.MSR_CH_QUAL.valid (n : Nat) : Fld := ⟨Reg.MSR_CH_QUAL.addr n, 31, 31⟩
abbrev Reg.MSR_CH_QUAL.ppm (n : Nat) : Fld := ⟨Reg.MSR_CH_QUAL.addr n, 15, 0⟩
/-- MSR_VSET_CFG n (R278, spec/13_head_measurement.md). -/
abbrev Reg.MSR_VSET_CFG.addr (n : Nat) : Nat := 0xC01000 + 0x10 * n
abbrev Reg.MSR_VSET_CFG.vset_safe (n : Nat) : Fld := ⟨Reg.MSR_VSET_CFG.addr n, 27, 16⟩
abbrev Reg.MSR_VSET_CFG.vset_init (n : Nat) : Fld := ⟨Reg.MSR_VSET_CFG.addr n, 11, 0⟩
/-- MSR_VSET_TRIM n (R278, spec/13_head_measurement.md). -/
abbrev Reg.MSR_VSET_TRIM.addr (n : Nat) : Nat := 0xC01004 + 0x10 * n
abbrev Reg.MSR_VSET_TRIM.v_gain (n : Nat) : Fld := ⟨Reg.MSR_VSET_TRIM.addr n, 25, 16⟩
abbrev Reg.MSR_VSET_TRIM.v_off (n : Nat) : Fld := ⟨Reg.MSR_VSET_TRIM.addr n, 7, 0⟩
/-- MSR_VSET_NOW n (R278, spec/13_head_measurement.md). -/
abbrev Reg.MSR_VSET_NOW.addr (n : Nat) : Nat := 0xC01008 + 0x10 * n
abbrev Reg.MSR_VSET_NOW.held (n : Nat) : Fld := ⟨Reg.MSR_VSET_NOW.addr n, 31, 31⟩
abbrev Reg.MSR_VSET_NOW.code (n : Nat) : Fld := ⟨Reg.MSR_VSET_NOW.addr n, 11, 0⟩
/-- MSR_HSAMP n (R278, spec/13_head_measurement.md). -/
abbrev Reg.MSR_HSAMP.addr (n : Nat) : Nat := 0xC0100C + 0x10 * n
abbrev Reg.MSR_HSAMP.valid (n : Nat) : Fld := ⟨Reg.MSR_HSAMP.addr n, 31, 31⟩
abbrev Reg.MSR_HSAMP.stale (n : Nat) : Fld := ⟨Reg.MSR_HSAMP.addr n, 30, 30⟩
abbrev Reg.MSR_HSAMP.quantity (n : Nat) : Fld := ⟨Reg.MSR_HSAMP.addr n, 27, 24⟩
abbrev Reg.MSR_HSAMP.count (n : Nat) : Fld := ⟨Reg.MSR_HSAMP.addr n, 20, 16⟩
abbrev Reg.MSR_HSAMP.value (n : Nat) : Fld := ⟨Reg.MSR_HSAMP.addr n, 15, 0⟩
/-- MEM_CFG (R294, spec/14_memory_system.md). -/
abbrev Reg.MEM_CFG.addr : Nat := 0xD00000
abbrev Reg.MEM_CFG.margin_en : Fld := ⟨Reg.MEM_CFG.addr, 8, 8⟩
abbrev Reg.MEM_CFG.x4 : Fld := ⟨Reg.MEM_CFG.addr, 7, 7⟩
abbrev Reg.MEM_CFG.dens : Fld := ⟨Reg.MEM_CFG.addr, 6, 6⟩
abbrev Reg.MEM_CFG.ranks_m1 : Fld := ⟨Reg.MEM_CFG.addr, 5, 5⟩
abbrev Reg.MEM_CFG.soldered : Fld := ⟨Reg.MEM_CFG.addr, 4, 4⟩
abbrev Reg.MEM_CFG.speed : Fld := ⟨Reg.MEM_CFG.addr, 3, 2⟩
abbrev Reg.MEM_CFG.ch_log2 : Fld := ⟨Reg.MEM_CFG.addr, 1, 0⟩
/-- MEM_SIZE (R294, spec/14_memory_system.md). -/
abbrev Reg.MEM_SIZE.addr : Nat := 0xD00004
abbrev Reg.MEM_SIZE.fitted_64m : Fld := ⟨Reg.MEM_SIZE.addr, 31, 16⟩
abbrev Reg.MEM_SIZE.total_gib : Fld := ⟨Reg.MEM_SIZE.addr, 9, 0⟩
/-- MEM_SCHED (R294, spec/14_memory_system.md). -/
abbrev Reg.MEM_SCHED.addr : Nat := 0xD00008
abbrev Reg.MEM_SCHED.wq_high : Fld := ⟨Reg.MEM_SCHED.addr, 31, 24⟩
abbrev Reg.MEM_SCHED.wq_low : Fld := ⟨Reg.MEM_SCHED.addr, 23, 16⟩
abbrev Reg.MEM_SCHED.rt_high : Fld := ⟨Reg.MEM_SCHED.addr, 11, 8⟩
abbrev Reg.MEM_SCHED.rt_low : Fld := ⟨Reg.MEM_SCHED.addr, 3, 0⟩
/-- MEM_STAT (R294, spec/14_memory_system.md). -/
abbrev Reg.MEM_STAT.addr : Nat := 0xD00010
abbrev Reg.MEM_STAT.fill : Fld := ⟨Reg.MEM_STAT.addr, 31, 28⟩
abbrev Reg.MEM_STAT.panic : Fld := ⟨Reg.MEM_STAT.addr, 27, 27⟩
abbrev Reg.MEM_STAT.margin : Fld := ⟨Reg.MEM_STAT.addr, 26, 26⟩
abbrev Reg.MEM_STAT.ch_fail : Fld := ⟨Reg.MEM_STAT.addr, 23, 16⟩
abbrev Reg.MEM_STAT.ch_hot : Fld := ⟨Reg.MEM_STAT.addr, 15, 8⟩
abbrev Reg.MEM_STAT.ch_present : Fld := ⟨Reg.MEM_STAT.addr, 7, 0⟩
/-- MEM_PANIC (R294, spec/14_memory_system.md). -/
abbrev Reg.MEM_PANIC.addr : Nat := 0xD00014
abbrev Reg.MEM_PANIC.count : Fld := ⟨Reg.MEM_PANIC.addr, 31, 0⟩
/-- MEM_RD_BYTES_LO (R294, spec/14_memory_system.md). -/
abbrev Reg.MEM_RD_BYTES_LO.addr : Nat := 0xD00020
abbrev Reg.MEM_RD_BYTES_LO.bytes_lo : Fld := ⟨Reg.MEM_RD_BYTES_LO.addr, 31, 0⟩
/-- MEM_RD_BYTES_HI (R294, spec/14_memory_system.md). -/
abbrev Reg.MEM_RD_BYTES_HI.addr : Nat := 0xD00024
abbrev Reg.MEM_RD_BYTES_HI.bytes_hi : Fld := ⟨Reg.MEM_RD_BYTES_HI.addr, 31, 0⟩
/-- MEM_WR_BYTES_LO (R294, spec/14_memory_system.md). -/
abbrev Reg.MEM_WR_BYTES_LO.addr : Nat := 0xD00028
abbrev Reg.MEM_WR_BYTES_LO.bytes_lo : Fld := ⟨Reg.MEM_WR_BYTES_LO.addr, 31, 0⟩
/-- MEM_WR_BYTES_HI (R294, spec/14_memory_system.md). -/
abbrev Reg.MEM_WR_BYTES_HI.addr : Nat := 0xD0002C
abbrev Reg.MEM_WR_BYTES_HI.bytes_hi : Fld := ⟨Reg.MEM_WR_BYTES_HI.addr, 31, 0⟩
/-- MEM_MARGIN_SEL (R294, spec/14_memory_system.md). -/
abbrev Reg.MEM_MARGIN_SEL.addr : Nat := 0xD00040
abbrev Reg.MEM_MARGIN_SEL.offset : Fld := ⟨Reg.MEM_MARGIN_SEL.addr, 23, 16⟩
abbrev Reg.MEM_MARGIN_SEL.field : Fld := ⟨Reg.MEM_MARGIN_SEL.addr, 15, 12⟩
abbrev Reg.MEM_MARGIN_SEL.lane : Fld := ⟨Reg.MEM_MARGIN_SEL.addr, 7, 5⟩
abbrev Reg.MEM_MARGIN_SEL.sub : Fld := ⟨Reg.MEM_MARGIN_SEL.addr, 4, 4⟩
abbrev Reg.MEM_MARGIN_SEL.channel : Fld := ⟨Reg.MEM_MARGIN_SEL.addr, 2, 0⟩
/-- MEM_MARGIN_CTL (R294, spec/14_memory_system.md). -/
abbrev Reg.MEM_MARGIN_CTL.addr : Nat := 0xD00044
abbrev Reg.MEM_MARGIN_CTL.op : Fld := ⟨Reg.MEM_MARGIN_CTL.addr, 19, 16⟩
abbrev Reg.MEM_MARGIN_CTL.lines : Fld := ⟨Reg.MEM_MARGIN_CTL.addr, 15, 0⟩
/-- MEM_MARGIN_STAT (R294, spec/14_memory_system.md). -/
abbrev Reg.MEM_MARGIN_STAT.addr : Nat := 0xD00048
abbrev Reg.MEM_MARGIN_STAT.busy : Fld := ⟨Reg.MEM_MARGIN_STAT.addr, 31, 31⟩
abbrev Reg.MEM_MARGIN_STAT.result : Fld := ⟨Reg.MEM_MARGIN_STAT.addr, 30, 28⟩
abbrev Reg.MEM_MARGIN_STAT.lane_fail : Fld := ⟨Reg.MEM_MARGIN_STAT.addr, 20, 16⟩
abbrev Reg.MEM_MARGIN_STAT.errors : Fld := ⟨Reg.MEM_MARGIN_STAT.addr, 15, 0⟩
/-- MEM_CH_STAT n (R294, spec/14_memory_system.md). -/
abbrev Reg.MEM_CH_STAT.addr (n : Nat) : Nat := 0xD01000 + 0x20 * n
abbrev Reg.MEM_CH_STAT.present (n : Nat) : Fld := ⟨Reg.MEM_CH_STAT.addr n, 31, 31⟩
abbrev Reg.MEM_CH_STAT.failed (n : Nat) : Fld := ⟨Reg.MEM_CH_STAT.addr n, 30, 30⟩
abbrev Reg.MEM_CH_STAT.hot (n : Nat) : Fld := ⟨Reg.MEM_CH_STAT.addr n, 29, 29⟩
abbrev Reg.MEM_CH_STAT.wq (n : Nat) : Fld := ⟨Reg.MEM_CH_STAT.addr n, 23, 16⟩
abbrev Reg.MEM_CH_STAT.alerts (n : Nat) : Fld := ⟨Reg.MEM_CH_STAT.addr n, 15, 12⟩
abbrev Reg.MEM_CH_STAT.temp (n : Nat) : Fld := ⟨Reg.MEM_CH_STAT.addr n, 11, 0⟩
/-- MIG_CFG (R310, spec/15_memory_integrity.md). -/
abbrev Reg.MIG_CFG.addr : Nat := 0xE00000
abbrev Reg.MIG_CFG.scrub_gbps : Fld := ⟨Reg.MIG_CFG.addr, 15, 8⟩
abbrev Reg.MIG_CFG.refetch_evr : Fld := ⟨Reg.MIG_CFG.addr, 2, 0⟩
/-- MIG_LOG_BASE_LO (R310, spec/15_memory_integrity.md). -/
abbrev Reg.MIG_LOG_BASE_LO.addr : Nat := 0xE00008
abbrev Reg.MIG_LOG_BASE_LO.base_lo : Fld := ⟨Reg.MIG_LOG_BASE_LO.addr, 31, 6⟩
/-- MIG_LOG_BASE_HI (R310, spec/15_memory_integrity.md). -/
abbrev Reg.MIG_LOG_BASE_HI.addr : Nat := 0xE0000C
abbrev Reg.MIG_LOG_BASE_HI.base_hi : Fld := ⟨Reg.MIG_LOG_BASE_HI.addr, 7, 0⟩
/-- MIG_LOG_LEN (R310, spec/15_memory_integrity.md). -/
abbrev Reg.MIG_LOG_LEN.addr : Nat := 0xE00010
abbrev Reg.MIG_LOG_LEN.len : Fld := ⟨Reg.MIG_LOG_LEN.addr, 31, 0⟩
/-- MIG_LOG_PTR (R310, spec/15_memory_integrity.md). -/
abbrev Reg.MIG_LOG_PTR.addr : Nat := 0xE00014
abbrev Reg.MIG_LOG_PTR.written : Fld := ⟨Reg.MIG_LOG_PTR.addr, 31, 0⟩
/-- MIG_REFETCH_STAT (R310, spec/15_memory_integrity.md). -/
abbrev Reg.MIG_REFETCH_STAT.addr : Nat := 0xE00018
abbrev Reg.MIG_REFETCH_STAT.timeouts : Fld := ⟨Reg.MIG_REFETCH_STAT.addr, 31, 16⟩
abbrev Reg.MIG_REFETCH_STAT.pending : Fld := ⟨Reg.MIG_REFETCH_STAT.addr, 8, 0⟩
/-- MIG_SCRUB_START_LO (R310, spec/15_memory_integrity.md). -/
abbrev Reg.MIG_SCRUB_START_LO.addr : Nat := 0xE00020
abbrev Reg.MIG_SCRUB_START_LO.value_lo : Fld := ⟨Reg.MIG_SCRUB_START_LO.addr, 31, 6⟩
/-- MIG_SCRUB_START_HI (R310, spec/15_memory_integrity.md). -/
abbrev Reg.MIG_SCRUB_START_HI.addr : Nat := 0xE00024
abbrev Reg.MIG_SCRUB_START_HI.value_hi : Fld := ⟨Reg.MIG_SCRUB_START_HI.addr, 7, 0⟩
/-- MIG_SCRUB_LEN_LO (R310, spec/15_memory_integrity.md). -/
abbrev Reg.MIG_SCRUB_LEN_LO.addr : Nat := 0xE00028
abbrev Reg.MIG_SCRUB_LEN_LO.value_lo : Fld := ⟨Reg.MIG_SCRUB_LEN_LO.addr, 31, 6⟩
/-- MIG_SCRUB_LEN_HI (R310, spec/15_memory_integrity.md). -/
abbrev Reg.MIG_SCRUB_LEN_HI.addr : Nat := 0xE0002C
abbrev Reg.MIG_SCRUB_LEN_HI.value_hi : Fld := ⟨Reg.MIG_SCRUB_LEN_HI.addr, 7, 0⟩
/-- MIG_SCRUB_REC_LO (R310, spec/15_memory_integrity.md). -/
abbrev Reg.MIG_SCRUB_REC_LO.addr : Nat := 0xE00030
abbrev Reg.MIG_SCRUB_REC_LO.value_lo : Fld := ⟨Reg.MIG_SCRUB_REC_LO.addr, 31, 6⟩
/-- MIG_SCRUB_REC_HI (R310, spec/15_memory_integrity.md). -/
abbrev Reg.MIG_SCRUB_REC_HI.addr : Nat := 0xE00034
abbrev Reg.MIG_SCRUB_REC_HI.value_hi : Fld := ⟨Reg.MIG_SCRUB_REC_HI.addr, 7, 0⟩
/-- MIG_SCRUB_CTL (R310, spec/15_memory_integrity.md). -/
abbrev Reg.MIG_SCRUB_CTL.addr : Nat := 0xE00038
abbrev Reg.MIG_SCRUB_CTL.pass_id : Fld := ⟨Reg.MIG_SCRUB_CTL.addr, 31, 16⟩
abbrev Reg.MIG_SCRUB_CTL.op : Fld := ⟨Reg.MIG_SCRUB_CTL.addr, 1, 0⟩
/-- MIG_SCRUB_STAT (R310, spec/15_memory_integrity.md). -/
abbrev Reg.MIG_SCRUB_STAT.addr : Nat := 0xE0003C
abbrev Reg.MIG_SCRUB_STAT.state : Fld := ⟨Reg.MIG_SCRUB_STAT.addr, 31, 28⟩
abbrev Reg.MIG_SCRUB_STAT.result : Fld := ⟨Reg.MIG_SCRUB_STAT.addr, 27, 24⟩
abbrev Reg.MIG_SCRUB_STAT.pass_id : Fld := ⟨Reg.MIG_SCRUB_STAT.addr, 15, 0⟩
/-- MIG_SCRUB_POS_LO (R310, spec/15_memory_integrity.md). -/
abbrev Reg.MIG_SCRUB_POS_LO.addr : Nat := 0xE00040
abbrev Reg.MIG_SCRUB_POS_LO.pos_lo : Fld := ⟨Reg.MIG_SCRUB_POS_LO.addr, 31, 0⟩
/-- MIG_SCRUB_POS_HI (R310, spec/15_memory_integrity.md). -/
abbrev Reg.MIG_SCRUB_POS_HI.addr : Nat := 0xE00044
abbrev Reg.MIG_SCRUB_POS_HI.pos_hi : Fld := ⟨Reg.MIG_SCRUB_POS_HI.addr, 7, 0⟩
/-- MIG_RETIRE_STAT (R310, spec/15_memory_integrity.md). -/
abbrev Reg.MIG_RETIRE_STAT.addr : Nat := 0xE00050
abbrev Reg.MIG_RETIRE_STAT.frames : Fld := ⟨Reg.MIG_RETIRE_STAT.addr, 31, 16⟩
abbrev Reg.MIG_RETIRE_STAT.banks : Fld := ⟨Reg.MIG_RETIRE_STAT.addr, 10, 0⟩
/-- MIG_SPARE_FREE (R310, spec/15_memory_integrity.md). -/
abbrev Reg.MIG_SPARE_FREE.addr : Nat := 0xE00054
abbrev Reg.MIG_SPARE_FREE.frames : Fld := ⟨Reg.MIG_SPARE_FREE.addr, 16, 0⟩
/-- MIG_CNT n (R310, spec/15_memory_integrity.md). -/
abbrev Reg.MIG_CNT.addr (n : Nat) : Nat := 0xE00060 + 0x4 * n
abbrev Reg.MIG_CNT.count (n : Nat) : Fld := ⟨Reg.MIG_CNT.addr n, 31, 0⟩
/-- MIG_REGION_BASE n (R310, spec/15_memory_integrity.md). -/
abbrev Reg.MIG_REGION_BASE.addr (n : Nat) : Nat := 0xE00100 + 0x8 * n
abbrev Reg.MIG_REGION_BASE.frame (n : Nat) : Fld := ⟨Reg.MIG_REGION_BASE.addr n, 23, 0⟩
/-- MIG_REGION_CFG n (R310, spec/15_memory_integrity.md). -/
abbrev Reg.MIG_REGION_CFG.addr (n : Nat) : Nat := 0xE00104 + 0x8 * n
abbrev Reg.MIG_REGION_CFG.valid (n : Nat) : Fld := ⟨Reg.MIG_REGION_CFG.addr n, 31, 31⟩
abbrev Reg.MIG_REGION_CFG.class_ (n : Nat) : Fld := ⟨Reg.MIG_REGION_CFG.addr n, 27, 24⟩
abbrev Reg.MIG_REGION_CFG.frames (n : Nat) : Fld := ⟨Reg.MIG_REGION_CFG.addr n, 23, 0⟩
/-- FLT_CFG (R328, spec/16_faults_and_ordering.md). -/
abbrev Reg.FLT_CFG.addr : Nat := 0xF00000
abbrev Reg.FLT_CFG.wd_ms : Fld := ⟨Reg.FLT_CFG.addr, 23, 16⟩
abbrev Reg.FLT_CFG.irq_min : Fld := ⟨Reg.FLT_CFG.addr, 11, 8⟩
abbrev Reg.FLT_CFG.irq_en : Fld := ⟨Reg.FLT_CFG.addr, 7, 7⟩
abbrev Reg.FLT_CFG.irq_vector : Fld := ⟨Reg.FLT_CFG.addr, 6, 0⟩
/-- FLT_STAT (R328, spec/16_faults_and_ordering.md). -/
abbrev Reg.FLT_STAT.addr : Nat := 0xF00010
abbrev Reg.FLT_STAT.frames_retired : Fld := ⟨Reg.FLT_STAT.addr, 7, 7⟩
abbrev Reg.FLT_STAT.ch_hot : Fld := ⟨Reg.FLT_STAT.addr, 6, 6⟩
abbrev Reg.FLT_STAT.port_down : Fld := ⟨Reg.FLT_STAT.addr, 5, 5⟩
abbrev Reg.FLT_STAT.lane_doubled : Fld := ⟨Reg.FLT_STAT.addr, 4, 4⟩
abbrev Reg.FLT_STAT.lane_spared : Fld := ⟨Reg.FLT_STAT.addr, 3, 3⟩
abbrev Reg.FLT_STAT.enc_retired : Fld := ⟨Reg.FLT_STAT.addr, 2, 2⟩
abbrev Reg.FLT_STAT.dec_short : Fld := ⟨Reg.FLT_STAT.addr, 1, 1⟩
abbrev Reg.FLT_STAT.dec_spared : Fld := ⟨Reg.FLT_STAT.addr, 0, 0⟩
/-- FLT_LAST_FAULT (R328, spec/16_faults_and_ordering.md). -/
abbrev Reg.FLT_LAST_FAULT.addr : Nat := 0xF00014
abbrev Reg.FLT_LAST_FAULT.severity : Fld := ⟨Reg.FLT_LAST_FAULT.addr, 31, 28⟩
abbrev Reg.FLT_LAST_FAULT.source_id : Fld := ⟨Reg.FLT_LAST_FAULT.addr, 23, 16⟩
abbrev Reg.FLT_LAST_FAULT.code : Fld := ⟨Reg.FLT_LAST_FAULT.addr, 15, 0⟩
/-- FLT_SEV_CNT n (R328, spec/16_faults_and_ordering.md). -/
abbrev Reg.FLT_SEV_CNT.addr (n : Nat) : Nat := 0xF00020 + 0x4 * n
abbrev Reg.FLT_SEV_CNT.count (n : Nat) : Fld := ⟨Reg.FLT_SEV_CNT.addr n, 31, 0⟩
/-- FLT_DROPPED (R328, spec/16_faults_and_ordering.md). -/
abbrev Reg.FLT_DROPPED.addr : Nat := 0xF00040
abbrev Reg.FLT_DROPPED.count : Fld := ⟨Reg.FLT_DROPPED.addr, 31, 0⟩
/-- FLT_SUPPRESSED (R328, spec/16_faults_and_ordering.md). -/
abbrev Reg.FLT_SUPPRESSED.addr : Nat := 0xF00044
abbrev Reg.FLT_SUPPRESSED.count : Fld := ⟨Reg.FLT_SUPPRESSED.addr, 31, 0⟩
/-- FLT_BLANK n (R328, spec/16_faults_and_ordering.md). -/
abbrev Reg.FLT_BLANK.addr (n : Nat) : Nat := 0xF00060 + 0x4 * n
abbrev Reg.FLT_BLANK.count (n : Nat) : Fld := ⟨Reg.FLT_BLANK.addr n, 31, 0⟩
/-- FLT_BLANK_TOTAL_LO (R328, spec/16_faults_and_ordering.md). -/
abbrev Reg.FLT_BLANK_TOTAL_LO.addr : Nat := 0xF00080
abbrev Reg.FLT_BLANK_TOTAL_LO.total_lo : Fld := ⟨Reg.FLT_BLANK_TOTAL_LO.addr, 31, 0⟩
/-- FLT_BLANK_TOTAL_HI (R328, spec/16_faults_and_ordering.md). -/
abbrev Reg.FLT_BLANK_TOTAL_HI.addr : Nat := 0xF00084
abbrev Reg.FLT_BLANK_TOTAL_HI.total_hi : Fld := ⟨Reg.FLT_BLANK_TOTAL_HI.addr, 31, 0⟩
/-- FLT_ROUTE n (R328, spec/16_faults_and_ordering.md). -/
abbrev Reg.FLT_ROUTE.addr (n : Nat) : Nat := 0xF00100 + 0x4 * n
abbrev Reg.FLT_ROUTE.sup_0 (n : Nat) : Fld := ⟨Reg.FLT_ROUTE.addr n, 3, 3⟩
abbrev Reg.FLT_ROUTE.ring_0 (n : Nat) : Fld := ⟨Reg.FLT_ROUTE.addr n, 2, 0⟩
abbrev Reg.FLT_ROUTE.sup_1 (n : Nat) : Fld := ⟨Reg.FLT_ROUTE.addr n, 7, 7⟩
abbrev Reg.FLT_ROUTE.ring_1 (n : Nat) : Fld := ⟨Reg.FLT_ROUTE.addr n, 6, 4⟩
abbrev Reg.FLT_ROUTE.sup_2 (n : Nat) : Fld := ⟨Reg.FLT_ROUTE.addr n, 11, 11⟩
abbrev Reg.FLT_ROUTE.ring_2 (n : Nat) : Fld := ⟨Reg.FLT_ROUTE.addr n, 10, 8⟩
abbrev Reg.FLT_ROUTE.sup_3 (n : Nat) : Fld := ⟨Reg.FLT_ROUTE.addr n, 15, 15⟩
abbrev Reg.FLT_ROUTE.ring_3 (n : Nat) : Fld := ⟨Reg.FLT_ROUTE.addr n, 14, 12⟩
abbrev Reg.FLT_ROUTE.sup_4 (n : Nat) : Fld := ⟨Reg.FLT_ROUTE.addr n, 19, 19⟩
abbrev Reg.FLT_ROUTE.ring_4 (n : Nat) : Fld := ⟨Reg.FLT_ROUTE.addr n, 18, 16⟩
abbrev Reg.FLT_ROUTE.sup_5 (n : Nat) : Fld := ⟨Reg.FLT_ROUTE.addr n, 23, 23⟩
abbrev Reg.FLT_ROUTE.ring_5 (n : Nat) : Fld := ⟨Reg.FLT_ROUTE.addr n, 22, 20⟩
/-- PAIR_CFG (R358, spec/17_pair_operation.md). -/
abbrev Reg.PAIR_CFG.addr : Nat := 0x1000000
abbrev Reg.PAIR_CFG.rejoin_gbps : Fld := ⟨Reg.PAIR_CFG.addr, 31, 24⟩
abbrev Reg.PAIR_CFG.pair_tmo_us : Fld := ⟨Reg.PAIR_CFG.addr, 23, 16⟩
abbrev Reg.PAIR_CFG.commit_lead : Fld := ⟨Reg.PAIR_CFG.addr, 15, 8⟩
abbrev Reg.PAIR_CFG.pair_en : Fld := ⟨Reg.PAIR_CFG.addr, 1, 1⟩
abbrev Reg.PAIR_CFG.role : Fld := ⟨Reg.PAIR_CFG.addr, 0, 0⟩
/-- PAIR_PEER_MAC_LO (R358, spec/17_pair_operation.md). -/
abbrev Reg.PAIR_PEER_MAC_LO.addr : Nat := 0x1000004
abbrev Reg.PAIR_PEER_MAC_LO.mac_lo : Fld := ⟨Reg.PAIR_PEER_MAC_LO.addr, 31, 0⟩
/-- PAIR_PEER_MAC_HI (R358, spec/17_pair_operation.md). -/
abbrev Reg.PAIR_PEER_MAC_HI.addr : Nat := 0x1000008
abbrev Reg.PAIR_PEER_MAC_HI.mac_hi : Fld := ⟨Reg.PAIR_PEER_MAC_HI.addr, 15, 0⟩
/-- PAIR_STAT (R358, spec/17_pair_operation.md). -/
abbrev Reg.PAIR_STAT.addr : Nat := 0x1000010
abbrev Reg.PAIR_STAT.link_up : Fld := ⟨Reg.PAIR_STAT.addr, 31, 31⟩
abbrev Reg.PAIR_STAT.beacon : Fld := ⟨Reg.PAIR_STAT.addr, 30, 30⟩
abbrev Reg.PAIR_STAT.active : Fld := ⟨Reg.PAIR_STAT.addr, 29, 29⟩
abbrev Reg.PAIR_STAT.partner_lost : Fld := ⟨Reg.PAIR_STAT.addr, 28, 28⟩
abbrev Reg.PAIR_STAT.match_ok : Fld := ⟨Reg.PAIR_STAT.addr, 27, 27⟩
abbrev Reg.PAIR_STAT.lanes : Fld := ⟨Reg.PAIR_STAT.addr, 23, 16⟩
abbrev Reg.PAIR_STAT.latency_ns : Fld := ⟨Reg.PAIR_STAT.addr, 15, 0⟩
/-- PAIR_MATCH (R358, spec/17_pair_operation.md). -/
abbrev Reg.PAIR_MATCH.addr : Nat := 0x1000014
abbrev Reg.PAIR_MATCH.value : Fld := ⟨Reg.PAIR_MATCH.addr, 31, 0⟩
/-- PAIR_MATCH_PEER (R358, spec/17_pair_operation.md). -/
abbrev Reg.PAIR_MATCH_PEER.addr : Nat := 0x1000018
abbrev Reg.PAIR_MATCH_PEER.value : Fld := ⟨Reg.PAIR_MATCH_PEER.addr, 31, 0⟩
/-- PAIR_COVER (R358, spec/17_pair_operation.md). -/
abbrev Reg.PAIR_COVER.addr : Nat := 0x1000030
abbrev Reg.PAIR_COVER.count : Fld := ⟨Reg.PAIR_COVER.addr, 31, 0⟩
/-- PAIR_UNCHECKED (R358, spec/17_pair_operation.md). -/
abbrev Reg.PAIR_UNCHECKED.addr : Nat := 0x1000034
abbrev Reg.PAIR_UNCHECKED.count : Fld := ⟨Reg.PAIR_UNCHECKED.addr, 31, 0⟩
/-- PAIR_SHADOW_BLANK (R358, spec/17_pair_operation.md). -/
abbrev Reg.PAIR_SHADOW_BLANK.addr : Nat := 0x100003C
abbrev Reg.PAIR_SHADOW_BLANK.count : Fld := ⟨Reg.PAIR_SHADOW_BLANK.addr, 31, 0⟩
/-- PAIR_DISPUTE (R358, spec/17_pair_operation.md). -/
abbrev Reg.PAIR_DISPUTE.addr : Nat := 0x1000038
abbrev Reg.PAIR_DISPUTE.no_majority : Fld := ⟨Reg.PAIR_DISPUTE.addr, 31, 16⟩
abbrev Reg.PAIR_DISPUTE.resolved : Fld := ⟨Reg.PAIR_DISPUTE.addr, 15, 0⟩
/-- PAIR_FAILOVER (R358, spec/17_pair_operation.md). -/
abbrev Reg.PAIR_FAILOVER.addr : Nat := 0x1000040
abbrev Reg.PAIR_FAILOVER.count : Fld := ⟨Reg.PAIR_FAILOVER.addr, 15, 0⟩
/-- PAIR_REJOIN_STAT (R358, spec/17_pair_operation.md). -/
abbrev Reg.PAIR_REJOIN_STAT.addr : Nat := 0x1000050
abbrev Reg.PAIR_REJOIN_STAT.phase : Fld := ⟨Reg.PAIR_REJOIN_STAT.addr, 31, 28⟩
abbrev Reg.PAIR_REJOIN_STAT.round : Fld := ⟨Reg.PAIR_REJOIN_STAT.addr, 27, 24⟩
abbrev Reg.PAIR_REJOIN_STAT.pct : Fld := ⟨Reg.PAIR_REJOIN_STAT.addr, 6, 0⟩
/-- PAIR_REJOIN_MS (R358, spec/17_pair_operation.md). -/
abbrev Reg.PAIR_REJOIN_MS.addr : Nat := 0x1000054
abbrev Reg.PAIR_REJOIN_MS.ms : Fld := ⟨Reg.PAIR_REJOIN_MS.addr, 31, 0⟩
/-- PAIR_REJOIN_BYTES_LO (R358, spec/17_pair_operation.md). -/
abbrev Reg.PAIR_REJOIN_BYTES_LO.addr : Nat := 0x1000058
abbrev Reg.PAIR_REJOIN_BYTES_LO.bytes_lo : Fld := ⟨Reg.PAIR_REJOIN_BYTES_LO.addr, 31, 0⟩
/-- PAIR_REJOIN_BYTES_HI (R358, spec/17_pair_operation.md). -/
abbrev Reg.PAIR_REJOIN_BYTES_HI.addr : Nat := 0x100005C
abbrev Reg.PAIR_REJOIN_BYTES_HI.bytes_hi : Fld := ⟨Reg.PAIR_REJOIN_BYTES_HI.addr, 31, 0⟩
/-- PAIR_CKPT_BASE_LO (R358, spec/17_pair_operation.md). -/
abbrev Reg.PAIR_CKPT_BASE_LO.addr : Nat := 0x1000060
abbrev Reg.PAIR_CKPT_BASE_LO.base_lo : Fld := ⟨Reg.PAIR_CKPT_BASE_LO.addr, 31, 26⟩
/-- PAIR_CKPT_BASE_HI (R358, spec/17_pair_operation.md). -/
abbrev Reg.PAIR_CKPT_BASE_HI.addr : Nat := 0x1000064
abbrev Reg.PAIR_CKPT_BASE_HI.base_hi : Fld := ⟨Reg.PAIR_CKPT_BASE_HI.addr, 7, 0⟩
/-- CRC_CFG (R367, spec/18_check_value_units.md). -/
abbrev Reg.CRC_CFG.addr : Nat := 0x1100000
abbrev Reg.CRC_CFG.mem_gbps : Fld := ⟨Reg.CRC_CFG.addr, 15, 8⟩
abbrev Reg.CRC_CFG.irq_en : Fld := ⟨Reg.CRC_CFG.addr, 7, 7⟩
abbrev Reg.CRC_CFG.irq_vector : Fld := ⟨Reg.CRC_CFG.addr, 6, 0⟩
/-- CRC_BUSY (R367, spec/18_check_value_units.md). -/
abbrev Reg.CRC_BUSY.addr : Nat := 0x1100010
abbrev Reg.CRC_BUSY.busy : Fld := ⟨Reg.CRC_BUSY.addr, 7, 0⟩
/-- CRC_ADDR_LO n (R367, spec/18_check_value_units.md). -/
abbrev Reg.CRC_ADDR_LO.addr (n : Nat) : Nat := 0x1101000 + 0x40 * n
abbrev Reg.CRC_ADDR_LO.addr_ (n : Nat) : Fld := ⟨Reg.CRC_ADDR_LO.addr n, 31, 0⟩
/-- CRC_ADDR_HI n (R367, spec/18_check_value_units.md). -/
abbrev Reg.CRC_ADDR_HI.addr (n : Nat) : Nat := 0x1101004 + 0x40 * n
abbrev Reg.CRC_ADDR_HI.addr_ (n : Nat) : Fld := ⟨Reg.CRC_ADDR_HI.addr n, 7, 0⟩
/-- CRC_LEN_LO n (R367, spec/18_check_value_units.md). -/
abbrev Reg.CRC_LEN_LO.addr (n : Nat) : Nat := 0x1101008 + 0x40 * n
abbrev Reg.CRC_LEN_LO.len (n : Nat) : Fld := ⟨Reg.CRC_LEN_LO.addr n, 31, 0⟩
/-- CRC_LEN_HI n (R367, spec/18_check_value_units.md). -/
abbrev Reg.CRC_LEN_HI.addr (n : Nat) : Nat := 0x110100C + 0x40 * n
abbrev Reg.CRC_LEN_HI.len (n : Nat) : Fld := ⟨Reg.CRC_LEN_HI.addr n, 7, 0⟩
/-- CRC_EXP_LO n (R367, spec/18_check_value_units.md). -/
abbrev Reg.CRC_EXP_LO.addr (n : Nat) : Nat := 0x1101010 + 0x40 * n
abbrev Reg.CRC_EXP_LO.exp (n : Nat) : Fld := ⟨Reg.CRC_EXP_LO.addr n, 31, 0⟩
/-- CRC_EXP_HI n (R367, spec/18_check_value_units.md). -/
abbrev Reg.CRC_EXP_HI.addr (n : Nat) : Nat := 0x1101014 + 0x40 * n
abbrev Reg.CRC_EXP_HI.exp (n : Nat) : Fld := ⟨Reg.CRC_EXP_HI.addr n, 31, 0⟩
/-- CRC_RESULT_LO n (R367, spec/18_check_value_units.md). -/
abbrev Reg.CRC_RESULT_LO.addr (n : Nat) : Nat := 0x1101020 + 0x40 * n
abbrev Reg.CRC_RESULT_LO.result (n : Nat) : Fld := ⟨Reg.CRC_RESULT_LO.addr n, 31, 0⟩
/-- CRC_RESULT_HI n (R367, spec/18_check_value_units.md). -/
abbrev Reg.CRC_RESULT_HI.addr (n : Nat) : Nat := 0x1101024 + 0x40 * n
abbrev Reg.CRC_RESULT_HI.result (n : Nat) : Fld := ⟨Reg.CRC_RESULT_HI.addr n, 31, 0⟩
/-- CRC_POS_LO n (R367, spec/18_check_value_units.md). -/
abbrev Reg.CRC_POS_LO.addr (n : Nat) : Nat := 0x1101028 + 0x40 * n
abbrev Reg.CRC_POS_LO.pos (n : Nat) : Fld := ⟨Reg.CRC_POS_LO.addr n, 31, 0⟩
/-- CRC_POS_HI n (R367, spec/18_check_value_units.md). -/
abbrev Reg.CRC_POS_HI.addr (n : Nat) : Nat := 0x110102C + 0x40 * n
abbrev Reg.CRC_POS_HI.pos (n : Nat) : Fld := ⟨Reg.CRC_POS_HI.addr n, 7, 0⟩
/-- CRC_CTL n (R367, spec/18_check_value_units.md). -/
abbrev Reg.CRC_CTL.addr (n : Nat) : Nat := 0x1101018 + 0x40 * n
abbrev Reg.CRC_CTL.evt (n : Nat) : Fld := ⟨Reg.CRC_CTL.addr n, 14, 14⟩
abbrev Reg.CRC_CTL.cont (n : Nat) : Fld := ⟨Reg.CRC_CTL.addr n, 13, 13⟩
abbrev Reg.CRC_CTL.cmp (n : Nat) : Fld := ⟨Reg.CRC_CTL.addr n, 12, 12⟩
abbrev Reg.CRC_CTL.poly (n : Nat) : Fld := ⟨Reg.CRC_CTL.addr n, 9, 8⟩
abbrev Reg.CRC_CTL.space (n : Nat) : Fld := ⟨Reg.CRC_CTL.addr n, 5, 4⟩
abbrev Reg.CRC_CTL.op (n : Nat) : Fld := ⟨Reg.CRC_CTL.addr n, 1, 0⟩
/-- CRC_STAT n (R367, spec/18_check_value_units.md). -/
abbrev Reg.CRC_STAT.addr (n : Nat) : Nat := 0x110101C + 0x40 * n
abbrev Reg.CRC_STAT.busy (n : Nat) : Fld := ⟨Reg.CRC_STAT.addr n, 31, 31⟩
abbrev Reg.CRC_STAT.result (n : Nat) : Fld := ⟨Reg.CRC_STAT.addr n, 27, 24⟩
abbrev Reg.CRC_STAT.space (n : Nat) : Fld := ⟨Reg.CRC_STAT.addr n, 21, 20⟩
abbrev Reg.CRC_STAT.poly (n : Nat) : Fld := ⟨Reg.CRC_STAT.addr n, 19, 18⟩
abbrev Reg.CRC_STAT.count (n : Nat) : Fld := ⟨Reg.CRC_STAT.addr n, 15, 0⟩
/-- TIM_ETH_CFG (R385, spec/19_time_and_network.md). -/
abbrev Reg.TIM_ETH_CFG.addr : Nat := 0x1200000
abbrev Reg.TIM_ETH_CFG.tc_mode : Fld := ⟨Reg.TIM_ETH_CFG.addr, 7, 6⟩
abbrev Reg.TIM_ETH_CFG.fwd_en : Fld := ⟨Reg.TIM_ETH_CFG.addr, 5, 5⟩
abbrev Reg.TIM_ETH_CFG.speed : Fld := ⟨Reg.TIM_ETH_CFG.addr, 1, 0⟩
/-- TIM_MAC_LO (R385, spec/19_time_and_network.md). -/
abbrev Reg.TIM_MAC_LO.addr : Nat := 0x1200004
abbrev Reg.TIM_MAC_LO.mac_lo : Fld := ⟨Reg.TIM_MAC_LO.addr, 31, 0⟩
/-- TIM_MAC_HI (R385, spec/19_time_and_network.md). -/
abbrev Reg.TIM_MAC_HI.addr : Nat := 0x1200008
abbrev Reg.TIM_MAC_HI.mac_hi : Fld := ⟨Reg.TIM_MAC_HI.addr, 15, 0⟩
/-- TIM_IP4 (R385, spec/19_time_and_network.md). -/
abbrev Reg.TIM_IP4.addr : Nat := 0x120000C
abbrev Reg.TIM_IP4.ip4 : Fld := ⟨Reg.TIM_IP4.addr, 31, 0⟩
/-- TIM_DOM_CFG n (R385, spec/19_time_and_network.md). -/
abbrev Reg.TIM_DOM_CFG.addr (n : Nat) : Nat := 0x1200100 + 0x40 * n
abbrev Reg.TIM_DOM_CFG.en (n : Nat) : Fld := ⟨Reg.TIM_DOM_CFG.addr n, 31, 31⟩
abbrev Reg.TIM_DOM_CFG.master_ok (n : Nat) : Fld := ⟨Reg.TIM_DOM_CFG.addr n, 30, 30⟩
abbrev Reg.TIM_DOM_CFG.delay (n : Nat) : Fld := ⟨Reg.TIM_DOM_CFG.addr n, 29, 29⟩
abbrev Reg.TIM_DOM_CFG.transport (n : Nat) : Fld := ⟨Reg.TIM_DOM_CFG.addr n, 28, 27⟩
abbrev Reg.TIM_DOM_CFG.domain (n : Nat) : Fld := ⟨Reg.TIM_DOM_CFG.addr n, 23, 16⟩
abbrev Reg.TIM_DOM_CFG.announce_tmo (n : Nat) : Fld := ⟨Reg.TIM_DOM_CFG.addr n, 15, 12⟩
abbrev Reg.TIM_DOM_CFG.log_announce (n : Nat) : Fld := ⟨Reg.TIM_DOM_CFG.addr n, 11, 8⟩
abbrev Reg.TIM_DOM_CFG.log_sync (n : Nat) : Fld := ⟨Reg.TIM_DOM_CFG.addr n, 7, 4⟩
abbrev Reg.TIM_DOM_CFG.log_mdr (n : Nat) : Fld := ⟨Reg.TIM_DOM_CFG.addr n, 3, 0⟩
/-- TIM_DOM_PRIO n (R385, spec/19_time_and_network.md). -/
abbrev Reg.TIM_DOM_PRIO.addr (n : Nat) : Nat := 0x1200104 + 0x40 * n
abbrev Reg.TIM_DOM_PRIO.priority1 (n : Nat) : Fld := ⟨Reg.TIM_DOM_PRIO.addr n, 31, 24⟩
abbrev Reg.TIM_DOM_PRIO.priority2 (n : Nat) : Fld := ⟨Reg.TIM_DOM_PRIO.addr n, 23, 16⟩
abbrev Reg.TIM_DOM_PRIO.clock_class (n : Nat) : Fld := ⟨Reg.TIM_DOM_PRIO.addr n, 15, 8⟩
abbrev Reg.TIM_DOM_PRIO.clock_accuracy (n : Nat) : Fld := ⟨Reg.TIM_DOM_PRIO.addr n, 7, 0⟩
/-- TIM_SERVO n (R385, spec/19_time_and_network.md). -/
abbrev Reg.TIM_SERVO.addr (n : Nat) : Nat := 0x1200108 + 0x40 * n
abbrev Reg.TIM_SERVO.kp (n : Nat) : Fld := ⟨Reg.TIM_SERVO.addr n, 31, 16⟩
abbrev Reg.TIM_SERVO.ki (n : Nat) : Fld := ⟨Reg.TIM_SERVO.addr n, 15, 0⟩
/-- TIM_SERVO_LIM n (R385, spec/19_time_and_network.md). -/
abbrev Reg.TIM_SERVO_LIM.addr (n : Nat) : Nat := 0x120010C + 0x40 * n
abbrev Reg.TIM_SERVO_LIM.step_ns (n : Nat) : Fld := ⟨Reg.TIM_SERVO_LIM.addr n, 31, 16⟩
abbrev Reg.TIM_SERVO_LIM.lock_ns (n : Nat) : Fld := ⟨Reg.TIM_SERVO_LIM.addr n, 15, 8⟩
abbrev Reg.TIM_SERVO_LIM.adj_max (n : Nat) : Fld := ⟨Reg.TIM_SERVO_LIM.addr n, 7, 0⟩
/-- TIM_DOM_STAT n (R385, spec/19_time_and_network.md). -/
abbrev Reg.TIM_DOM_STAT.addr (n : Nat) : Nat := 0x1200110 + 0x40 * n
abbrev Reg.TIM_DOM_STAT.state (n : Nat) : Fld := ⟨Reg.TIM_DOM_STAT.addr n, 31, 28⟩
abbrev Reg.TIM_DOM_STAT.locked (n : Nat) : Fld := ⟨Reg.TIM_DOM_STAT.addr n, 27, 27⟩
abbrev Reg.TIM_DOM_STAT.slave_port (n : Nat) : Fld := ⟨Reg.TIM_DOM_STAT.addr n, 26, 26⟩
/-- TIM_OFFSET n (R385, spec/19_time_and_network.md). -/
abbrev Reg.TIM_OFFSET.addr (n : Nat) : Nat := 0x1200114 + 0x40 * n
abbrev Reg.TIM_OFFSET.offset (n : Nat) : Fld := ⟨Reg.TIM_OFFSET.addr n, 31, 0⟩
/-- TIM_PATH n (R385, spec/19_time_and_network.md). -/
abbrev Reg.TIM_PATH.addr (n : Nat) : Nat := 0x1200118 + 0x40 * n
abbrev Reg.TIM_PATH.path (n : Nat) : Fld := ⟨Reg.TIM_PATH.addr n, 31, 0⟩
/-- TIM_PARENT_LO n (R385, spec/19_time_and_network.md). -/
abbrev Reg.TIM_PARENT_LO.addr (n : Nat) : Nat := 0x120011C + 0x40 * n
abbrev Reg.TIM_PARENT_LO.parent (n : Nat) : Fld := ⟨Reg.TIM_PARENT_LO.addr n, 31, 0⟩
/-- TIM_PARENT_HI n (R385, spec/19_time_and_network.md). -/
abbrev Reg.TIM_PARENT_HI.addr (n : Nat) : Nat := 0x1200120 + 0x40 * n
abbrev Reg.TIM_PARENT_HI.parent (n : Nat) : Fld := ⟨Reg.TIM_PARENT_HI.addr n, 31, 0⟩
/-- TIM_TB_NS_LO n (R385, spec/19_time_and_network.md). -/
abbrev Reg.TIM_TB_NS_LO.addr (n : Nat) : Nat := 0x1200200 + 0x10 * n
abbrev Reg.TIM_TB_NS_LO.ns (n : Nat) : Fld := ⟨Reg.TIM_TB_NS_LO.addr n, 31, 0⟩
/-- TIM_TB_NS_HI n (R385, spec/19_time_and_network.md). -/
abbrev Reg.TIM_TB_NS_HI.addr (n : Nat) : Nat := 0x1200204 + 0x10 * n
abbrev Reg.TIM_TB_NS_HI.ns (n : Nat) : Fld := ⟨Reg.TIM_TB_NS_HI.addr n, 31, 0⟩
/-- TIM_TB_FRAC n (R385, spec/19_time_and_network.md). -/
abbrev Reg.TIM_TB_FRAC.addr (n : Nat) : Nat := 0x1200208 + 0x10 * n
abbrev Reg.TIM_TB_FRAC.frac (n : Nat) : Fld := ⟨Reg.TIM_TB_FRAC.addr n, 15, 0⟩
/-- TIM_TB_ADJ n (R385, spec/19_time_and_network.md). -/
abbrev Reg.TIM_TB_ADJ.addr (n : Nat) : Nat := 0x120020C + 0x10 * n
abbrev Reg.TIM_TB_ADJ.adj (n : Nat) : Fld := ⟨Reg.TIM_TB_ADJ.addr n, 31, 0⟩
/-- TIM_PORT_CFG n (R385, spec/19_time_and_network.md). -/
abbrev Reg.TIM_PORT_CFG.addr (n : Nat) : Nat := 0x1200300 + 0x20 * n
abbrev Reg.TIM_PORT_CFG.asym_ns (n : Nat) : Fld := ⟨Reg.TIM_PORT_CFG.addr n, 15, 0⟩
/-- TIM_PORT_STAT n (R385, spec/19_time_and_network.md). -/
abbrev Reg.TIM_PORT_STAT.addr (n : Nat) : Nat := 0x1200304 + 0x20 * n
abbrev Reg.TIM_PORT_STAT.link_up (n : Nat) : Fld := ⟨Reg.TIM_PORT_STAT.addr n, 31, 31⟩
/-- TIM_PORT_PDELAY n (R385, spec/19_time_and_network.md). -/
abbrev Reg.TIM_PORT_PDELAY.addr (n : Nat) : Nat := 0x1200308 + 0x20 * n
abbrev Reg.TIM_PORT_PDELAY.pdelay (n : Nat) : Fld := ⟨Reg.TIM_PORT_PDELAY.addr n, 31, 0⟩
/-- TIM_PORT_FWD n (R385, spec/19_time_and_network.md). -/
abbrev Reg.TIM_PORT_FWD.addr (n : Nat) : Nat := 0x120030C + 0x20 * n
abbrev Reg.TIM_PORT_FWD.frames (n : Nat) : Fld := ⟨Reg.TIM_PORT_FWD.addr n, 31, 0⟩
/-- TIM_PORT_DROP n (R385, spec/19_time_and_network.md). -/
abbrev Reg.TIM_PORT_DROP.addr (n : Nat) : Nat := 0x1200310 + 0x20 * n
abbrev Reg.TIM_PORT_DROP.fifo (n : Nat) : Fld := ⟨Reg.TIM_PORT_DROP.addr n, 31, 16⟩
abbrev Reg.TIM_PORT_DROP.fcs (n : Nat) : Fld := ⟨Reg.TIM_PORT_DROP.addr n, 15, 0⟩
/-- TIM_TRG_CTL (R385, spec/19_time_and_network.md). -/
abbrev Reg.TIM_TRG_CTL.addr : Nat := 0x1200400
abbrev Reg.TIM_TRG_CTL.disarm : Fld := ⟨Reg.TIM_TRG_CTL.addr, 31, 16⟩
abbrev Reg.TIM_TRG_CTL.arm : Fld := ⟨Reg.TIM_TRG_CTL.addr, 15, 0⟩
/-- TIM_TRG_CFG n (R385, spec/19_time_and_network.md). -/
abbrev Reg.TIM_TRG_CFG.addr (n : Nat) : Nat := 0x1201000 + 0x20 * n
abbrev Reg.TIM_TRG_CFG.arm_std (n : Nat) : Fld := ⟨Reg.TIM_TRG_CFG.addr n, 31, 31⟩
abbrev Reg.TIM_TRG_CFG.abs (n : Nat) : Fld := ⟨Reg.TIM_TRG_CFG.addr n, 30, 30⟩
abbrev Reg.TIM_TRG_CFG.target (n : Nat) : Fld := ⟨Reg.TIM_TRG_CFG.addr n, 27, 24⟩
abbrev Reg.TIM_TRG_CFG.tb (n : Nat) : Fld := ⟨Reg.TIM_TRG_CFG.addr n, 23, 22⟩
abbrev Reg.TIM_TRG_CFG.gpio (n : Nat) : Fld := ⟨Reg.TIM_TRG_CFG.addr n, 21, 20⟩
abbrev Reg.TIM_TRG_CFG.width (n : Nat) : Fld := ⟨Reg.TIM_TRG_CFG.addr n, 15, 0⟩
/-- TIM_TRG_START_LO n (R385, spec/19_time_and_network.md). -/
abbrev Reg.TIM_TRG_START_LO.addr (n : Nat) : Nat := 0x1201004 + 0x20 * n
abbrev Reg.TIM_TRG_START_LO.start (n : Nat) : Fld := ⟨Reg.TIM_TRG_START_LO.addr n, 31, 0⟩
/-- TIM_TRG_START_HI n (R385, spec/19_time_and_network.md). -/
abbrev Reg.TIM_TRG_START_HI.addr (n : Nat) : Nat := 0x1201008 + 0x20 * n
abbrev Reg.TIM_TRG_START_HI.start (n : Nat) : Fld := ⟨Reg.TIM_TRG_START_HI.addr n, 31, 0⟩
/-- TIM_TRG_PERIOD n (R385, spec/19_time_and_network.md). -/
abbrev Reg.TIM_TRG_PERIOD.addr (n : Nat) : Nat := 0x120100C + 0x20 * n
abbrev Reg.TIM_TRG_PERIOD.period (n : Nat) : Fld := ⟨Reg.TIM_TRG_PERIOD.addr n, 31, 0⟩
/-- TIM_TRG_PERIOD_FRAC n (R385, spec/19_time_and_network.md). -/
abbrev Reg.TIM_TRG_PERIOD_FRAC.addr (n : Nat) : Nat := 0x1201010 + 0x20 * n
abbrev Reg.TIM_TRG_PERIOD_FRAC.frac (n : Nat) : Fld := ⟨Reg.TIM_TRG_PERIOD_FRAC.addr n, 15, 0⟩
/-- TIM_TRG_COUNT n (R385, spec/19_time_and_network.md). -/
abbrev Reg.TIM_TRG_COUNT.addr (n : Nat) : Nat := 0x1201014 + 0x20 * n
abbrev Reg.TIM_TRG_COUNT.count (n : Nat) : Fld := ⟨Reg.TIM_TRG_COUNT.addr n, 31, 0⟩
/-- TIM_TRG_STAT n (R385, spec/19_time_and_network.md). -/
abbrev Reg.TIM_TRG_STAT.addr (n : Nat) : Nat := 0x1201018 + 0x20 * n
abbrev Reg.TIM_TRG_STAT.armed (n : Nat) : Fld := ⟨Reg.TIM_TRG_STAT.addr n, 31, 31⟩
abbrev Reg.TIM_TRG_STAT.skipped (n : Nat) : Fld := ⟨Reg.TIM_TRG_STAT.addr n, 23, 16⟩
abbrev Reg.TIM_TRG_STAT.events (n : Nat) : Fld := ⟨Reg.TIM_TRG_STAT.addr n, 15, 0⟩
/-- MOT_CFG (R400, spec/20_motion.md). -/
abbrev Reg.MOT_CFG.addr : Nat := 0x1300000
abbrev Reg.MOT_CFG.vm_min_dv : Fld := ⟨Reg.MOT_CFG.addr, 23, 12⟩
abbrev Reg.MOT_CFG.vm_div_q8 : Fld := ⟨Reg.MOT_CFG.addr, 11, 0⟩
/-- MOT_VM (R400, spec/20_motion.md). -/
abbrev Reg.MOT_VM.addr : Nat := 0x1300004
abbrev Reg.MOT_VM.vm_mv : Fld := ⟨Reg.MOT_VM.addr, 15, 0⟩
/-- MOT_STAT (R400, spec/20_motion.md). -/
abbrev Reg.MOT_STAT.addr : Nat := 0x1300008
abbrev Reg.MOT_STAT.fault : Fld := ⟨Reg.MOT_STAT.addr, 29, 24⟩
abbrev Reg.MOT_STAT.valid : Fld := ⟨Reg.MOT_STAT.addr, 21, 16⟩
abbrev Reg.MOT_STAT.powered : Fld := ⟨Reg.MOT_STAT.addr, 13, 8⟩
abbrev Reg.MOT_STAT.moving : Fld := ⟨Reg.MOT_STAT.addr, 5, 0⟩
/-- MOT_AX_CFG n (R400, spec/20_motion.md). -/
abbrev Reg.MOT_AX_CFG.addr (n : Nat) : Nat := 0x1301000 + 0x80 * n
abbrev Reg.MOT_AX_CFG.en (n : Nat) : Fld := ⟨Reg.MOT_AX_CFG.addr n, 31, 31⟩
abbrev Reg.MOT_AX_CFG.form (n : Nat) : Fld := ⟨Reg.MOT_AX_CFG.addr n, 30, 30⟩
abbrev Reg.MOT_AX_CFG.hold (n : Nat) : Fld := ⟨Reg.MOT_AX_CFG.addr n, 29, 29⟩
abbrev Reg.MOT_AX_CFG.home_dir (n : Nat) : Fld := ⟨Reg.MOT_AX_CFG.addr n, 28, 28⟩
abbrev Reg.MOT_AX_CFG.home_pol (n : Nat) : Fld := ⟨Reg.MOT_AX_CFG.addr n, 27, 27⟩
abbrev Reg.MOT_AX_CFG.lim_pol (n : Nat) : Fld := ⟨Reg.MOT_AX_CFG.addr n, 26, 26⟩
abbrev Reg.MOT_AX_CFG.table (n : Nat) : Fld := ⟨Reg.MOT_AX_CFG.addr n, 25, 24⟩
abbrev Reg.MOT_AX_CFG.sd (n : Nat) : Fld := ⟨Reg.MOT_AX_CFG.addr n, 23, 20⟩
abbrev Reg.MOT_AX_CFG.pw (n : Nat) : Fld := ⟨Reg.MOT_AX_CFG.addr n, 19, 12⟩
abbrev Reg.MOT_AX_CFG.deb_n (n : Nat) : Fld := ⟨Reg.MOT_AX_CFG.addr n, 11, 4⟩
abbrev Reg.MOT_AX_CFG.home_shift (n : Nat) : Fld := ⟨Reg.MOT_AX_CFG.addr n, 3, 0⟩
/-- MOT_AX_MOTOR n (R400, spec/20_motion.md). -/
abbrev Reg.MOT_AX_MOTOR.addr (n : Nat) : Nat := 0x1301004 + 0x80 * n
abbrev Reg.MOT_AX_MOTOR.l_uh (n : Nat) : Fld := ⟨Reg.MOT_AX_MOTOR.addr n, 31, 16⟩
abbrev Reg.MOT_AX_MOTOR.r_mohm (n : Nat) : Fld := ⟨Reg.MOT_AX_MOTOR.addr n, 15, 0⟩
/-- MOT_AX_DRIVE n (R400, spec/20_motion.md). -/
abbrev Reg.MOT_AX_DRIVE.addr (n : Nat) : Nat := 0x1301008 + 0x80 * n
abbrev Reg.MOT_AX_DRIVE.ke (n : Nat) : Fld := ⟨Reg.MOT_AX_DRIVE.addr n, 15, 0⟩
/-- MOT_AX_CUR n (R400, spec/20_motion.md). -/
abbrev Reg.MOT_AX_CUR.addr (n : Nat) : Nat := 0x130100C + 0x80 * n
abbrev Reg.MOT_AX_CUR.i_hold_ma (n : Nat) : Fld := ⟨Reg.MOT_AX_CUR.addr n, 31, 16⟩
abbrev Reg.MOT_AX_CUR.i_run_ma (n : Nat) : Fld := ⟨Reg.MOT_AX_CUR.addr n, 15, 0⟩
/-- MOT_AX_VMAX n (R400, spec/20_motion.md). -/
abbrev Reg.MOT_AX_VMAX.addr (n : Nat) : Nat := 0x1301010 + 0x80 * n
abbrev Reg.MOT_AX_VMAX.vmax (n : Nat) : Fld := ⟨Reg.MOT_AX_VMAX.addr n, 31, 0⟩
/-- MOT_AX_ACCEL n (R400, spec/20_motion.md). -/
abbrev Reg.MOT_AX_ACCEL.addr (n : Nat) : Nat := 0x1301014 + 0x80 * n
abbrev Reg.MOT_AX_ACCEL.accel (n : Nat) : Fld := ⟨Reg.MOT_AX_ACCEL.addr n, 23, 0⟩
/-- MOT_AX_DECEL n (R400, spec/20_motion.md). -/
abbrev Reg.MOT_AX_DECEL.addr (n : Nat) : Nat := 0x1301018 + 0x80 * n
abbrev Reg.MOT_AX_DECEL.decel (n : Nat) : Fld := ⟨Reg.MOT_AX_DECEL.addr n, 23, 0⟩
/-- MOT_AX_JERK n (R400, spec/20_motion.md). -/
abbrev Reg.MOT_AX_JERK.addr (n : Nat) : Nat := 0x130101C + 0x80 * n
abbrev Reg.MOT_AX_JERK.jerk (n : Nat) : Fld := ⟨Reg.MOT_AX_JERK.addr n, 31, 0⟩
/-- MOT_AX_HOME n (R400, spec/20_motion.md). -/
abbrev Reg.MOT_AX_HOME.addr (n : Nat) : Nat := 0x1301020 + 0x80 * n
abbrev Reg.MOT_AX_HOME.home_pos (n : Nat) : Fld := ⟨Reg.MOT_AX_HOME.addr n, 31, 0⟩
/-- MOT_AX_BACKOFF n (R400, spec/20_motion.md). -/
abbrev Reg.MOT_AX_BACKOFF.addr (n : Nat) : Nat := 0x1301024 + 0x80 * n
abbrev Reg.MOT_AX_BACKOFF.backoff (n : Nat) : Fld := ⟨Reg.MOT_AX_BACKOFF.addr n, 23, 0⟩
/-- MOT_AX_RANGE n (R400, spec/20_motion.md). -/
abbrev Reg.MOT_AX_RANGE.addr (n : Nat) : Nat := 0x1301028 + 0x80 * n
abbrev Reg.MOT_AX_RANGE.home_range (n : Nat) : Fld := ⟨Reg.MOT_AX_RANGE.addr n, 31, 0⟩
/-- MOT_AX_SW_CFG n (R400, spec/20_motion.md). -/
abbrev Reg.MOT_AX_SW_CFG.addr (n : Nat) : Nat := 0x130102C + 0x80 * n
abbrev Reg.MOT_AX_SW_CFG.chat_win_ms (n : Nat) : Fld := ⟨Reg.MOT_AX_SW_CFG.addr n, 31, 16⟩
abbrev Reg.MOT_AX_SW_CFG.chat_max (n : Nat) : Fld := ⟨Reg.MOT_AX_SW_CFG.addr n, 15, 8⟩
abbrev Reg.MOT_AX_SW_CFG.lim_persist (n : Nat) : Fld := ⟨Reg.MOT_AX_SW_CFG.addr n, 7, 0⟩
/-- MOT_AX_IDLE n (R400, spec/20_motion.md). -/
abbrev Reg.MOT_AX_IDLE.addr (n : Nat) : Nat := 0x1301030 + 0x80 * n
abbrev Reg.MOT_AX_IDLE.off_ms (n : Nat) : Fld := ⟨Reg.MOT_AX_IDLE.addr n, 31, 16⟩
abbrev Reg.MOT_AX_IDLE.idle_ms (n : Nat) : Fld := ⟨Reg.MOT_AX_IDLE.addr n, 15, 0⟩
/-- MOT_AX_STAT n (R400, spec/20_motion.md). -/
abbrev Reg.MOT_AX_STAT.addr (n : Nat) : Nat := 0x1301040 + 0x80 * n
abbrev Reg.MOT_AX_STAT.state (n : Nat) : Fld := ⟨Reg.MOT_AX_STAT.addr n, 31, 28⟩
abbrev Reg.MOT_AX_STAT.fault (n : Nat) : Fld := ⟨Reg.MOT_AX_STAT.addr n, 27, 24⟩
abbrev Reg.MOT_AX_STAT.phase (n : Nat) : Fld := ⟨Reg.MOT_AX_STAT.addr n, 23, 20⟩
abbrev Reg.MOT_AX_STAT.lim (n : Nat) : Fld := ⟨Reg.MOT_AX_STAT.addr n, 17, 17⟩
abbrev Reg.MOT_AX_STAT.home (n : Nat) : Fld := ⟨Reg.MOT_AX_STAT.addr n, 16, 16⟩
abbrev Reg.MOT_AX_STAT.valid (n : Nat) : Fld := ⟨Reg.MOT_AX_STAT.addr n, 0, 0⟩
/-- MOT_AX_POS n (R400, spec/20_motion.md). -/
abbrev Reg.MOT_AX_POS.addr (n : Nat) : Nat := 0x1301044 + 0x80 * n
abbrev Reg.MOT_AX_POS.pos (n : Nat) : Fld := ⟨Reg.MOT_AX_POS.addr n, 31, 0⟩
/-- MOT_AX_TGT n (R400, spec/20_motion.md). -/
abbrev Reg.MOT_AX_TGT.addr (n : Nat) : Nat := 0x1301048 + 0x80 * n
abbrev Reg.MOT_AX_TGT.tgt (n : Nat) : Fld := ⟨Reg.MOT_AX_TGT.addr n, 31, 0⟩
/-- MOT_AX_VEL n (R400, spec/20_motion.md). -/
abbrev Reg.MOT_AX_VEL.addr (n : Nat) : Nat := 0x130104C + 0x80 * n
abbrev Reg.MOT_AX_VEL.vel (n : Nat) : Fld := ⟨Reg.MOT_AX_VEL.addr n, 31, 0⟩
/-- MOT_AX_DUTY n (R400, spec/20_motion.md). -/
abbrev Reg.MOT_AX_DUTY.addr (n : Nat) : Nat := 0x1301050 + 0x80 * n
abbrev Reg.MOT_AX_DUTY.duty_b (n : Nat) : Fld := ⟨Reg.MOT_AX_DUTY.addr n, 28, 16⟩
abbrev Reg.MOT_AX_DUTY.duty_a (n : Nat) : Fld := ⟨Reg.MOT_AX_DUTY.addr n, 12, 0⟩
/-- MOT_AX_SWCNT n (R400, spec/20_motion.md). -/
abbrev Reg.MOT_AX_SWCNT.addr (n : Nat) : Nat := 0x1301054 + 0x80 * n
abbrev Reg.MOT_AX_SWCNT.lim_edges (n : Nat) : Fld := ⟨Reg.MOT_AX_SWCNT.addr n, 31, 16⟩
abbrev Reg.MOT_AX_SWCNT.home_edges (n : Nat) : Fld := ⟨Reg.MOT_AX_SWCNT.addr n, 15, 0⟩
/-- FAN_CFG (R412, spec/21_fantail.md). -/
abbrev Reg.FAN_CFG.addr : Nat := 0x1400000
abbrev Reg.FAN_CFG.dn : Fld := ⟨Reg.FAN_CFG.addr, 28, 24⟩
abbrev Reg.FAN_CFG.pwr_step_ms : Fld := ⟨Reg.FAN_CFG.addr, 15, 8⟩
abbrev Reg.FAN_CFG.out_pol : Fld := ⟨Reg.FAN_CFG.addr, 7, 0⟩
/-- FAN_KEEPWET (R412, spec/21_fantail.md). -/
abbrev Reg.FAN_KEEPWET.addr : Nat := 0x1400004
abbrev Reg.FAN_KEEPWET.kw_min : Fld := ⟨Reg.FAN_KEEPWET.addr, 15, 0⟩
/-- FAN_ENC (R412, spec/21_fantail.md). -/
abbrev Reg.FAN_ENC.addr : Nat := 0x1400008
abbrev Reg.FAN_ENC.enc_en : Fld := ⟨Reg.FAN_ENC.addr, 31, 31⟩
abbrev Reg.FAN_ENC.enc_win_ms : Fld := ⟨Reg.FAN_ENC.addr, 23, 16⟩
abbrev Reg.FAN_ENC.enc_cnt : Fld := ⟨Reg.FAN_ENC.addr, 15, 0⟩
/-- FAN_STAT (R412, spec/21_fantail.md). -/
abbrev Reg.FAN_STAT.addr : Nat := 0x1400010
abbrev Reg.FAN_STAT.pwr_en : Fld := ⟨Reg.FAN_STAT.addr, 27, 24⟩
abbrev Reg.FAN_STAT.out : Fld := ⟨Reg.FAN_STAT.addr, 23, 16⟩
abbrev Reg.FAN_STAT.rules : Fld := ⟨Reg.FAN_STAT.addr, 15, 0⟩
/-- FAN_WAKE (R412, spec/21_fantail.md). -/
abbrev Reg.FAN_WAKE.addr : Nat := 0x1400014
abbrev Reg.FAN_WAKE.count : Fld := ⟨Reg.FAN_WAKE.addr, 31, 16⟩
abbrev Reg.FAN_WAKE.causes : Fld := ⟨Reg.FAN_WAKE.addr, 4, 1⟩
/-- FAN_DIN_LVL (R412, spec/21_fantail.md). -/
abbrev Reg.FAN_DIN_LVL.addr : Nat := 0x1400018
abbrev Reg.FAN_DIN_LVL.valid : Fld := ⟨Reg.FAN_DIN_LVL.addr, 31, 16⟩
abbrev Reg.FAN_DIN_LVL.level : Fld := ⟨Reg.FAN_DIN_LVL.addr, 15, 0⟩
/-- FAN_AON_MS_LO (R412, spec/21_fantail.md). -/
abbrev Reg.FAN_AON_MS_LO.addr : Nat := 0x140001C
abbrev Reg.FAN_AON_MS_LO.aon_ms : Fld := ⟨Reg.FAN_AON_MS_LO.addr, 31, 0⟩
/-- FAN_AON_MS_HI (R412, spec/21_fantail.md). -/
abbrev Reg.FAN_AON_MS_HI.addr : Nat := 0x1400020
abbrev Reg.FAN_AON_MS_HI.aon_ms : Fld := ⟨Reg.FAN_AON_MS_HI.addr, 15, 0⟩
/-- FAN_LOG_SEQ (R412, spec/21_fantail.md). -/
abbrev Reg.FAN_LOG_SEQ.addr : Nat := 0x1400024
abbrev Reg.FAN_LOG_SEQ.seq : Fld := ⟨Reg.FAN_LOG_SEQ.addr, 31, 0⟩
/-- FAN_AIN_CFG n (R412, spec/21_fantail.md). -/
abbrev Reg.FAN_AIN_CFG.addr (n : Nat) : Nat := 0x1400100 + 0x8 * n
abbrev Reg.FAN_AIN_CFG.en (n : Nat) : Fld := ⟨Reg.FAN_AIN_CFG.addr n, 31, 31⟩
abbrev Reg.FAN_AIN_CFG.filt (n : Nat) : Fld := ⟨Reg.FAN_AIN_CFG.addr n, 30, 30⟩
abbrev Reg.FAN_AIN_CFG.k (n : Nat) : Fld := ⟨Reg.FAN_AIN_CFG.addr n, 26, 24⟩
abbrev Reg.FAN_AIN_CFG.samp_ms (n : Nat) : Fld := ⟨Reg.FAN_AIN_CFG.addr n, 7, 0⟩
/-- FAN_AIN_VAL n (R412, spec/21_fantail.md). -/
abbrev Reg.FAN_AIN_VAL.addr (n : Nat) : Nat := 0x1400104 + 0x8 * n
abbrev Reg.FAN_AIN_VAL.valid (n : Nat) : Fld := ⟨Reg.FAN_AIN_VAL.addr n, 31, 31⟩
abbrev Reg.FAN_AIN_VAL.y (n : Nat) : Fld := ⟨Reg.FAN_AIN_VAL.addr n, 11, 0⟩
/-- FAN_RULE_CFG n (R412, spec/21_fantail.md). -/
abbrev Reg.FAN_RULE_CFG.addr (n : Nat) : Nat := 0x1400200 + 0x8 * n
abbrev Reg.FAN_RULE_CFG.en (n : Nat) : Fld := ⟨Reg.FAN_RULE_CFG.addr n, 31, 31⟩
abbrev Reg.FAN_RULE_CFG.kind (n : Nat) : Fld := ⟨Reg.FAN_RULE_CFG.addr n, 29, 28⟩
abbrev Reg.FAN_RULE_CFG.src (n : Nat) : Fld := ⟨Reg.FAN_RULE_CFG.addr n, 27, 24⟩
abbrev Reg.FAN_RULE_CFG.m (n : Nat) : Fld := ⟨Reg.FAN_RULE_CFG.addr n, 19, 16⟩
abbrev Reg.FAN_RULE_CFG.log (n : Nat) : Fld := ⟨Reg.FAN_RULE_CFG.addr n, 15, 15⟩
abbrev Reg.FAN_RULE_CFG.wake (n : Nat) : Fld := ⟨Reg.FAN_RULE_CFG.addr n, 14, 14⟩
abbrev Reg.FAN_RULE_CFG.out_en (n : Nat) : Fld := ⟨Reg.FAN_RULE_CFG.addr n, 13, 13⟩
abbrev Reg.FAN_RULE_CFG.out (n : Nat) : Fld := ⟨Reg.FAN_RULE_CFG.addr n, 2, 0⟩
/-- FAN_RULE_THR n (R412, spec/21_fantail.md). -/
abbrev Reg.FAN_RULE_THR.addr (n : Nat) : Nat := 0x1400204 + 0x8 * n
abbrev Reg.FAN_RULE_THR.hyst (n : Nat) : Fld := ⟨Reg.FAN_RULE_THR.addr n, 27, 16⟩
abbrev Reg.FAN_RULE_THR.thr (n : Nat) : Fld := ⟨Reg.FAN_RULE_THR.addr n, 11, 0⟩
/-- PMU_CFG (R419, spec/22_performance_monitoring.md). -/
abbrev Reg.PMU_CFG.addr : Nat := 0x1500000
abbrev Reg.PMU_CFG.tag_en : Fld := ⟨Reg.PMU_CFG.addr, 31, 31⟩
abbrev Reg.PMU_CFG.tag_n : Fld := ⟨Reg.PMU_CFG.addr, 28, 24⟩
abbrev Reg.PMU_CFG.snap_evt : Fld := ⟨Reg.PMU_CFG.addr, 4, 4⟩
abbrev Reg.PMU_CFG.pmu_evr : Fld := ⟨Reg.PMU_CFG.addr, 2, 0⟩
/-- PMU_TAG_SEED (R419, spec/22_performance_monitoring.md). -/
abbrev Reg.PMU_TAG_SEED.addr : Nat := 0x1500004
abbrev Reg.PMU_TAG_SEED.seed : Fld := ⟨Reg.PMU_TAG_SEED.addr, 31, 0⟩
/-- PMU_SAMP_CFG (R419, spec/22_performance_monitoring.md). -/
abbrev Reg.PMU_SAMP_CFG.addr : Nat := 0x1500008
abbrev Reg.PMU_SAMP_CFG.samp_en : Fld := ⟨Reg.PMU_SAMP_CFG.addr, 31, 31⟩
abbrev Reg.PMU_SAMP_CFG.samp_all : Fld := ⟨Reg.PMU_SAMP_CFG.addr, 30, 30⟩
abbrev Reg.PMU_SAMP_CFG.samp_ctx : Fld := ⟨Reg.PMU_SAMP_CFG.addr, 29, 27⟩
abbrev Reg.PMU_SAMP_CFG.period_m1 : Fld := ⟨Reg.PMU_SAMP_CFG.addr, 23, 0⟩
/-- PMU_CTL (R419, spec/22_performance_monitoring.md). -/
abbrev Reg.PMU_CTL.addr : Nat := 0x1500010
abbrev Reg.PMU_CTL.clear : Fld := ⟨Reg.PMU_CTL.addr, 3, 3⟩
abbrev Reg.PMU_CTL.unfreeze : Fld := ⟨Reg.PMU_CTL.addr, 2, 2⟩
abbrev Reg.PMU_CTL.freeze : Fld := ⟨Reg.PMU_CTL.addr, 1, 1⟩
abbrev Reg.PMU_CTL.snap : Fld := ⟨Reg.PMU_CTL.addr, 0, 0⟩
/-- PMU_STAT (R419, spec/22_performance_monitoring.md). -/
abbrev Reg.PMU_STAT.addr : Nat := 0x1500014
abbrev Reg.PMU_STAT.frozen : Fld := ⟨Reg.PMU_STAT.addr, 31, 31⟩
abbrev Reg.PMU_STAT.snap_busy : Fld := ⟨Reg.PMU_STAT.addr, 30, 30⟩
abbrev Reg.PMU_STAT.snap_missed : Fld := ⟨Reg.PMU_STAT.addr, 23, 16⟩
abbrev Reg.PMU_STAT.snap_seq : Fld := ⟨Reg.PMU_STAT.addr, 15, 0⟩
/-- PMU_SNAP_TIME_LO (R419, spec/22_performance_monitoring.md). -/
abbrev Reg.PMU_SNAP_TIME_LO.addr : Nat := 0x1500018
abbrev Reg.PMU_SNAP_TIME_LO.time_lo : Fld := ⟨Reg.PMU_SNAP_TIME_LO.addr, 31, 0⟩
/-- PMU_SNAP_TIME_HI (R419, spec/22_performance_monitoring.md). -/
abbrev Reg.PMU_SNAP_TIME_HI.addr : Nat := 0x150001C
abbrev Reg.PMU_SNAP_TIME_HI.time_hi : Fld := ⟨Reg.PMU_SNAP_TIME_HI.addr, 31, 0⟩
/-- PMU_SAMPLE_STAT (R419, spec/22_performance_monitoring.md). -/
abbrev Reg.PMU_SAMPLE_STAT.addr : Nat := 0x1500020
abbrev Reg.PMU_SAMPLE_STAT.samp_lost : Fld := ⟨Reg.PMU_SAMPLE_STAT.addr, 31, 24⟩
abbrev Reg.PMU_SAMPLE_STAT.tag_lost : Fld := ⟨Reg.PMU_SAMPLE_STAT.addr, 23, 16⟩
abbrev Reg.PMU_SAMPLE_STAT.in_flight : Fld := ⟨Reg.PMU_SAMPLE_STAT.addr, 6, 0⟩
/-- PMU_CNT_LO n (R419, spec/22_performance_monitoring.md). -/
abbrev Reg.PMU_CNT_LO.addr (n : Nat) : Nat := 0x1501000 + 0x8 * n
abbrev Reg.PMU_CNT_LO.count_lo (n : Nat) : Fld := ⟨Reg.PMU_CNT_LO.addr n, 31, 0⟩
/-- PMU_CNT_HI n (R419, spec/22_performance_monitoring.md). -/
abbrev Reg.PMU_CNT_HI.addr (n : Nat) : Nat := 0x1501004 + 0x8 * n
abbrev Reg.PMU_CNT_HI.count_hi (n : Nat) : Fld := ⟨Reg.PMU_CNT_HI.addr n, 15, 0⟩
/-- PMU_SHD_LO n (R419, spec/22_performance_monitoring.md). -/
abbrev Reg.PMU_SHD_LO.addr (n : Nat) : Nat := 0x1502000 + 0x8 * n
abbrev Reg.PMU_SHD_LO.count_lo (n : Nat) : Fld := ⟨Reg.PMU_SHD_LO.addr n, 31, 0⟩
/-- PMU_SHD_HI n (R419, spec/22_performance_monitoring.md). -/
abbrev Reg.PMU_SHD_HI.addr (n : Nat) : Nat := 0x1502004 + 0x8 * n
abbrev Reg.PMU_SHD_HI.count_hi (n : Nat) : Fld := ⟨Reg.PMU_SHD_HI.addr n, 15, 0⟩
/-- HDMA_MSIX_ADDR n (R69, spec/04_host_interface.md). -/
abbrev Reg.HDMA_MSIX_ADDR.addr (n : Nat) : Nat := 0x308000 + 0x10 * n
abbrev Reg.HDMA_MSIX_ADDR.value (n : Nat) : Fld := ⟨Reg.HDMA_MSIX_ADDR.addr n, 31, 0⟩
/-- HDMA_MSIX_UADDR n (R69, spec/04_host_interface.md). -/
abbrev Reg.HDMA_MSIX_UADDR.addr (n : Nat) : Nat := 0x308004 + 0x10 * n
abbrev Reg.HDMA_MSIX_UADDR.value (n : Nat) : Fld := ⟨Reg.HDMA_MSIX_UADDR.addr n, 31, 0⟩
/-- HDMA_MSIX_DATA n (R69, spec/04_host_interface.md). -/
abbrev Reg.HDMA_MSIX_DATA.addr (n : Nat) : Nat := 0x308008 + 0x10 * n
abbrev Reg.HDMA_MSIX_DATA.value (n : Nat) : Fld := ⟨Reg.HDMA_MSIX_DATA.addr n, 31, 0⟩
/-- HDMA_MSIX_CTRL n (R69, spec/04_host_interface.md). -/
abbrev Reg.HDMA_MSIX_CTRL.addr (n : Nat) : Nat := 0x30800C + 0x10 * n
abbrev Reg.HDMA_MSIX_CTRL.mask (n : Nat) : Fld := ⟨Reg.HDMA_MSIX_CTRL.addr n, 0, 0⟩
/-- HDMA_MSIX_PBA n (R69, spec/04_host_interface.md). -/
abbrev Reg.HDMA_MSIX_PBA.addr (n : Nat) : Nat := 0x309000 + 0x4 * n
abbrev Reg.HDMA_MSIX_PBA.bits (n : Nat) : Fld := ⟨Reg.HDMA_MSIX_PBA.addr n, 31, 0⟩

end Sys2Proof.Machine
end

