-- ==== Sys2Proof/Machine/RegTable.lean ====
section
/-! DEFINITION. Machine/RegTable.lean: the reset value and the access masks of every register (R8, R10 and the register
sections of every chapter). A row covers the equally spaced registers of one name. -/

namespace Sys2Proof.Machine

/-- One row of the register table: `count` registers from `base` on, `stride` bytes apart, register `i` of them with
reset value `reset + i * resetStep`; the bits a plain host write changes (`rw`), the bits a written 1 clears (`w1c`),
the bits a read clears (`rc`) and the bits the image loads (`im`); `half` says which half of a 64-bit pair it is:
0 no pair, 1 the low half (its partner stands 4 above), 2 the high half (R9). -/
structure RegRow where
  base : Nat
  stride : Nat
  count : Nat
  reset : Nat
  resetStep : Nat
  rw : Nat
  w1c : Nat
  rc : Nat
  im : Nat
  half : Nat
deriving DecidableEq, Repr

/-- The registers of block GLB. -/
def regRowsGlb : List RegRow := [
  ⟨0x100000, 0x0, 1, 0x42622111, 0, 0x0, 0x0, 0x0, 0x0, 0⟩,  -- GLB_ID
  ⟨0x100400, 0x0, 1, 0x0, 0, 0x0, 0x0, 0x0, 0x0, 0⟩,  -- GLB_SLACK_NOW
  ⟨0x100404, 0x0, 1, 0xFFFF, 0, 0x0, 0x0, 0xFFFF, 0x0, 0⟩,  -- GLB_SLACK_MIN
  ⟨0x100408, 0x0, 1, 0x141030, 0, 0x0, 0x0, 0x0, 0xFFFFFF, 0⟩,  -- GLB_SLACK_CFG
  ⟨0x10040C, 0x0, 1, 0x40A50, 0, 0x0, 0x0, 0x0, 0xFFFFF1, 0⟩,  -- GLB_AVS_CFG
  ⟨0x100410, 0x0, 1, 0x352028A, 0, 0x0, 0x0, 0x0, 0x3FF03FF, 0⟩,  -- GLB_AVS_LIMITS
  ⟨0x100414, 0x0, 1, 0x2EE, 0, 0x0, 0x0, 0x0, 0x3FF, 0⟩,  -- GLB_AVS_IDLE
  ⟨0x100418, 0x0, 1, 0x0, 0, 0x0, 0x0, 0x0, 0x0, 0⟩,  -- GLB_AVS_VOUT
  ⟨0x10041C, 0x0, 1, 0x0, 0, 0x0, 0x7, 0x0, 0x0, 0⟩,  -- GLB_AVS_STAT
  ⟨0x100010, 0x0, 1, 0x0, 0, 0x0, 0x0, 0x0, 0x0, 0⟩,  -- GLB_MODE
  ⟨0x100014, 0x0, 1, 0x0, 0, 0x0, 0x0, 0x0, 0x0, 0⟩,  -- GLB_SHADOW_OF
  ⟨0x100018, 0x0, 1, 0x0, 0, 0x0, 0x0, 0x0, 0x0, 0⟩,  -- GLB_MODE_REQ
  ⟨0x10001C, 0x0, 1, 0x0, 0, 0x0, 0x0, 0x0, 0x0, 0⟩,  -- GLB_MODE_REQ_STAT
  ⟨0x100020, 0x0, 1, 0x0, 0, 0x0, 0x0, 0x0, 0x0, 0⟩,  -- GLB_SAFE_CAUSE
  ⟨0x100024, 0x0, 1, 0x0, 0, 0x0, 0x0, 0x0, 0x0, 0⟩  -- GLB_STATUS
]

/-- The registers of block CFG. -/
def regRowsCfg : List RegRow := [
  ⟨0x200000, 0x0, 1, 0x0, 0, 0x0, 0x0, 0x0, 0x0, 0⟩,  -- CFG_IMAGE_STAT
  ⟨0x200004, 0x0, 1, 0x0, 0, 0x0, 0x0, 0x0, 0x0, 0⟩,  -- CFG_IMAGE_SEQ
  ⟨0x200008, 0x0, 1, 0x0, 0, 0x0, 0x0, 0x0, 0x0, 0⟩,  -- CFG_IMAGE_CRC
  ⟨0x20000C, 0x0, 1, 0x0, 0, 0x0, 0x0, 0x0, 0xFFFFFFFF, 0⟩,  -- CFG_BOARD_ID
  ⟨0x200010, 0x0, 1, 0x0, 0, 0x0, 0x0, 0x0, 0x0, 0⟩,  -- CFG_SLOT_STAT
  ⟨0x200014, 0x0, 1, 0x0, 0, 0x0, 0x0, 0x0, 0x0, 0⟩,  -- CFG_SLOT_A_SEQ
  ⟨0x200018, 0x0, 1, 0x0, 0, 0x0, 0x0, 0x0, 0x0, 0⟩,  -- CFG_SLOT_B_SEQ
  ⟨0x200020, 0x0, 1, 0x0, 0, 0x0, 0x0, 0x0, 0x0, 0⟩,  -- CFG_LOAD_TIME
  ⟨0x200024, 0x0, 1, 0x0, 0, 0x0, 0x0, 0x0, 0x0, 0⟩,  -- CFG_FLASH_INFO
  ⟨0x200030, 0x0, 1, 0x0, 0, 0xFFFFFFFF, 0x0, 0x0, 0x0, 0⟩,  -- CFG_FLASH_ADDR
  ⟨0x200034, 0x0, 1, 0x0, 0, 0x0, 0x0, 0x0, 0x0, 0⟩,  -- CFG_FLASH_CMD
  ⟨0x200038, 0x0, 1, 0x0, 0, 0x0, 0x0, 0x0, 0x0, 0⟩,  -- CFG_FLASH_STAT
  ⟨0x200040, 0x0, 1, 0x0, 0, 0x0, 0x0, 0x0, 0x0, 0⟩,  -- CFG_BOOT_STAT
  ⟨0x200044, 0x0, 1, 0x0, 0, 0x0, 0x0, 0x0, 0x0, 1⟩,  -- CFG_BOOT_ADDR_LO
  ⟨0x200048, 0x0, 1, 0x0, 0, 0x0, 0x0, 0x0, 0x0, 2⟩  -- CFG_BOOT_ADDR_HI
]

/-- The registers of block HDMA. -/
def regRowsHdma : List RegRow := [
  ⟨0x300000, 0x0, 1, 0x0, 0, 0x0, 0x0, 0x0, 0x0, 0⟩,  -- HDMA_PCI_STAT
  ⟨0x300010, 0x0, 1, 0x0, 0, 0xFF, 0x0, 0x0, 0x0, 0⟩,  -- HDMA_WIN_BASE
  ⟨0x300014, 0x0, 1, 0x0, 0, 0x0, 0x7, 0x0, 0x0, 0⟩,  -- HDMA_WIN_STAT
  ⟨0x300020, 0x0, 1, 0x0, 0, 0x0, 0x0, 0x0, 0x0, 0⟩,  -- HDMA_ABORT
  ⟨0x300024, 0x0, 1, 0x0, 0, 0x0, 0x0, 0x0, 0x0, 0⟩,  -- HDMA_ABORT_STAT
  ⟨0x300030, 0x0, 1, 0x3E8, 0, 0x0, 0x0, 0x0, 0xFFFF, 0⟩,  -- HDMA_REFETCH_CFG
  ⟨0x301000, 0x40, 48, 0x40080000, 1, 0x0, 0x0, 0x0, 0xF81F007F, 0⟩,  -- HDMA_RING_CFG copy
  ⟨0x301C00, 0x40, 8, 0x80080030, 1, 0x0, 0x0, 0x0, 0xF81F007F, 0⟩,  -- HDMA_RING_CFG job
  ⟨0x301E00, 0x40, 8, 0xC0080038, 1, 0x0, 0x0, 0x0, 0xF81F007F, 0⟩,  -- HDMA_RING_CFG event
  ⟨0x301004, 0x40, 64, 0x0, 0, 0xFFFFF000, 0x0, 0x0, 0x0, 1⟩,  -- HDMA_RING_BASE_LO
  ⟨0x301008, 0x40, 64, 0x0, 0, 0xFFFFFFFF, 0x0, 0x0, 0x0, 2⟩,  -- HDMA_RING_BASE_HI
  ⟨0x30100C, 0x40, 64, 0x0, 0, 0xFF01, 0x0, 0x0, 0x0, 0⟩,  -- HDMA_RING_CTL
  ⟨0x301010, 0x40, 64, 0x0, 0, 0x0, 0x0, 0x0, 0x0, 0⟩,  -- HDMA_RING_DB
  ⟨0x301014, 0x40, 64, 0x0, 0, 0x0, 0x0, 0x0, 0x0, 0⟩,  -- HDMA_RING_PTR
  ⟨0x301018, 0x40, 64, 0x0, 0, 0x0, 0xF, 0x0, 0x0, 0⟩,  -- HDMA_RING_STAT
  ⟨0x30101C, 0x40, 64, 0x0, 0, 0x0, 0x0, 0x0, 0x0, 0⟩,  -- HDMA_RING_SEQ
  ⟨0x301020, 0x40, 64, 0x0, 0, 0x0, 0x0, 0xFFFFFFFF, 0x0, 0⟩,  -- HDMA_EVR_LOST
  ⟨0x308000, 0x10, 128, 0x0, 0, 0xFFFFFFFF, 0x0, 0x0, 0x0, 0⟩,  -- HDMA_MSIX_ADDR
  ⟨0x308004, 0x10, 128, 0x0, 0, 0xFFFFFFFF, 0x0, 0x0, 0x0, 0⟩,  -- HDMA_MSIX_UADDR
  ⟨0x308008, 0x10, 128, 0x0, 0, 0xFFFFFFFF, 0x0, 0x0, 0x0, 0⟩,  -- HDMA_MSIX_DATA
  ⟨0x30800C, 0x10, 128, 0x1, 0, 0x1, 0x0, 0x0, 0x0, 0⟩,  -- HDMA_MSIX_CTRL
  ⟨0x309000, 0x4, 4, 0x0, 0, 0x0, 0x0, 0x0, 0x0, 0⟩  -- HDMA_MSIX_PBA
]

/-- The registers of block SEQ. -/
def regRowsSeq : List RegRow := [
  ⟨0x400000, 0x0, 1, 0x0, 0, 0x0, 0x0, 0x0, 0x0, 0⟩,  -- SEQ_STAT
  ⟨0x400004, 0x0, 1, 0x0, 0, 0x0, 0x0, 0x0, 0x0, 0⟩,  -- SEQ_BAND
  ⟨0x400008, 0x0, 1, 0x0, 0, 0x0, 0x0, 0x0, 0x0, 0⟩,  -- SEQ_PAGE
  ⟨0x400080, 0x0, 1, 0x0, 0, 0x0, 0x0, 0x0, 0x0, 0⟩,  -- SEQ_SYNC_INC
  ⟨0x400100, 0x4, 32, 0x0, 0, 0x0, 0x0, 0x0, 0x0, 0⟩,  -- SEQ_SYNC
  ⟨0x401000, 0x40, 8, 0x0, 0, 0x0, 0x0, 0x0, 0x0, 0⟩,  -- SEQ_CTX_STAT
  ⟨0x401004, 0x40, 8, 0x0, 0, 0x0, 0x0, 0x0, 0x0, 1⟩,  -- SEQ_CTX_PC_LO
  ⟨0x401008, 0x40, 8, 0x0, 0, 0x0, 0x0, 0x0, 0x0, 2⟩,  -- SEQ_CTX_PC_HI
  ⟨0x40100C, 0x40, 8, 0x0, 0, 0x0, 0x0, 0x0, 0x0, 0⟩,  -- SEQ_CTX_GEN
  ⟨0x401010, 0x40, 8, 0x0, 0, 0x0, 0x0, 0x0, 0x0, 0⟩,  -- SEQ_CTX_JOB
  ⟨0x401014, 0x40, 8, 0x0, 0, 0x0, 0x0, 0x0, 0x0, 0⟩,  -- SEQ_CTX_DB
  ⟨0x401018, 0x40, 8, 0x0, 0, 0x0, 0x0, 0x0, 0x0, 0⟩  -- SEQ_CTX_CMDS
]

/-- The registers of block RUN. -/
def regRowsRun : List RegRow := [
  ⟨0x500000, 0x0, 1, 0xFFFFFF, 0, 0x0, 0x0, 0x0, 0x0, 0⟩,  -- RUN_DEC_STAT
  ⟨0x500004, 0x0, 1, 0x0, 0, 0x0, 0x0, 0x0, 0x0, 0⟩,  -- RUN_DEC_RETIRED
  ⟨0x500008, 0x0, 1, 0x0, 0, 0x0, 0x0, 0x0, 0x0, 0⟩,  -- RUN_ENC_STAT
  ⟨0x500010, 0x0, 1, 0x0, 0, 0x0, 0x0, 0x0, 0x0, 0⟩,  -- RUN_CACHE_USED
  ⟨0x500014, 0x0, 1, 0x0, 0, 0x0, 0x0, 0x0, 0x0, 0⟩,  -- RUN_CACHE_PIN
  ⟨0x500018, 0x0, 1, 0x0, 0, 0x0, 0x0, 0x0, 0x0, 0⟩,  -- RUN_DIR_STAT
  ⟨0x500020, 0x0, 1, 0x10, 0, 0x0, 0x0, 0x0, 0x1F, 0⟩,  -- RUN_CACHE_CFG
  ⟨0x500024, 0x0, 1, 0x2, 0, 0x0, 0x0, 0x0, 0xF, 0⟩,  -- RUN_SPARE_CFG
  ⟨0x500028, 0x0, 1, 0x103, 0, 0x0, 0x0, 0x0, 0x1FF, 0⟩,  -- RUN_PCACHE_CFG
  ⟨0x50002C, 0x0, 1, 0x107, 0, 0x0, 0x0, 0x0, 0x1FF, 0⟩,  -- RUN_REJOIN_CFG
  ⟨0x500030, 0x0, 1, 0x0, 0, 0x0, 0x0, 0x0, 0xFFFF0000, 1⟩,  -- RUN_CTX_BASE_LO
  ⟨0x500034, 0x0, 1, 0x0, 0, 0x0, 0x0, 0x0, 0xFF, 2⟩,  -- RUN_CTX_BASE_HI
  ⟨0x500040, 0x0, 1, 0x0, 0, 0x0, 0x0, 0x0, 0x0, 0⟩,  -- RUN_PCACHE_STAT
  ⟨0x500044, 0x0, 1, 0x0, 0, 0x0, 0x0, 0x0, 0x0, 0⟩,  -- RUN_PCACHE_USED
  ⟨0x500050, 0x0, 1, 0x0, 0, 0xFFFFFFFF, 0x0, 0x0, 0x0, 1⟩,  -- RUN_XP_SRC_LO
  ⟨0x500054, 0x0, 1, 0x0, 0, 0xFF, 0x0, 0x0, 0x0, 2⟩,  -- RUN_XP_SRC_HI
  ⟨0x50005C, 0x0, 1, 0x0, 0, 0xFFFFFFFF, 0x0, 0x0, 0x0, 1⟩,  -- RUN_XP_DST_LO
  ⟨0x500060, 0x0, 1, 0x0, 0, 0xFF, 0x0, 0x0, 0x0, 2⟩,  -- RUN_XP_DST_HI
  ⟨0x500058, 0x0, 1, 0x0, 0, 0xFFFFFFFF, 0x0, 0x0, 0x0, 0⟩,  -- RUN_XP_LEN
  ⟨0x500064, 0x0, 1, 0x0, 0, 0xFFFFFFFF, 0x0, 0x0, 0x0, 0⟩,  -- RUN_XP_DLEN
  ⟨0x500068, 0x0, 1, 0x0, 0, 0x0, 0x0, 0x0, 0x0, 0⟩,  -- RUN_XP_CMD
  ⟨0x50006C, 0x0, 1, 0x0, 0, 0x0, 0x0, 0x0, 0x0, 0⟩,  -- RUN_XP_STAT
  ⟨0x500070, 0x0, 1, 0x0, 0, 0x0, 0x0, 0x0, 0x0, 0⟩,  -- RUN_XP_OUT
  ⟨0x500078, 0x0, 1, 0x0, 0, 0x0, 0x0, 0x0, 0x0, 0⟩,  -- RUN_DECODES
  ⟨0x50007C, 0x0, 1, 0x0, 0, 0x0, 0x0, 0x0, 0x0, 0⟩  -- RUN_RETRIES
]

/-- The registers of block CMP. -/
def regRowsCmp : List RegRow := [
  ⟨0x600000, 0x0, 1, 0x1200, 0, 0x0, 0x0, 0x0, 0x33, 0⟩,  -- CMP_GEOM
  ⟨0x600004, 0x0, 1, 0x40000, 0, 0x0, 0x0, 0x0, 0x7FFFFFFF, 0⟩,  -- CMP_PAGE_W
  ⟨0x600008, 0x0, 1, 0x0, 0, 0x0, 0x0, 0x0, 0x7FFFFFFF, 0⟩,  -- CMP_X_ORIGIN
  ⟨0x600010, 0x0, 1, 0x0, 0, 0x0, 0x0, 0x0, 0x0, 0⟩,  -- CMP_STAGE_STAT
  ⟨0x600014, 0x0, 1, 0x0, 0, 0x0, 0x0, 0x0, 0x0, 0⟩,  -- CMP_COMMITS
  ⟨0x600018, 0x0, 1, 0x0, 0, 0x0, 0x0, 0x0, 0x0, 0⟩,  -- CMP_DISCARDS
  ⟨0x600020, 0x0, 1, 0x0, 0, 0x0, 0x0, 0x0, 0x0, 0⟩,  -- CMP_BAND_TOKENS
  ⟨0x600024, 0x0, 1, 0x0, 0, 0x0, 0x0, 0x0, 0x0, 0⟩,  -- CMP_BAND_MAXLANE
  ⟨0x600028, 0x0, 1, 0x0, 0, 0x0, 0x0, 0x0, 0x0, 0⟩,  -- CMP_BAND_RECORD
  ⟨0x600030, 0x0, 1, 0xFF, 0, 0x0, 0x0, 0x0, 0x0, 0⟩,  -- CMP_LANE_STAT
  ⟨0x600034, 0x0, 1, 0x76543210, 0, 0x0, 0x0, 0x0, 0x0, 0⟩,  -- CMP_LANE_MAP
  ⟨0x600040, 0x0, 1, 0x2, 0, 0x0, 0x0, 0x0, 0xF, 0⟩,  -- CMP_SPARE_CFG
  ⟨0x600050, 0x0, 1, 0x0, 0, 0x0, 0x0, 0x0, 0x0, 0⟩,  -- CMP_RECOMP
  ⟨0x600060, 0x0, 1, 0x0, 0, 0x0, 0x0, 0x0, 0x0, 1⟩,  -- CMP_TOKENS_LO
  ⟨0x600064, 0x0, 1, 0x0, 0, 0x0, 0x0, 0x0, 0x0, 2⟩,  -- CMP_TOKENS_HI
  ⟨0x600100, 0x4, 9, 0x0, 0, 0x0, 0x0, 0x0, 0x0, 0⟩  -- CMP_LANE_FAULT
]

/-- The registers of block DCR. -/
def regRowsDcr : List RegRow := [
  ⟨0x700000, 0x0, 1, 0x7, 0, 0x0, 0x0, 0x0, 0x7, 0⟩,  -- DCR_CFG
  ⟨0x700010, 0x0, 1, 0x0, 0, 0x0, 0x0, 0x0, 0x0, 0⟩,  -- DCR_ACTIVE
  ⟨0x700014, 0x0, 1, 0x0, 0, 0x0, 0x0, 0x0, 0x0, 0⟩,  -- DCR_ACTIVE_COUNT
  ⟨0x700018, 0x0, 1, 0x0, 0, 0x0, 0x0, 0x0, 0x0, 0⟩,  -- DCR_UNHIDEABLE
  ⟨0x700020, 0x0, 1, 0x0, 0, 0x0, 0x0, 0x0, 0x0, 0⟩,  -- DCR_PENDING
  ⟨0x700030, 0x0, 1, 0x0, 0, 0x0, 0x0, 0x0, 0xFFF00000, 1⟩,  -- DCR_SHADOW_BASE_LO
  ⟨0x700034, 0x0, 1, 0x0, 0, 0x0, 0x0, 0x0, 0xFF, 2⟩,  -- DCR_SHADOW_BASE_HI
  ⟨0x700040, 0x0, 1, 0x0, 0, 0x3FFFF, 0x0, 0x0, 0x0, 0⟩,  -- DCR_PROBE_SEL
  ⟨0x700044, 0x0, 1, 0x0, 0, 0x0, 0x0, 0x0, 0x0, 0⟩,  -- DCR_PROBE_DATA
  ⟨0x700050, 0x0, 1, 0x0, 0, 0x0, 0x0, 0x0, 0x0, 1⟩,  -- DCR_LINES_LO
  ⟨0x700054, 0x0, 1, 0x0, 0, 0x0, 0x0, 0x0, 0x0, 2⟩,  -- DCR_LINES_HI
  ⟨0x700058, 0x0, 1, 0x0, 0, 0x0, 0x0, 0x0, 0x0, 0⟩,  -- DCR_SAT
  ⟨0x70005C, 0x0, 1, 0x0, 0, 0x0, 0x0, 0x0, 0x0, 0⟩,  -- DCR_LOST
  ⟨0x700060, 0x0, 1, 0x0, 0, 0x0, 0x0, 0x0, 0x0, 0⟩  -- DCR_REPAIRS
]

/-- The registers of block ASM. -/
def regRowsAsm : List RegRow := [
  ⟨0x800000, 0x0, 1, 0x10, 0, 0x0, 0x0, 0x0, 0xFF, 0⟩,  -- ASM_CFG
  ⟨0x800004, 0x0, 1, 0x0, 0, 0x0, 0x0, 0x0, 0x7FF07FF, 0⟩,  -- ASM_EDGE
  ⟨0x800010, 0x0, 1, 0x0, 0, 0x0, 0x0, 0x0, 0xFC000000, 1⟩,  -- ASM_RDS_BASE_LO
  ⟨0x800014, 0x0, 1, 0x0, 0, 0x0, 0x0, 0x0, 0xFF, 2⟩,  -- ASM_RDS_BASE_HI
  ⟨0x800018, 0x0, 1, 0x0, 0, 0x0, 0x0, 0x0, 0xFFFFFFC0, 1⟩,  -- ASM_DLOG_BASE_LO
  ⟨0x80001C, 0x0, 1, 0x0, 0, 0x0, 0x0, 0x0, 0xFF, 2⟩,  -- ASM_DLOG_BASE_HI
  ⟨0x800020, 0x0, 1, 0x0, 0, 0x0, 0x0, 0x0, 0xFFFFFFFF, 0⟩,  -- ASM_DLOG_LEN
  ⟨0x800024, 0x0, 1, 0x0, 0, 0x0, 0x0, 0x0, 0x0, 0⟩,  -- ASM_DLOG_PTR
  ⟨0x800030, 0x0, 1, 0x0, 0, 0x0, 0x0, 0x0, 0x0, 0⟩,  -- ASM_STAT
  ⟨0x800040, 0x0, 1, 0x0, 0, 0x0, 0x0, 0x0, 0x0, 0⟩,  -- ASM_BLANK_LATE
  ⟨0x800044, 0x0, 1, 0x0, 0, 0x0, 0x0, 0x0, 0x0, 0⟩,  -- ASM_BLANK_MEM
  ⟨0x800048, 0x0, 1, 0x0, 0, 0x0, 0x0, 0x0, 0x0, 0⟩,  -- ASM_RECOMP
  ⟨0x801000, 0x20, 32, 0x0, 0, 0x0, 0x0, 0x0, 0x3FFFF, 0⟩,  -- ASM_PORT_COL
  ⟨0x801004, 0x20, 32, 0x1FFF0000, 0, 0x0, 0x0, 0x0, 0x1FFFBFFF, 0⟩,  -- ASM_PORT_CFG
  ⟨0x801008, 0x20, 32, 0x0, 0, 0x0, 0x0, 0x0, 0x0, 1⟩,  -- ASM_PORT_DIG_LO
  ⟨0x80100C, 0x20, 32, 0x0, 0, 0x0, 0x0, 0x0, 0x0, 2⟩,  -- ASM_PORT_DIG_HI
  ⟨0x801010, 0x20, 32, 0x0, 0, 0x0, 0x0, 0x0, 0x0, 0⟩  -- ASM_PORT_STAT
]

/-- The registers of block NRG. -/
def regRowsNrg : List RegRow := [
  ⟨0x900000, 0x0, 1, 0xA0030, 0, 0x0, 0x0, 0x0, 0xFF3133, 0⟩,  -- NRG_CFG
  ⟨0x900004, 0x0, 1, 0x1800140, 0, 0x0, 0x0, 0x0, 0xFFF0FFF, 0⟩,  -- NRG_TBAND_LIM0
  ⟨0x900008, 0x0, 1, 0x1801C0, 0, 0x0, 0x0, 0x0, 0xFF0FFF, 0⟩,  -- NRG_TBAND_LIM1
  ⟨0x900010, 0x0, 1, 0x0, 0, 0x0, 0x0, 0x0, 0x0, 1⟩,  -- NRG_TBAND_LO
  ⟨0x900014, 0x0, 1, 0x0, 0, 0x0, 0x0, 0x0, 0x0, 2⟩,  -- NRG_TBAND_HI
  ⟨0x900018, 0x0, 1, 0x0, 0, 0x0, 0x0, 0x0, 0x0, 1⟩,  -- NRG_TBAND_WHERE_LO
  ⟨0x90001C, 0x0, 1, 0x0, 0, 0x0, 0x0, 0x0, 0x0, 2⟩,  -- NRG_TBAND_WHERE_HI
  ⟨0x900020, 0x0, 1, 0x0, 0, 0x0, 0x0, 0x0, 0x0, 0⟩,  -- NRG_STALE
  ⟨0x900028, 0x0, 1, 0x0, 0, 0x0, 0x0, 0x0, 0x0, 1⟩,  -- NRG_PREHEATS_LO
  ⟨0x90002C, 0x0, 1, 0x0, 0, 0x0, 0x0, 0x0, 0x0, 2⟩,  -- NRG_PREHEATS_HI
  ⟨0x900030, 0x0, 1, 0x0, 0, 0x0, 0x0, 0x0, 0x0, 0⟩,  -- NRG_REPAIRS
  ⟨0x900040, 0x0, 1, 0x0, 0, 0x1F1FFF, 0x0, 0x0, 0x0, 0⟩,  -- NRG_PROBE_SEL
  ⟨0x900044, 0x0, 1, 0x0, 0, 0x0, 0x0, 0x0, 0x0, 0⟩,  -- NRG_PROBE_DATA
  ⟨0x901000, 0x10, 32, 0x0, 0, 0x0, 0x0, 0x0, 0x0, 0⟩  -- NRG_PORT_TEMP
]

/-- The registers of block PAC. -/
def regRowsPac : List RegRow := [
  ⟨0xA00000, 0x0, 1, 0x80, 0, 0x0, 0x0, 0x0, 0xFF3, 0⟩,  -- PAC_CFG
  ⟨0xA00004, 0x0, 1, 0x104000, 0, 0x0, 0x0, 0x0, 0xFFF01D, 0⟩,  -- PAC_ENC_CFG_A
  ⟨0xA00008, 0x0, 1, 0x104000, 0, 0x0, 0x0, 0x0, 0xFFF01D, 0⟩,  -- PAC_ENC_CFG_B
  ⟨0xA0000C, 0x0, 1, 0x1, 0, 0x0, 0x0, 0x0, 0xFFFFFF, 0⟩,  -- PAC_LINE_NUM
  ⟨0xA00010, 0x0, 1, 0x1, 0, 0x0, 0x0, 0x0, 0xFFFFFF, 0⟩,  -- PAC_LINE_DEN
  ⟨0xA00014, 0x0, 1, 0x3E80FA0, 0, 0x0, 0x0, 0x0, 0xFFFFFFFF, 0⟩,  -- PAC_FIRE_DLY
  ⟨0xA00018, 0x0, 1, 0x3D09, 0, 0x0, 0x0, 0x0, 0xFFFFF, 0⟩,  -- PAC_RECOVERY
  ⟨0xA0001C, 0x0, 1, 0x405A5F, 0, 0x0, 0x0, 0x0, 0xFFFF7F, 0⟩,  -- PAC_GOV
  ⟨0xA00020, 0x0, 1, 0x40, 0, 0x0, 0x0, 0x0, 0xFFFFFF, 0⟩,  -- PAC_REVERSE
  ⟨0xA00024, 0x0, 1, 0x0, 0, 0x0, 0x0, 0x0, 0xFFFFFFFF, 0⟩,  -- PAC_IDX_CFG
  ⟨0xA00028, 0x0, 1, 0x404, 0, 0x0, 0x0, 0x0, 0xFFFFFF3F, 0⟩,  -- PAC_DET_CFG
  ⟨0xA0002C, 0x0, 1, 0x0, 0, 0x0, 0x0, 0x0, 0xFFFFFF, 0⟩,  -- PAC_TOS_OFS
  ⟨0xA00030, 0x0, 1, 0x0, 0, 0x0, 0x0, 0x0, 0xFFFFFF, 0⟩,  -- PAC_SOS_OFS
  ⟨0xA00034, 0x0, 1, 0x0, 0, 0x0, 0x0, 0x0, 0xFFFFFF0F, 0⟩,  -- PAC_FEED_CFG
  ⟨0xA00040, 0x0, 1, 0x400, 0, 0x0, 0x0, 0x0, 0xFF33, 0⟩,  -- PAC_OUT_CFG_0
  ⟨0xA00044, 0x0, 1, 0x400, 0, 0x0, 0x0, 0x0, 0xFF33, 0⟩,  -- PAC_OUT_CFG_1
  ⟨0xA00048, 0x0, 1, 0x10001, 0, 0x0, 0x0, 0x0, 0xFFFFFFFF, 0⟩,  -- PAC_OUT_DIV_0
  ⟨0xA0004C, 0x0, 1, 0x10001, 0, 0x0, 0x0, 0x0, 0xFFFFFFFF, 0⟩,  -- PAC_OUT_DIV_1
  ⟨0xA00100, 0x0, 1, 0x0, 0, 0x0, 0x0, 0x0, 0x0, 0⟩,  -- PAC_STAT
  ⟨0xA00104, 0x0, 1, 0x0, 0, 0x0, 0x0, 0x0, 0x0, 0⟩,  -- PAC_LINE_Z
  ⟨0xA00108, 0x0, 1, 0x0, 0, 0x0, 0x0, 0x0, 0x0, 0⟩,  -- PAC_PERIOD
  ⟨0xA00110, 0x0, 1, 0x0, 0, 0x0, 0x0, 0x0, 0x0, 1⟩,  -- PAC_POS_A_LO
  ⟨0xA00114, 0x0, 1, 0x0, 0, 0x0, 0x0, 0x0, 0x0, 2⟩,  -- PAC_POS_A_HI
  ⟨0xA00118, 0x0, 1, 0x0, 0, 0x0, 0x0, 0x0, 0x0, 1⟩,  -- PAC_POS_B_LO
  ⟨0xA0011C, 0x0, 1, 0x0, 0, 0x0, 0x0, 0x0, 0x0, 2⟩,  -- PAC_POS_B_HI
  ⟨0xA00120, 0x0, 1, 0x0, 0, 0x0, 0x0, 0x0, 0x0, 1⟩,  -- PAC_HWM_LO
  ⟨0xA00124, 0x0, 1, 0x0, 0, 0x0, 0x0, 0x0, 0x0, 2⟩,  -- PAC_HWM_HI
  ⟨0xA00130, 0x0, 1, 0x0, 0, 0x0, 0x0, 0x0, 0x0, 0⟩,  -- PAC_BLANK_OVS
  ⟨0xA00134, 0x0, 1, 0x0, 0, 0x0, 0x0, 0x0, 0x0, 0⟩,  -- PAC_IDX_STAT
  ⟨0xA00138, 0x0, 1, 0x0, 0, 0x0, 0x0, 0x0, 0x0, 0⟩,  -- PAC_DET_STAT
  ⟨0xA0013C, 0x0, 1, 0x0, 0, 0x0, 0x0, 0x0, 0x0, 0⟩  -- PAC_PASS_STAT
]

/-- The registers of block HLK. -/
def regRowsHlk : List RegRow := [
  ⟨0xB00000, 0x0, 1, 0x0, 0, 0x0, 0x0, 0x0, 0xFFFFFFFF, 0⟩,  -- HLK_PORT_EN
  ⟨0xB00004, 0x0, 1, 0xA0A14, 0, 0x0, 0x0, 0x0, 0xFFFFFF, 0⟩,  -- HLK_TIMING
  ⟨0xB00008, 0x0, 1, 0x0, 0, 0x0, 0x0, 0x0, 0xFFFFFFFF, 0⟩,  -- HLK_HEAD_ID
  ⟨0xB0000C, 0x0, 1, 0x0, 0, 0x0, 0x0, 0x0, 0xFFFFFFFF, 0⟩,  -- HLK_HEAD_MASK
  ⟨0xB00010, 0x0, 1, 0x0, 0, 0x0, 0x0, 0x0, 0xFFFFFFFF, 0⟩,  -- HLK_KEEPWET
  ⟨0xB00020, 0x0, 1, 0x0, 0, 0x0, 0x0, 0x0, 0x0, 0⟩,  -- HLK_UP
  ⟨0xB00024, 0x0, 1, 0x0, 0, 0x0, 0x0, 0x0, 0x0, 0⟩,  -- HLK_SPIT_BUSY
  ⟨0xB00028, 0x0, 1, 0x0, 0, 0x0, 0xFFFFFFFF, 0x0, 0x0, 0⟩,  -- HLK_SPIT_FAIL
  ⟨0xB01000, 0x40, 32, 0x0, 0, 0x0, 0x0, 0x0, 0x1FFFF, 0⟩,  -- HLK_PORT_CFG
  ⟨0xB01004, 0x40, 32, 0x0, 0, 0x0, 0x0, 0x0, 0x0, 0⟩,  -- HLK_PORT_STAT
  ⟨0xB01008, 0x40, 32, 0x0, 0, 0x0, 0x0, 0x0, 0x0, 0⟩,  -- HLK_PORT_CTL
  ⟨0xB0100C, 0x40, 32, 0x0, 0, 0x0, 0x0, 0x0, 0x0, 0⟩,  -- HLK_PORT_CAP0
  ⟨0xB01010, 0x40, 32, 0x0, 0, 0x0, 0x0, 0x0, 0x0, 0⟩,  -- HLK_PORT_CAP1
  ⟨0xB01014, 0x40, 32, 0x0, 0, 0x0, 0x0, 0x0, 0x0, 0⟩,  -- HLK_PORT_CAP2
  ⟨0xB01018, 0x40, 32, 0x0, 0, 0x0, 0x0, 0x0, 0x0, 0⟩,  -- HLK_PORT_CAP3
  ⟨0xB0101C, 0x40, 32, 0x0, 0, 0x0, 0x0, 0x0, 0x0, 0⟩,  -- HLK_PORT_CAP4
  ⟨0xB01020, 0x40, 32, 0x0, 0, 0x0, 0x0, 0x0, 0x0, 0⟩,  -- HLK_PORT_DELAY
  ⟨0xB01024, 0x40, 32, 0x0, 0, 0x0, 0x0, 0x0, 0x0, 0⟩,  -- HLK_PORT_HSTAT
  ⟨0xB01028, 0x40, 32, 0x0, 0, 0x0, 0x0, 0x0, 0x0, 0⟩,  -- HLK_PORT_NAK
  ⟨0xB0102C, 0x40, 32, 0x0, 0, 0x0, 0x0, 0xFFFFFFFF, 0x0, 0⟩,  -- HLK_PORT_RXERR
  ⟨0xB01030, 0x40, 32, 0x0, 0, 0x0, 0x0, 0x0, 0x0, 1⟩,  -- HLK_PORT_LINES_LO
  ⟨0xB01034, 0x40, 32, 0x0, 0, 0x0, 0x0, 0x0, 0x0, 2⟩  -- HLK_PORT_LINES_HI
]

/-- The registers of block MSR. -/
def regRowsMsr : List RegRow := [
  ⟨0xC00000, 0x0, 1, 0xFFF0819, 0, 0x0, 0x0, 0x0, 0xFFFFFFF, 0⟩,  -- MSR_CFG
  ⟨0xC00004, 0x0, 1, 0xFFFF0000, 0, 0x0, 0x0, 0x0, 0xFFFFFFFF, 0⟩,  -- MSR_RBAND
  ⟨0xC00008, 0x0, 1, 0x258012C, 0, 0x0, 0x0, 0x0, 0xFFFFFFFF, 0⟩,  -- MSR_CAL_CFG
  ⟨0xC00010, 0x0, 1, 0x0, 0, 0x0, 0x0, 0x0, 0x0, 0⟩,  -- MSR_SWEEP_STAT
  ⟨0xC00020, 0x0, 1, 0x0, 0, 0x0, 0x0, 0x0, 0x0, 0⟩,  -- MSR_CAL_CTL
  ⟨0xC00024, 0x0, 1, 0x0, 0, 0x0, 0x0, 0x0, 0x0, 0⟩,  -- MSR_CAL_STAT
  ⟨0xC00800, 0x10, 8, 0x0, 0, 0x0, 0x0, 0x0, 0x0, 0⟩,  -- MSR_CH_TRIM_A
  ⟨0xC00804, 0x10, 8, 0x0, 0, 0x0, 0x0, 0x0, 0x0, 0⟩,  -- MSR_CH_TRIM_B
  ⟨0xC00808, 0x10, 8, 0x0, 0, 0x0, 0x0, 0x0, 0x0, 0⟩,  -- MSR_CH_QUAL
  ⟨0xC01000, 0x10, 32, 0x0, 0, 0x0, 0x0, 0x0, 0xFFF0FFF, 0⟩,  -- MSR_VSET_CFG
  ⟨0xC01004, 0x10, 32, 0x0, 0, 0x0, 0x0, 0x0, 0x0, 0⟩,  -- MSR_VSET_TRIM
  ⟨0xC01008, 0x10, 32, 0x0, 0, 0x0, 0x0, 0x0, 0x0, 0⟩,  -- MSR_VSET_NOW
  ⟨0xC0100C, 0x10, 32, 0x0, 0, 0x0, 0x0, 0x0, 0x0, 0⟩  -- MSR_HSAMP
]

/-- The registers of block MEM. -/
def regRowsMem : List RegRow := [
  ⟨0xD00000, 0x0, 1, 0x0, 0, 0x0, 0x0, 0x0, 0x1FF, 0⟩,  -- MEM_CFG
  ⟨0xD00004, 0x0, 1, 0x0, 0, 0x0, 0x0, 0x0, 0x0, 0⟩,  -- MEM_SIZE
  ⟨0xD00008, 0x0, 1, 0x60200A06, 0, 0x0, 0x0, 0x0, 0xFFFF0F0F, 0⟩,  -- MEM_SCHED
  ⟨0xD00010, 0x0, 1, 0x0, 0, 0x0, 0x0, 0x0, 0x0, 0⟩,  -- MEM_STAT
  ⟨0xD00014, 0x0, 1, 0x0, 0, 0x0, 0x0, 0x0, 0x0, 0⟩,  -- MEM_PANIC
  ⟨0xD00020, 0x0, 1, 0x0, 0, 0x0, 0x0, 0x0, 0x0, 1⟩,  -- MEM_RD_BYTES_LO
  ⟨0xD00024, 0x0, 1, 0x0, 0, 0x0, 0x0, 0x0, 0x0, 2⟩,  -- MEM_RD_BYTES_HI
  ⟨0xD00028, 0x0, 1, 0x0, 0, 0x0, 0x0, 0x0, 0x0, 1⟩,  -- MEM_WR_BYTES_LO
  ⟨0xD0002C, 0x0, 1, 0x0, 0, 0x0, 0x0, 0x0, 0x0, 2⟩,  -- MEM_WR_BYTES_HI
  ⟨0xD00040, 0x0, 1, 0x0, 0, 0xFFF0F7, 0x0, 0x0, 0x0, 0⟩,  -- MEM_MARGIN_SEL
  ⟨0xD00044, 0x0, 1, 0x0, 0, 0x0, 0x0, 0x0, 0x0, 0⟩,  -- MEM_MARGIN_CTL
  ⟨0xD00048, 0x0, 1, 0x0, 0, 0x0, 0x0, 0x0, 0x0, 0⟩,  -- MEM_MARGIN_STAT
  ⟨0xD01000, 0x20, 8, 0x0, 0, 0x0, 0x0, 0x0, 0x0, 0⟩  -- MEM_CH_STAT
]

/-- The registers of block MIG. -/
def regRowsMig : List RegRow := [
  ⟨0xE00000, 0x0, 1, 0x400, 0, 0x0, 0x0, 0x0, 0xFF07, 0⟩,  -- MIG_CFG
  ⟨0xE00008, 0x0, 1, 0x0, 0, 0x0, 0x0, 0x0, 0xFFFFFFC0, 1⟩,  -- MIG_LOG_BASE_LO
  ⟨0xE0000C, 0x0, 1, 0x0, 0, 0x0, 0x0, 0x0, 0xFF, 2⟩,  -- MIG_LOG_BASE_HI
  ⟨0xE00010, 0x0, 1, 0x0, 0, 0x0, 0x0, 0x0, 0xFFFFFFFF, 0⟩,  -- MIG_LOG_LEN
  ⟨0xE00014, 0x0, 1, 0x0, 0, 0x0, 0x0, 0x0, 0x0, 0⟩,  -- MIG_LOG_PTR
  ⟨0xE00018, 0x0, 1, 0x0, 0, 0x0, 0x0, 0x0, 0x0, 0⟩,  -- MIG_REFETCH_STAT
  ⟨0xE00020, 0x0, 1, 0x0, 0, 0xFFFFFFC0, 0x0, 0x0, 0x0, 1⟩,  -- MIG_SCRUB_START_LO
  ⟨0xE00024, 0x0, 1, 0x0, 0, 0xFF, 0x0, 0x0, 0x0, 2⟩,  -- MIG_SCRUB_START_HI
  ⟨0xE00028, 0x0, 1, 0x0, 0, 0xFFFFFFC0, 0x0, 0x0, 0x0, 1⟩,  -- MIG_SCRUB_LEN_LO
  ⟨0xE0002C, 0x0, 1, 0x0, 0, 0xFF, 0x0, 0x0, 0x0, 2⟩,  -- MIG_SCRUB_LEN_HI
  ⟨0xE00030, 0x0, 1, 0x0, 0, 0xFFFFFFC0, 0x0, 0x0, 0x0, 1⟩,  -- MIG_SCRUB_REC_LO
  ⟨0xE00034, 0x0, 1, 0x0, 0, 0xFF, 0x0, 0x0, 0x0, 2⟩,  -- MIG_SCRUB_REC_HI
  ⟨0xE00038, 0x0, 1, 0x0, 0, 0x0, 0x0, 0x0, 0x0, 0⟩,  -- MIG_SCRUB_CTL
  ⟨0xE0003C, 0x0, 1, 0x0, 0, 0x0, 0x0, 0x0, 0x0, 0⟩,  -- MIG_SCRUB_STAT
  ⟨0xE00040, 0x0, 1, 0x0, 0, 0x0, 0x0, 0x0, 0x0, 1⟩,  -- MIG_SCRUB_POS_LO
  ⟨0xE00044, 0x0, 1, 0x0, 0, 0x0, 0x0, 0x0, 0x0, 2⟩,  -- MIG_SCRUB_POS_HI
  ⟨0xE00050, 0x0, 1, 0x0, 0, 0x0, 0x0, 0x0, 0x0, 0⟩,  -- MIG_RETIRE_STAT
  ⟨0xE00054, 0x0, 1, 0x0, 0, 0x0, 0x0, 0x0, 0x0, 0⟩,  -- MIG_SPARE_FREE
  ⟨0xE00060, 0x4, 5, 0x0, 0, 0x0, 0x0, 0x0, 0x0, 0⟩,  -- MIG_CNT
  ⟨0xE00100, 0x8, 16, 0x0, 0, 0x0, 0x0, 0x0, 0xFFFFFF, 0⟩,  -- MIG_REGION_BASE
  ⟨0xE00104, 0x8, 16, 0x0, 0, 0x0, 0x0, 0x0, 0x8FFFFFFF, 0⟩  -- MIG_REGION_CFG
]

/-- The registers of block FLT. -/
def regRowsFlt : List RegRow := [
  ⟨0xF00000, 0x0, 1, 0xA0300, 0, 0x0, 0x0, 0x0, 0xFF0FFF, 0⟩,  -- FLT_CFG
  ⟨0xF00010, 0x0, 1, 0x0, 0, 0x0, 0x0, 0x0, 0x0, 0⟩,  -- FLT_STAT
  ⟨0xF00014, 0x0, 1, 0x0, 0, 0x0, 0x0, 0x0, 0x0, 0⟩,  -- FLT_LAST_FAULT
  ⟨0xF00020, 0x4, 6, 0x0, 0, 0x0, 0x0, 0x0, 0x0, 0⟩,  -- FLT_SEV_CNT
  ⟨0xF00040, 0x0, 1, 0x0, 0, 0x0, 0x0, 0xFFFFFFFF, 0x0, 0⟩,  -- FLT_DROPPED
  ⟨0xF00044, 0x0, 1, 0x0, 0, 0x0, 0x0, 0x0, 0x0, 0⟩,  -- FLT_SUPPRESSED
  ⟨0xF00064, 0x4, 5, 0x0, 0, 0x0, 0x0, 0x0, 0x0, 0⟩,  -- FLT_BLANK
  ⟨0xF00080, 0x0, 1, 0x0, 0, 0x0, 0x0, 0x0, 0x0, 1⟩,  -- FLT_BLANK_TOTAL_LO
  ⟨0xF00084, 0x0, 1, 0x0, 0, 0x0, 0x0, 0x0, 0x0, 2⟩,  -- FLT_BLANK_TOTAL_HI
  ⟨0xF00104, 0x4, 21, 0x0, 0, 0x0, 0x0, 0x0, 0xFFFFFF, 0⟩  -- FLT_ROUTE
]

/-- The registers of block PAIR. -/
def regRowsPair : List RegRow := [
  ⟨0x1000000, 0x0, 1, 0x8640F00, 0, 0x0, 0x0, 0x0, 0xFFFFFF03, 0⟩,  -- PAIR_CFG
  ⟨0x1000004, 0x0, 1, 0x0, 0, 0x0, 0x0, 0x0, 0xFFFFFFFF, 1⟩,  -- PAIR_PEER_MAC_LO
  ⟨0x1000008, 0x0, 1, 0x0, 0, 0x0, 0x0, 0x0, 0xFFFF, 2⟩,  -- PAIR_PEER_MAC_HI
  ⟨0x1000010, 0x0, 1, 0x0, 0, 0x0, 0x0, 0x0, 0x0, 0⟩,  -- PAIR_STAT
  ⟨0x1000014, 0x0, 1, 0x0, 0, 0x0, 0x0, 0x0, 0x0, 0⟩,  -- PAIR_MATCH
  ⟨0x1000018, 0x0, 1, 0x0, 0, 0x0, 0x0, 0x0, 0x0, 0⟩,  -- PAIR_MATCH_PEER
  ⟨0x1000030, 0x0, 1, 0x0, 0, 0x0, 0x0, 0x0, 0x0, 0⟩,  -- PAIR_COVER
  ⟨0x1000034, 0x0, 1, 0x0, 0, 0x0, 0x0, 0x0, 0x0, 0⟩,  -- PAIR_UNCHECKED
  ⟨0x100003C, 0x0, 1, 0x0, 0, 0x0, 0x0, 0x0, 0x0, 0⟩,  -- PAIR_SHADOW_BLANK
  ⟨0x1000038, 0x0, 1, 0x0, 0, 0x0, 0x0, 0x0, 0x0, 0⟩,  -- PAIR_DISPUTE
  ⟨0x1000040, 0x0, 1, 0x0, 0, 0x0, 0x0, 0x0, 0x0, 0⟩,  -- PAIR_FAILOVER
  ⟨0x1000050, 0x0, 1, 0x0, 0, 0x0, 0x0, 0x0, 0x0, 0⟩,  -- PAIR_REJOIN_STAT
  ⟨0x1000054, 0x0, 1, 0x0, 0, 0x0, 0x0, 0x0, 0x0, 0⟩,  -- PAIR_REJOIN_MS
  ⟨0x1000058, 0x0, 1, 0x0, 0, 0x0, 0x0, 0x0, 0x0, 1⟩,  -- PAIR_REJOIN_BYTES_LO
  ⟨0x100005C, 0x0, 1, 0x0, 0, 0x0, 0x0, 0x0, 0x0, 2⟩,  -- PAIR_REJOIN_BYTES_HI
  ⟨0x1000060, 0x0, 1, 0x0, 0, 0x0, 0x0, 0x0, 0xFC000000, 1⟩,  -- PAIR_CKPT_BASE_LO
  ⟨0x1000064, 0x0, 1, 0x0, 0, 0x0, 0x0, 0x0, 0xFF, 2⟩  -- PAIR_CKPT_BASE_HI
]

/-- The registers of block CRC. -/
def regRowsCrc : List RegRow := [
  ⟨0x1100000, 0x0, 1, 0x1000, 0, 0x0, 0x0, 0x0, 0xFFFF, 0⟩,  -- CRC_CFG
  ⟨0x1100010, 0x0, 1, 0x0, 0, 0x0, 0x0, 0x0, 0x0, 0⟩,  -- CRC_BUSY
  ⟨0x1101000, 0x40, 8, 0x0, 0, 0xFFFFFFFF, 0x0, 0x0, 0x0, 1⟩,  -- CRC_ADDR_LO
  ⟨0x1101004, 0x40, 8, 0x0, 0, 0xFF, 0x0, 0x0, 0x0, 2⟩,  -- CRC_ADDR_HI
  ⟨0x1101008, 0x40, 8, 0x0, 0, 0xFFFFFFFF, 0x0, 0x0, 0x0, 1⟩,  -- CRC_LEN_LO
  ⟨0x110100C, 0x40, 8, 0x0, 0, 0xFF, 0x0, 0x0, 0x0, 2⟩,  -- CRC_LEN_HI
  ⟨0x1101010, 0x40, 8, 0x0, 0, 0xFFFFFFFF, 0x0, 0x0, 0x0, 1⟩,  -- CRC_EXP_LO
  ⟨0x1101014, 0x40, 8, 0x0, 0, 0xFFFFFFFF, 0x0, 0x0, 0x0, 2⟩,  -- CRC_EXP_HI
  ⟨0x1101020, 0x40, 8, 0x0, 0, 0x0, 0x0, 0x0, 0x0, 1⟩,  -- CRC_RESULT_LO
  ⟨0x1101024, 0x40, 8, 0x0, 0, 0x0, 0x0, 0x0, 0x0, 2⟩,  -- CRC_RESULT_HI
  ⟨0x1101028, 0x40, 8, 0x0, 0, 0x0, 0x0, 0x0, 0x0, 1⟩,  -- CRC_POS_LO
  ⟨0x110102C, 0x40, 8, 0x0, 0, 0x0, 0x0, 0x0, 0x0, 2⟩,  -- CRC_POS_HI
  ⟨0x1101018, 0x40, 8, 0x0, 0, 0x0, 0x0, 0x0, 0x0, 0⟩,  -- CRC_CTL
  ⟨0x110101C, 0x40, 8, 0x0, 0, 0x0, 0x0, 0x0, 0x0, 0⟩  -- CRC_STAT
]

/-- The registers of block TIM. -/
def regRowsTim : List RegRow := [
  ⟨0x1200000, 0x0, 1, 0x20, 0, 0x0, 0x0, 0x0, 0xE3, 0⟩,  -- TIM_ETH_CFG
  ⟨0x1200004, 0x0, 1, 0x0, 0, 0x0, 0x0, 0x0, 0xFFFFFFFF, 1⟩,  -- TIM_MAC_LO
  ⟨0x1200008, 0x0, 1, 0x0, 0, 0x0, 0x0, 0x0, 0xFFFF, 2⟩,  -- TIM_MAC_HI
  ⟨0x120000C, 0x0, 1, 0x0, 0, 0x0, 0x0, 0x0, 0xFFFFFFFF, 0⟩,  -- TIM_IP4
  ⟨0x1200100, 0x40, 2, 0x31D0, 0, 0x0, 0x0, 0x0, 0xF8FFFFFF, 0⟩,  -- TIM_DOM_CFG
  ⟨0x1200104, 0x40, 2, 0x8080F8FE, 0, 0x0, 0x0, 0x0, 0xFFFFFFFF, 0⟩,  -- TIM_DOM_PRIO
  ⟨0x1200108, 0x40, 2, 0x1770012C, 0, 0x0, 0x0, 0x0, 0xFFFFFFFF, 0⟩,  -- TIM_SERVO
  ⟨0x120010C, 0x40, 2, 0x3E83232, 0, 0x0, 0x0, 0x0, 0xFFFFFFFF, 0⟩,  -- TIM_SERVO_LIM
  ⟨0x1200110, 0x40, 2, 0x0, 0, 0x0, 0x0, 0x0, 0x0, 0⟩,  -- TIM_DOM_STAT
  ⟨0x1200114, 0x40, 2, 0x0, 0, 0x0, 0x0, 0x0, 0x0, 0⟩,  -- TIM_OFFSET
  ⟨0x1200118, 0x40, 2, 0x0, 0, 0x0, 0x0, 0x0, 0x0, 0⟩,  -- TIM_PATH
  ⟨0x120011C, 0x40, 2, 0x0, 0, 0x0, 0x0, 0x0, 0x0, 1⟩,  -- TIM_PARENT_LO
  ⟨0x1200120, 0x40, 2, 0x0, 0, 0x0, 0x0, 0x0, 0x0, 2⟩,  -- TIM_PARENT_HI
  ⟨0x1200200, 0x10, 4, 0x0, 0, 0x0, 0x0, 0x0, 0x0, 1⟩,  -- TIM_TB_NS_LO
  ⟨0x1200204, 0x10, 4, 0x0, 0, 0x0, 0x0, 0x0, 0x0, 2⟩,  -- TIM_TB_NS_HI
  ⟨0x1200208, 0x10, 4, 0x0, 0, 0x0, 0x0, 0x0, 0x0, 0⟩,  -- TIM_TB_FRAC
  ⟨0x120020C, 0x10, 4, 0x0, 0, 0x0, 0x0, 0x0, 0x0, 0⟩,  -- TIM_TB_ADJ
  ⟨0x1200300, 0x20, 2, 0x0, 0, 0x0, 0x0, 0x0, 0xFFFF, 0⟩,  -- TIM_PORT_CFG
  ⟨0x1200304, 0x20, 2, 0x0, 0, 0x0, 0x0, 0x0, 0x0, 0⟩,  -- TIM_PORT_STAT
  ⟨0x1200308, 0x20, 2, 0x0, 0, 0x0, 0x0, 0x0, 0x0, 0⟩,  -- TIM_PORT_PDELAY
  ⟨0x120030C, 0x20, 2, 0x0, 0, 0x0, 0x0, 0x0, 0x0, 0⟩,  -- TIM_PORT_FWD
  ⟨0x1200310, 0x20, 2, 0x0, 0, 0x0, 0x0, 0xFFFFFFFF, 0x0, 0⟩,  -- TIM_PORT_DROP
  ⟨0x1200400, 0x0, 1, 0x0, 0, 0x0, 0x0, 0x0, 0x0, 0⟩,  -- TIM_TRG_CTL
  ⟨0x1201000, 0x20, 1, 0x82800000, 0, 0x0, 0x0, 0x0, 0xCFF0FFFF, 0⟩,  -- TIM_TRG_CFG 0
  ⟨0x1201020, 0x20, 15, 0x0, 0, 0x0, 0x0, 0x0, 0xCFF0FFFF, 0⟩,  -- TIM_TRG_CFG 1..15
  ⟨0x1201004, 0x20, 16, 0x0, 0, 0x0, 0x0, 0x0, 0xFFFFFFFF, 1⟩,  -- TIM_TRG_START_LO
  ⟨0x1201008, 0x20, 16, 0x0, 0, 0x0, 0x0, 0x0, 0xFFFFFFFF, 2⟩,  -- TIM_TRG_START_HI
  ⟨0x120100C, 0x20, 1, 0xC350, 0, 0x0, 0x0, 0x0, 0xFFFFFFFF, 0⟩,  -- TIM_TRG_PERIOD 0
  ⟨0x120102C, 0x20, 15, 0x0, 0, 0x0, 0x0, 0x0, 0xFFFFFFFF, 0⟩,  -- TIM_TRG_PERIOD 1..15
  ⟨0x1201010, 0x20, 16, 0x0, 0, 0x0, 0x0, 0x0, 0xFFFF, 0⟩,  -- TIM_TRG_PERIOD_FRAC
  ⟨0x1201014, 0x20, 16, 0x0, 0, 0x0, 0x0, 0x0, 0xFFFFFFFF, 0⟩,  -- TIM_TRG_COUNT
  ⟨0x1201018, 0x20, 16, 0x0, 0, 0x0, 0x0, 0x0, 0x0, 0⟩  -- TIM_TRG_STAT
]

/-- The registers of block MOT. -/
def regRowsMot : List RegRow := [
  ⟨0x1300000, 0x0, 1, 0xF00780, 0, 0x0, 0x0, 0x0, 0xFFFFFF, 0⟩,  -- MOT_CFG
  ⟨0x1300004, 0x0, 1, 0x0, 0, 0x0, 0x0, 0x0, 0x0, 0⟩,  -- MOT_VM
  ⟨0x1300008, 0x0, 1, 0x0, 0, 0x0, 0x0, 0x0, 0x0, 0⟩,  -- MOT_STAT
  ⟨0x1301000, 0x80, 6, 0x400, 0, 0x0, 0x0, 0x0, 0xFFFFFFFF, 0⟩,  -- MOT_AX_CFG
  ⟨0x1301004, 0x80, 6, 0x0, 0, 0x0, 0x0, 0x0, 0xFFFFFFFF, 0⟩,  -- MOT_AX_MOTOR
  ⟨0x1301008, 0x80, 6, 0x0, 0, 0x0, 0x0, 0x0, 0xFFFF, 0⟩,  -- MOT_AX_DRIVE
  ⟨0x130100C, 0x80, 6, 0x0, 0, 0x0, 0x0, 0x0, 0xFFFFFFFF, 0⟩,  -- MOT_AX_CUR
  ⟨0x1301010, 0x80, 6, 0x10000000, 0, 0x0, 0x0, 0x0, 0xFFFFFFFF, 0⟩,  -- MOT_AX_VMAX
  ⟨0x1301014, 0x80, 6, 0x10000, 0, 0x0, 0x0, 0x0, 0xFFFFFF, 0⟩,  -- MOT_AX_ACCEL
  ⟨0x1301018, 0x80, 6, 0x10000, 0, 0x0, 0x0, 0x0, 0xFFFFFF, 0⟩,  -- MOT_AX_DECEL
  ⟨0x130101C, 0x80, 6, 0x0, 0, 0x0, 0x0, 0x0, 0xFFFFFFFF, 0⟩,  -- MOT_AX_JERK
  ⟨0x1301020, 0x80, 6, 0x0, 0, 0x0, 0x0, 0x0, 0xFFFFFFFF, 0⟩,  -- MOT_AX_HOME
  ⟨0x1301024, 0x80, 6, 0x400, 0, 0x0, 0x0, 0x0, 0xFFFFFF, 0⟩,  -- MOT_AX_BACKOFF
  ⟨0x1301028, 0x80, 6, 0xFFFFFFFF, 0, 0x0, 0x0, 0x0, 0xFFFFFFFF, 0⟩,  -- MOT_AX_RANGE
  ⟨0x130102C, 0x80, 6, 0x640802, 0, 0x0, 0x0, 0x0, 0xFFFFFFFF, 0⟩,  -- MOT_AX_SW_CFG
  ⟨0x1301030, 0x80, 6, 0x64, 0, 0x0, 0x0, 0x0, 0xFFFFFFFF, 0⟩,  -- MOT_AX_IDLE
  ⟨0x1301040, 0x80, 6, 0x0, 0, 0x0, 0x0, 0x0, 0x0, 0⟩,  -- MOT_AX_STAT
  ⟨0x1301044, 0x80, 6, 0x0, 0, 0x0, 0x0, 0x0, 0x0, 0⟩,  -- MOT_AX_POS
  ⟨0x1301048, 0x80, 6, 0x0, 0, 0x0, 0x0, 0x0, 0x0, 0⟩,  -- MOT_AX_TGT
  ⟨0x130104C, 0x80, 6, 0x0, 0, 0x0, 0x0, 0x0, 0x0, 0⟩,  -- MOT_AX_VEL
  ⟨0x1301050, 0x80, 6, 0x0, 0, 0x0, 0x0, 0x0, 0x0, 0⟩,  -- MOT_AX_DUTY
  ⟨0x1301054, 0x80, 6, 0x0, 0, 0x0, 0x0, 0xFFFFFFFF, 0x0, 0⟩  -- MOT_AX_SWCNT
]

/-- The registers of block FAN. -/
def regRowsFan : List RegRow := [
  ⟨0x1400000, 0x0, 1, 0xA00, 0, 0x0, 0x0, 0x0, 0x1F00FFFF, 0⟩,  -- FAN_CFG
  ⟨0x1400004, 0x0, 1, 0x0, 0, 0x0, 0x0, 0x0, 0xFFFF, 0⟩,  -- FAN_KEEPWET
  ⟨0x1400008, 0x0, 1, 0x0, 0, 0x0, 0x0, 0x0, 0x80FFFFFF, 0⟩,  -- FAN_ENC
  ⟨0x1400010, 0x0, 1, 0x0, 0, 0x0, 0x0, 0x0, 0x0, 0⟩,  -- FAN_STAT
  ⟨0x1400014, 0x0, 1, 0x0, 0, 0x0, 0x0, 0x0, 0x0, 0⟩,  -- FAN_WAKE
  ⟨0x1400018, 0x0, 1, 0x0, 0, 0x0, 0x0, 0x0, 0x0, 0⟩,  -- FAN_DIN_LVL
  ⟨0x140001C, 0x0, 1, 0x0, 0, 0x0, 0x0, 0x0, 0x0, 1⟩,  -- FAN_AON_MS_LO
  ⟨0x1400020, 0x0, 1, 0x0, 0, 0x0, 0x0, 0x0, 0x0, 2⟩,  -- FAN_AON_MS_HI
  ⟨0x1400024, 0x0, 1, 0x0, 0, 0x0, 0x0, 0x0, 0x0, 0⟩,  -- FAN_LOG_SEQ
  ⟨0x1400100, 0x8, 8, 0x64, 0, 0x0, 0x0, 0x0, 0xC70000FF, 0⟩,  -- FAN_AIN_CFG
  ⟨0x1400104, 0x8, 8, 0x0, 0, 0x0, 0x0, 0x0, 0x0, 0⟩,  -- FAN_AIN_VAL
  ⟨0x1400200, 0x8, 16, 0x10000, 0, 0x0, 0x0, 0x0, 0xBF0FE007, 0⟩,  -- FAN_RULE_CFG
  ⟨0x1400204, 0x8, 16, 0x0, 0, 0x0, 0x0, 0x0, 0xFFF0FFF, 0⟩  -- FAN_RULE_THR
]

/-- The registers of block PMU. -/
def regRowsPmu : List RegRow := [
  ⟨0x1500000, 0x0, 1, 0x0, 0, 0x0, 0x0, 0x0, 0x9F000017, 0⟩,  -- PMU_CFG
  ⟨0x1500004, 0x0, 1, 0x1, 0, 0x0, 0x0, 0x0, 0xFFFFFFFF, 0⟩,  -- PMU_TAG_SEED
  ⟨0x1500008, 0x0, 1, 0xFFFF, 0, 0x0, 0x0, 0x0, 0xF8FFFFFF, 0⟩,  -- PMU_SAMP_CFG
  ⟨0x1500010, 0x0, 1, 0x0, 0, 0x0, 0x0, 0x0, 0x0, 0⟩,  -- PMU_CTL
  ⟨0x1500014, 0x0, 1, 0x0, 0, 0x0, 0x0, 0x0, 0x0, 0⟩,  -- PMU_STAT
  ⟨0x1500018, 0x0, 1, 0x0, 0, 0x0, 0x0, 0x0, 0x0, 1⟩,  -- PMU_SNAP_TIME_LO
  ⟨0x150001C, 0x0, 1, 0x0, 0, 0x0, 0x0, 0x0, 0x0, 2⟩,  -- PMU_SNAP_TIME_HI
  ⟨0x1500020, 0x0, 1, 0x0, 0, 0x0, 0x0, 0x0, 0x0, 0⟩,  -- PMU_SAMPLE_STAT
  ⟨0x1501000, 0x8, 256, 0x0, 0, 0x0, 0x0, 0x0, 0x0, 1⟩,  -- PMU_CNT_LO
  ⟨0x1501004, 0x8, 256, 0x0, 0, 0x0, 0x0, 0x0, 0x0, 2⟩,  -- PMU_CNT_HI
  ⟨0x1502000, 0x8, 256, 0x0, 0, 0x0, 0x0, 0x0, 0x0, 1⟩,  -- PMU_SHD_LO
  ⟨0x1502004, 0x8, 256, 0x0, 0, 0x0, 0x0, 0x0, 0x0, 2⟩  -- PMU_SHD_HI
]

/-- The rows of the block with a number (R4, Table 0-4). -/
def regRowsOfBlock (b : Nat) : List RegRow :=
  match b with
  | 1 => regRowsGlb
  | 2 => regRowsCfg
  | 3 => regRowsHdma
  | 4 => regRowsSeq
  | 5 => regRowsRun
  | 6 => regRowsCmp
  | 7 => regRowsDcr
  | 8 => regRowsAsm
  | 9 => regRowsNrg
  | 10 => regRowsPac
  | 11 => regRowsHlk
  | 12 => regRowsMsr
  | 13 => regRowsMem
  | 14 => regRowsMig
  | 15 => regRowsFlt
  | 16 => regRowsPair
  | 17 => regRowsCrc
  | 18 => regRowsTim
  | 19 => regRowsMot
  | 20 => regRowsFan
  | 21 => regRowsPmu
  | _ => []

/-- Does a row hold the register at BAR0 offset `a`? -/
def RegRow.covers (r : RegRow) (a : Nat) : Bool :=
  if r.stride = 0 then a == r.base
  else Nat.ble r.base a && (a - r.base) % r.stride == 0 && Nat.blt ((a - r.base) / r.stride) r.count

/-- The row of the register at BAR0 offset `a`; none for an offset no chapter assigns (R5). -/
def regRow (a : Nat) : Option RegRow :=
  (regRowsOfBlock (a / 0x100000)).find? (fun r => r.covers a)

/-- The reset value of the register at BAR0 offset `a`; 0 for an unassigned offset (R5). -/
def regReset (a : Nat) : BitVec 32 :=
  match regRow a with
  | some r => BitVec.ofNat 32 (r.reset + (if r.stride = 0 then 0 else (a - r.base) / r.stride) * r.resetStep)
  | none => 0#32

end Sys2Proof.Machine
end

