-- ==== Sys2Proof/Machine/State.lean ====
section
/-! DEFINITION. Machine/State.lean: the machine's stops, the device (everything the spec gives the machine, as plain data) and its
state after reset. `State` is the device with the queue of the commands that are waiting. -/

namespace Sys2Proof.Machine

/-- Why the machine would stop with a fault. No command of this block stops: every row of the table has an effect, an
outcome that reports an error, or no effect. The one constructor is unused and safe. -/
inductive Fault where
  /-- Raised by nothing (the spec names no state in which the block itself stops). Safe. -/
  | none
deriving DecidableEq, Repr

/-- Why a command has no meaning. -/
inductive Refusal where
  /-- Raised by the arm of a command that is not modelled yet. Safe: nothing is claimed of it. -/
  | notModelled (mnemonic : String)
deriving DecidableEq, Repr


/-! ### The device -/

/-- The whole device beside the queue of commands. `regs` lists the registers that differ from their reset value (`regReset`); `latches` and `staging` are the two halves
of the pair mechanism of R9; `freeCtr` is the model's own counter of free values, no register of the device. -/
structure Dev where
  regs : Tab (BitVec 32)
  latches : Tab (BitVec 32)
  staging : Tab (BitVec 32)
  mem : Mem
  freeCtr : Nat
  flt : Flt
  mig : Mig
  memc : MemCtl
  hdma : Hdma
  cfg : Cfg
  glb : Glb
  seq : Seq
  run : Run
  cmp : Cmp
  dcr : Dcr
  asm : Asm
  nrg : Nrg
  pac : Pac
  hlk : Hlk
  tim : Tim
  mot : Mot
  pmu : Pmu
  msr : Msr
  duo : Pair
  crc : Tab CrcUnit
  fan : Fan
deriving DecidableEq, Repr

/-- FLT changed. -/
def Dev.modFlt (f : Flt → Flt) (d : Dev) : Dev := { d with flt := f d.flt }
/-- MIG changed. -/
def Dev.modMig (f : Mig → Mig) (d : Dev) : Dev := { d with mig := f d.mig }
/-- MEM changed. -/
def Dev.modMem (f : MemCtl → MemCtl) (d : Dev) : Dev := { d with memc := f d.memc }
/-- HDMA changed. -/
def Dev.modHdma (f : Hdma → Hdma) (d : Dev) : Dev := { d with hdma := f d.hdma }
/-- CFG changed. -/
def Dev.modCfg (f : Cfg → Cfg) (d : Dev) : Dev := { d with cfg := f d.cfg }
/-- GLB changed. -/
def Dev.modGlb (f : Glb → Glb) (d : Dev) : Dev := { d with glb := f d.glb }
/-- SEQ changed. -/
def Dev.modSeq (f : Seq → Seq) (d : Dev) : Dev := { d with seq := f d.seq }
/-- RUN changed. -/
def Dev.modRun (f : Run → Run) (d : Dev) : Dev := { d with run := f d.run }
/-- CMP changed. -/
def Dev.modCmp (f : Cmp → Cmp) (d : Dev) : Dev := { d with cmp := f d.cmp }
/-- DCR changed. -/
def Dev.modDcr (f : Dcr → Dcr) (d : Dev) : Dev := { d with dcr := f d.dcr }
/-- ASM changed. -/
def Dev.modAsm (f : Asm → Asm) (d : Dev) : Dev := { d with asm := f d.asm }
/-- NRG changed. -/
def Dev.modNrg (f : Nrg → Nrg) (d : Dev) : Dev := { d with nrg := f d.nrg }
/-- PAC changed. -/
def Dev.modPac (f : Pac → Pac) (d : Dev) : Dev := { d with pac := f d.pac }
/-- HLK changed. -/
def Dev.modHlk (f : Hlk → Hlk) (d : Dev) : Dev := { d with hlk := f d.hlk }
/-- TIM changed. -/
def Dev.modTim (f : Tim → Tim) (d : Dev) : Dev := { d with tim := f d.tim }
/-- MOT changed. -/
def Dev.modMot (f : Mot → Mot) (d : Dev) : Dev := { d with mot := f d.mot }
/-- PMU changed. -/
def Dev.modPmu (f : Pmu → Pmu) (d : Dev) : Dev := { d with pmu := f d.pmu }
/-- MSR changed. -/
def Dev.modMsr (f : Msr → Msr) (d : Dev) : Dev := { d with msr := f d.msr }
/-- PAIR changed. -/
def Dev.modPair (f : Pair → Pair) (d : Dev) : Dev := { d with duo := f d.duo }
/-- CRC changed. -/
def Dev.modCrc (f : Tab CrcUnit → Tab CrcUnit) (d : Dev) : Dev := { d with crc := f d.crc }
/-- The Fantail changed. -/
def Dev.modFan (f : Fan → Fan) (d : Dev) : Dev := { d with fan := f d.fan }

/-- The device with the commands that wait, first in, first out. -/
structure State where
  dev : Dev
  pending : List Instr
deriving DecidableEq, Repr

/-- The device right after RESET: every register at its reset value, nothing in progress. -/
def Dev.reset : Dev where
  regs := []
  latches := []
  staging := []
  mem := ⟨[], [], [], []⟩
  freeCtr := 0
  flt := ⟨[], [], none, true, 0, 0⟩
  mig := ⟨[], 0, none, [], [], false⟩
  memc := ⟨[], [], none, [], []⟩
  hdma := ⟨[], none, 0, false, false, ⟨0, 0, false⟩, [], [], []⟩
  cfg := ⟨[], [], none, [], [], false, false, false⟩
  glb := ⟨0x42622111#32, 0, 0xFFFF, none, false, false, true, [], none, none, none, false, false, false, 0⟩
  seq := ⟨[], [], 0, [], 0, none, 0, 0, []⟩
  run := ⟨[], [], 0, [], 0, 0, [], [], [], [], 0, [], none, false, none, 0, 0, none⟩
  cmp := ⟨none, none, [], []⟩
  dcr := ⟨[], 1, 0, none, none, [], []⟩
  asm := ⟨[], [], [], [], []⟩
  nrg := ⟨[], [], [], false, [], [], [], [], []⟩
  pac := ⟨[], none, 0, 0, 0, 1, false, 0, none, 0, [], [], none, [], none, 0, 0, none, false, 0, [], false, []⟩
  hlk := ⟨[], [], []⟩
  tim := ⟨0, [], [], [], [], [], []⟩
  mot := ⟨[], false, [], [], [], []⟩
  pmu := ⟨1, 0, [], 0x10000, none⟩
  msr := ⟨[], [], [], none, [], [], []⟩
  duo := ⟨[], 0, none, 0, none, [], [], [], [], [], [], [], [], [], [], [], [], [], 0, none, 0, false, []⟩
  crc := []
  fan := ⟨[], [], [], [], [], [], false, false, 0, none, none, false, 0⟩

/-- The machine right after reset, with no command waiting. -/
def State.reset : State := ⟨Dev.reset, []⟩

/-- The next state in which `f` has changed the device. -/
def State.did (s : State) (f : Dev → Dev) : Host.Outcome State Fault Refusal := .next { s with dev := f s.dev }

end Sys2Proof.Machine
end

