-- ==== Sys2Proof/Machine/Regs.lean ====
section
/-! DEFINITION. Machine/Regs.lean: reading and writing registers and their fields (R8, R9). A register that no entry of
`Dev.regs` lists holds its reset value. -/

namespace Sys2Proof.Machine

/-- The value of the register at BAR0 offset `a`. -/
def Dev.reg (d : Dev) (a : Nat) : Word := Tab.get d.regs (regReset a) a

/-- The register at `a` set to `v`. -/
def Dev.setReg (a : Nat) (v : Word) (d : Dev) : Dev := { d with regs := Tab.set d.regs (regReset a) a v }

/-- The number of bits of a field. -/
def Fld.width (f : Fld) : Nat := f.hi + 1 - f.lo

/-- The field's bits of a word. -/
def Fld.of (f : Fld) (w : Nat) : Nat := (w / 2 ^ f.lo) % 2 ^ f.width

/-- A word with the field's bits replaced by the low bits of `v`. -/
def Fld.into (f : Fld) (w v : Nat) : Nat := w - f.of w * 2 ^ f.lo + (v % 2 ^ f.width) * 2 ^ f.lo

/-- The value of a field. -/
def Dev.fld (d : Dev) (f : Fld) : Nat := f.of (d.reg f.reg).toNat

/-- Is a one-bit field set? -/
def Dev.flag (d : Dev) (f : Fld) : Bool := d.fld f != 0

/-- A field set to `v`, narrowed to its width. -/
def Dev.setFld (f : Fld) (v : Nat) (d : Dev) : Dev :=
  d.setReg f.reg (BitVec.ofNat 32 (f.into (d.reg f.reg).toNat v))

/-- A one-bit field set to a truth value. -/
def Dev.setFlag (f : Fld) (b : Bool) (d : Dev) : Dev := d.setFld f (if b then 1 else 0)

/-- A field increased by `n`, modulo its width. -/
def Dev.addFld (f : Fld) (n : Nat) (d : Dev) : Dev := d.setFld f (d.fld f + n)

/-- A field increased by `n`, held at its greatest value. -/
def Dev.satFld (f : Fld) (n : Nat) (d : Dev) : Dev := d.setFld f (min (d.fld f + n) (2 ^ f.width - 1))

/-- A field as a two's-complement number. -/
def Dev.sfld (d : Dev) (f : Fld) : Int := signed f.width (d.fld f)

/-- The committed 64-bit value of the pair whose low half is at `lo` (its high half stands 4 above). -/
def Dev.pair (d : Dev) (lo : Nat) : Nat := (d.reg lo).toNat + (d.reg (lo + 4)).toNat * 2 ^ 32

/-- The committed 64-bit value of a pair set by the device itself. -/
def Dev.setPair (lo : Nat) (v : Nat) (d : Dev) : Dev :=
  (d.setReg lo (BitVec.ofNat 32 v)).setReg (lo + 4) (BitVec.ofNat 32 (v / 2 ^ 32))

/-- A 64-bit counter pair increased by `n`. -/
def Dev.addPair (lo : Nat) (n : Nat) (d : Dev) : Dev := d.setPair lo (d.pair lo + n)

/-- Apply `f` when `c` holds. -/
def Dev.when (c : Bool) (f : Dev → Dev) (d : Dev) : Dev := if c then f d else d

/-- The bytes of a number, least significant first (every multi-byte field of the device is little-endian). -/
def leBytes : Nat → Nat → List Byte
  | 0, _ => []
  | n + 1, v => BitVec.ofNat 8 v :: leBytes n (v / 256)

/-- The number that bytes spell, least significant first. -/
def ofLe : List Byte → Nat
  | [] => 0
  | b :: bs => b.toNat + 256 * ofLe bs

end Sys2Proof.Machine
end

