-- ==== Sys2Proof/Machine/Ops.lean ====
section
/-! DEFINITION. Machine/Ops.lean: the operations every subsystem shares: device memory with its line metadata and the
address mapping (R279 to R282, R295 to R309), the raising of events (R311 to R315), free values, and the modes. -/

namespace Sys2Proof.Machine

/-- The current mode, Table 2-1. -/
def Dev.mode (d : Dev) : Nat := d.fld Reg.GLB_MODE.mode

abbrev Mode.reset : Nat := 0
abbrev Mode.load : Nat := 1
abbrev Mode.fill : Nat := 2
abbrev Mode.calibrate : Nat := 3
abbrev Mode.safe : Nat := 4
abbrev Mode.sleep : Nat := 5
abbrev Mode.standby : Nat := 6
abbrev Mode.service : Nat := 7
abbrev Mode.printWeb : Nat := 8
abbrev Mode.printSheet : Nat := 9
abbrev Mode.printScan : Nat := 10
abbrev Mode.shadow : Nat := 11

/-- Is a mode one of the three print modes? -/
def Mode.isPrint (m : Nat) : Bool := m == 8 || m == 9 || m == 10

/-- The next free number of the run: the counter of free values, which every use advances. -/
def Dev.freshSeed (d : Dev) : Nat := d.freeCtr

/-- The counter of free values advanced by `n`. -/
def Dev.useFree (n : Nat) (d : Dev) : Dev := { d with freeCtr := d.freeCtr + n }

/-- A time base. -/
def Dev.base (d : Dev) (b : Nat) : TimeBase := Tab.get d.tim.bases ⟨0, 0, 0⟩ b

/-- What a group of five ticks adds to V, in 2^-40 ns: 8 ns × (2^40 + adj) / 2^40 (R374). -/
def TimeBase.advance (t : TimeBase) : Nat := (8 * (2 ^ 40 + t.adj)).toNat

/-- A reading at tick `k` of a group: V and k/5 of the advance, rounded down to 2^-16 ns, modulo 2^64 ns (R374). -/
def TimeBase.read (k : Nat) (t : TimeBase) : Nat := (t.v + k * t.advance / 5) / 2 ^ 24 % 2 ^ 80

/-- The reading of base `b` now, in 2^-16 ns. -/
def Dev.tbRead (d : Dev) (b : Nat) : Nat := (d.base b).read d.tim.tick

/-- The time of base TB2 in nanoseconds (R375): the time stamp of events and logs. -/
def Dev.tb2ns (d : Dev) : Nat := d.tbRead 2 / 2 ^ 16

/-- `n` counts of event `e` of Table 22-1: 48 bits, from LOAD onward, lost while frozen (R413, R414). -/
def Dev.count (e n : Nat) (d : Dev) : Dev :=
  if d.mode = Mode.reset ∨ d.flag Reg.PMU_STAT.frozen ∨ n = 0 then d
  else d.setPair (Reg.PMU_CNT_LO.addr e) ((d.pair (Reg.PMU_CNT_LO.addr e) + n) % 2 ^ 48)

/-! ### The pair (chapter 17) -/

/-- Is the device paired (R329)? -/
def Dev.paired (d : Dev) : Bool := d.flag Reg.PAIR_CFG.pair_en
/-- Does it hold the ACTIVE role? -/
def Dev.isActive (d : Dev) : Bool := d.flag Reg.PAIR_STAT.active
/-- Is it in SHADOW? -/
def Dev.isShadow (d : Dev) : Bool := d.mode == Mode.shadow
/-- Is it in SHADOW, in sub-state MIRROR (R45)? -/
def Dev.isMirror (d : Dev) : Bool := d.isShadow && d.fld Reg.GLB_SHADOW_OF.sub_state == 1
/-- Is the pair link up? -/
def Dev.pairUp (d : Dev) : Bool := d.paired && d.flag Reg.PAIR_STAT.link_up
/-- The phase of a rejoin (Table 17-5). -/
def Dev.rejoinPhase (d : Dev) : Nat := d.fld Reg.PAIR_REJOIN_STAT.phase
/-- Does the ACTIVE run as one with its partner: in MIRROR, or from the pause of a rejoin on (R339, R340, R355)? -/
def Dev.pairServes (d : Dev) : Bool :=
  d.isActive && d.pairUp && ((match d.duo.peer with | some p => p.mirror | none => false) || d.rejoinPhase == 4 || d.rejoinPhase == 5)
/-- Does the SHADOW run as one with the ACTIVE? -/
def Dev.shadowServes (d : Dev) : Bool := d.isShadow && (d.isMirror || d.rejoinPhase == 4 || d.rejoinPhase == 5)

/-- A message sent over the pair link with the next link sequence number, while the link is up (R333). -/
def Dev.pairSend (m : PairMsg) (d : Dev) : Dev :=
  if d.pairUp then d.modPair fun p => { p with out := p.out ++ [(p.seq, m)], seq := (p.seq + 1) % 2 ^ 16 } else d

/-! ### Events -/

/-- Number of records a source queue holds for events below FATAL: 64 with one slot kept for FATAL (R315). -/
abbrev evQueueRoom : Nat := 63

/-- An event counted in FLT_SEV_CNT, and in FLT_LAST_FAULT when it is FAULT or FATAL (chapter 16, Tables 16-11, 16-12). -/
def Dev.countEvent (e : EvRec) (d : Dev) : Dev :=
  (d.addFld (Reg.FLT_SEV_CNT.count e.sev) 1).when (Nat.ble 4 e.sev) fun d =>
    ((d.setFld Reg.FLT_LAST_FAULT.severity e.sev).setFld Reg.FLT_LAST_FAULT.source_id e.src).setFld
      Reg.FLT_LAST_FAULT.code e.code

/-- A raised event put into its source's queue, or dropped and counted when the queue is full; a FATAL event is never
dropped (R315). -/
def Dev.raiseRec (e : EvRec) (d : Dev) : Dev :=
  let d := d.count 0xF4 1
  let q := Tab.get d.flt.queues EvQueue.empty e.src
  if e.sev = 5 || Nat.blt q.waiting.length evQueueRoom then
    d.modFlt fun f => { f with queues := Tab.set f.queues EvQueue.empty e.src { q with waiting := q.waiting ++ [e] } }
  else
    ((d.modFlt fun f => { f with
        queues := Tab.set f.queues EvQueue.empty e.src { q with dropped := q.dropped + 1 }
        droppedTotal := f.droppedTotal + 1
        droppedSrc := if f.droppedTotal = 0 then e.src else f.droppedSrc }).addFld Reg.FLT_DROPPED.count 1).countEvent e

/-- An event raised with the present TB2 time (R311): code, severity, source ID, arguments, and the ring its chapter
names, if it names one (R317). -/
def Dev.raiseTo (ring : Option Nat) (code sev src arg0 arg1 : Nat) (d : Dev) : Dev :=
  d.raiseRec ⟨d.tb2ns, src, sev, code, arg0, arg1, ring, false, false, false⟩

/-- An event raised by unit 0 of the block its code names, routed by FLT_ROUTE. -/
def Dev.raise (code sev arg0 arg1 : Nat) (d : Dev) : Dev := d.raiseTo none code sev (code / 256 * 8) arg0 arg1

/-- An event whose arguments the spec does not state: both are free values. -/
def Dev.raiseOpen (ring : Option Nat) (code sev src : Nat) (d : Dev) : Dev :=
  let n := d.freshSeed
  (d.useFree 2).raiseTo ring code sev src (Config.freeNat n % 2 ^ 64) (Config.freeNat (n + 1) % 2 ^ 64)

/-- An event of which the spec states arg0 only: arg1 is a free value. -/
def Dev.raiseHalf (ring : Option Nat) (code sev src arg0 : Nat) (d : Dev) : Dev :=
  let n := d.freshSeed
  (d.useFree 1).raiseTo ring code sev src arg0 (Config.freeNat n % 2 ^ 64)

abbrev Sev.info : Nat := 0
abbrev Sev.warn : Nat := 1
abbrev Sev.recovered : Nat := 2
abbrev Sev.degraded : Nat := 3
abbrev Sev.fault : Nat := 4
abbrev Sev.fatal : Nat := 5

/-! ### Device memory -/

/-- F, the first device address beyond fitted memory (R280). -/
def Dev.fitted (d : Dev) : Nat := d.fld Reg.MEM_SIZE.fitted_64m * 2 ^ 26

/-- Does the range of `n` bytes at `a` lie below F? -/
def Dev.inFitted (d : Dev) (a n : Nat) : Bool := Nat.ble (a + n) d.fitted

/-- What an unlisted byte of device memory reads as: a free value inside an undefined range, else the fill's 0. -/
def Mem.dflt (m : Mem) (a : Nat) : Byte :=
  match m.undef.find? (fun r => Nat.ble r.1 a && Nat.blt a (r.1 + r.2.1)) with
  | some r => Config.freeByte (r.2.2 + (a - r.1))
  | none => 0#8

/-- The byte at a device address. -/
def Mem.readByte (m : Mem) (a : Nat) : Byte := Tab.get m.cells (m.dflt a) a

/-- The byte at a device address replaced. -/
def Mem.writeByte (m : Mem) (a : Nat) (b : Byte) : Mem := { m with cells := Tab.set m.cells (m.dflt a) a b }

/-- `n` bytes from `a` on. -/
def Mem.readBytes (m : Mem) (a : Nat) : Nat → List Byte
  | 0 => []
  | n + 1 => m.readByte a :: m.readBytes (a + 1) n

/-- Bytes stored from `a` on. -/
def Mem.writeBytes (m : Mem) (a : Nat) : List Byte → Mem
  | [] => m
  | b :: bs => (m.writeByte a b).writeBytes (a + 1) bs

/-- The canonical form of device memory: rising addresses, no byte listed that reads so unlisted. -/
def Memory.wf (m : Mem) : Bool := Tab.wf m.cells m.dflt

/-- The range of `n` bytes at `a` made undefined: every byte of it a free value from seed `seed` on. -/
def Mem.forget (m : Mem) (a n seed : Nat) : Mem :=
  { m with
    cells := m.cells.filter (fun c => !(Nat.ble a c.1 && Nat.blt c.1 (a + n)))
    undef := (a, n, seed) :: m.undef }

/-- The little-endian number of `n` bytes at a device address. -/
def Dev.memLe (d : Dev) (a n : Nat) : Nat := ofLe (d.mem.readBytes a n)

/-- Does a reader of device memory wait for a refetch (R302, R33)? -/
def Dev.waitsRefetch (d : Dev) (r : Requester) : Bool := d.mig.refetches.any fun q => q.waiting.any fun w => w.1 == r

/-- Recovery classes (Table 15-1). -/
abbrev Cls.none : Nat := 0
abbrev Cls.reread : Nat := 1
abbrev Cls.refetch : Nat := 2
abbrev Cls.recompute : Nat := 3

/-- The class of the region a device address lies in: the lowest-numbered valid region that contains it, else REFETCH
(R298). -/
def Dev.regionClass (d : Dev) (a : Nat) : Nat :=
  match (List.range 16).find? (fun n =>
      d.flag (Reg.MIG_REGION_CFG.valid n) &&
      Nat.ble (d.fld (Reg.MIG_REGION_BASE.frame n)) (a / 2 ^ 16) &&
      Nat.blt (a / 2 ^ 16) (d.fld (Reg.MIG_REGION_BASE.frame n) + d.fld (Reg.MIG_REGION_CFG.frames n))) with
  | some n => d.fld (Reg.MIG_REGION_CFG.class_ n)
  | none => Cls.refetch

/-- The class a writer sets (R297, Table 15-2; R357 for the checkpoints). -/
def Dev.writerClass (d : Dev) (src a : Nat) : Nat :=
  if src = 0x40 ∨ src = 0x29 ∨ src = 0x83 then Cls.recompute
  else if src = 0x2C ∨ src = 0x38 then Cls.reread
  else if src = 0x42 ∨ src = 0x72 ∨ src = 0x71 then Cls.none
  else d.regionClass a

/-- Is a source one of the host's: a funnel unit, BAR2, or a relayed BAR2 write (R73, R75, R339)? -/
def hostSource (src : Nat) : Bool := (Nat.ble 0x18 src && Nat.ble src 0x1C) || src == 0x82

/-! #### The address mapping (R279 to R281, R309) -/

/-- Total capacity in bytes. -/
def Dev.totalBytes (d : Dev) : Nat := d.fld Reg.MEM_SIZE.total_gib * 2 ^ 30

/-- The DRAM coordinates of a physical address (Table 14-2): subchannel, channel, bank group, bank, column, rank, row. -/
structure Coord where
  sub : Nat
  chan : Nat
  bankGroup : Nat
  bank : Nat
  col : Nat
  rank : Nat
  row : Nat
deriving DecidableEq, Repr

/-- R281: physical address to DRAM coordinates, with the bank group and bank hashed by the low row bits. -/
def Dev.coord (d : Dev) (p : Nat) : Coord :=
  let cb := d.fld Reg.MEM_CFG.ch_log2
  let cl := if d.flag Reg.MEM_CFG.x4 then 7 else 6
  let rb := if d.flag Reg.MEM_CFG.ranks_m1 then 1 else 0
  let a := p / 2 ^ 7
  let b := a / 2 ^ cb
  let bgf := b % 8
  let baf := b / 8 % 4
  let c := b / 32
  let e := c / 2 ^ cl
  let row := e / 2 ^ rb
  { sub := p / 64 % 2
    chan := a % 2 ^ cb
    bankGroup := Nat.xor bgf (row % 8)
    bank := Nat.xor baf (row / 8 % 4)
    col := c % 2 ^ cl
    rank := e % 2 ^ rb
    row := row }

/-- The bank number of a physical address in the layout of the RETIRE table (R309). -/
def Dev.bankOf (d : Dev) (p : Nat) : Nat :=
  let c := d.coord p
  c.chan + 8 * c.sub + 16 * c.rank + 32 * c.bankGroup + 256 * c.bank

/-- How many of the numbers below `n` satisfy `p`. -/
def countBelow (p : Nat → Bool) : Nat → Nat
  | 0 => 0
  | n + 1 => countBelow p n + (if p n then 1 else 0)

/-- The `k`-th number from `a` on, among the next `n`, that satisfies `p`. -/
def nthFrom (p : Nat → Bool) (a k : Nat) : Nat → Option Nat
  | 0 => none
  | n + 1 => if p a then (if k = 0 then some a else nthFrom p (a + 1) (k - 1) n) else nthFrom p (a + 1) k n

/-- The entries of the RETIRE table in force, in table order: the raw 64-bit entries of a kind other than 0 (R309). -/
def Dev.retireEntries (d : Dev) : List Nat :=
  (Tab.get d.cfg.tables [] 0x0E01).filterMap (fun e => if e.2 / 2 ^ 62 = 1 ∨ e.2 / 2 ^ 62 = 2 then some e.2 else none)

/-- Does a retirement entry retire the bank of physical address `p`? -/
def Dev.entryBankHas (d : Dev) (e p : Nat) : Bool := e / 2 ^ 62 == 2 && d.bankOf p == e % 2 ^ 24

/-- Does a retirement entry retire the frame of the line at device address `a`? -/
def entryFrameHas (e a : Nat) : Bool := e / 2 ^ 62 == 1 && a / 2 ^ 16 == e % 2 ^ 24

/-- A physical line at or above F that lies in no retired bank (R309). -/
def Dev.spareUsable (d : Dev) (line : Nat) : Bool := !(d.retireEntries.any (fun e => d.entryBankHas e (64 * line)))

/-- The spare lines a retirement entry takes: 1,024 for a frame, one for each line of a bank below F (R309). -/
def Dev.entryLines (d : Dev) (e : Nat) : Nat :=
  if e / 2 ^ 62 = 1 then 1024 else countBelow (fun l => d.entryBankHas e (64 * l)) (d.fitted / 64)

/-- The index among the spare lines that the line at device address `a` is moved to, if a retirement covers it; a frame
before a bank (R309). -/
def Dev.spareIndex (d : Dev) (a : Nat) : Option Nat :=
  let es := d.retireEntries
  let before := fun (i : Nat) => ((es.take i).map d.entryLines).sum
  match es.findIdx? (fun e => entryFrameHas e a) with
  | some i => some (before i + a / 64 % 1024)
  | none =>
    match es.findIdx? (fun e => d.entryBankHas e a) with
    | some i =>
      some (before i + countBelow (fun l => d.entryBankHas (es.getD i 0) (64 * l)) (a / 64))
    | none => none

/-- The physical address of a device address: itself, or its spare line (R309). -/
def Dev.physAddr (d : Dev) (a : Nat) : Nat :=
  match d.spareIndex a with
  | none => a
  | some k =>
    match nthFrom d.spareUsable (d.fitted / 64) k ((d.totalBytes - d.fitted) / 64) with
    | some l => 64 * l + a % 64
    | none => a

/-- The channel a device address lies on. -/
def Dev.channelOf (d : Dev) (a : Nat) : Nat := (d.coord (d.physAddr a)).chan

/-- Is a line one of the first `n` × 1,024 lines of channel `c`, taken from its first row in ascending physical address (R284)? A line that
was retired lies in the spare pool, which no run reaches. -/
def Dev.marginLine (d : Dev) (c n line : Nat) : Bool :=
  let m := 2 * 2 ^ d.fld Reg.MEM_CFG.ch_log2
  (d.spareIndex (64 * line)).isNone && (d.coord (64 * line)).chan == c && Nat.blt (line / m * 2 + line % 2) (1024 * n)

/-- The metadata of a line: as written, or as a margin run (source 0x69, R284, R294) or FILL (R285 step 3) left it. -/
def Dev.lineMeta (d : Dev) (line : Nat) : LineMeta :=
  let src := if d.mem.margined.any fun e => d.marginLine e.1 e.2 line then 0x69 else 0x68
  (Tab.find d.mem.lines line).getD ⟨false, d.regionClass (64 * line), src, 0⟩

/-! #### CRCs -/

/-- One bit of a CRC of width `w` taken most significant bit first. -/
def crcStepMsb (w poly : Nat) (r : Nat) (bit : Bool) : Nat :=
  let top := Nat.testBit r (w - 1)
  let s := r * 2 % 2 ^ w
  if top != bit then Nat.xor s poly else s

/-- The eight bits of a byte, most significant first. -/
def bitsMsb (b : Byte) : List Bool := (List.range 8).map (fun i => b.toNat.testBit (7 - i))

/-- The eight bits of a byte, least significant first. -/
def bitsLsb (b : Byte) : List Bool := (List.range 8).map (fun i => b.toNat.testBit i)

/-- A CRC of width `w` taken most significant bit first, without reflection, from register value `r`. -/
def crcMsb (w poly : Nat) (r : Nat) (bs : List Byte) : Nat :=
  bs.foldl (fun r b => (bitsMsb b).foldl (crcStepMsb w poly) r) r

/-- One bit of a reflected CRC. -/
def crcStepLsb (poly : Nat) (r : Nat) (bit : Bool) : Nat :=
  let low := r.testBit 0
  if low != bit then Nat.xor (r / 2) poly else r / 2

/-- A reflected CRC from register value `r`; `poly` is the reflected polynomial. -/
def crcLsb (poly : Nat) (r : Nat) (bs : List Byte) : Nat :=
  bs.foldl (fun r b => (bitsLsb b).foldl (crcStepLsb poly) r) r

/-- The running register of the image's CRC-32C (chapter 3): reflected Castagnoli polynomial. -/
def crc32cRun (r : Nat) (bs : List Byte) : Nat := crcLsb 0x82F63B78 r bs

/-- CRC-32C: initial value and final XOR 0xFFFF_FFFF, reflected (chapter 3). -/
def crc32c (bs : List Byte) : Nat := Nat.xor (crc32cRun 0xFFFFFFFF bs) 0xFFFFFFFF

/-- CRC-64/ECMA-182: initial value 0, no reflection, final XOR 0 (R295). -/
def crc64 (bs : List Byte) : Nat := crcMsb 64 0x42F0E1EBA9EA3693 0 bs

/-- The CRC of a line's check word: over its 64 data bytes and bits 39:6 of its physical address (R295). -/
def lineCrc (bs : List Byte) (phys : Nat) : Nat := crc64 (bs ++ leBytes 8 (phys / 64 % 2 ^ 34))

/-! #### Writing -/

/-- One record of the fault log (Table 15-7), of a read that failed at TB2 `ns`. -/
def Dev.faultLogBytes (d : Dev) (ns line src outcome cls rereads lanes : Nat) : List Byte :=
  let phys := d.physAddr (64 * line)
  let c := d.coord phys
  leBytes 8 ns ++ leBytes 5 (64 * line) ++ leBytes 1 src ++ leBytes 1 outcome ++ leBytes 1 cls ++
    leBytes 5 phys ++ leBytes 1 (c.chan + 8 * c.sub + 16 * c.rank) ++ leBytes 1 (c.bankGroup + 8 * c.bank) ++
    leBytes 1 rereads ++ leBytes 4 c.row ++ leBytes 1 lanes ++ leBytes 3 0

/-- Does a line fail its check as far as the device knows: it is poisoned, or its refetch is in force (R302, R306)? -/
def Dev.lineBad (d : Dev) (line : Nat) : Bool := (d.lineMeta line).poison || d.mig.refetches.any (fun r => r.line == line && !r.touched)

/-- Channel `c` changed. -/
def Dev.modChan (c : Nat) (f : Chan → Chan) (d : Dev) : Dev :=
  d.modMem fun m => { m with chans := Tab.upd m.chans Chan.idle c f }

/-- The write queue of a line's channel takes the line, of 128 at most; a drain starts when it reaches wq_high (R289). -/
def Dev.queueWrite (line : Nat) (d : Dev) : Dev :=
  let p := d.coord (d.physAddr (64 * line))
  let q := (Tab.get d.memc.chans Chan.idle p.chan).queued
  let n := q.1 + q.2 + 1
  if Nat.ble 129 n then d
  else (d.modChan p.chan fun h => { h with
      queued := if p.sub = 0 then (q.1 + 1, q.2) else (q.1, q.2 + 1)
      draining := h.draining || Nat.ble (d.fld Reg.MEM_SCHED.wq_high) n }).setFld (Reg.MEM_CH_STAT.wq p.chan) n

/-- Bytes stored in one line: the other bytes of a line that fails are zeros (Table 15-4); poison is cleared (R306); class, source and
generation as Table 15-2 sets them; counted in MEM_WR_BYTES and the channel's write queue (R290). A full line answers a refetch of the
line, and any write stands against a later poisoning (R302, R306). -/
def Dev.lineStore (src gen a : Nat) (bs : List Byte) (d : Dev) : Dev :=
  let line := a / 64
  let partly := Nat.blt bs.length 64
  let m0 := if d.lineBad line && partly then d.mem.writeBytes (64 * line) (List.replicate 64 0#8) else d.mem
  let m1 := m0.writeBytes a bs
  let d := { d with mem := { m1 with lines := Tab.put m1.lines line ⟨false, d.writerClass src a, src, gen⟩ } }
  let d := (d.addPair Reg.MEM_WR_BYTES_LO.addr bs.length).count (0xD0 + d.channelOf a) 1
  let d := d.when (Nat.ble 1 d.rejoinPhase && d.isActive) fun d => d.modPair fun p =>
    { p with dirty := if p.dirty.contains (a / 65536) then p.dirty else p.dirty ++ [a / 65536] }
  (d.queueWrite line).modMig fun g => { g with refetches := g.refetches.map (fun r =>
    if r.line = line then { r with touched := true, written := r.written || !partly } else r) }

/-- Fault-log records stored, when the log has a length (R307): source 0x72, class NONE. A record that is merged onto a failing line of the
log is itself such a merge and logged in turn; `fuel` bounds how often. -/
def Dev.faultLogs (ns line src outcome cls rereads lanes : Nat) : Nat → Dev → Dev
  | 0, d => d
  | fuel + 1, d =>
    let len := d.fld Reg.MIG_LOG_LEN.len
    if len = 0 then d
    else
      let a := d.pair Reg.MIG_LOG_BASE_LO.addr + 32 * (d.fld Reg.MIG_LOG_PTR.written % len)
      let merges := d.lineBad (a / 64)
      let k := (d.lineMeta (a / 64)).cls
      let d := (d.lineStore 0x72 0 a (d.faultLogBytes ns line src outcome cls rereads lanes)).addFld Reg.MIG_LOG_PTR.written 1
      if merges then d.faultLogs d.tb2ns (a / 64) 0x72 6 k 0 0 fuel else d

/-- A fault-log record stored: every failing line of the log can add one. -/
def Dev.faultLogAt (ns line src outcome cls rereads lanes : Nat) (d : Dev) : Dev :=
  d.faultLogs ns line src outcome cls rereads lanes (d.mem.lines.length + d.mig.refetches.length + 1)

/-- An unrecoverable read of a source reported (R300): MIG_CNT_3, EV_MIG_UNRECOVERABLE with its reason (1 FAILED, 2 POISONED, 3 TIMEOUT) and
the fault log; the read failed at TB2 `ns`. -/
def Dev.unrecoverable (ns line src reason cls rereads : Nat) (d : Dev) : Dev :=
  let d := (d.addFld (Reg.MIG_CNT.count 3) 1).count 0xE3 1
  let d := d.raise 0x0E03 Sev.warn (64 * line) (reason * 2 ^ 56 + cls * 2 ^ 48 + src * 2 ^ 40)
  d.faultLogAt ns line src (if reason = 2 then 6 else 4) cls rereads 0

/-- A read by a source finds a line poisoned (R300, R306). -/
def Dev.foundPoison (line src : Nat) (d : Dev) : Dev := d.unrecoverable d.tb2ns line src 2 (d.lineMeta line).cls 0

/-- The parts of a write by line: (address, bytes) pairs that do not cross a line boundary; at most `fuel` parts. -/
def splitLines (a : Nat) (bs : List Byte) : Nat → List (Nat × List Byte)
  | 0 => []
  | fuel + 1 =>
    if bs.isEmpty then []
    else
      let n := 64 - a % 64
      (a, bs.take n) :: splitLines (a + n) (bs.drop n) fuel

/-- One part of a write that lies in one line: merged onto a line that fails only by a device source other than the host's, which fills the
other bytes with zeros; a host source's merge is not applied (Table 15-4, R83, R302). The read half of either merge is a read that finds
the line poisoned or failing (R300); onto a line whose refetch is in force the host's merge just has no effect. -/
def Dev.memWriteLine (src gen a : Nat) (bs : List Byte) (d : Dev) : Dev :=
  let line := a / 64
  let m := d.lineMeta line
  let bad := d.lineBad line && Nat.blt bs.length 64
  let d := d.when (bad && (m.poison || !(hostSource src))) fun d => d.unrecoverable d.tb2ns line src (if m.poison then 2 else 1) m.cls 0
  if bad && hostSource src then d else d.lineStore src gen a bs

/-- A write of bytes by a source at a device address (R81, R82, R290): visible at once, line by line. -/
def Dev.memWriteGen (src gen a : Nat) (bs : List Byte) (d : Dev) : Dev :=
  (splitLines a bs (bs.length + 1)).foldl (fun d p => d.memWriteLine src gen p.1 p.2) d

/-- A write with generation 0. -/
def Dev.memWrite (src a : Nat) (bs : List Byte) (d : Dev) : Dev := d.memWriteGen src 0 a bs

/-- The lines that `n` bytes at `a` touch. -/
def linesOf (a n : Nat) : List Nat :=
  if n = 0 then [] else (List.range ((a + n - 1) / 64 - a / 64 + 1)).map (fun i => a / 64 + i)

/-- A read of `n` bytes of device memory counted (MEM_RD_BYTES, Table 22-1). -/
def Dev.countRead (a n : Nat) (d : Dev) : Dev :=
  (linesOf a n).foldl (fun d l => (d.addPair Reg.MEM_RD_BYTES_LO.addr 64).count (0xC8 + d.channelOf (64 * l)) 1) d

/-- Is a line of the range poisoned (R306)? -/
def Dev.rangePoisoned (d : Dev) (a n : Nat) : Bool := (linesOf a n).any (fun l => (d.lineMeta l).poison)

/-- A source's read of a range, line after line, ends at the first poisoned line, which is reported (R300). -/
def Dev.reportPoison (a n src : Nat) (d : Dev) : Dev :=
  match (linesOf a n).find? (fun l => (d.lineMeta l).poison) with
  | some l => d.foundPoison l src
  | none => d

end Sys2Proof.Machine
end

