-- ==== Sys2Proof/Machine/Codec.lean ====
section
/-! DEFINITION. Machine/Codec.lean: the DEFLATE subset of the decoders (R123 to R125) and the encoders' stream (R135). -/

namespace Sys2Proof.Machine

/-! ### Decoding -/

/-- Decode status, Table 6-2. -/
abbrev DecStat.ok : Nat := 0
abbrev DecStat.hdrMagic : Nat := 1
abbrev DecStat.hdrCrc : Nat := 2
abbrev DecStat.hdrField : Nat := 3
abbrev DecStat.frameLen : Nat := 4
abbrev DecStat.dict : Nat := 5
abbrev DecStat.stream : Nat := 6
abbrev DecStat.distBeforeStart : Nat := 7
abbrev DecStat.tileOverrun : Nat := 8
abbrev DecStat.tileShort : Nat := 9
abbrev DecStat.truncated : Nat := 10
abbrev DecStat.tileCrc : Nat := 11
abbrev DecStat.mem : Nat := 12

/-- The reader of a stream: the bits still to come, least significant of each byte first, and how many were taken. -/
structure BitIn where
  bits : List Bool
  pos : Nat
deriving DecidableEq, Repr

/-- `n` bits as a number, least significant first; a payload that ends first is TRUNCATED. -/
def BitIn.take (r : BitIn) : Nat → Except Nat (Nat × BitIn)
  | 0 => .ok (0, r)
  | n + 1 =>
    match r.bits with
    | [] => .error DecStat.truncated
    | b :: bs =>
      match BitIn.take ⟨bs, r.pos + 1⟩ n with
      | .ok (v, r') => .ok ((if b then 1 else 0) + 2 * v, r')
      | .error e => .error e

/-- The symbols of a code length, in rising order. -/
def symbolsOf (lens : List Nat) (len : Nat) : List Nat :=
  (List.range lens.length).filter (fun s => lens.getD s 0 == len)

/-- A canonical Huffman symbol (RFC 1951) from its bit number `len` on: one bit more at each length until a code matches; `fuel` lengths are
left, and a pattern longer than every code is unassigned, STREAM. -/
def huffFrom (lens : List Nat) (len code first : Nat) (r : BitIn) : Nat → Except Nat (Nat × BitIn)
  | 0 => .error DecStat.stream
  | fuel + 1 =>
    match r.take 1 with
    | .error e => .error e
    | .ok (b, r) =>
      let code := 2 * code + b
      let first := 2 * first
      let syms := symbolsOf lens len
      if Nat.ble first code && Nat.blt (code - first) syms.length then .ok (syms.getD (code - first) 0, r)
      else huffFrom lens (len + 1) code (first + syms.length) r fuel

/-- A symbol of the code with these lengths: no bit beyond its longest code is read (R123). -/
def huffSymbol (lens : List Nat) (r : BitIn) : Except Nat (Nat × BitIn) := huffFrom lens 1 0 0 r (lens.foldl max 0)

/-- The share of the code space that a set of code lengths takes, out of 2^15. -/
def codeSpace (lens : List Nat) : Nat := (lens.map (fun l => if l = 0 then 0 else 2 ^ (15 - l))).sum

/-- Is a code exactly complete? -/
def codeComplete (lens : List Nat) : Bool := codeSpace lens == 2 ^ 15

/-- R123: is a distance code acceptable: complete, or a single code of length 1, or none used? -/
def distCodeOk (lens : List Nat) : Bool :=
  codeComplete lens || (lens.filter (· != 0)).isEmpty || lens.filter (· != 0) == [1]

/-- Base and extra bits of the length symbols 257 to 285. -/
def lengthBase : List (Nat × Nat) :=
  [(3,0),(4,0),(5,0),(6,0),(7,0),(8,0),(9,0),(10,0),(11,1),(13,1),(15,1),(17,1),(19,2),(23,2),(27,2),(31,2),(35,3),(43,3),
   (51,3),(59,3),(67,4),(83,4),(99,4),(115,4),(131,5),(163,5),(195,5),(227,5),(258,0)]

/-- Base and extra bits of the distance symbols 0 to 29. -/
def distBase : List (Nat × Nat) :=
  [(1,0),(2,0),(3,0),(4,0),(5,1),(7,1),(9,2),(13,2),(17,3),(25,3),(33,4),(49,4),(65,5),(97,5),(129,6),(193,6),(257,7),
   (385,7),(513,8),(769,8),(1025,9),(1537,9),(2049,10),(3073,10),(4097,11),(6145,11),(8193,12),(12289,12),(16385,13),
   (24577,13)]

/-- Code lengths of the fixed literal/length code. -/
def fixedLit : List Nat :=
  List.replicate 144 8 ++ List.replicate 112 9 ++ List.replicate 24 7 ++ List.replicate 8 8

/-- Code lengths of the fixed distance code. -/
def fixedDist : List Nat := List.replicate 32 5

/-- The output so far, most recent byte first, and the dictionary's bytes, most recent first (R124). -/
structure InflateOut where
  rev : List Byte
  made : Nat
  dict : List Byte
  dictLen : Nat
  limit : Nat
deriving DecidableEq, Repr

/-- One byte produced; byte L is TILE_OVERRUN (R125). -/
def InflateOut.push (o : InflateOut) (b : Byte) : Except Nat InflateOut :=
  if Nat.ble o.limit o.made then .error DecStat.tileOverrun else .ok { o with rev := b :: o.rev, made := o.made + 1 }

/-- The byte `k` back from the end of dictionary and output. -/
def InflateOut.back (o : InflateOut) (k : Nat) : Byte :=
  if Nat.ble k o.made then o.rev.getD (k - 1) 0#8 else o.dict.getD (k - o.made - 1) 0#8

/-- `n` bytes copied from `k` back. -/
def InflateOut.copy (o : InflateOut) (k : Nat) : Nat → InflateOut
  | 0 => o
  | n + 1 => InflateOut.copy { o with rev := o.back k :: o.rev, made := o.made + 1 } k n

/-- A match: before the start is DIST_BEFORE_START, past byte L - 1 is TILE_OVERRUN, and then nothing is written (R124 to
R126). -/
def InflateOut.match_ (o : InflateOut) (len k : Nat) : Except Nat InflateOut :=
  if Nat.blt (o.made + o.dictLen) k then .error DecStat.distBeforeStart
  else if Nat.blt o.limit (o.made + len) then .error DecStat.tileOverrun
  else .ok (o.copy k len)

/-- The symbols of a compressed block up to its end-of-block code; `fuel` bounds the symbols. -/
def inflateSymbols (lit dist : List Nat) (r : BitIn) (o : InflateOut) : Nat → Except Nat (BitIn × InflateOut)
  | 0 => .error DecStat.stream
  | fuel + 1 =>
    match huffSymbol lit r with
    | .error e => .error e
    | .ok (s, r) =>
      if s < 256 then
        match o.push (BitVec.ofNat 8 s) with
        | .error e => .error e
        | .ok o => inflateSymbols lit dist r o fuel
      else if s = 256 then .ok (r, o)
      else if 286 ≤ s then .error DecStat.stream
      else if (dist.filter (· != 0)).isEmpty then .error DecStat.stream
      else
        let lb := lengthBase.getD (s - 257) (0, 0)
        match r.take lb.2 with
        | .error e => .error e
        | .ok (le, r) =>
          match huffSymbol dist r with
          | .error e => .error e
          | .ok (t, r) =>
            if 30 ≤ t then .error DecStat.stream
            else
              let db := distBase.getD t (0, 0)
              match r.take db.2 with
              | .error e => .error e
              | .ok (de, r) =>
                match o.match_ (lb.1 + le) (db.1 + de) with
                | .error e => .error e
                | .ok o => inflateSymbols lit dist r o fuel

/-- `n` stored bytes. -/
def inflateStored (r : BitIn) (o : InflateOut) : Nat → Except Nat (BitIn × InflateOut)
  | 0 => .ok (r, o)
  | n + 1 =>
    match r.take 8 with
    | .error e => .error e
    | .ok (b, r) =>
      match o.push (BitVec.ofNat 8 b) with
      | .error e => .error e
      | .ok o => inflateStored r o n

/-- The order in which the code-length code's lengths are sent. -/
def clOrder : List Nat := [16, 17, 18, 0, 8, 7, 9, 6, 10, 5, 11, 4, 12, 3, 13, 2, 14, 1, 15]

/-- `n` three-bit code lengths. -/
def readCl (r : BitIn) : Nat → Except Nat (List Nat × BitIn)
  | 0 => .ok ([], r)
  | n + 1 =>
    match r.take 3 with
    | .error e => .error e
    | .ok (v, r) =>
      match readCl r n with
      | .error e => .error e
      | .ok (vs, r) => .ok (v :: vs, r)

/-- The lengths of the literal and distance codes: `total` of them, with the repeat codes 16 to 18; a repeat that comes
first or runs past the total is STREAM (R123). `acc` holds the lengths so far, most recent first. -/
def readLengths (cl : List Nat) (total : Nat) (r : BitIn) (acc : List Nat) : Nat → Except Nat (List Nat × BitIn)
  | 0 => .error DecStat.stream
  | fuel + 1 =>
    if acc.length = total then .ok (acc.reverse, r)
    else
      match huffSymbol cl r with
      | .error e => .error e
      | .ok (s, r) =>
        let spec := if s = 16 then (2, 3) else if s = 17 then (3, 3) else (7, 11)
        if s < 16 then readLengths cl total r (s :: acc) fuel
        else if (s = 16 ∧ acc.isEmpty) ∨ total < acc.length + spec.2 then .error DecStat.stream
        else
          match r.take spec.1 with
          | .error e => .error e
          | .ok (x, r) =>
            let n := spec.2 + x
            if total < acc.length + n then .error DecStat.stream
            else
              let v := if s = 16 then acc.headD 0 else 0
              readLengths cl total r (List.replicate n v ++ acc) fuel

/-- One block: the output and whether it was the final one. -/
def inflateBlock (r : BitIn) (o : InflateOut) : Except Nat (Bool × BitIn × InflateOut) :=
  match r.take 3 with
  | .error e => .error e
  | .ok (h, r) =>
    let final := h % 2 == 1
    let done := fun (x : Except Nat (BitIn × InflateOut)) =>
      match x with
      | .error e => (.error e : Except Nat (Bool × BitIn × InflateOut))
      | .ok (r, o) => .ok (final, r, o)
    match h / 2 with
    | 0 =>
      let skip := (8 - r.pos % 8) % 8
      match BitIn.take r skip with
      | .error e => .error e
      | .ok (_, r) =>
        match r.take 16 with
        | .error e => .error e
        | .ok (len, r) =>
          match r.take 16 with
          | .error e => .error e
          | .ok (nlen, r) => if nlen ≠ 0xFFFF - len then .error DecStat.stream else done (inflateStored r o len)
    | 1 => done (inflateSymbols fixedLit fixedDist r o (r.bits.length + 1))
    | 2 =>
      match r.take 14 with
      | .error e => .error e
      | .ok (v, r) =>
        let hlit := v % 32 + 257
        let hdist := v / 32 % 32 + 1
        let hclen := v / 1024 + 4
        if 286 < hlit ∨ 30 < hdist then .error DecStat.stream
        else match readCl r hclen with
          | .error e => .error e
          | .ok (cls, r) =>
            let cl := (List.range 19).map (fun s => match clOrder.findIdx? (· == s) with
              | some i => cls.getD i 0 | none => 0)
            if !(codeComplete cl) then .error DecStat.stream
            else match readLengths cl (hlit + hdist) r [] (hlit + hdist + 1) with
              | .error e => .error e
              | .ok (lens, r) =>
                let lit := lens.take hlit
                let dist := lens.drop hlit
                if !(codeComplete lit) || lit.getD 256 0 == 0 || !(distCodeOk dist) then .error DecStat.stream
                else done (inflateSymbols lit dist r o (r.bits.length + 1))
    | _ => .error DecStat.stream

/-- The blocks of a stream up to the final one; at most `blocks` of them (R123). A payload that ends where a further block would begin is
TRUNCATED (R125). -/
def inflateBlocks (r : BitIn) (o : InflateOut) : Nat → Except Nat InflateOut
  | 0 => .error (if r.bits.isEmpty then DecStat.truncated else DecStat.stream)
  | blocks + 1 =>
    match inflateBlock r o with
    | .error e => .error e
    | .ok (final, r, o) => if final then .ok o else inflateBlocks r o blocks

/-- The bits of bytes, least significant of each byte first. -/
def bitsOf (bs : List Byte) : List Bool := bs.flatMap bitsLsb

/-- A raw DEFLATE stream of at most `blocks` blocks decoded to exactly `limit` bytes, or the status of its failure. -/
def inflate (payload dict : List Byte) (limit blocks : Nat) : Except Nat (List Byte) :=
  match inflateBlocks ⟨bitsOf payload, 0⟩ ⟨[], 0, dict.reverse, dict.length, limit⟩ blocks with
  | .error e => .error e
  | .ok o => if o.made < limit then .error DecStat.tileShort else .ok o.rev.reverse

/-- A tile's payload: at most 1 + floor(L / 2,048) blocks (R123). -/
def inflateTile (payload dict : List Byte) (limit : Nat) : Except Nat (List Byte) :=
  inflate payload dict limit (1 + limit / 2048)

/-! ### Encoding (R135) -/

/-- A symbol of the encoder: a literal or a match of a length at a distance. -/
inductive EncSym where
  | lit (b : Byte)
  | copy (len dist : Nat)
deriving DecidableEq, Repr

/-- The hash of the three bytes at a position. -/
def encHash : List Byte → Option Nat
  | a :: b :: c :: _ => some (Nat.land (Nat.xor (Nat.xor (a.toNat * 1024) (b.toNat * 32)) c.toNat) 0x7FFF)
  | _ => none

/-- How many leading bytes two suffixes share, at most `n`. -/
def commonPrefix : List Byte → List Byte → Nat → Nat
  | a :: as, b :: bs, n + 1 => if a = b then commonPrefix as bs n + 1 else 0
  | _, _, _ => 0

/-- The longest match of 3 bytes or more among the candidates (suffix, distance), the nearest among equals. -/
def bestMatch (here : List Byte) : List (List Byte × Nat) → Option (Nat × Nat)
  | [] => none
  | (s, k) :: rest =>
    let n := commonPrefix s here 258
    match bestMatch here rest with
    | some (m, j) => if m ≤ n ∧ 3 ≤ n then some (n, k) else some (m, j)
    | none => if 3 ≤ n then some (n, k) else none

/-- The candidates at a position: the first `depth` earlier positions in the 32 KiB window with the same hash, most recent
first; `hist` holds the earlier suffixes, most recent first. -/
def encCandidates (depth : Nat) (hist : List (List Byte)) (here : List Byte) : List (List Byte × Nat) :=
  match encHash here with
  | none => []
  | some h =>
    (((hist.take 32768).zipIdx.filter (fun p => encHash p.1 == some h)).take depth).map (fun p => (p.1, p.2 + 1))

/-- Greedy matching of the input; `skip` positions are covered by the match just taken. -/
def encSymbols (depth : Nat) (hist : List (List Byte)) : List Byte → Nat → List EncSym
  | [], _ => []
  | b :: bs, skip + 1 => encSymbols depth ((b :: bs) :: hist) bs skip
  | b :: bs, 0 =>
    match bestMatch (b :: bs) (encCandidates depth hist (b :: bs)) with
    | some (n, k) => .copy n k :: encSymbols depth ((b :: bs) :: hist) bs (n - 1)
    | none => .lit b :: encSymbols depth ((b :: bs) :: hist) bs 0

/-- `n` bits of a number, least significant first. -/
def bitsLe : Nat → Nat → List Bool
  | 0, _ => []
  | n + 1, v => (v % 2 == 1) :: bitsLe n (v / 2)

/-- A Huffman code of `n` bits, most significant first. -/
def codeBits (n v : Nat) : List Bool := (bitsLe n v).reverse

/-- The fixed code of a literal/length symbol (RFC 1951). -/
def fixedCode (s : Nat) : List Bool :=
  if s < 144 then codeBits 8 (0x30 + s)
  else if s < 256 then codeBits 9 (0x190 + (s - 144))
  else if s < 280 then codeBits 7 (s - 256)
  else codeBits 8 (0xC0 + (s - 280))

/-- The index of the last base not above `v`. -/
def baseIndex (t : List (Nat × Nat)) (v : Nat) : Nat := (t.filter (fun e => Nat.ble e.1 v)).length - 1

/-- An encoder symbol in the fixed codes. -/
def EncSym.fixedBits : EncSym → List Bool
  | .lit b => fixedCode b.toNat
  | .copy n k =>
    let i := if n = 258 then 28 else baseIndex (lengthBase.take 28) n
    let lb := lengthBase.getD i (0, 0)
    let j := baseIndex distBase k
    let db := distBase.getD j (0, 0)
    fixedCode (257 + i) ++ bitsLe lb.2 (n - lb.1) ++ codeBits 5 j ++ bitsLe db.2 (k - db.1)

/-- An encoder symbol as a number, for the free codes of a dynamic block. -/
def EncSym.toNat : EncSym → Nat
  | .lit b => b.toNat
  | .copy n k => 2 ^ 16 + (n - 3) * 2 ^ 15 + (k - 1)

/-- The input bytes a symbol stands for. -/
def EncSym.span : EncSym → Nat
  | .lit _ => 1
  | .copy n _ => n

/-- The symbols in blocks of 640; an empty input is one empty block. -/
def encBlocks (syms : List EncSym) : Nat → List (List EncSym)
  | 0 => []
  | fuel + 1 => if syms.length ≤ 640 then [syms] else syms.take 640 :: encBlocks (syms.drop 640) fuel

/-- The codes of a dynamic block: the lengths of the literal/length, the distance and the code-length code, and the header's code-length
symbols with their extra values. -/
structure DynCodes where
  lit : List Nat
  dist : List Nat
  cl : List Nat
  tokens : List (Nat × Nat)
deriving DecidableEq, Repr

/-- The code lengths that code-length symbols stand for, most recent first. -/
def expandTokens (acc : List Nat) : List (Nat × Nat) → List Nat
  | [] => acc
  | (s, x) :: ts =>
    let more := if s < 16 then [s] else if s = 16 then List.replicate (3 + x) (acc.headD 0)
      else if s = 17 then List.replicate (3 + x) 0 else List.replicate (11 + x) 0
    expandTokens (more ++ acc) ts

/-- The literal/length symbol of an encoder symbol, and its distance symbol if it is a match. -/
def EncSym.codes : EncSym → Nat × Option Nat
  | .lit b => (b.toNat, none)
  | .copy n k => (257 + (if n = 258 then 28 else baseIndex (lengthBase.take 28) n), some (baseIndex distBase k))

/-- Are codes fit for a block of RFC 1951 within R123 that can spell these symbols? -/
def DynCodes.fit (c : DynCodes) (syms : List EncSym) : Bool :=
  let lens := c.lit ++ c.dist
  Nat.ble 257 c.lit.length && Nat.ble c.lit.length 286 && Nat.ble 1 c.dist.length && Nat.ble c.dist.length 30 && c.cl.length == 19 &&
  lens.all (Nat.ble · 15) && c.cl.all (Nat.ble · 7) && codeComplete c.lit && codeComplete c.cl && distCodeOk c.dist && c.lit.getD 256 0 != 0 &&
  syms.all (fun s => c.lit.getD s.codes.1 0 != 0 && (match s.codes.2 with | some t => c.dist.getD t 0 != 0 | none => true)) &&
  c.tokens.all (fun t => Nat.blt t.1 19 && c.cl.getD t.1 0 != 0 && Nat.blt t.2 (if t.1 = 16 then 4 else if t.1 = 17 then 8 else if t.1 = 18 then 128 else 1)) &&
  (match c.tokens with | t :: _ => t.1 != 16 | [] => false) && (expandTokens [] c.tokens).reverse == lens

/-- Codes of nearly equal lengths, which spell every symbol. -/
def DynCodes.flat : DynCodes :=
  let lit := List.replicate 226 8 ++ List.replicate 60 9
  let dist := List.replicate 2 4 ++ List.replicate 28 5
  ⟨lit, dist, List.replicate 16 4 ++ List.replicate 3 0, (lit ++ dist).map fun n => (n, 0)⟩

/-- The codes of a block: what the device's construction gives, which the spec does not state (R135); where the free value is no code of
RFC 1951 for these symbols, nearly equal lengths stand for it. -/
def dynCodes (syms : List EncSym) : DynCodes :=
  let v := Config.dynamicCodes (syms.map EncSym.toNat)
  let c : DynCodes := ⟨v.1, v.2.1, v.2.2.1, v.2.2.2⟩
  if c.fit syms then c else DynCodes.flat

/-- The first canonical code of length `n` (RFC 1951). -/
def canonFirst (lens : List Nat) : Nat → Nat
  | 0 => 0
  | n + 1 => 2 * (canonFirst lens n + (if n = 0 then 0 else (symbolsOf lens n).length))

/-- The canonical code of a symbol. -/
def canonBits (lens : List Nat) (s : Nat) : List Bool :=
  let n := lens.getD s 0
  codeBits n (canonFirst lens n + ((symbolsOf lens n).idxOf s))

/-- An encoder symbol in a block's codes. -/
def EncSym.bits (c : DynCodes) : EncSym → List Bool
  | .lit b => canonBits c.lit b.toNat
  | .copy n k =>
    let i := (EncSym.copy n k).codes.1
    let j := baseIndex distBase k
    let lb := lengthBase.getD (i - 257) (0, 0)
    let db := distBase.getD j (0, 0)
    canonBits c.lit i ++ bitsLe lb.2 (n - lb.1) ++ canonBits c.dist j ++ bitsLe db.2 (k - db.1)

/-- A dynamic block's header after BFINAL and BTYPE: HLIT, HDIST, HCLEN, the code-length code and the code lengths (RFC 1951). -/
def DynCodes.header (c : DynCodes) : List Bool :=
  let extra := fun (t : Nat × Nat) => if t.1 = 16 then bitsLe 2 t.2 else if t.1 = 17 then bitsLe 3 t.2 else if t.1 = 18 then bitsLe 7 t.2 else []
  bitsLe 5 (c.lit.length - 257) ++ bitsLe 5 (c.dist.length - 1) ++ bitsLe 4 15 ++ clOrder.flatMap (fun s => bitsLe 3 (c.cl.getD s 0)) ++
    c.tokens.flatMap fun t => canonBits c.cl t.1 ++ extra t

/-- The bits of a block. -/
def encBlockBits (dyn final : Bool) (syms : List EncSym) : List Bool :=
  if dyn then
    let c := dynCodes syms
    final :: false :: true :: (c.header ++ syms.flatMap (EncSym.bits c) ++ canonBits c.lit 256)
  else final :: true :: false :: (syms.flatMap EncSym.fixedBits ++ fixedCode 256)

/-- The bits of a list of blocks, the last of them final when `last`. -/
def encStreamBits (dyn last : Bool) : List (List EncSym) → List Bool
  | [] => []
  | [b] => encBlockBits dyn last b
  | b :: bs => encBlockBits dyn false b ++ encStreamBits dyn last bs

/-- Bits packed into bytes, the last padded with zero bits. -/
def packBits : List Bool → Nat → List Byte
  | _, 0 => []
  | [], _ => []
  | bs, fuel + 1 =>
    BitVec.ofNat 8 (((bs.take 8).zipIdx.map (fun p => if p.1 then 2 ^ p.2 else 0)).sum) :: packBits (bs.drop 8) fuel

/-- The blocks of an input. -/
def deflateBlocks (depth : Nat) (input : List Byte) : List (List EncSym) :=
  encBlocks (encSymbols depth [] input 0) (input.length + 1)

/-- The stream of an input with a chain depth and dynamic or fixed blocks (R135). -/
def deflate (depth : Nat) (dyn : Bool) (input : List Byte) : List Byte :=
  let bits := encStreamBits dyn true (deflateBlocks depth input)
  packBits bits (bits.length / 8 + 1)

end Sys2Proof.Machine
end

