-- ==== Sys2Proof/Machine/Flt.lean ====
section
/-! DEFINITION. Machine/Flt.lean: faults and events (chapter 16): MSI-X messages (R88), accepting and routing raised events
(R315 to R318), the backlogs and event rings (R86, R87), the arbitration of SAFE causes (R323, R324), the watchdog, the
thermal and clock events (R325, R326). -/

namespace Sys2Proof.Machine

/-- Something sent to the host, after everything sent before. -/
def Dev.toHost (o : HostOut) (d : Dev) : Dev := d.modHdma fun h => { h with out := h.out ++ [o] }

/-! ### MSI-X (R88) -/

/-- Is a vector masked, by itself or by the function mask? -/
def Dev.msixMasked (d : Dev) (v : Nat) : Bool := d.hdma.msixFuncMask || d.flag (Reg.HDMA_MSIX_CTRL.mask v)

/-- The pending bit of a vector. -/
abbrev pbaFld (v : Nat) : Fld := ⟨Reg.HDMA_MSIX_PBA.addr (v / 32), v % 32, v % 32⟩

/-- A cause of a vector: discarded while MSI-X is not enabled and on a SHADOW (R339), kept as the pending bit while masked, else
sent. -/
def Dev.msixCause (v : Nat) (d : Dev) : Dev :=
  if !d.hdma.msixEnable || d.shadowServes then d
  else if d.msixMasked v then d.setFld (pbaFld v) 1
  else (d.toHost (.msix v)).count 0x0C 1

/-- Is ring `n` OFF (R75)? -/
def Dev.ringOff (d : Dev) (n : Nat) : Bool := d.fld (Reg.HDMA_RING_CFG.type_ n) == 0

/-- The ring's part of the state changed. -/
def Dev.modRing (n : Nat) (f : Ring → Ring) (d : Dev) : Dev :=
  d.modHdma fun h => { h with rings := Tab.upd h.rings Ring.idle n f }

/-- A ring raises its vector: nothing while OFF, while MSI-X is not enabled or on a SHADOW, where the cause is discarded; a cause within
the holdoff waits for its end, and a message starts one; a masked cause is the vector's pending bit (R88, R339). -/
def Dev.ringMsix (n : Nat) (d : Dev) : Dev :=
  let v := d.fld (Reg.HDMA_RING_CFG.vector n)
  if d.ringOff n || !d.hdma.msixEnable || d.shadowServes then d
  else if (Tab.get d.hdma.rings Ring.idle n).holdoff then d.modRing n fun r => { r with holdoffCause := true }
  else if d.msixMasked v then (d.msixCause v).modRing n fun r => { r with masked := true }
  else (d.msixCause v).modRing n fun r => { r with holdoff := d.fld (Reg.HDMA_RING_CTL.holdoff_us n) != 0 }

/-! ### Rings' indices -/

/-- Slots of ring `n` (R75, R76). -/
def Dev.ringSlots (d : Dev) (n : Nat) : Nat := 2 ^ d.fld (Reg.HDMA_RING_CFG.size_log2 n)
/-- Head, or producer index. -/
def Dev.ringHead (d : Dev) (n : Nat) : Nat := d.fld (Reg.HDMA_RING_PTR.head n)
/-- Tail, or consumer index. -/
def Dev.ringTail (d : Dev) (n : Nat) : Nat := d.fld (Reg.HDMA_RING_PTR.tail n)
/-- `a - b` modulo the ring's slots. -/
def Dev.ringDiff (d : Dev) (n a b : Nat) : Nat := (a + d.ringSlots n - b) % d.ringSlots n
/-- Host address of slot `i`. -/
def Dev.slotAddr (d : Dev) (n i : Nat) : Nat := d.pair (Reg.HDMA_RING_BASE_LO.addr n) + 32 * i
/-- Is ring `n` enabled? -/
def Dev.ringEnabled (d : Dev) (n : Nat) : Bool := d.flag (Reg.HDMA_RING_CTL.enable n)

/-! ### Event rings -/

/-- Event ring `j` is ring `56 + j` (Table 4-3). -/
abbrev evRing (j : Nat) : Nat := 56 + j

/-- How many records event ring `j` can still take: at most 2^k - 1 are unread at once (R86). -/
def Dev.evSpace (d : Dev) (j : Nat) : Nat :=
  let n := evRing j
  d.ringSlots n - 1 - d.ringDiff n (d.ringHead n) (d.ringTail n)

/-- Could a record be written to event ring `j` now: enabled and the link up (R87)? -/
def Dev.evOpen (d : Dev) (j : Nat) : Bool := d.ringEnabled (evRing j) && d.flag Reg.HDMA_PCI_STAT.link_up

/-- The next sequence number after `n`: modulo 2^32 with 0 skipped (R86). -/
def seqNext (n : Nat) : Nat := if (n + 1) % 2 ^ 32 = 0 then 1 else (n + 1) % 2 ^ 32

/-- The backlog of an event ring holds this many records (R87). -/
abbrev backlogRoom : Nat := 512

/-- R87: with the backlog full the oldest waiting record is discarded and HDMA_EVR_LOST increases; while the ring is
enabled the discard consumes a sequence number. -/
def Dev.backlogDiscard (j : Nat) (d : Dev) : Dev :=
  let q := Tab.get d.flt.rings EvRing.empty j
  if Nat.blt q.waiting.length backlogRoom then d
  else
    let en := d.ringEnabled (evRing j)
    let q' : EvRing := {
      waiting := q.waiting.drop 1
      lost := q.lost + 1
      firstLost := if en && q.firstLost == 0 then q.nextSeq else q.firstLost
      nextSeq := if en then seqNext q.nextSeq else q.nextSeq }
    (d.modFlt fun f => { f with rings := Tab.set f.rings EvRing.empty j q' }).addFld (Reg.HDMA_EVR_LOST.lost (evRing j)) 1

/-- Is EV_HDMA_LINK_RESET the next record that event ring `j` receives: event ring 0's first after the enable that follows a link reset
(R72)? Every link reset disables the ring. -/
def Dev.linkRecordOwed (d : Dev) (j : Nat) : Bool := j == 0 && d.hdma.linkResets != 0

/-- A record joins the records that wait for event ring `j`; it has waited in the backlog (flag BACKLOG, R312) when the
ring cannot take it at once. -/
def Dev.evEnqueue (j : Nat) (e : EvRec) (d : Dev) : Dev :=
  let d := d.backlogDiscard j
  let q := Tab.get d.flt.rings EvRing.empty j
  let ahead := q.waiting.length + (if q.lost = 0 then 0 else 1) + (if d.linkRecordOwed j then 1 else 0)
  let waits := !(d.evOpen j) || Nat.ble (d.evSpace j) ahead
  let q' := { q with waiting := q.waiting ++ [{ e with backlog := e.backlog || waits }] }
  d.modFlt fun f => { f with rings := Tab.set f.rings EvRing.empty j q' }

/-- SAFE causes, Table 2-3. -/
abbrev Cause.loadFail : Nat := 1
abbrev Cause.fillFail : Nat := 2
abbrev Cause.fatal : Nat := 3
abbrev Cause.minority : Nat := 4
abbrev Cause.thermal : Nat := 5
abbrev Cause.clockLoss : Nat := 6
abbrev Cause.host : Nat := 7

/-- A SAFE cause reaches the arbitration point: when one waits already the lower code stands (R38, R323); a cause that
arises in SAFE, or in RESET or SLEEP where the device cannot enter SAFE, changes nothing. -/
def Dev.safeCause (r : SafeReq) (d : Dev) : Dev :=
  if d.mode = Mode.safe ∨ d.mode = Mode.reset ∨ d.mode = Mode.sleep then d
  else d.modFlt fun f => { f with safeReq := match f.safeReq with
    | some q => if r.cause < q.cause then some r else some q
    | none => some r }

/-- The SAFE cause of an event, when it is one of those R324 lists. -/
def safeCauseOf (e : EvRec) : Option SafeReq :=
  let by_ := fun (c : Nat) => some (SafeReq.mk c e.code e.src e.sev e.arg0)
  if e.code = 0x0F04 then by_ Cause.thermal
  else if e.code = 0x0F05 then by_ Cause.clockLoss
  else if e.code = 0x1007 then by_ Cause.minority
  else if e.sev = 5 then by_ Cause.fatal
  else none

/-- The 32 bytes of an event record (Table 16-1) with its sequence number. -/
def EvRec.bytes (e : EvRec) (seq : Nat) : List Byte :=
  leBytes 8 e.time ++ leBytes 2 e.code ++
  [BitVec.ofNat 8 (e.sev + (if e.backlog then 16 else 0) + (if e.partner then 32 else 0) + (if e.retained then 64 else 0)),
   BitVec.ofNat 8 e.src] ++ leBytes 4 seq ++ leBytes 8 e.arg0 ++ leBytes 8 e.arg1

/-- An accepted event goes to the ring its chapter names, or to the ring FLT_ROUTE names, or is suppressed and counted so
(R317). -/
def Dev.eventRoute (e : EvRec) (d : Dev) : Dev :=
  match e.ring with
  | some j => d.evEnqueue j e
  | none =>
    let b := e.code / 256
    let route := (d.reg (Reg.FLT_ROUTE.addr b)).toNat / 2 ^ (4 * e.sev)
    if e.sev ≤ 2 ∧ route / 8 % 2 = 1 then d.addFld Reg.FLT_SUPPRESSED.count 1
    else d.evEnqueue (route % 8) e

/-- EVENT_ACCEPT (R317): the oldest raised event of a source is counted, may be a SAFE cause (then it is marked
RETAINED while the Fantail is powered, R327), and is routed. A SHADOW posts nothing: it sends what is WARN or above to the ACTIVE
(R342). -/
def Dev.eventAccept (src : Nat) (d : Dev) : Dev :=
  let q := Tab.get d.flt.queues EvQueue.empty src
  match q.waiting with
  | [] => d
  | e :: rest =>
    let d := d.modFlt fun f => { f with queues := Tab.set f.queues EvQueue.empty src { q with waiting := rest } }
    let d := d.countEvent e
    let d := match safeCauseOf e with
      | some c => d.safeCause c
      | none => d
    let causing := match safeCauseOf e with
      | some c => d.flt.safeReq == some c
      | none => false
    let e := { e with retained := causing && d.flag Reg.GLB_STATUS.aon_ok }
    if d.shadowServes then d.when (e.sev != 0) fun d => d.pairSend (.event 0 0 (e.bytes 0)) else d.eventRoute e

/-- An event record's 32 bytes written in a slot as two posted writes: bytes 0 to 11 and 16 to 31 first, then bytes 12 to 15 (R86). -/
def Dev.recordWrite (a : Nat) (bs : List Byte) (d : Dev) : Dev :=
  (d.toHost (.record a (bs.take 12) (bs.drop 16))).toHost (.write (a + 12) ((bs.drop 12).take 4))

/-- A record written at the producer index of event ring `j` with its next sequence number (R86); then the ring's vector (R88) and FLT's (R318). In a pair it is announced to the SHADOW before
(R342). -/
def Dev.evWrite (j : Nat) (e : EvRec) (d : Dev) : Dev :=
  let n := evRing j
  let q := Tab.get d.flt.rings EvRing.empty j
  let a := d.slotAddr n (d.ringHead n)
  let bs := e.bytes q.nextSeq
  let d := d.when d.pairServes fun d => d.pairSend (.event n (d.ringHead n) bs)
  let d := d.recordWrite a bs
  let d := d.setFld (Reg.HDMA_RING_PTR.head n) ((d.ringHead n + 1) % d.ringSlots n)
  let d := d.setFld (Reg.HDMA_RING_SEQ.seq n) q.nextSeq
  let d := d.modFlt fun f => { f with rings := Tab.upd f.rings EvRing.empty j fun q => { q with nextSeq := seqNext q.nextSeq } }
  let d := (d.ringMsix n).count 0x0B 1
  d.when (d.flag Reg.FLT_CFG.irq_en && Nat.ble (d.fld Reg.FLT_CFG.irq_min) e.sev) fun d =>
    d.msixCause (d.fld Reg.FLT_CFG.irq_vector)

/-- EVENT_RECORD_WRITE (R72, R86, R87): when event ring `j` is enabled, has space and the link is up, the record of the link resets that
event ring 0 receives first, else the record of earlier losses, else the oldest waiting record, is written. -/
def Dev.eventRecordWrite (j : Nat) (d : Dev) : Dev :=
  let q := Tab.get d.flt.rings EvRing.empty j
  if !(d.evOpen j) || d.evSpace j == 0 || d.shadowServes then d
  else if d.linkRecordOwed j then
    let e : EvRec := ⟨d.tb2ns, 0x18, Sev.warn, 0x0306, d.hdma.linkResets, 0, some 0, false, false, false⟩
    ((d.countEvent e).modHdma fun h => { h with linkResets := 0 }).evWrite j e
  else if q.lost ≠ 0 then
    let d := d.modFlt fun f => { f with rings := Tab.set f.rings EvRing.empty j { q with lost := 0, firstLost := 0 } }
    let e : EvRec := ⟨d.tb2ns, 0x18, Sev.warn, 0x0305, q.lost, q.firstLost, some j, false, false, false⟩
    (d.countEvent e).evWrite j e
  else
    match q.waiting with
    | [] => d
    | e :: rest =>
      (d.modFlt fun f => { f with rings := Tab.set f.rings EvRing.empty j { q with waiting := rest } }).evWrite j e

/-- Every record waiting for event ring `j` has waited in its backlog. -/
def Dev.backlogMark (j : Nat) (d : Dev) : Dev :=
  d.modFlt fun f => { f with rings := Tab.upd f.rings EvRing.empty j fun q =>
    { q with waiting := q.waiting.map (fun e => { e with backlog := true }) } }

/-- Every source's count of dropped events back to 0. -/
def clearDropped (t : Tab EvQueue) : Tab EvQueue :=
  t.foldl (fun u e => Tab.upd u EvQueue.empty e.1 fun q => { q with dropped := 0 }) t

/-- FLT_DROPPED_POST (R315): once every source queue that dropped has room, and FLT's own, EV_FLT_DROPPED tells how many and whose first. -/
def Dev.fltDroppedPost (d : Dev) : Dev :=
  if d.flt.droppedTotal = 0 then d
  else if Nat.ble evQueueRoom (Tab.get d.flt.queues EvQueue.empty 0x78).waiting.length ||
      d.flt.queues.any (fun e => e.2.dropped != 0 && Nat.ble evQueueRoom e.2.waiting.length) then d
  else
    (d.modFlt fun f => { f with droppedTotal := 0, queues := clearDropped f.queues }).raise
      0x0F01 Sev.warn d.flt.droppedTotal d.flt.droppedSrc

/-- WATCHDOG_PROBE (R326): a block that has not answered the probe within wd_ms raises EV_FLT_STALL. -/
def Dev.watchdogProbe (silent : List Nat) (d : Dev) : Dev :=
  silent.foldl (fun d b => d.raise 0x0F02 Sev.fatal b 0) d

/-- JUNCTION_TEMP (R325, Table 2-11): the junction in units of 0.25 °C. The warning is posted at 105 °C, again only after
a fall below 103 °C; EV_FLT_THERMAL at 110 °C. -/
def Dev.junctionTemp (quarters : Nat) (d : Dev) : Dev :=
  let d := d.setFlag Reg.GLB_STATUS.thermal_warn (Nat.ble 420 quarters)
  let d := d.when (Nat.ble 420 quarters && d.flt.warnArmed) fun d =>
    (d.modFlt fun f => { f with warnArmed := false }).raise 0x0F03 Sev.warn quarters 0
  let d := d.when (Nat.blt quarters 412) fun d => d.modFlt fun f => { f with warnArmed := true }
  d.when (Nat.ble 440 quarters) fun d => d.raise 0x0F04 Sev.fault quarters 0

/-- CLOCK_LOSS (R325): the lost clocks (bit 0 REFCLK25, bit 1 156.25 MHz, bit 2 a PLL) clear their status bits; `island`
names the island of an unlocked PLL. -/
def Dev.clockLoss (bits island : Nat) (d : Dev) : Dev :=
  let d := d.when (bits.testBit 0) fun d => d.setFlag Reg.GLB_STATUS.refclk_ok false
  let d := d.when (bits.testBit 1 || (bits.testBit 2 && island == 4)) fun d => d.setFlag Reg.GLB_STATUS.pll_serdes false
  let d := d.when (bits.testBit 2 && island == 6) fun d => d.setFlag Reg.GLB_STATUS.pll_time false
  d.raise 0x0F05 Sev.fault (bits % 8) (if bits.testBit 2 then island else 0)

/-- One blank port line of a cause of Table 1-13 counted once: FLT_BLANK_c and FLT_BLANK_TOTAL (R321). -/
def Dev.countBlank (cause : Nat) (d : Dev) : Dev :=
  (d.addFld (Reg.FLT_BLANK.count cause) 1).addPair Reg.FLT_BLANK_TOTAL_LO.addr 1

end Sys2Proof.Machine
end

