-- ==== Sys2Proof/Machine/Hdma.lean ====
section
/-! DEFINITION. Machine/Hdma.lean: the host interface (chapter 4): registers over BAR0 (R8 to R10, R47, R70), the BAR2 window
(R73, R74), rings and doorbells (R75 to R77, R86), copy descriptors and the byte funnel (R79 to R84), aborts (R89,
R90), and the PCIe link (R68, R71, R72). -/

namespace Sys2Proof.Machine

/-! ### BAR0 -/

/-- Is BAR0 reachable: not in RESET and not in SLEEP (R34)? -/
def Dev.bar0 (d : Dev) : Bool := d.mode != Mode.reset && d.mode != Mode.sleep

/-- Does the block of BAR0 offset `a` respond in the present mode: in LOAD and FILL only GLB and CFG (R47)? -/
def Dev.responds (d : Dev) (a : Nat) : Bool :=
  d.bar0 && (if d.mode = Mode.load ∨ d.mode = Mode.fill then a / 0x100000 == 1 || a / 0x100000 == 2 else true)

/-- The bits of `w` under `mask` taken from `v`. -/
def maskInto (mask w v : Nat) : Word := BitVec.ofNat 32 (Nat.lor (Nat.land w (Nat.xor mask 0xFFFFFFFF)) (Nat.land v mask))

/-- A host write of an assigned register without side effects: the RW bits take the written value; IM, RO and reserved
bits keep theirs (R8, R10). -/
def Dev.plainWrite (a : Nat) (v : Word) (d : Dev) : Dev :=
  match regRow a with
  | some r => d.setReg a (maskInto r.rw (d.reg a).toNat v.toNat)
  | none => d

/-- The MSI-X vector control words, HDMA_MSIX_CTRL_v. -/
def inMsixCtrl (a : Nat) : Bool := Nat.ble 0x30800C a && Nat.blt a 0x308800 && a % 16 == 12

/-- The pending vectors that are no longer masked send their messages, none while MSI-X Enable is 0; a ring whose cause it was starts its
holdoff (R88). -/
def Dev.msixFlush (d : Dev) : Dev :=
  (List.range 128).foldl (fun d v =>
    if d.hdma.msixEnable && d.flag (pbaFld v) && !(d.msixMasked v) then
      let d := ((d.setFld (pbaFld v) 0).toHost (.msix v)).count 0x0C 1
      let named := fun n => d.fld (Reg.HDMA_RING_CFG.vector n) == v && !(d.ringOff n) && (Tab.get d.hdma.rings Ring.idle n).masked
      ((List.range 64).filter named).foldl (fun d n => d.modRing n fun r =>
        { r with masked := false, holdoff := r.holdoff || d.fld (Reg.HDMA_RING_CTL.holdoff_us n) != 0 }) d
    else d) d

/-- The CFG block's buffer window, offsets 0x1_0000 to 0x1_FFFF (CFG_FLASH_BUF). -/
def inFlashBuf (a : Nat) : Bool := Nat.ble 0x210000 a && Nat.blt a 0x220000

/-- Bytes stored in the flash buffer from offset `o` on. -/
def bufWrite (t : Tab Byte) (o : Nat) : List Byte → Tab Byte
  | [] => t
  | b :: bs => bufWrite (Tab.set t 0#8 o b) (o + 1) bs

/-- REGISTER_WRITE (R8): an aligned 32-bit write of a register with no row of its own. The two halves of a pair, the
doorbells and the write-1-to-clear bits have rows of their own; in HDMA_RING_CTL the enable bit has. The flash buffer
takes the bytes unless a flash command is busy. A write that clears an MSI-X mask sends what was pending (R88). -/
def Dev.registerWrite (a : Nat) (v : Word) (d : Dev) : Dev :=
  if !(d.responds a) || a % 4 != 0 then d
  else if inFlashBuf a then
    if d.flag Reg.CFG_FLASH_STAT.busy then d
    else d.modCfg fun c => { c with buf := bufWrite c.buf (a - 0x210000) (leBytes 4 v.toNat) }
  else match regRow a with
    | some r =>
      if r.half ≠ 0 then d
      else if Nat.ble 0x30100C a && (a - 0x30100C) % 0x40 == 0 && Nat.blt ((a - 0x30100C) / 0x40) 64 then
        d.setReg a (maskInto 0xFF00 (d.reg a).toNat v.toNat)
      else (d.plainWrite a v).when (inMsixCtrl a) Dev.msixFlush
    | none => d

/-- LO_WRITE_STAGE (R9): a write of a writable pair's low half goes to its staging register only. -/
def Dev.loWriteStage (a : Nat) (v : Word) (d : Dev) : Dev :=
  match regRow a with
  | some r =>
    if r.half = 1 ∧ d.responds a ∧ r.rw ≠ 0 then
      { d with staging := Tab.put d.staging a (maskInto r.rw (d.reg a).toNat v.toNat) }
    else d
  | none => d

/-- HI_WRITE_COMMIT (R9): a write of the high half commits it together with the staged low half; the staging register then
holds the committed low half. -/
def Dev.hiWriteCommit (a : Nat) (v : Word) (d : Dev) : Dev :=
  match regRow a with
  | some r =>
    if r.half = 2 ∧ d.responds a ∧ r.rw ≠ 0 then
      let lo := a - 4
      let d' := (d.setReg lo ((Tab.find d.staging lo).getD (d.reg lo))).setReg a (maskInto r.rw (d.reg a).toNat v.toNat)
      { d' with staging := Tab.del d.staging lo }
    else d
  | none => d

/-- RC_READ (R10): the value is returned and the read-clear bits take their cleared value, which is their reset value
(GLB_SLACK_MIN reads 0xFFFF again). -/
def Dev.rcRead (a : Nat) (d : Dev) : Dev :=
  match regRow a with
  | some r =>
    if r.rc ≠ 0 ∧ d.responds a then
      (d.toHost (.completion (leBytes 4 (d.reg a).toNat))).setReg a (maskInto r.rc (d.reg a).toNat (regReset a).toNat)
    else d
  | none => d

/-- W1C_WRITE (R10): each write-1-to-clear bit written as 1 is cleared. -/
def Dev.w1cWrite (a : Nat) (v : Word) (d : Dev) : Dev :=
  match regRow a with
  | some r =>
    if r.w1c ≠ 0 ∧ d.responds a then d.setReg a (maskInto (Nat.land r.w1c v.toNat) (d.reg a).toNat 0) else d
  | none => d

/-- Is a bad ECRC seen: the function checks it (R71)? -/
def Dev.badEcrc (d : Dev) : Bool := d.flag Reg.HDMA_PCI_STAT.ecrc_chk

/-- BAR0_BAD_REQUEST (R70): a read completes with Unsupported Request, a write is discarded and logged in AER; either posts
EV_HDMA_HOST_ERR with arg0 = 1. `ecrc`: a posted write whose ECRC is bad, discarded and logged in AER by a function that checks it
(R71). -/
def Dev.bar0BadRequest (bad : BadRequest) (a : Nat) (d : Dev) : Dev :=
  if !d.bar0 then d
  else match bad with
    | .ecrc => d.when d.badEcrc fun d => d.toHost .aerError
    | .write => (d.toHost .aerUnsupported).raise 0x0302 Sev.warn 1 a
    | .read => (d.toHost .unsupportedRequest).raise 0x0302 Sev.warn 1 a

/-! ### BAR2 (R73, R74) -/

/-- The device address of BAR2 offset `o`. -/
def Dev.winAddr (d : Dev) (o : Nat) : Nat := d.fld Reg.HDMA_WIN_BASE.win_base * 2 ^ 32 + o

/-- A BAR2 outcome reported: the bit of HDMA_WIN_STAT and EV_HDMA_WIN_ERR. -/
def Dev.winErr (bit : Nat) (write : Bool) (a : Nat) (d : Dev) : Dev :=
  let f : Fld := ⟨Reg.HDMA_WIN_STAT.addr, bit, bit⟩
  (d.setFld f 1).raise 0x0308 Sev.warn ((if write then 256 else 0) + bit) a

/-- Is a margin image loaded (R283)? -/
def Dev.marginImage (d : Dev) : Bool := d.flag Reg.MEM_CFG.margin_en

/-- Does a line overlap the page-cache area PCACHE_BASE to PCACHE_BASE + PCACHE_LEN - 1 (R299)? -/
def Dev.pcacheLine (d : Dev) (line : Nat) : Bool :=
  Nat.ble d.seq.pcacheBase (64 * line) && Nat.blt (64 * line) (d.seq.pcacheBase + d.seq.pcacheLen)

/-- Does a line belong to an uncommitted page-cache generation, so that copy rings and BAR2 may not read it (R299)? -/
def Dev.notReady (d : Dev) (line : Nat) : Bool :=
  d.pcacheLine line &&
  (!(d.flag Reg.RUN_PCACHE_STAT.committed) || (d.lineMeta line).gen != d.fld Reg.RUN_PCACHE_STAT.generation)

/-- The lines of a BAR2 read of `n` bytes at `a` are read, as they are stored (R74): an uncommitted page-cache line or a poisoned line
aborts it, a line whose refetch is in force holds it (R302), else the data goes to the host. -/
def Dev.bar2Serve (a n : Nat) (d : Dev) : Dev :=
  let d := d.countRead a n
  if (linesOf a n).any d.notReady then (d.toHost .completerAbort).winErr 1 false a
  else match (linesOf a n).find? (fun l => (d.lineMeta l).poison) with
    | some l => ((d.foundPoison l 0x1C).toHost .completerAbort).winErr 0 false a
    | none =>
      match (linesOf a n).find? (fun l => d.mig.refetches.any (fun r => r.line == l)) with
      | some l => d.modMig fun g => { g with refetches := g.refetches.map fun q =>
          if q.line = l then { q with waiting := q.waiting ++ [(.bar2 a n, 0)] } else q }
      | none => d.toHost (.completion (d.mem.readBytes a n))

/-- Does a BAR2 read wait for a refetch? -/
def Dev.bar2Waits (d : Dev) : Bool := d.mig.refetches.any fun q => q.waiting.any fun w => match w.1 with | .bar2 _ _ => true | _ => false

/-- BAR2_READ (R73, R74): `n` bytes at window offset `o`. A line that fails its check is MEM_READ_COMPLETE's event. Reads behind one that
awaits a refetch are held (R33, Table 1-15). -/
def Dev.bar2Read (o n : Nat) (d : Dev) : Dev :=
  let a := d.winAddr o
  if !d.bar0 then d
  else if d.mode = Mode.load ∨ d.mode = Mode.fill ∨ d.marginImage then d.toHost .unsupportedRequest
  else if !(d.inFitted a n) then (d.toHost .unsupportedRequest).winErr 2 false a
  else if d.bar2Waits || !d.hdma.bar2Held.isEmpty then d.modHdma fun h => { h with bar2Held := h.bar2Held ++ [(a, n)] }
  else d.bar2Serve a n

/-- The BAR2 reads held behind one whose wait is over are served in order, up to one that waits itself. -/
def Dev.bar2Resume : Nat → Dev → Dev
  | 0, d => d
  | fuel + 1, d =>
    match d.hdma.bar2Held with
    | [] => d
    | q :: rest =>
      if d.bar2Waits then d
      else ((d.modHdma fun h => { h with bar2Held := rest }).bar2Serve q.1 q.2).bar2Resume fuel

/-- BAR2_WRITE (R73, R74, R82): bytes at window offset `o` by the host's own source 0x1C, or 0x82 for a write that the partner relays
(R339); a merge onto a line that fails is discarded (Table 15-4). -/
def Dev.bar2Write (src o : Nat) (bs : List Byte) (d : Dev) : Dev :=
  let a := d.winAddr o
  if !d.bar0 ∨ d.mode = Mode.load ∨ d.mode = Mode.fill ∨ d.marginImage then d
  else if !(d.inFitted a bs.length) then d.winErr 2 true a
  else d.memWrite src a bs

/-! ### Rings and doorbells -/

/-- Ring states of HDMA_RING_STAT. -/
abbrev RingState.disabled : Nat := 0
abbrev RingState.idle : Nat := 1
abbrev RingState.running : Nat := 2
abbrev RingState.held : Nat := 3
abbrev RingState.stopped : Nat := 4

/-- The state of a ring. -/
def Dev.ringState (d : Dev) (n : Nat) : Nat := d.fld (Reg.HDMA_RING_STAT.state n)

/-- A ring with nothing in progress; the MSI-X holdoff that runs and the cause it keeps stay (R88). -/
def Ring.cleared (r : Ring) : Ring := { Ring.idle with holdoff := r.holdoff, holdoffCause := r.holdoffCause, masked := r.masked }

/-- A running ring with a posted slot and no descriptor in progress asks the host for the slot at its head (R78). -/
def Dev.ringKick (n : Nat) (d : Dev) : Dev :=
  let r := Tab.get d.hdma.rings Ring.idle n
  if d.ringEnabled n && d.ringState n != RingState.stopped && d.ringHead n != d.ringTail n && r.copy.isNone && r.job.isNone then
    (d.setFld (Reg.HDMA_RING_STAT.state n) RingState.running).toHost (.readReq (d.slotAddr n (d.ringHead n)) 32)
  else d

/-- RING_ENABLE (R76): enable written 1. From 0 it enables the ring, unless it is OFF or a margin image is loaded (R75,
R283), and sets both indices to 0; an event ring's numbering restarts at 1 (R86). -/
def Dev.ringEnable (n : Nat) (v : Word) (d : Dev) : Dev :=
  if !(d.responds (Reg.HDMA_RING_CTL.addr n)) || Nat.ble 64 n then d
  else
    let d := d.setFld (Reg.HDMA_RING_CTL.holdoff_us n) (v.toNat / 256)
    if d.ringEnabled n || d.ringOff n || (d.marginImage && Nat.blt n 56) then d
    else
      let d := d.setFld (Reg.HDMA_RING_CTL.enable n) 1
      let d := (d.setFld (Reg.HDMA_RING_PTR.head n) 0).setFld (Reg.HDMA_RING_PTR.tail n) 0
      let d := d.setFld (Reg.HDMA_RING_STAT.state n) RingState.idle
      let d := d.setFld (Reg.HDMA_RING_SEQ.seq n) 0
      if Nat.blt n 56 then d
      else d.modFlt fun f => { f with rings := Tab.upd f.rings EvRing.empty (n - 56) fun q => { q with nextSeq := 1 } }

/-- RING_DISABLE (R76): enable written 0, accepted when the ring is idle, stopped or an event ring, else ignored with
disable_refused. -/
def Dev.ringDisable (n : Nat) (v : Word) (d : Dev) : Dev :=
  if !(d.responds (Reg.HDMA_RING_CTL.addr n)) || Nat.ble 64 n then d
  else
    let d := d.setFld (Reg.HDMA_RING_CTL.holdoff_us n) (v.toNat / 256)
    if !(d.ringEnabled n) then d
    else if Nat.ble 56 n || d.ringState n == RingState.idle || d.ringState n == RingState.stopped then
      let d := (d.setFld (Reg.HDMA_RING_CTL.enable n) 0).setFld (Reg.HDMA_RING_STAT.state n) RingState.disabled
      let d := d.modRing n Ring.cleared
      d.when (Nat.ble 56 n) fun d => d.backlogMark (n - 56)
    else d.setFld (Reg.HDMA_RING_STAT.disable_refused n) 1

/-- RING_DOORBELL (R77): a new tail of a copy or job ring. A host doorbell also cancels a keep-wet return (R41). -/
def Dev.ringDoorbell (n idx : Nat) (d : Dev) : Dev :=
  if !(d.responds (Reg.HDMA_RING_DB.addr n)) || Nat.ble 56 n then d
  else
    let d := d.modGlb fun g => { g with keepwetCancelled := true }
    let k := d.ringSlots n
    if !(d.ringEnabled n) then d
    else if idx = d.ringTail n then d
    else if Nat.ble k idx || Nat.blt (k - 1 - d.ringDiff n (d.ringTail n) (d.ringHead n)) (d.ringDiff n idx (d.ringTail n)) then
      d.setFld (Reg.HDMA_RING_STAT.db_overrun n) 1
    else (d.setFld (Reg.HDMA_RING_PTR.tail n) idx).ringKick n

/-- EVENT_RING_CONSUME (R86): a consumer index of an event ring. A host doorbell also cancels a keep-wet return (R41). -/
def Dev.eventRingConsume (n idx : Nat) (d : Dev) : Dev :=
  if !(d.responds (Reg.HDMA_RING_DB.addr n)) || Nat.blt n 56 || Nat.ble 64 n then d
  else
    let d := d.modGlb fun g => { g with keepwetCancelled := true }
    if !(d.ringEnabled n) then d
    else
      let old := d.ringTail n
      if Nat.ble (d.ringSlots n) idx || Nat.blt (d.ringDiff n (d.ringHead n) old) (d.ringDiff n idx old) then
        d.setFld (Reg.HDMA_RING_STAT.db_overrun n) 1
      else d.setFld (Reg.HDMA_RING_PTR.tail n) idx

/-! ### Descriptors and the funnel -/

/-- The funnel unit's source ID of a copy ring (Table 4-3). -/
def funnelSrc (n : Nat) : Nat := 0x18 + n % 4

/-- The first 24 bytes of the descriptor in progress on ring `n`, as they were read, and the D2H data held back for it. -/
def Ring.origin (r : Ring) : List Byte × List (Nat × List Byte) :=
  match r.copy with
  | some c => (c.raw, c.kept)
  | none => match r.job with | some j => (j.raw, []) | none => ([], [])

/-- The bytes of a completion written in its slot, byte 31 with own 0 last (R79). -/
def Dev.completionWrite (c : Completion) (d : Dev) : Dev :=
  let a := d.slotAddr c.ring c.index
  (d.toHost (.write (a + c.offset) c.bytes)).toHost (.write (a + 31) [0#8])

/-- What follows a completion: the head moves on, HDMA_RING_SEQ counts, the event and the interrupt come when the flags ask. -/
def Dev.completionFollow (c : Completion) (d : Dev) : Dev :=
  let n := c.ring
  let d := d.setFld (Reg.HDMA_RING_PTR.head n) ((c.index + 1) % d.ringSlots n)
  let d := (d.addFld (Reg.HDMA_RING_SEQ.seq n) 1).count 0x08 1
  let d := d.setFld (Reg.HDMA_RING_STAT.state n) RingState.idle
  let d := d.modRing n fun r => { r with copy := none, job := none, fetchAgain := false }
  let d := d.when (c.flags.testBit 2) fun d =>
    d.raiseTo (some (d.fld (Reg.HDMA_RING_CFG.evr n))) 0x0304 Sev.info 0x18 (n * 2 ^ 24 + c.status * 2 ^ 16 + c.index) c.arg1
  let d := d.when (c.flags.testBit 1) fun d => d.ringMsix n
  d.ringKick n

/-- The result a DONE carries: a copy's result, or a job's last_cmd (R340). -/
def Completion.result (c : Completion) : Nat := ofLe (c.bytes.take (if c.ring < 48 then 4 else 8))

/-- The DONE of a completion (R340). -/
def Completion.done (c : Completion) : PairMsg := .done c.ring c.index c.status c.result

/-- Is a completion of the ring held until the SHADOW's DONE (R340)? -/
def Dev.completionHeld (d : Dev) (n : Nat) : Bool := d.duo.held.any (fun c => c.ring == n)

/-- A completion written by the ACTIVE, or by a device alone. -/
def Dev.completionPost (c : Completion) (d : Dev) : Dev := (d.completionWrite c).completionFollow c

/-- The completion of the slot at the head of ring `n`: `bytes` from offset `off` on (R79). In a pair (R339, R340) the SHADOW writes
nothing and tells the ACTIVE; the ACTIVE writes once the SHADOW's DONE has come, and sends its own DONE first. -/
def Dev.ringComplete (n idx off : Nat) (bytes : List Byte) (flags status arg1 : Nat) (d : Dev) : Dev :=
  let o := (Tab.get d.hdma.rings Ring.idle n).origin
  let c : Completion := ⟨n, idx, off, bytes, flags, status, arg1, o.1, o.2⟩
  if d.shadowServes then
    ((d.pairSend c.done).modPair fun p => { p with finished := p.finished ++ [c] }).completionFollow c
  else if d.pairServes then
    if d.duo.dones.any (fun x => x.1 == n && x.2.1 == idx) then
      ((d.modPair fun p => { p with dones := p.dones.filter (fun x => !(x.1 == n && x.2.1 == idx)) }).pairSend c.done).completionPost c
    else if d.completionHeld n then d
    else d.modPair fun p => { p with held := p.held ++ [c] }
  else d.completionPost c

/-- Completion status, Table 4-6. -/
abbrev Stat.ok : Nat := 1
abbrev Stat.aborted : Nat := 2
abbrev Stat.notReady : Nat := 3
abbrev Stat.memErr : Nat := 4
abbrev Stat.hostErr : Nat := 5
abbrev Stat.range : Nat := 6
abbrev Stat.jobErr : Nat := 7
abbrev Stat.descErr : Nat := 8

/-- The descriptor is host to device (flags bit 0 = 0). -/
def CopyJob.toDevice (c : CopyJob) : Bool := !(c.flags.testBit 0)

/-- The read requests that cover `n` bytes at host address `a`, none across a 4 KiB boundary or longer than `mrrs`. -/
def splitReads (mrrs a : Nat) : Nat → Nat → List (Nat × Nat)
  | 0, _ => []
  | fuel + 1, n =>
    if n = 0 then []
    else
      let len := min n (min mrrs (4096 - a % 4096))
      (a, len) :: splitReads mrrs (a + len) fuel (n - len)

/-- The maximum read request size in bytes. -/
def Dev.mrrs (d : Dev) : Nat := 128 * 2 ^ d.fld Reg.HDMA_PCI_STAT.mrrs

/-- The little-endian number in bytes `i` to `i + n - 1` of a list. -/
def leAt (bs : List Byte) (i n : Nat) : Nat := ofLe ((bs.drop i).take n)

/-- A copy descriptor read from its 32 bytes (Table 4-4). -/
def copyOf (idx : Nat) (bs : List Byte) : CopyJob :=
  { index := idx, hostAddr := leAt bs 0 8, devAddr := leAt bs 8 5, length := leAt bs 16 4, tag := leAt bs 22 2,
    flags := leAt bs 20 1, moved := 0, crc := 0xFFFFFFFF, buf := [], staged := [], failAt := none, reissued := [],
    status := none, raw := bs.take 24, kept := [] }

/-- A reserved field of a copy descriptor is non-zero, or a flag undefined (Table 4-6, DESC_ERR). -/
def copyReservedBad (bs : List Byte) : Bool :=
  leAt bs 13 3 != 0 || leAt bs 21 1 != 0 || leAt bs 20 1 / 16 != 0 || leAt bs 29 2 != 0 || leAt bs 31 1 % 128 != 0

/-- A job descriptor read from its 32 bytes (Table 4-5). -/
def jobOf (idx : Nat) (bs : List Byte) : JobDesc :=
  { index := idx, head := leAt bs 0 5, jobId := leAt bs 8 4, flags := leAt bs 12 1, taken := false, raw := bs.take 24
    reservedBad := leAt bs 0 2 % 4096 != 0 || leAt bs 5 3 != 0 || leAt bs 13 3 != 0 || leAt bs 21 3 != 0 ||
      (leAt bs 12 1 != 0 && leAt bs 12 1 != 2 && leAt bs 12 1 != 4 && leAt bs 12 1 != 6) ||
      leAt bs 29 2 != 0 || leAt bs 31 1 % 128 != 0 }

/-- Is the slot at the head of ring `n` in the scope of an abort that resolves (R89)? -/
def Dev.headInScope (d : Dev) (n : Nat) : Bool :=
  match d.hdma.abort with
  | some a => a.ring == n && a.slots.contains (d.ringHead n)
  | none => false

/-- The fetch of slot `idx` of ring `n` has failed (R79): the ring stops with host_err, and is reported. -/
def Dev.fetchFailed (n idx : Nat) (d : Dev) : Dev :=
  let d := (d.setFld (Reg.HDMA_RING_STAT.state n) RingState.stopped).setFld (Reg.HDMA_RING_STAT.host_err n) 1
  let d := d.modRing n fun r => { r with fetchAgain := false }
  (d.raise 0x0302 Sev.warn 2 (n * 2 ^ 16 + idx)).raiseHalf none 0x0301 Sev.warn 0x18 (n * 2 ^ 16 + idx)

/-- DESCRIPTOR_FETCH (R71, R79): the 32 bytes of the slot at the head of ring `n` arrive, or the fetch fails: with an ECRC error
it is reissued once, else, or with UR, CA or a timeout, it ends in HOST_ERR. That, or own = 0, stops the ring without a completion. A good copy descriptor starts: DESC_ERR and RANGE (Table 4-6) and a length of 0 are decided at once, else its host
reads are issued, unless an abort has it in scope; a job descriptor waits for its context. -/
def Dev.descriptorFetch (n : Nat) (slot : Fetched) (d : Dev) : Dev :=
  let r := Tab.get d.hdma.rings Ring.idle n
  let idx := d.ringHead n
  if Nat.ble 56 n || !(d.ringEnabled n) || d.ringState n == RingState.stopped || idx == d.ringTail n || r.copy.isSome || r.job.isSome
  then d
  else match slot with
    | .badEcrc =>
      let d := d.toHost .aerError
      if !r.fetchAgain then (d.toHost (.readReq (d.slotAddr n idx) 32)).modRing n fun r => { r with fetchAgain := true }
      else d.fetchFailed n idx
    | .failed => (d.toHost .aerError).fetchFailed n idx
    | .slot bs =>
      if leAt bs 31 1 / 128 = 0 then
        let d := (d.setFld (Reg.HDMA_RING_STAT.state n) RingState.stopped).setFld (Reg.HDMA_RING_STAT.desc_err n) 1
        d.raiseHalf none 0x0301 Sev.warn 0x18 (n * 2 ^ 16 + idx)
      else if Nat.blt n 48 then
        let c := copyOf idx bs
        let status :=
          if copyReservedBad bs then some Stat.descErr
          else if c.length = 0 then some Stat.ok
          else if !(d.inFitted c.devAddr c.length) then some Stat.range
          else none
        let d := d.modRing n fun r => { r with copy := some { c with status := status }, fetchAgain := false }
        if status.isNone && c.toDevice && !(d.headInScope n) then
          (splitReads d.mrrs c.hostAddr (c.length + 1) c.length).foldl (fun d q => d.toHost (.readReq q.1 q.2)) d
        else d
      else d.modRing n fun r => { r with job := some (jobOf idx bs), fetchAgain := false }

/-- The staged pieces that follow the bytes in `buf` in order are joined to it. -/
def CopyJob.absorb (c : CopyJob) : Nat → CopyJob
  | 0 => c
  | fuel + 1 =>
    match Tab.find c.staged (c.moved + c.buf.length) with
    | some bs => ({ c with buf := c.buf ++ bs, staged := Tab.del c.staged (c.moved + c.buf.length) } : CopyJob).absorb fuel
    | none => c

/-- The bytes of `buf` written to the lines of the destination as far as whole lines of the range are there, or all of
them when `flush`: the head and the tail of the range are merged (R81). A merge onto a poisoned line ends the descriptor with MEM_ERR and
leaves it unwritten; nothing is written while the ring waits for a refetch (R83), and a merge onto a line whose refetch is in force
waits for it too (R302). -/
def Dev.copyDrain (n : Nat) (flush : Bool) : Nat → CopyJob → Dev → CopyJob × Dev
  | 0, c, d => (c, d)
  | fuel + 1, c, d =>
    let a := c.devAddr + c.moved
    let room := min (64 - a % 64) (c.length - c.moved)
    if c.buf.isEmpty || c.status.isSome || (Nat.blt c.buf.length room && !flush) || d.waitsRefetch (.copy n) then (c, d)
    else
      let part := c.buf.take room
      if Nat.blt part.length 64 && (d.lineMeta (a / 64)).poison then
        ({ c with status := some Stat.memErr }, d.foundPoison (a / 64) (funnelSrc n))
      else if Nat.blt part.length 64 && d.lineBad (a / 64) then
        (c, (d.modMig fun g => { g with refetches := g.refetches.map fun q =>
          if q.line = a / 64 then { q with waiting := q.waiting ++ [(.copy n, 0)] } else q }).setFld
            (Reg.HDMA_RING_STAT.state n) RingState.held)
      else
        (d.memWrite (funnelSrc n) a part).count 0x09 ((c.moved + part.length) / 64 - c.moved / 64) |> Dev.copyDrain n flush fuel
          { c with buf := c.buf.drop room, moved := c.moved + part.length, crc := crc32cRun c.crc part }

/-- The descriptor in progress of ring `n` replaced. -/
def Dev.setCopy (n : Nat) (c : CopyJob) (d : Dev) : Dev := d.modRing n fun r => { r with copy := some c }

/-- HOST_READ_COMPLETION (R71, R81): the answer to the read request for the bytes from descriptor offset `off` on: data,
an ECRC error (`error` false, no data: reissued once), or UR, CA or a timeout (`error` true). Data is written in order;
at a HOST_ERR exactly the bytes before the first failing request are. -/
def Dev.hostReadCompletion (n off : Nat) (data : Option (List Byte)) (error : Bool) (d : Dev) : Dev :=
  match (Tab.get d.hdma.rings Ring.idle n).copy with
  | none => d
  | some c =>
    if !c.toDevice || c.status.isSome || Nat.blt off (c.moved + c.buf.length) || Nat.ble c.length off then d
    else
      let fails := fun (c : CopyJob) (d : Dev) =>
        let c := { c with failAt := some (match c.failAt with | some f => min f off | none => off) }
        (d.toHost .aerError).raise 0x0302 Sev.warn 2 (n * 2 ^ 16 + c.index) |>.setCopy n c
      match data with
      | some bs =>
        let c := { c with staged := Tab.put c.staged off (bs.take (c.length - off)) }
        let c := c.absorb (c.staged.length + 1)
        let r := d.copyDrain n false (c.buf.length + 1) c
        r.2.setCopy n r.1
      | none =>
        if error || c.reissued.contains off then fails c d
        else
          let len := ((splitReads d.mrrs c.hostAddr (c.length + 1) c.length).find? (fun q => q.1 == c.hostAddr + off)).map (·.2)
          ((d.toHost .aerError).toHost (.readReq (c.hostAddr + off) (len.getD 0))).setCopy n { c with reissued := off :: c.reissued }

/-- The H2D descriptor in progress of ring `n` goes on after a wait: what has arrived in order is written. -/
def Dev.copyAdvance (n : Nat) (d : Dev) : Dev :=
  match (Tab.get d.hdma.rings Ring.idle n).copy with
  | none => d
  | some c =>
    if !c.toDevice then d
    else
      let r := d.copyDrain n false (c.buf.length + 1) c
      r.2.setCopy n r.1

/-- Millpond loses the staged data of ring `n` (Table 15-8): H2D data that is not yet written is read again from the host, D2H data again
from device memory. -/
def Dev.copyRestage (n : Nat) (d : Dev) : Dev :=
  match (Tab.get d.hdma.rings Ring.idle n).copy with
  | none => d
  | some c =>
    if !c.toDevice then d.countRead (c.devAddr + c.moved) (min 1 (c.length - c.moved))
    else
      let lost := (if c.buf.isEmpty then [] else [(c.moved, c.buf.length)]) ++ c.staged.map (fun e => (e.1, e.2.length))
      (lost.foldl (fun d q =>
        (splitReads d.mrrs (c.hostAddr + q.1) (q.2 + 1) q.2).foldl (fun d r => d.toHost (.readReq r.1 r.2)) d) d).setCopy n
          { c with buf := [], staged := [] }

/-- A line of the device-memory source of a D2H copy has been read and checks: its bytes of the range go to the host; a SHADOW keeps
them (R339). -/
def Dev.copyDeliver (n : Nat) (line : List Byte) (d : Dev) : Dev :=
  match (Tab.get d.hdma.rings Ring.idle n).copy with
  | none => d
  | some c =>
    if c.toDevice || c.status.isSome || d.waitsRefetch (.copy n) then d
    else
      let a := c.devAddr + c.moved
      let part := (line.drop (a % 64)).take (c.length - c.moved)
      let kept := if d.shadowServes then c.kept ++ [(c.hostAddr + c.moved, part)] else c.kept
      ((d.when (!d.shadowServes) fun d => d.toHost (.write (c.hostAddr + c.moved) part)).count 0x0A
        ((c.moved + part.length) / 64 - c.moved / 64)).setCopy n
        { c with moved := c.moved + part.length, crc := crc32cRun c.crc part, kept := kept }

/-- A descriptor in progress takes a status before its last byte. -/
def Dev.copyEnd (n status : Nat) (d : Dev) : Dev :=
  match (Tab.get d.hdma.rings Ring.idle n).copy with
  | none => d
  | some c => if c.status.isSome then d else d.setCopy n { c with status := some status }

/-- Slot `idx` of ring `n` leaves the scope of an abort: by its natural completion, or aborted. -/
def Dev.abortDecide (n idx : Nat) (aborted : Bool) (d : Dev) : Dev :=
  match d.hdma.abort with
  | none => d
  | some a =>
    if a.ring = n ∧ a.slots.contains idx then
      d.modHdma fun h => { h with abort := some { a with
        slots := a.slots.filter (· != idx), aborted := a.aborted + (if aborted then 1 else 0) } }
    else d

/-- COPY_COMPLETE (R28, R79, R80): the descriptor in progress of copy ring `n` has every byte in its destination, or has
ended early; its completion is written in its slot. result is the CRC-32C when asked and OK, else the bytes moved. -/
def Dev.copyComplete (n : Nat) (d : Dev) : Dev :=
  match (Tab.get d.hdma.rings Ring.idle n).copy with
  | none => d
  | some c =>
    let stopped := c.failAt == some (c.moved + c.buf.length)
    let r := if stopped then d.copyDrain n true (c.buf.length + 1) c else (c, d)
    let c := r.1
    let d := r.2.setCopy n c
    let status := match c.status with
      | some s => some s
      | none => if c.moved = c.length then some Stat.ok else if stopped then some Stat.hostErr else none
    match status with
    | none => d
    | some s =>
      if d.completionHeld n || (d.waitsRefetch (.copy n) && s != Stat.aborted) then d
      else
      let result := if s = Stat.ok ∧ c.flags.testBit 3 then Nat.xor c.crc 0xFFFFFFFF else c.moved
      let bytes := leBytes 4 result ++ leBytes 3 s
      (d.ringComplete n c.index 24 bytes c.flags s c.tag).abortDecide n c.index (s == Stat.aborted)

/-- The bytes of an aborted or reset H2D descriptor's destination become undefined (R89): free values. -/
def Dev.copyForget (c : CopyJob) (d : Dev) : Dev :=
  if c.toDevice then
    let seed := d.freshSeed
    { d.useFree c.length with mem := d.mem.forget c.devAddr c.length seed }
  else d

/-! ### Aborts (R89, R90) -/

/-- The slots from `idx` up to the tail. -/
def slotsFrom (k idx tail : Nat) : Nat → List Nat
  | 0 => []
  | fuel + 1 => if idx = tail then [] else idx :: slotsFrom k ((idx + 1) % k) tail fuel

/-- An abort write: ILLEGAL outside head..tail-1, on an event ring or a disabled ring; BUSY while an earlier one resolves;
else it takes the slots of its scope (R89, R90). -/
def Dev.abortStart (n idx : Nat) (slots : List Nat) (d : Dev) : Dev :=
  let d := d.setFld Reg.HDMA_ABORT_STAT.ring n
  if d.hdma.abort.isSome then d.setFld Reg.HDMA_ABORT_STAT.result 4
  else if Nat.ble 56 n || !(d.ringEnabled n) ||
      Nat.ble (d.ringDiff n (d.ringTail n) (d.ringHead n)) (d.ringDiff n idx (d.ringHead n)) || Nat.ble (d.ringSlots n) idx then
    d.setFld Reg.HDMA_ABORT_STAT.result 3
  else
    (d.modHdma fun h => { h with abort := some ⟨n, idx, slots, 0⟩ }).setFld Reg.HDMA_ABORT_STAT.result 5

/-- ABORT_ONE (R89, scope 0). -/
def Dev.abortOne (n idx : Nat) (d : Dev) : Dev :=
  if d.responds Reg.HDMA_ABORT.addr then d.abortStart n idx [idx] else d

/-- ABORT_SCOPE (R89, scope 1): the slot and every later one posted when the write is received. -/
def Dev.abortScope (n idx : Nat) (d : Dev) : Dev :=
  if d.responds Reg.HDMA_ABORT.addr then
    d.abortStart n idx (slotsFrom (d.ringSlots n) idx (d.ringTail n) (d.ringSlots n))
  else d

/-- The slot at the head of a copy ring completes ABORTED, when it is in the abort's scope: a descriptor in progress stops at
its next line, and its destination bytes are undefined. A slot whose descriptor is still being fetched waits for it, since its completion
needs the flags and the tag; the head of a stopped ring has none. -/
def Dev.abortHead (n : Nat) (d : Dev) : Dev :=
  let idx := d.ringHead n
  match d.hdma.abort with
  | none => d
  | some a =>
    if a.ring ≠ n ∨ !(a.slots.contains idx) ∨ idx = d.ringTail n ∨ d.completionHeld n then d
    else
      match (Tab.get d.hdma.rings Ring.idle n).copy with
      | some c =>
        let bytes := leBytes 4 c.moved ++ leBytes 3 Stat.aborted
        ((d.copyForget c).ringComplete n idx 24 bytes c.flags Stat.aborted c.tag).abortDecide n idx true
      | none =>
        if d.ringState n != RingState.stopped then d
        else (d.ringComplete n idx 24 (leBytes 4 0 ++ leBytes 3 Stat.aborted) 0 Stat.aborted 0).abortDecide n idx true

/-- Every leading slot of a copy ring in scope aborted, `fuel` at most. -/
def Dev.abortHeads (n : Nat) : Nat → Dev → Dev
  | 0, d => d
  | fuel + 1, d => (d.abortHead n).abortHeads n fuel

/-- The refetches that a reader waits for are no longer waited for by it; they stay pending (R320, a link reset). -/
def Dev.releaseHold (q : Requester) (d : Dev) : Dev :=
  d.modMig fun g => { g with refetches := g.refetches.map fun r =>
    { r with waiting := r.waiting.filter (fun w => w.1 != q) } }

/-- MIG_REFETCH_STAT.pending counts the posted refetches. -/
def Dev.refetchCount (d : Dev) : Dev :=
  d.setFld Reg.MIG_REFETCH_STAT.pending (d.mig.refetches.filter (·.posted)).length

/-- An abort that reaches a held descriptor ends its refetch (R89, R320): a refetch that only the reader waited for is withdrawn. -/
def Dev.holdEnd (q : Requester) (d : Dev) : Dev :=
  let mine := d.mig.refetches.filter (fun r => r.waiting.any (fun w => w.1 == q)) |>.map (·.line)
  let d := d.releaseHold q
  (d.modMig fun g => { g with refetches := g.refetches.filter (fun r => !(mine.contains r.line) || !r.waiting.isEmpty) }).refetchCount

/-- The outcome of the abort recorded, once no slot of its scope is undecided (R90). -/
def Dev.abortRecord (d : Dev) : Dev :=
  match d.hdma.abort with
  | none => d
  | some a =>
    if !a.slots.isEmpty then d
    else
      let d := d.modHdma fun h => { h with abort := none }
      let d := (d.setFld Reg.HDMA_ABORT_STAT.ring a.ring).setFld Reg.HDMA_ABORT_STAT.count a.aborted
      if a.aborted = 0 then
        (d.setFld Reg.HDMA_ABORT_STAT.result 2).raiseHalf none 0x0303 Sev.info 0x18 (a.ring * 2 ^ 16 + a.index)
      else d.setFld Reg.HDMA_ABORT_STAT.result 1

/-! ### The PCIe link -/

/-- The rings as R72 and R440 reset them: disabled, both indices 0. -/
def Dev.ringsReset (d : Dev) : Dev :=
  (List.range 64).foldl (fun d n =>
    let d := (d.setFld (Reg.HDMA_RING_CTL.enable n) 0).setFld (Reg.HDMA_RING_STAT.state n) RingState.disabled
    let d := d.setReg (Reg.HDMA_RING_PTR.addr n) 0#32
    let d := d.modRing n Ring.cleared
    if Nat.ble 56 n then d.backlogMark (n - 56) else d) d

/-- BAR2 window state back to reset and a pending abort forgotten (R72, R440). -/
def Dev.windowReset (d : Dev) : Dev :=
  ((d.setReg Reg.HDMA_WIN_BASE.addr 0#32).setReg Reg.HDMA_WIN_STAT.addr 0#32).modHdma fun h => { h with abort := none }

/-- PCIE_RESET (R36, R72): PERST#, a hot reset or link down. The mode and a print are untouched. A taken job chain runs on
and is remembered as an orphan of its context. -/
def Dev.pcieReset (d : Dev) : Dev :=
  if !d.bar0 then d
  else
    let orphans := ((List.range 8).filterMap fun k =>
      match (Tab.get d.hdma.rings Ring.idle (48 + k)).job with
      | some j => if j.taken then some (k, j.jobId) else none
      | none => none)
    let d := (List.range 48).foldl (fun d n => d.releaseHold (.copy n)) d
    let d := d.modMig fun g => { g with refetches := g.refetches.map fun r =>
      { r with waiting := r.waiting.filter fun w => match w.1 with | .bar2 _ _ => false | _ => true } }
    let d := d.ringsReset.windowReset
    let d := ((d.setFlag Reg.HDMA_PCI_STAT.link_up false).setFld Reg.HDMA_PCI_STAT.width 0).setFld Reg.HDMA_PCI_STAT.speed 0
    let d := (d.setFld Reg.HDMA_PCI_STAT.mps 0).setFld Reg.HDMA_PCI_STAT.mrrs 2
    let d := (d.setFlag Reg.HDMA_PCI_STAT.ecrc_gen false).setFlag Reg.HDMA_PCI_STAT.ecrc_chk false
    let d := d.setFlag Reg.GLB_STATUS.pcie_up false
    d.modHdma fun h => { h with
      linkResets := h.linkResets + 1, orphans := h.orphans ++ orphans, msixEnable := false, msixFuncMask := false
      pci := ⟨0, 0, false⟩, bar2Held := [] }

/-- PCIE_LINK_UP (R68): the link trains back to L0 with a width and a speed. -/
def Dev.pcieLinkUp (width speed : Nat) (d : Dev) : Dev :=
  if !d.bar0 then d
  else
    let d := (d.setFld Reg.HDMA_PCI_STAT.width width).setFld Reg.HDMA_PCI_STAT.speed speed
    (d.setFlag Reg.HDMA_PCI_STAT.link_up true).setFlag Reg.GLB_STATUS.pcie_up true

/-- The sizes of BAR0 (32 MiB, non-prefetchable) and BAR2 (4 GiB, prefetchable), both 64-bit; BAR4 and BAR5 are not implemented (R69). -/
abbrev bar0Size : Nat := 2 ^ 25
abbrev bar2Size : Nat := 2 ^ 32

/-- What the function's configuration space reads (Table 4-1, R69): its identity, the base address registers with their type bits (64-bit
0b10 in bits 2:1, prefetchable in bit 3), the power state, the Device Serial Number (GLB_ID over a per-die number), and the host's
settings. -/
structure PciSpace where
  vendor : Nat
  device : Nat
  revision : Nat
  classCode : Nat
  subVendor : Nat
  subsystem : Nat
  headerType : Nat
  interruptPin : Nat
  bars : List Nat
  msixVectors : Nat
  msixTable : Nat
  msixPba : Nat
  serial : Nat
  d3hot : Bool
  mps : Nat
  mrrs : Nat
  ecrcGen : Bool
  ecrcChk : Bool
  msixEnable : Bool
  msixFuncMask : Bool
deriving DecidableEq, Repr

/-- The configuration space as it stands: BAR0 with BAR1, BAR2 with BAR3, then BAR4 and BAR5, which read 0 (R68, R69). -/
def Dev.pciSpace (d : Dev) : PciSpace where
  vendor := 0x1F4B
  device := 0x4262
  revision := 0x21
  classCode := 0x118000
  subVendor := 0x1F4B
  subsystem := 0x0001
  headerType := 0
  interruptPin := 0
  bars := [d.hdma.pci.bar0 % 2 ^ 32 + 4, d.hdma.pci.bar0 / 2 ^ 32, d.hdma.pci.bar2 % 2 ^ 32 + 12, d.hdma.pci.bar2 / 2 ^ 32, 0, 0]
  msixVectors := 128
  msixTable := 0x308000
  msixPba := 0x309000
  serial := (d.reg Reg.GLB_ID.addr).toNat * 2 ^ 32 + Config.dieNumber.toNat
  d3hot := d.hdma.pci.d3hot
  mps := d.fld Reg.HDMA_PCI_STAT.mps
  mrrs := d.fld Reg.HDMA_PCI_STAT.mrrs
  ecrcGen := d.flag Reg.HDMA_PCI_STAT.ecrc_gen
  ecrcChk := d.flag Reg.HDMA_PCI_STAT.ecrc_chk
  msixEnable := d.hdma.msixEnable
  msixFuncMask := d.hdma.msixFuncMask

/-- PCIE_CONFIG_WRITE (R68, R69, R88): the configuration space's max payload, max read request, ECRC bits, and MSI-X Enable; the
MSI-X function mask may be set by the same write (unmasking is MSIX_UNMASK's); the base addresses, aligned to their BARs' sizes, and the
power state. -/
def Dev.pcieConfigWrite (mps mrrs : Nat) (gen chk enable mask : Bool) (pci : Pci) (d : Dev) : Dev :=
  if !d.bar0 then d
  else
    let d := (d.setFld Reg.HDMA_PCI_STAT.mps mps).setFld Reg.HDMA_PCI_STAT.mrrs mrrs
    let d := (d.setFlag Reg.HDMA_PCI_STAT.ecrc_gen gen).setFlag Reg.HDMA_PCI_STAT.ecrc_chk chk
    d.modHdma fun h => { h with
      msixEnable := enable, msixFuncMask := h.msixFuncMask || mask
      pci := ⟨pci.bar0 % 2 ^ 64 / bar0Size * bar0Size, pci.bar2 % 2 ^ 64 / bar2Size * bar2Size, pci.d3hot⟩ }

/-- MSIX_HOLDOFF_EXPIRY (R88): the causes of the holdoff give one message at its end. -/
def Dev.msixHoldoffExpiry (n : Nat) (d : Dev) : Dev :=
  let r := Tab.get d.hdma.rings Ring.idle n
  if !r.holdoff then d
  else
    let d := d.modRing n fun r => { r with holdoff := false, holdoffCause := false }
    if r.holdoffCause then d.ringMsix n else d

/-- MSIX_UNMASK (R88): a vector (`some v`) or the function (`none`) is unmasked; pending messages are sent. -/
def Dev.msixUnmask (v : Option Nat) (d : Dev) : Dev :=
  if !d.bar0 then d
  else match v with
    | some v => if Nat.blt v 128 && d.responds (Reg.HDMA_MSIX_CTRL.addr v) then (d.setFld (Reg.HDMA_MSIX_CTRL.mask v) 0).msixFlush else d
    | none => (d.modHdma fun h => { h with msixFuncMask := false }).msixFlush

end Sys2Proof.Machine
end

