-- ==== Sys2Proof/Machine/Integrity.lean ====
section
/-! DEFINITION. Machine/Integrity.lean: the DDR5 controller (chapter 14) and memory integrity (chapter 15) up to the point
where a requester learns the result of its read: channel state, panic and batches, margins, the check of a line (R296),
recovery (R300 to R302), poison (R306), the fault log (R307) and scrubbing (R303 to R305). -/

namespace Sys2Proof.Machine

/-! ### The controller -/

/-- Number of channels fitted (R279). -/
def Dev.channels (d : Dev) : Nat := 2 ^ d.fld Reg.MEM_CFG.ch_log2

/-- The capacity of a channel in GiB that MEM_CFG describes (Table 14-1). -/
def Dev.channelGib (d : Dev) : Nat :=
  16 * (if d.flag Reg.MEM_CFG.x4 then 2 else 1) * (if d.flag Reg.MEM_CFG.dens then 2 else 1) * (d.fld Reg.MEM_CFG.ranks_m1 + 1)

/-- Bytes that a channel reads and writes outside the requests of the model's sources: FILL and margin runs. -/
def Dev.chanTraffic (c written read : Nat) (d : Dev) : Dev :=
  (((d.addPair Reg.MEM_WR_BYTES_LO.addr written).addPair Reg.MEM_RD_BYTES_LO.addr read).count (0xD0 + c) (written / 64)).count (0xC8 + c) (read / 64)

/-- The mode registers, control words and references written at the start of FILL (R282, R285 step 1): table 0x0D03 in entry order, then
MR10 and MR11 from tables 0x0D01 and 0x0D02. -/
def Dev.modeWrites (d : Dev) : List ModeWrite :=
  let chans := List.range d.channels
  let entry := fun (i : Nat) =>
    let v := Tab.get (Tab.get d.cfg.tables [] 0x0D03) 0 i
    let reg := v / 2 ^ 16 % 2 ^ 8
    let val := v / 2 ^ 8 % 2 ^ 8
    if v / 2 ^ 24 = 1 then chans.flatMap fun c => (List.range (d.fld Reg.MEM_CFG.ranks_m1 + 1)).map fun r => ModeWrite.mrw c r reg val
    else if v / 2 ^ 24 = 2 then chans.map fun c => ModeWrite.rcd c reg val
    else []
  let lane := fun (c s l : Nat) => ModeWrite.mr10 c s l (Tab.get (Tab.get d.cfg.tables [] 0x0D01) 0 ((2 * c + s) * 5 + l) / 2 ^ 46 % 2 ^ 8)
  let command := fun (c s : Nat) => ModeWrite.mr11 c s (Tab.get (Tab.get d.cfg.tables [] 0x0D02) 0 (2 * c + s) / 2 ^ 20 % 2 ^ 8)
  (List.range 256).flatMap entry ++
    chans.flatMap (fun c => [0, 1].flatMap fun s => (List.range 5).map (lane c s)) ++ chans.flatMap fun c => [0, 1].map (command c)

/-- FILL goes on from the mode registers to the fill itself (R285). -/
def Dev.fillRegisters (d : Dev) : Dev :=
  if d.mode ≠ Mode.fill ∨ d.fld Reg.MEM_STAT.fill ≠ 1 then d
  else (d.modMem fun m => { m with writes := d.modeWrites }).setFld Reg.MEM_STAT.fill 2

/-- Every line of every channel written with zeros and a valid check word (R285 step 3), and one line of each MiB of a channel read back
(step 4). -/
def Dev.fillLines (d : Dev) : Dev :=
  (List.range d.channels).foldl (fun d c => d.chanTraffic c (d.channelGib * 2 ^ 30) (d.channelGib * 65536))
    { d with mem := ⟨[], [], [], []⟩ }

/-- A channel failed: its bits in MEM_STAT and MEM_CH_STAT, and EV_MEM_CH_FAIL (FATAL) with a reason of Table 14-8. In FILL the fill has
failed (R286); a margin image only records samples and alerts there (R283). -/
def Dev.chanFail (c reason : Nat) (d : Dev) : Dev :=
  let f : Fld := ⟨Reg.MEM_STAT.addr, 16 + c, 16 + c⟩
  let d := (d.setFld f 1).setFlag (Reg.MEM_CH_STAT.failed c) true
  let filling := d.mode == Mode.fill
  if filling && d.marginImage && (reason == 2 || reason == 3) then d
  else
    let d := d.raise 0x0D02 Sev.fatal c reason
    d.when (filling && !(d.marginImage && reason == 4)) fun d =>
      (d.setFld Reg.MEM_STAT.fill 4).safeCause ⟨Cause.fillFail, 0x0D02, 0x68, Sev.fatal, c⟩

/-- The reserve R(k) of a port (R291): what its lookahead buffer holds, and the port lines whose store reads are in flight. -/
def Dev.reserve (d : Dev) (k : Nat) : Nat := d.fld (Reg.ASM_PORT_STAT.fill k) + Tab.get d.memc.inFlight 0 k

/-- The smallest reserve of an enabled port, if there is one. -/
def Dev.reserveMin (d : Dev) : Option Nat :=
  (((List.range 32).filter fun k => (d.fld Reg.HLK_PORT_EN.en).testBit k).map d.reserve).min?

/-- Panic follows the reserves (R291): asserted when the smallest, which was `was`, falls below rt_low, withdrawn when all are at least
rt_high. -/
def Dev.panicFollow (was : Option Nat) (d : Dev) : Dev :=
  match was, d.reserveMin with
  | some w, some r =>
    let on := d.flag Reg.MEM_STAT.panic
    let low := d.fld Reg.MEM_SCHED.rt_low
    if !on && Nat.ble low w && Nat.blt r low then ((d.setFlag Reg.MEM_STAT.panic true).addFld Reg.MEM_PANIC.count 1).count 0xD8 1
    else if on && Nat.ble (d.fld Reg.MEM_SCHED.rt_high) r then d.setFlag Reg.MEM_STAT.panic false
    else d
  | _, _ => d

/-- Store reads issued for the next line of each port of a list (R188, R291). -/
def Dev.storeIssued (ports : List Nat) (d : Dev) : Dev :=
  ports.foldl (fun d k => d.modMem fun m => { m with inFlight := Tab.upd m.inFlight 0 k (· + 1) }) d

/-- The kinds of a column-command batch. -/
abbrev Batch.realTime : Nat := 1
abbrev Batch.read : Nat := 2
abbrev Batch.write : Nat := 3

/-- Is subchannel `s` stopped by an alert (R288)? -/
def Chan.halted (h : Chan) (s : Nat) : Bool := h.stopped.any (·.1 == s)

/-- The writes a batch takes: up to 16 of each subchannel that is not stopped. -/
def Chan.writable (h : Chan) : Nat × Nat :=
  (if h.halted 0 then 0 else min 16 h.queued.1, if h.halted 1 then 0 else min 16 h.queued.2)

/-- The kind of the next batch of channel `c` (R289, R292): in panic real-time reads first, a write batch only when the
write queue is full and the last was a read; else reads before writes unless draining; writes when no read waits. Nothing is issued on a
stopped subchannel (R288). -/
def Dev.nextBatch (c rtQueued rdQueued : Nat) (d : Dev) : Nat :=
  let h := Tab.get d.memc.chans Chan.idle c
  let writes := h.writable != (0, 0)
  if h.halted 0 && h.halted 1 then 0
  else if d.flag Reg.MEM_STAT.panic then
    if h.queued.1 + h.queued.2 == 128 && h.lastBatch != Batch.write && writes then Batch.write
    else if rtQueued != 0 then Batch.realTime
    else if rdQueued != 0 then Batch.read
    else 0
  else if h.draining && writes then Batch.write
  else if rtQueued != 0 || rdQueued != 0 then Batch.read
  else if writes then Batch.write
  else 0

/-- The batch under way ends as it was formed: the writes it took leave the queue (R293), and a drain ends at wq_low (R289). -/
def Dev.batchEnd (c : Nat) (d : Dev) : Dev :=
  let h := Tab.get d.memc.chans Chan.idle c
  let q := (h.queued.1 - h.formed.1, h.queued.2 - h.formed.2)
  (d.modChan c fun h => { h with
    queued := q, formed := (0, 0), draining := h.draining && Nat.blt (d.fld Reg.MEM_SCHED.wq_low) (q.1 + q.2) }).setFld
      (Reg.MEM_CH_STAT.wq c) (q.1 + q.2)

/-- BATCH_BOUNDARY (R289, R291 to R293): channel `c` ends a batch and forms the next. `rtQueued` and `rdQueued` are the real-time and
other reads that wait and that an unstopped subchannel can take; `ports` names the ports for whose next line the new batch issues the first store
reads. -/
def Dev.batchBoundary (c rtQueued rdQueued : Nat) (ports : List Nat) (d : Dev) : Dev :=
  let was := d.reserveMin
  let d := ((d.batchEnd c).storeIssued ports).panicFollow was
  let kind := d.nextBatch c rtQueued rdQueued
  d.modChan c fun h => { h with lastBatch := kind, formed := if kind = Batch.write then h.writable else (0, 0) }

/-- The parity alerts of channel `c` in the last second (R288). -/
def Dev.recentAlerts (d : Dev) (c : Nat) : List Nat :=
  (Tab.get d.memc.chans Chan.idle c).alerts.filter fun t => Nat.ble d.tb2ns (t + 1000000000)

/-- CA_PARITY_ALERT (R288): ALERT_n on a subchannel of channel `c`; issuing stops, `commands` (at most 64) will be reissued;
a fifth alert within 1 s fails the channel. -/
def Dev.caParityAlert (c sub commands : Nat) (d : Dev) : Dev :=
  let times := d.recentAlerts c ++ [d.tb2ns]
  let d := d.modChan c fun h => { h with alerts := times, stopped := h.stopped.filter (fun p => p.1 != sub) ++ [(sub, min commands 64)] }
  d.when (Nat.ble 5 times.length) fun d => d.chanFail c 3

/-- ALERT_N_CLEAR (R288): the alert clears; the commands are reissued in order and EV_MEM_CA_PARITY tells how many. -/
def Dev.alertNClear (c sub : Nat) (d : Dev) : Dev :=
  match (Tab.get d.memc.chans Chan.idle c).stopped.find? (fun p => p.1 == sub) with
  | none => d
  | some p =>
    (d.modChan c fun h => { h with stopped := h.stopped.filter (fun p => p.1 != sub) }).raise
      0x0D04 Sev.recovered (c * 256 + sub) p.2

/-- FLT_STAT.ch_hot follows MEM_STAT.ch_hot (Table 16-10). -/
def Dev.hotSummary (d : Dev) : Dev := d.setFlag Reg.FLT_STAT.ch_hot (d.fld Reg.MEM_STAT.ch_hot != 0)

/-- DRAM_TEMP_POLL (R287): channel `c` reads its sensor (quarters of a degree, or no answer). At 85 °C and above tREFI halves,
back below 83 °C; at 95 °C, or after 1 s without an answer, the channel fails. -/
def Dev.dramTempPoll (c : Nat) (reading : Option Int) (d : Dev) : Dev :=
  let silent := match reading with | some _ => 0 | none => (Tab.get d.memc.chans Chan.idle c).silentPolls + 1
  let d := d.modChan c fun h => { h with silentPolls := silent }
  let t : Option Int := match reading with | some t => some t | none => if 10 ≤ silent then some 380 else none
  match t with
  | none => d
  | some t =>
    let d := d.setFld (Reg.MEM_CH_STAT.temp c) (unsigned 12 t)
    let hotBit : Fld := ⟨Reg.MEM_STAT.addr, 8 + c, 8 + c⟩
    let hot := d.flag (Reg.MEM_CH_STAT.hot c)
    let d :=
      if decide (340 ≤ t) && !hot then
        ((d.setFlag (Reg.MEM_CH_STAT.hot c) true).setFld hotBit 1).raise 0x0D03 Sev.warn c (unsigned 64 t)
      else if decide (t < 332) && hot then (d.setFlag (Reg.MEM_CH_STAT.hot c) false).setFld hotBit 0
      else d
    let d := d.hotSummary
    if decide (380 ≤ t) then d.chanFail c 4 else d

/-- Is the subchannel of a line stopped by an alert (R288)? -/
def Dev.lineStopped (d : Dev) (line : Nat) : Bool :=
  let c := d.coord (d.physAddr (64 * line))
  (Tab.get d.memc.chans Chan.idle c.chan).halted c.sub

/-- DRAM_REFRESH (R13, R287): channel `c` is refreshed from the PHY's own timer. -/
def Dev.dramRefresh (c : Nat) (d : Dev) : Dev := d.modChan c fun h => { h with refreshes := h.refreshes + 1 }

/-- The refresh interval of channel `c` in nanoseconds (R287). -/
def Dev.tRefi (d : Dev) (c : Nat) : Nat := if d.flag (Reg.MEM_CH_STAT.hot c) then 1950 else 3900

/-- ZQ_CALIBRATION (R282): every 128 ms; it changes no loaded value. -/
def Dev.zqCalibration (d : Dev) : Dev :=
  (List.range d.channels).foldl (fun d c => d.modChan c fun h => { h with zqs := h.zqs + 1 }) d

/-! ### Margining (R283, R284) -/

/-- Do the margin registers take effect: a margin image in STANDBY (R283)? -/
def Dev.marginOpen (d : Dev) : Bool := d.marginImage && d.mode == Mode.standby

/-- The key of a margin offset: channel, subchannel, lane, field; ca_dly and cs_dly belong to the subchannel. -/
def Dev.marginKey (d : Dev) : Nat :=
  let f := d.fld Reg.MEM_MARGIN_SEL.field
  let lane := if f = 6 ∨ f = 7 then 0 else d.fld Reg.MEM_MARGIN_SEL.lane
  d.fld Reg.MEM_MARGIN_SEL.channel * 256 + d.fld Reg.MEM_MARGIN_SEL.sub * 128 + lane * 16 + f

/-- The loaded value and the width of the selected field (Table 14-4, command timing entry). -/
def Dev.marginBase (d : Dev) : Nat × Nat :=
  let f := d.fld Reg.MEM_MARGIN_SEL.field
  let cs := d.fld Reg.MEM_MARGIN_SEL.channel * 2 + d.fld Reg.MEM_MARGIN_SEL.sub
  let lane := Tab.get (Tab.get d.cfg.tables [] 0x0D01) 0 (cs * 5 + d.fld Reg.MEM_MARGIN_SEL.lane)
  let cmd := Tab.get (Tab.get d.cfg.tables [] 0x0D02) 0 cs
  match f with
  | 0 => (lane % 2 ^ 10, 10)
  | 1 => (lane / 2 ^ 10 % 2 ^ 10, 10)
  | 2 => (lane / 2 ^ 20 % 2 ^ 10, 10)
  | 3 => (lane / 2 ^ 30 % 2 ^ 8, 8)
  | 4 => (lane / 2 ^ 38 % 2 ^ 8, 8)
  | 5 => (lane / 2 ^ 46 % 2 ^ 8, 8)
  | 6 => (cmd % 2 ^ 10, 10)
  | 7 => (cmd / 2 ^ 10 % 2 ^ 10, 10)
  | _ => (0, 0)

/-- A refused margin operation (R283). -/
def Dev.marginRefuse (d : Dev) : Dev := d.setFld Reg.MEM_MARGIN_STAT.result 3

/-- MARGIN_APPLY: the signed offset is added to the selected field, saturating at the field's range (R284). -/
def Dev.marginApply (d : Dev) : Dev :=
  if !(d.responds Reg.MEM_MARGIN_CTL.addr) then d
  else if !d.marginOpen then d.marginRefuse
  else
    let base := d.marginBase
    let k := d.marginKey
    let now : Int := base.1 + Tab.get d.memc.margins 0 k
    let v := clampInt 0 (2 ^ base.2 - 1) (now + d.sfld Reg.MEM_MARGIN_SEL.offset)
    if base.2 = 0 then d
    else (d.modMem fun m => { m with margins := Tab.set m.margins 0 k (v - base.1) }).setFld Reg.MEM_MARGIN_STAT.result 1

/-- MARGIN_RUN: a PRBS run of `lines` × 1,024 lines starts (R284). -/
def Dev.marginRun (lines : Nat) (d : Dev) : Dev :=
  if !(d.responds Reg.MEM_MARGIN_CTL.addr) then d
  else if !d.marginOpen || d.memc.marginOp.isSome || lines == 0 then d.marginRefuse
  else (d.modMem fun m => { m with marginOp := some (d.fld Reg.MEM_MARGIN_SEL.channel, lines) }).setFlag Reg.MEM_MARGIN_STAT.busy true

/-- MARGIN_CLEAR: every offset removed (R284). -/
def Dev.marginClear (d : Dev) : Dev :=
  if !(d.responds Reg.MEM_MARGIN_CTL.addr) then d
  else if !d.marginOpen then d.marginRefuse
  else (d.modMem fun m => { m with margins := [] }).setFld Reg.MEM_MARGIN_STAT.result 1

/-- The parts of an undefined range that lie in none of the lines given. -/
def undefOutside (p : Nat → Bool) (u : Nat × Nat × Nat) : List (Nat × Nat × Nat) :=
  let ls := linesOf u.1 u.2.1
  if !(ls.any p) then [u]
  else (ls.filter fun l => !(p l)).map fun l =>
    let a := max u.1 (64 * l)
    (a, min (u.1 + u.2.1) (64 * l + 64) - a, u.2.2 + (a - u.1))

/-- The lines given hold zeros and are listed no more. -/
def Mem.zeroLines (m : Mem) (p : Nat → Bool) : Mem :=
  { m with
    cells := m.cells.filter fun e => !(p (e.1 / 64))
    lines := m.lines.filter fun e => !(p e.1)
    undef := m.undef.flatMap (undefOutside p) }

/-- MARGIN_RUN_DONE (R284): the failing lanes and bit errors of the run; the tested lines hold zeros again, with valid check words of source
0x69. -/
def Dev.marginRunDone (lanes errors : Nat) (d : Dev) : Dev :=
  match d.memc.marginOp with
  | none => d
  | some (c, n) =>
    let d := (d.modMem fun m => { m with marginOp := none }).setFlag Reg.MEM_MARGIN_STAT.busy false
    let m := d.mem.zeroLines (d.marginLine c n)
    let d := { d with mem := { m with margined := (c, n) :: m.margined } }
    let d := d.chanTraffic c (2 * (65536 * n)) (65536 * n)
    let d := (d.setFld Reg.MEM_MARGIN_STAT.lane_fail lanes).setFld Reg.MEM_MARGIN_STAT.errors (min errors 0xFFFF)
    d.setFld Reg.MEM_MARGIN_STAT.result (if lanes % 32 = 0 ∧ errors = 0 then 1 else 2)

/-! ### The check of a read line -/

/-- The fields of a check word (Table 15-1). -/
def ReadLine.crc (r : ReadLine) : Nat := r.check % 2 ^ 64
def ReadLine.gen (r : ReadLine) : Nat := r.check / 2 ^ 64 % 2 ^ 16
def ReadLine.src (r : ReadLine) : Nat := r.check / 2 ^ 80 % 2 ^ 8
def ReadLine.cls (r : ReadLine) : Nat := r.check / 2 ^ 88 % 2 ^ 4
def ReadLine.poison (r : ReadLine) : Bool := r.check.testBit 92
def ReadLine.reserved (r : ReadLine) : Nat := r.check / 2 ^ 93

/-- R296: does a read pass its check: the crc matches, class is 0 to 3, no reserved bit is 1, and the generation is the one
expected, if one is; and that no byte's parity was wrong on the way (R25). -/
def ReadLine.passes (r : ReadLine) (phys : Nat) (expect : Option Nat) : Bool :=
  !r.parity && r.crc == lineCrc r.data phys && Nat.ble r.cls 3 && r.reserved == 0 &&
  (match expect with | some g => r.gen == g | none => true)

/-- The check word the controller writes with a line (R295). -/
def checkWord (m : LineMeta) (bs : List Byte) (phys : Nat) : Nat :=
  lineCrc bs phys + m.gen % 2 ^ 16 * 2 ^ 64 + m.src % 2 ^ 8 * 2 ^ 80 + m.cls % 16 * 2 ^ 88 + (if m.poison then 2 ^ 92 else 0)

/-- The line as the memory of the model holds it. -/
def Dev.storedLine (d : Dev) (line : Nat) : ReadLine :=
  let bs := d.mem.readBytes (64 * line) 64
  ⟨bs, checkWord (d.lineMeta line) bs (d.physAddr (64 * line)), false⟩

/-- Outcome of the handling of a read (R300). -/
inductive ReadOutcome where
  /-- the check passed: the data -/
  | clean (good : ReadLine)
  /-- recovered by reread (outcome 1): the good copy, rereads made -/
  | reread (good : ReadLine) (made : Nat)
  /-- poisoned, first read or reread (reason 2), rereads made -/
  | poisoned (made : Nat)
  /-- it must be refetched, rereads made -/
  | refetch (made : Nat)
  /-- it must be recomputed by its owner, rereads made -/
  | recompute (made : Nat)
  /-- unrecoverable, reason FAILED -/
  | failed (made : Nat)
deriving DecidableEq, Repr

/-- The first passing reread of at most two, with how many were made. -/
def firstGood (phys : Nat) (expect : Option Nat) : List ReadLine → Nat → Option ReadLine × Nat
  | [], n => (none, n)
  | r :: rs, n =>
    if Nat.ble 2 n then (none, n)
    else if r.passes phys expect then (some r, n + 1)
    else firstGood phys expect rs (n + 1)

/-- R300 up to the recovery that needs someone else: class `k` is the line's class field when it is 0 to 3, else its
region's. -/
def Dev.readOutcome (d : Dev) (line : Nat) (expect : Option Nat) (first : ReadLine) (again : List ReadLine) : ReadOutcome :=
  let phys := d.physAddr (64 * line)
  if first.passes phys expect then
    if first.poison then .poisoned 0 else .clean first
  else
    let k := if first.cls ≤ 3 then first.cls else d.regionClass (64 * line)
    let g := if k = Cls.none then (none, 0) else firstGood phys expect again 0
    match g.1 with
    | some r => if r.poison then .poisoned g.2 else .reread r g.2
    | none =>
      if k = Cls.refetch then .refetch g.2
      else if k = Cls.recompute then .recompute g.2
      else .failed g.2

/-- The class used for a line's recovery. -/
def Dev.recoveryClass (d : Dev) (line : Nat) (first : ReadLine) : Nat :=
  if first.cls ≤ 3 then first.cls else d.regionClass (64 * line)

/-- The lanes that differ between two copies of a line: lane l carries the bytes whose index is l modulo 4. The check lane 4
differs when the check words do (R307). -/
def laneMask (a b : ReadLine) : Nat :=
  let diff := (List.range 64).filter (fun i => a.data.getD i 0#8 != b.data.getD i 0#8)
  (List.range 4).foldl (fun m l => if diff.any (fun i => i % 4 == l) then m + 2 ^ l else m) 0 + (if a.check = b.check then 0 else 16)

/-- The source ID of a requester. -/
def Requester.srcId : Requester → Nat
  | .none => 0
  | .copy n => funnelSrc n
  | .bar2 _ _ => 0x1C
  | .seqBlock _ => 0x20
  | .defectSync => 0x38
  | .decoder _ => 0x28
  | .exportContext => 0x2C
  | .exportSource => 0x2B
  | .store _ _ => 0x41
  | .shadow _ _ _ => 0x38
  | .scrub => 0x71
  | .other s => s

/-- A failed read's record in the fault log (R307). -/
def Dev.faultLog (ns line : Nat) (req : Requester) (outcome cls rereads lanes : Nat) (d : Dev) : Dev :=
  d.faultLogAt ns line req.srcId outcome cls rereads lanes

/-- A line poisoned (R306): the data read is written back with poison 1 and the line's other fields. -/
def Dev.poisonLine (line : Nat) (data : List Byte) (d : Dev) : Dev :=
  let m := d.lineMeta line
  { d with mem := { d.mem.writeBytes (64 * line) data with lines := Tab.put d.mem.lines line { m with poison := true } } }

/-- A good copy written back (R301): its data, which is what the line holds (R31), and its metadata, source 0x70 as the writer. -/
def Dev.writeBack (line : Nat) (r : ReadLine) (d : Dev) : Dev :=
  { d with mem := { d.mem with lines := Tab.put d.mem.lines line ⟨false, r.cls, 0x70, r.gen⟩ } }

/-- A recovered read reported: MIG_CNT, EV_MIG_RECOVERED and the fault log. `outcome`: 1 reread, 2 refetched, 3
recomputed. -/
def Dev.reportRecovered (ns line : Nat) (req : Requester) (outcome cls rereads lanes : Nat) (d : Dev) : Dev :=
  let d := (d.addFld (Reg.MIG_CNT.count (outcome - 1)) 1).count (0xDF + outcome) 1
  let d := d.raise 0x0E01 Sev.recovered (64 * line) (outcome * 2 ^ 56 + cls * 2 ^ 48 + req.srcId * 2 ^ 40 + lanes)
  d.faultLog ns line req outcome cls rereads lanes

/-- A requester's unrecoverable read reported (R300). -/
def Dev.reportUnrecoverable (ns line : Nat) (req : Requester) (reason cls rereads : Nat) (d : Dev) : Dev :=
  d.unrecoverable ns line req.srcId reason cls rereads

/-- Is a refetch of the line in force? -/
def Dev.refetchOf (d : Dev) (line : Nat) : Option Refetch := d.mig.refetches.find? (fun r => r.line == line)

/-- Refetches posted as far as the limit of 256 allows, in order (R302): EV_MIG_REFETCH goes to refetch_evr. -/
def Dev.refetchPost (d : Dev) : Dev :=
  let posted := (d.mig.refetches.filter (·.posted)).length
  match d.mig.refetches.find? (fun r => !r.posted) with
  | some r =>
    if Nat.ble 256 posted then d.refetchCount
    else
      let n := (d.mig.nextRequest + 1) % 2 ^ 32
      let req := match r.waiting with | w :: _ => w.1.srcId | [] => 0
      let d := d.modMig fun g => { g with
        nextRequest := n
        refetches := g.refetches.map fun q => if q.line = r.line then { q with posted := true } else q }
      (d.raiseTo (some (d.fld Reg.MIG_CFG.refetch_evr)) 0x0E02 Sev.info 0x70 (64 * r.line) (req * 2 ^ 32 + n)).refetchCount
  | none => d.refetchCount

/-- A refetch starts for a line, or its reader joins the one in force (R302); `data` is what the failed read returned. -/
def Dev.refetchStart (line : Nat) (req : Requester) (rereads : Nat) (data : List Byte) (d : Dev) : Dev :=
  match d.refetchOf line with
  | some _ => d.modMig fun g => { g with refetches := g.refetches.map fun q =>
      if q.line = line then { q with waiting := q.waiting ++ [(req, rereads)] } else q }
  | none => (d.modMig fun g => { g with
      refetches := g.refetches ++ [⟨line, [(req, rereads)], false, false, false, data, d.tb2ns⟩] }).refetchPost

/-! ### Scrubbing -/

/-- The scrub pass changed. -/
def Dev.modScrub (f : Scrub → Scrub) (d : Dev) : Dev := d.modMig fun g => { g with scrub := g.scrub.map f }

/-- From STANDBY onward, SAFE included (R303). -/
def Dev.scrubModes (d : Dev) : Bool :=
  d.mode != Mode.reset && d.mode != Mode.load && d.mode != Mode.fill && d.mode != Mode.sleep

/-- SCRUB_START (R303, Table 15-5). -/
def Dev.scrubStart (passId : Nat) (d : Dev) : Dev :=
  if !(d.responds Reg.MIG_SCRUB_CTL.addr) || !d.scrubModes then d
  else
    let s := d.pair Reg.MIG_SCRUB_START_LO.addr
    let n := d.pair Reg.MIG_SCRUB_LEN_LO.addr
    let r := d.pair Reg.MIG_SCRUB_REC_LO.addr
    if d.mig.scrub.isSome then d.setFld Reg.MIG_SCRUB_STAT.result 4
    else if s % 64 != 0 || n % 64 != 0 || r % 64 != 0 || n == 0 || !(d.inFitted s n) || !(d.inFitted r 64) ||
        (Nat.ble s r && Nat.blt r (s + n)) then d.setFld Reg.MIG_SCRUB_STAT.result 3
    else
      let d := d.modMig fun g => { g with scrub := some ⟨s, n, r, s, d.tb2ns, 0, 0, 0, 0, 0, 0, passId % 2 ^ 16, false⟩ }
      let d := (d.setFld Reg.MIG_SCRUB_STAT.state 1).setFld Reg.MIG_SCRUB_STAT.pass_id passId
      (d.setFld Reg.MIG_SCRUB_STAT.result 0).setPair Reg.MIG_SCRUB_POS_LO.addr s

/-- The refetches in force that the scrubber waits for. -/
def Dev.scrubOpen (d : Dev) : Nat := (d.mig.refetches.filter (fun r => r.waiting.any (fun w => w.1 == Requester.scrub))).length

/-- SCRUB_CANCEL (R305): the pass ends after its current line; its refetches are left to their timeouts. -/
def Dev.scrubCancel (d : Dev) : Dev :=
  if !(d.responds Reg.MIG_SCRUB_CTL.addr) then d
  else match d.mig.scrub with
    | none => d
    | some _ =>
      let n := d.scrubOpen
      (d.modScrub fun s => { s with cancelled := true, openAtCancel := n }).setFld Reg.MIG_SCRUB_STAT.state 2

/-- A line poisoned by the scrubber (R304). -/
def Dev.scrubPoison (ns line cls rereads : Nat) (data : List Byte) (d : Dev) : Dev :=
  let d := d.poisonLine line data
  let d := d.modScrub fun s => { s with poisoned := s.poisoned + 1 }
  let d := (d.addFld (Reg.MIG_CNT.count 4) 1).raiseTo none 0x0E04 Sev.warn 0x71 (64 * line) cls
  d.faultLog ns line .scrub 5 cls rereads 0

/-- A page-cache line that cannot be recovered (Table 15-3): the current entry is no longer committed, and its header says so. -/
def Dev.pcacheLineLost (line : Nat) (d : Dev) : Dev :=
  let base := d.run.entryBase
  if Nat.ble base (64 * line) && Nat.blt (64 * line) (base + d.run.entryLen) &&
      (d.lineMeta line).gen == d.fld Reg.RUN_PCACHE_STAT.generation && d.flag Reg.RUN_PCACHE_STAT.committed then
    let h := d.mem.readBytes base 60
    let h := h.take 3 ++ [0#8] ++ h.drop 4
    (d.setFlag Reg.RUN_PCACHE_STAT.committed false).memWriteGen 0x29 (d.fld Reg.RUN_PCACHE_STAT.generation) base
      (h ++ leBytes 4 (crc32c h))
  else d

/-- SCRUB_READ (R303, R304): the line at the scrub position is read (first, then rereads); it is recovered, refetched or
poisoned by its class, or waits with the readers of a line that is being recovered (R302), and the position moves on. A pass under
cancellation or in panic reads nothing, nor from a subchannel that an alert has stopped. -/
def Dev.scrubRead (first : ReadLine) (again : List ReadLine) (d : Dev) : Dev :=
  match d.mig.scrub with
  | none => d
  | some s =>
    if s.cancelled || Nat.ble (s.start + s.len) s.pos || d.flag Reg.MEM_STAT.panic || Nat.ble 64 d.scrubOpen || d.lineStopped (s.pos / 64) then d
    else
      let line := s.pos / 64
      let k := d.recoveryClass line first
      let d := (d.countRead (64 * line) 64).count 0xE4 1
      let d := if (d.refetchOf line).isSome then d.refetchStart line .scrub 0 first.data else match d.readOutcome line none first again with
        | .clean _ => d
        | .reread g n =>
          ((d.writeBack line g).reportRecovered d.tb2ns line .scrub 1 k n (laneMask first g)).modScrub fun s => { s with reread := s.reread + 1 }
        | .poisoned n =>
          (d.reportUnrecoverable d.tb2ns line .scrub 2 k n).modScrub fun s => { s with already := s.already + 1 }
        | .refetch n => d.refetchStart line .scrub n first.data
        | .recompute n => (d.pcacheLineLost line).scrubPoison d.tb2ns line k n first.data
        | .failed n => d.scrubPoison d.tb2ns line k n first.data
      let d := d.modScrub fun s => { s with pos := s.pos + 64, linesRead := s.linesRead + 1 }
      let d := d.setPair Reg.MIG_SCRUB_POS_LO.addr (s.pos + 64)
      d.when (Nat.ble (s.start + s.len) (s.pos + 64)) fun d => d.setFld Reg.MIG_SCRUB_STAT.state 2

/-- SCRUB_END (R305): the last line read and every refetch settled, or cancelled: the summary record (Table 15-6) and
EV_MIG_SCRUB_DONE. -/
def Dev.scrubEnd (d : Dev) : Dev :=
  match d.mig.scrub with
  | none => d
  | some s =>
    if !s.cancelled && (Nat.blt s.pos (s.start + s.len) || d.scrubOpen != 0) then d
    else
      let result := if s.cancelled then 2 else 1
      let bs := leBytes 8 s.start ++ leBytes 8 s.len ++ leBytes 8 s.startNs ++ leBytes 8 d.tb2ns ++ leBytes 8 s.linesRead ++
        leBytes 4 s.reread ++ leBytes 4 s.refetched ++ leBytes 4 s.poisoned ++ leBytes 4 s.already ++
        leBytes 4 s.openAtCancel ++ leBytes 2 s.passId ++ leBytes 1 result ++ leBytes 1 0
      let d := d.memWrite 0x71 s.record bs
      let d := d.modMig fun g => { g with scrub := none }
      let d := (d.setFld Reg.MIG_SCRUB_STAT.state 0).setFld Reg.MIG_SCRUB_STAT.result result
      d.raiseTo none 0x0E05 Sev.info 0x71 s.record (result * 2 ^ 56 + s.poisoned)

/-- Is a line's write held back: its subchannel is stopped (R288), or the channel's write queue is full? -/
def Dev.writeHeld (d : Dev) (line : Nat) : Bool :=
  let q := (Tab.get d.memc.chans Chan.idle (d.channelOf (64 * line))).queued
  d.lineStopped line || Nat.ble 128 (q.1 + q.2)

/-- MEM_WRITE_ACCEPT (R288, R290, R295, R297): a write of a source enters its channel's write queue and is visible from then on;
a partial line is merged. A write beyond fitted memory has no line to go to, and one that must wait is not accepted. -/
def Dev.memWriteAccept (src gen a : Nat) (bs : List Byte) (d : Dev) : Dev :=
  if !(d.inFitted a bs.length) || (linesOf a bs.length).any d.writeHeld then d else d.memWriteGen src gen a bs

end Sys2Proof.Machine
end

