-- ==== Sys2Proof/Machine/Pmu.lean ====
section
/-! DEFINITION. Machine/Pmu.lean: performance monitoring (chapter 22): snapshots and freezing (R414, R415), command sampling
(R416), tagged placements (R417, R418). Counting itself is `Dev.count`. -/

namespace Sys2Proof.Machine

/-- The event ring of PMU records. -/
def Dev.pmuRing (d : Dev) : Nat := d.fld Reg.PMU_CFG.pmu_evr

/-- The snapshot completes at its cut (R414): the 256 counters go to the shadow bank; cause 1 PMU_CTL, 2 trigger, 3 SAFE. -/
def Dev.pmuSnap (cause : Nat) (d : Dev) : Dev :=
  let d := (List.range 256).foldl (fun d e => d.setPair (Reg.PMU_SHD_LO.addr e) (d.pair (Reg.PMU_CNT_LO.addr e))) d
  let d := (d.setPair Reg.PMU_SNAP_TIME_LO.addr d.tb2ns).addFld Reg.PMU_STAT.snap_seq 1
  d.when (d.flag Reg.PMU_CFG.snap_evt) fun d =>
    d.raiseTo (some d.pmuRing) 0x1501 Sev.info 0xA8 (d.fld Reg.PMU_STAT.snap_seq) cause

/-- PMU_CLEAR (R414). -/
def Dev.pmuClear (d : Dev) : Dev :=
  if !(d.responds Reg.PMU_CTL.addr) then d
  else (List.range 256).foldl (fun d e => d.setPair (Reg.PMU_CNT_LO.addr e) 0) d

/-- PMU_SNAP by a PMU_CTL write (R415). -/
def Dev.pmuSnapWrite (d : Dev) : Dev :=
  if !(d.responds Reg.PMU_CTL.addr) then d
  else if d.flag Reg.PMU_STAT.snap_busy then d.satFld Reg.PMU_STAT.snap_missed 1
  else d.pmuSnap 1

/-- PMU_FREEZE (R414, R415): it wins over an unfreeze of the same write, and changes nothing while frozen. -/
def Dev.pmuFreeze (d : Dev) : Dev :=
  if d.responds Reg.PMU_CTL.addr then d.setFlag Reg.PMU_STAT.frozen true else d

/-- PMU_UNFREEZE (R414). -/
def Dev.pmuUnfreeze (d : Dev) : Dev :=
  if d.responds Reg.PMU_CTL.addr then d.setFlag Reg.PMU_STAT.frozen false else d

/-! ### Command samples (R416) -/

/-- The last command of context `k` named by the pending sample. -/
def Dev.pmuSampleRaise (k : Nat) (d : Dev) : Dev :=
  let c := Tab.get d.seq.ctxs Ctx.idle k
  (d.modPmu fun p => { p with sample := none }).raiseTo (some d.pmuRing) 0x1502 Sev.info 0xA8 (k * 2 ^ 56 + c.lastCmd) c.lastWord

/-- A pending sample of context `k` is one command nearer to the end of its skid, and raised there. -/
def Dev.pmuSkid (k : Nat) (d : Dev) : Dev :=
  match d.pmu.sample with
  | some (j, n) =>
    if j ≠ k then d else if n ≤ 1 then d.pmuSampleRaise k else d.modPmu fun p => { p with sample := some (j, n - 1) }
  | none => d

/-- The down-counter of sampled commands goes on; at 0 a sample of context `k` is taken, with a skid that is a free number of at most
16 commands, unless one is pending. -/
def Dev.pmuPeriod (k : Nat) (d : Dev) : Dev :=
  if d.flag Reg.PMU_SAMP_CFG.samp_en && (d.flag Reg.PMU_SAMP_CFG.samp_all || d.fld Reg.PMU_SAMP_CFG.samp_ctx == k) then
    if d.pmu.down ≤ 1 then
      let d := d.modPmu fun p => { p with down := d.fld Reg.PMU_SAMP_CFG.period_m1 + 1 }
      if d.pmu.sample.isSome then d.satFld Reg.PMU_SAMPLE_STAT.samp_lost 1
      else
        let skid := Config.freeNat d.freshSeed % 17
        let d := d.useFree 1
        if skid = 0 then d.pmuSampleRaise k else d.modPmu fun p => { p with sample := some (k, skid) }
    else d.modPmu fun p => { p with down := p.down - 1 }
  else d

/-- A command of context `k` has executed: it is counted, and may be sampled (R416). -/
def Dev.pmuCommand (k : Nat) (d : Dev) : Dev := ((d.count (0x10 + k) 1).pmuSkid k).pmuPeriod k

/-- Context `k` waits or its chain ends: a pending sample of it names the last command it executed. -/
def Dev.pmuContextStops (k : Nat) (d : Dev) : Dev :=
  match d.pmu.sample with
  | some (j, _) => if j = k then d.pmuSampleRaise k else d
  | none => d

/-! ### Tagged placements (R417, R418) -/

/-- One EV_PMU_TAG of a stage. -/
def Dev.tagEvent (stage tag detail arg1 : Nat) (d : Dev) : Dev :=
  d.raiseTo (some d.pmuRing) 0x1503 Sev.info 0xA8 (stage * 2 ^ 56 + tag * 2 ^ 32 + detail) arg1

/-- PMU_SAMPLE_STAT.in_flight follows the placements followed. -/
def Dev.tagCount (d : Dev) : Dev := d.setFld Reg.PMU_SAMPLE_STAT.in_flight d.pmu.followed.length

/-- The next value of L. -/
def tagNext (l : Nat) : Nat := Nat.xor (l / 2) (if l % 2 = 1 then 0x80200003 else 0)

/-- A placement executes on context 0 (R417): L advances; the tag number it takes, if it is tagged. `writes` tells whether it
writes an element on this device; one that does not raises only ISSUE with detail 1. -/
def Dev.tagPlacement (writes : Bool) (r : TagRec) (cmd : Nat) (d : Dev) : Option Nat × Dev :=
  let d := d.count 0x18 1
  if !(d.flag Reg.PMU_CFG.tag_en) then (none, d)
  else
    let l := tagNext d.pmu.l
    let d := d.modPmu fun p => { p with l := l }
    if l % 2 ^ d.fld Reg.PMU_CFG.tag_n ≠ 0 then (none, d)
    else if 64 ≤ d.pmu.followed.length then (none, d.satFld Reg.PMU_SAMPLE_STAT.tag_lost 1)
    else
      let n := d.pmu.nextTag
      let d := (d.modPmu fun p => { p with nextTag := (n + 1) % 2 ^ 16 }).tagEvent 1 n (if writes then 0 else 1) cmd
      if writes then (some n, (d.modPmu fun p => { p with followed := Tab.put p.followed n { r with stage := 1 } }).tagCount)
      else (none, d)

/-- A followed placement reaches a stage. -/
def Dev.tagReach (n stage detail arg1 : Nat) (d : Dev) : Dev :=
  match Tab.find d.pmu.followed n with
  | none => d
  | some r =>
    if Nat.ble stage r.stage then d
    else
      let d := d.tagEvent stage n detail arg1
      if 6 ≤ stage then (d.modPmu fun p => { p with followed := Tab.del p.followed n }).tagCount
      else d.modPmu fun p => { p with followed := Tab.put p.followed n { r with stage := stage } }

/-- Every followed placement that satisfies `p` reaches a stage, with the argument `arg1` gives. -/
def Dev.tagReachAll (p : TagRec → Bool) (stage detail : Nat) (arg1 : TagRec → Nat) (d : Dev) : Dev :=
  (d.pmu.followed.filter (fun e => p e.2)).foldl (fun d e => d.tagReach e.1 stage detail (arg1 e.2)) d

/-- arg1 of the stages COMPOSE, COMMIT and DISCARD. -/
def TagRec.bandArg (r : TagRec) : Nat := r.index * 2 ^ 32 + r.band

/-- arg1 of the stages CORRECT and FIRE. -/
def TagRec.lineArg (r : TagRec) : Nat := r.index * 2 ^ 32 + r.line

end Sys2Proof.Machine
end

