-- ==== Sys2Proof/Machine/PrintMath.lean ====
section
/-! DEFINITION. Machine/PrintMath.lean: the arithmetic of the print path as functions of plain data: orientation and blends
(R147 to R152), dose correction (R166), ports and stitch zones (R177 to R184). -/

namespace Sys2Proof.Machine

/-! ### Geometry -/

/-- Planes P, interleave I and columns C (R2, CMP_GEOM). -/
structure Geom where
  planes : Nat
  rows : Nat
  cols : Nat
deriving DecidableEq, Repr

/-- The geometry in force. -/
def Dev.geom (d : Dev) : Geom :=
  ⟨2 ^ d.fld Reg.CMP_GEOM.p_log2, 2 ^ d.fld Reg.CMP_GEOM.i_log2, 2 ^ (18 - d.fld Reg.CMP_GEOM.p_log2 - d.fld Reg.CMP_GEOM.i_log2)⟩

/-- The index of a band-buffer element (R146): two to a byte, even columns low. -/
def Geom.index (g : Geom) (l p c : Nat) : Nat := (l * g.planes + p) * g.cols + c

/-- The number of an element (R164). -/
def Geom.element (g : Geom) (p r c : Nat) : Nat := (p * g.rows + r) * g.cols + c

/-! ### Placements -/

/-- Width and height of a footprint (R147). -/
def footprint (orient w h : Nat) : Nat × Nat := if orient % 2 = 1 then (h, w) else (w, h)

/-- The tile column and row that footprint element (u, v) takes its value from (Table 7-1), for a tile of `w` columns and
`h` rows. -/
def orientSource (orient w h u v : Nat) : Nat × Nat :=
  match orient with
  | 0 => (u, v)
  | 1 => (v, h - 1 - u)
  | 2 => (w - 1 - u, h - 1 - v)
  | 3 => (w - 1 - v, u)
  | 4 => (w - 1 - u, v)
  | 5 => (w - 1 - v, h - 1 - u)
  | 6 => (u, h - 1 - v)
  | _ => (v, u)

/-- The dose of a tile at column `i` and row `j` (R121): two to a byte, even columns low. -/
def tileDose (bytes : List Byte) (w i j : Nat) : Nat :=
  let b := (bytes.getD (j * (w / 2) + i / 2) 0#8).toNat
  if i % 2 = 0 then b % 16 else b / 16

/-- A blend of the band's value with the placement's (Table 7-2). -/
def blend (code b t : Nat) : Nat :=
  match code with
  | 0 => t
  | 1 => max b t
  | 2 => min b t
  | 3 => min (b + t) 15
  | 4 => if b ≠ 0 then b else t
  | _ => if t ≠ 0 then 0 else b

/-- MASK (R152): the element is cleared where the tile value is at the threshold or above, or below it when inverted. -/
def maskValue (invert : Bool) (thresh b t : Nat) : Nat :=
  if (if invert then Nat.blt t thresh else Nat.ble thresh t) then 0 else b

/-! ### Dose correction (R166) -/

/-- What the correction of one plane of one line reads: the doses, the tables and the switches, by device column. -/
structure CorrectIn where
  rows : Nat
  cols : Nat
  hideEn : Bool
  keepWhite : Bool
  dose : List Nat
  defect : List Bool
  curve : List (List Nat)
  hideCurve : List Nat
  weight : List Nat
  carry : List Int
deriving DecidableEq, Repr


/-- The dose requested in column `c`. -/
def CorrectIn.d (x : CorrectIn) (c : Nat) : Nat := x.dose.getD c 0
/-- Asked for nothing and kept white. -/
def CorrectIn.white (x : CorrectIn) (c : Nat) : Bool := x.keepWhite && x.d c == 0
/-- Defective and hidden. -/
def CorrectIn.dead (x : CorrectIn) (c : Nat) : Bool := x.hideEn && x.defect.getD c false
/-- The ink asked for: the curve's value and the carry. `curve` lists each column's curve. -/
def CorrectIn.t (x : CorrectIn) (c : Nat) : Int :=
  (((if x.dead c then x.hideCurve else x.curve.getD c []).getD (x.d c) 0 : Nat) : Int) + x.carry.getD c 0
/-- Does column `c` give its ink away sideways (I = 1)? -/
def CorrectIn.gives (x : CorrectIn) (c : Nat) : Bool := x.rows == 1 && x.dead c && !(x.white c) && decide (0 < x.t c)
/-- May column `c` receive? -/
def CorrectIn.receives (x : CorrectIn) (c : Nat) : Bool := Nat.blt c x.cols && !(x.dead c) && !(x.white c)
/-- The left neighbour is available. -/
def CorrectIn.okl (x : CorrectIn) (c : Nat) : Bool := c != 0 && x.receives (c - 1)
/-- The right neighbour is available. -/
def CorrectIn.okr (x : CorrectIn) (c : Nat) : Bool := x.receives (c + 1)
/-- The share that goes left. -/
def CorrectIn.sl (x : CorrectIn) (c : Nat) : Int :=
  if !(x.gives c) || !(x.okl c) then 0
  else if x.okr c then x.t c * (x.weight.getD (x.d c) 0 : Nat) / 256
  else x.t c
/-- The share that goes right. -/
def CorrectIn.sr (x : CorrectIn) (c : Nat) : Int :=
  if !(x.gives c) || !(x.okr c) then 0
  else if x.okl c then x.t c - x.sl c
  else x.t c
/-- The ink received from both sides. -/
def CorrectIn.share (x : CorrectIn) (c : Nat) : Int :=
  (if Nat.blt (c + 1) x.cols then x.sl (c + 1) else 0) + (if c = 0 then 0 else x.sr (c - 1))
/-- Is the ink of column `c` lost? -/
def CorrectIn.lost (x : CorrectIn) (c : Nat) : Bool := x.gives c && !(x.okl c) && !(x.okr c)
/-- The exact ink to requantise. -/
def CorrectIn.u (x : CorrectIn) (c : Nat) : Int := x.t c + x.share c
/-- The output dose. -/
def CorrectIn.q (x : CorrectIn) (c : Nat) : Nat :=
  if x.white c || x.dead c then 0 else (clampInt 0 15 ((x.u c + 136) / 273)).toNat
/-- The carry before saturation. -/
def CorrectIn.rawCarry (x : CorrectIn) (c : Nat) : Int :=
  if x.white c then 0
  else if x.dead c then (if x.rows = 1 then 0 else x.t c)
  else x.u c - 273 * (x.q c : Nat)
/-- The carry after the line. -/
def CorrectIn.carryOut (x : CorrectIn) (c : Nat) : Int := clampInt (-4096) 4095 (x.rawCarry c)
/-- Did the saturation of the carry change it? -/
def CorrectIn.saturated (x : CorrectIn) (c : Nat) : Bool := x.carryOut c != x.rawCarry c


/-! ### Ports (R177, R178) -/

/-- Ports per row group, S. -/
def Geom.ports (g : Geom) : Nat := 32 / (g.planes * g.rows)
/-- Row group of logical port `k`. -/
def Geom.group (g : Geom) (k : Nat) : Nat := k / g.ports
/-- Plane of logical port `k`. -/
def Geom.plane (g : Geom) (k : Nat) : Nat := g.group k / g.rows
/-- Row of logical port `k`. -/
def Geom.row (g : Geom) (k : Nat) : Nat := g.group k % g.rows
/-- Segment of logical port `k`. -/
def Geom.segment (g : Geom) (k : Nat) : Nat := k % g.ports

/-- Is head port `k` enabled by HEADPORTS (R180)? -/
def Dev.portEnabled (d : Dev) (k : Nat) : Bool := (d.fld Reg.HLK_PORT_EN.en).testBit k
/-- The enabled ports, ascending. -/
def Dev.enabledPorts (d : Dev) : List Nat := (List.range 32).filter d.portEnabled
/-- First column s_k of port `k`. -/
def Dev.portFirst (d : Dev) (k : Nat) : Int := (8192 * d.geom.segment k : Nat) + d.sfld (Reg.ASM_PORT_COL.col_shift k)
/-- Element count n_k of port `k`. -/
def Dev.portElems (d : Dev) (k : Nat) : Nat := d.fld (Reg.ASM_PORT_CFG.elems_m1 k) + 1
/-- Row offset off_k of port `k`. -/
def Dev.portOffset (d : Dev) (k : Nat) : Nat := d.fld (Reg.ASM_PORT_CFG.offset k)
/-- The largest offset of the enabled ports. -/
def Dev.offMax (d : Dev) : Nat := (d.enabledPorts.map d.portOffset).foldl max 0
/-- The offset in force for a pass direction (R185). -/
def Dev.effOffset (d : Dev) (reverse : Bool) (k : Nat) : Nat :=
  if reverse then d.offMax - d.portOffset k else d.portOffset k
/-- Device column of element `n` of port `k`. -/
def Dev.portColumn (d : Dev) (k n : Nat) : Nat :=
  let w := if d.flag (Reg.ASM_PORT_CFG.mirror k) then d.portElems k - 1 - n else n
  (d.portFirst k + (w : Nat)).toNat

/-! ### Stitching (R181 to R183) -/

/-- The stitch threshold of page line `y` and page column `x` (R181). -/
def stitchThr (y x : Nat) : Nat :=
  let a := Nat.xor (x % 16) (y % 16)
  let b := y % 16
  ((List.range 4).map (fun j =>
    ((if a.testBit j then 2 else 0) + (if b.testBit j then 1 else 0)) * 4 ^ (3 - j))).sum

/-- Weight i of stitch profile m: entry m × 256 + i of table 0x0802, default 128. -/
def Dev.stitchWeight (d : Dev) (m i : Nat) : Nat := Tab.get (Tab.get d.cfg.tables [] 0x0802) 128 (m * 256 + i)

/-- The last device column of port `k`'s span. -/
def Dev.portLast (d : Dev) (k : Nat) : Int := d.portFirst k + (d.portElems k : Nat) - 1

/-- The zone that ports `k` and `k + 1` share: its first column and width, when both belong to one group, are enabled and
overlap (R182). -/
def Dev.joinZone (d : Dev) (k : Nat) : Option (Int × Nat) :=
  if d.geom.group k = d.geom.group (k + 1) ∧ k + 1 < 32 ∧ d.portEnabled k ∧ d.portEnabled (k + 1) then
    let v := d.portLast k + 1 - d.portFirst (k + 1)
    if 1 ≤ v then some (d.portFirst (k + 1), v.toNat) else none
  else none

/-- The enabled ports of the row group of `k`. -/
def Dev.groupPorts (d : Dev) (k : Nat) : List Nat := d.enabledPorts.filter (fun j => d.geom.group j == d.geom.group k)

/-- Does port `k`'s element in device column `c` receive the dose on page line `y` (R182, R183)? -/
def Dev.stitchTakes (d : Dev) (k c y : Nat) : Bool :=
  let x := d.fld Reg.CMP_X_ORIGIN.x_origin + c
  let thr := stitchThr y x
  let ci : Int := c
  let upper := match d.joinZone k with
    | some (z, w) =>
      if decide (z ≤ ci) && decide (ci < z + (w : Nat)) then
        Nat.blt thr (d.stitchWeight (d.fld (Reg.ASM_PORT_CFG.join_prof k)) (ci - z).toNat)
      else true
    | none => true
  let lower := if k = 0 then true else match d.joinZone (k - 1) with
    | some (z, w) =>
      if decide (z ≤ ci) && decide (ci < z + (w : Nat)) then
        Nat.ble (d.stitchWeight (d.fld (Reg.ASM_PORT_CFG.join_prof (k - 1))) (ci - z).toNat) thr
      else true
    | none => true
  let grp := d.groupPorts k
  let lw := d.fld Reg.ASM_EDGE.left_w
  let rw := d.fld Reg.ASM_EDGE.right_w
  let left :=
    if grp.head? == some k && decide (ci < d.portFirst k + (lw : Nat)) then
      Nat.ble (d.stitchWeight (d.fld Reg.ASM_EDGE.left_prof) (ci - d.portFirst k).toNat) thr
    else true
  let z := d.portLast k + 1 - (rw : Nat)
  let right :=
    if grp.getLast? == some k && decide (z ≤ ci) then
      Nat.blt thr (d.stitchWeight (d.fld Reg.ASM_EDGE.right_prof) (ci - z).toNat)
    else true
  upper && lower && left && right

/-- Doses packed two to a byte, even elements low (R184). -/
def packDoses : List Nat → List Byte
  | [] => []
  | [a] => [BitVec.ofNat 8 (a % 16)]
  | a :: b :: rest => BitVec.ofNat 8 (a % 16 + b % 16 * 16) :: packDoses rest

/-- Doses unpacked. -/
def unpackDoses (bs : List Byte) : List Nat := bs.flatMap (fun b => [b.toNat % 16, b.toNat / 16])

end Sys2Proof.Machine
end

