-- ==== Sys2Proof/Machine/Runners.lean ====
section
/-! DEFINITION. Machine/Runners.lean: the Runners (chapter 6): the tile directory and cache, decodes and their checks (R120 to
R133), the page cache (R139 to R141), the export stream (R135 to R138, R142) and sparing (R143). -/

namespace Sys2Proof.Machine

/-! ### Definitions and cache -/

/-- The definition of a serial number. -/
def Dev.tileDef (d : Dev) (n : Nat) : TileDef := Tab.get d.run.defs TileDef.empty n

/-- A definition changed. -/
def Dev.modDef (n : Nat) (f : TileDef → TileDef) (d : Dev) : Dev :=
  d.modRun fun r => { r with defs := Tab.upd r.defs TileDef.empty n f }

/-- Granules of `n` bytes (512 each). -/
def granules (n : Nat) : Nat := (n + 511) / 512

/-- Granules of the cached entries that satisfy `p`. -/
def Dev.cacheGranules (d : Dev) (p : CacheEntry → Bool) : Nat :=
  ((d.run.cache.filter (fun e => p e.2)).map (fun e => granules e.2.bytes.length)).sum

/-- The frame bytes from a definition's address on. -/
def Dev.frameBytes (d : Dev) (t : TileDef) (o n : Nat) : List Byte := d.mem.readBytes (t.frame + o) n

/-- The header fields of 32 bytes (Table 6-1). -/
def headerOf (bs : List Byte) : Header :=
  { width := leAt bs 4 2, height := leAt bs 6 2, format := leAt bs 3 1, payloadLen := leAt bs 8 4, crc := leAt bs 12 4,
    dictId := leAt bs 16 3, usesDict := leAt bs 19 1 % 2 == 1 }

/-- Bytes of the uncompressed tile, L (R121). -/
def Header.bytes (h : Header) : Nat := h.width * h.height / 2

/-- Is a tile side legal (R121)? -/
def sideOk (n : Nat) : Bool := Nat.ble 16 n && Nat.ble n 256 && n % 16 == 0

/-- The checks 0x1 to 0x4 of Table 6-2 of a frame header, in order; 0 when they pass. -/
def headerStatus (bs : List Byte) (frameLen : Nat) : Nat :=
  let h := headerOf bs
  if leAt bs 0 2 ≠ 0x4654 ∨ leAt bs 2 1 ≠ 1 then DecStat.hdrMagic
  else if crc32c (bs.take 28) ≠ leAt bs 28 4 then DecStat.hdrCrc
  else if !(sideOk h.width) || !(sideOk h.height) || Nat.blt 1 h.format || Nat.blt 1 (leAt bs 19 1) || leAt bs 20 8 != 0 ||
      (h.format == 0 && (h.payloadLen != h.bytes || h.usesDict)) then DecStat.hdrField
  else if frameLen ≠ 32 + h.payloadLen then DecStat.frameLen
  else 0

/-- The status of a definition's header as memory holds it: MEM when its lines are poisoned. -/
def Dev.headerCheck (d : Dev) (t : TileDef) : Nat :=
  if d.rangePoisoned t.frame 32 then DecStat.mem else headerStatus (d.frameBytes t 0 32) t.len

/-- Is a definition in the cache? -/
def Dev.cached (d : Dev) (n : Nat) : Bool := (Tab.find d.run.cache n).isSome

/-- Does a definition's own header use a dictionary: as it was checked for the cached tile, else as memory holds it? -/
def Dev.usesDict (d : Dev) (n : Nat) : Bool :=
  let t := d.tileDef n
  if d.cached n then (match t.header with | some h => h.usesDict | none => false)
  else d.headerCheck t == 0 && (headerOf (d.frameBytes t 0 32)).usesDict

/-- The dictionary a definition's header names: the serial number of a definition with dict = 1 that has not failed and whose own header
does not use a dictionary (Table 6-2, DICT). -/
def Dev.dictOf (d : Dev) (h : Header) : Option Nat :=
  match Tab.find d.run.dir h.dictId with
  | some n => if (d.tileDef n).dict && (d.tileDef n).failed.isNone && !(d.usesDict n) then some n else none
  | none => none

/-- A decode of a definition is asked for by context `k`, unless it is in the cache, asked for, or known to fail (R128). -/
def Dev.requestDecode (k n : Nat) (d : Dev) : Dev :=
  let t := d.tileDef n
  if d.cached n || t.busy || t.failed.isSome then d
  else
    (d.modDef n fun t => { t with busy := true, ctx := k }).modRun fun r =>
      { r with decodes := r.decodes ++ [⟨.tile n, none, none, none⟩] }

/-- The granules a definition's decode takes: none when its header fails. -/
def Dev.tileGranules (d : Dev) (n : Nat) : Nat :=
  let t := d.tileDef n
  if d.headerCheck t = 0 then granules (headerOf (d.frameBytes t 0 32)).bytes else 0

/-- RUN_CACHE_USED, RUN_CACHE_PIN and RUN_DIR_STAT follow the cache and the directory; a decode in progress holds its tile's
granules. -/
def Dev.runCounts (d : Dev) : Dev :=
  let held := ((d.run.decodes.filter (fun q => q.decoder.isSome)).map fun q => match q.item with
    | .tile n => d.tileGranules n
    | .seg _ _ _ => 0).sum
  let d := d.setFld Reg.RUN_CACHE_USED.used (d.cacheGranules (fun _ => true) + held)
  let d := d.setFld Reg.RUN_CACHE_PIN.pinned (d.cacheGranules (·.pinned))
  d.setFld Reg.RUN_DIR_STAT.defined d.run.dir.length

/-- A definition that the directory no longer names, that no placement uses and that no decode works on is gone, and its
entry is freed (R133). -/
def Dev.freeDef (n : Nat) (d : Dev) : Dev :=
  let t := d.tileDef n
  if t.current || t.refs != 0 || t.busy then d
  else (d.modRun fun r => { r with defs := Tab.del r.defs n, cache := Tab.del r.cache n }).runCounts

/-- The directory's definition of a tile ID withdrawn (TILE_DROP, or a TILE_DEF that replaces it). -/
def Dev.undefine (tile : Nat) (d : Dev) : Dev :=
  match Tab.find d.run.dir tile with
  | none => d
  | some n =>
    let d := d.modRun fun r => { r with dir := Tab.del r.dir tile }
    ((d.modDef n fun t => { t with current := false }).freeDef n).runCounts

/-- A tile ID bound to a frame (TILE_DEF), with a new serial number. -/
def Dev.define (k tile frame len : Nat) (pin dict : Bool) (d : Dev) : Dev :=
  let d := d.undefine tile
  let n := d.run.nextDef
  let d := d.modRun fun r => { r with
    nextDef := n + 1
    dir := Tab.put r.dir tile n
    defs := Tab.put r.defs n { TileDef.empty with tile := tile, frame := frame, len := len, pin := pin, dict := dict, ctx := k, current := true } }
  (d.runCounts).when (pin || dict) fun d => d.requestDecode k n

/-- A placement stops using a definition (R131, R133); `composed` when the composer has finished it. -/
def Dev.releaseRef (n : Nat) (composed : Bool) (d : Dev) : Dev :=
  let c := d.run.placeCount + 1
  let d := if composed then d.modRun fun r => { r with placeCount := c } else d
  (d.modDef n fun t => { t with refs := t.refs - 1, placed := if composed then c else t.placed }).freeDef n

/-! ### Starting a decode -/

/-- Does an active decode use the entry as its dictionary? -/
def Dev.dictInUse (d : Dev) (n : Nat) : Bool :=
  d.run.decodes.any fun q => q.decoder.isSome && (match q.item with
    | .tile m =>
      let h := headerOf (d.frameBytes (d.tileDef m) 0 32)
      h.usesDict && d.dictOf h == some n
    | .seg _ _ _ => false)

/-- The entries that may be evicted, in eviction order (R131): unpinned, unreferenced, not a dictionary in use, nor `keep`, the dictionary
of the tile that is starting; least recent placement first, never placed oldest and among them the one decoded first. -/
def Dev.evictable (d : Dev) (keep : Option Nat) : List Nat :=
  let es := d.run.cache.filter fun e => !e.2.pinned && (d.tileDef e.1).refs == 0 && !(d.dictInUse e.1) && keep != some e.1
  (sortBy (fun a b => decide
    ((d.tileDef a.1).placed < (d.tileDef b.1).placed ∨
     ((d.tileDef a.1).placed = (d.tileDef b.1).placed ∧ a.2.decoded ≤ b.2.decoded))) es).map (·.1)

/-- Entries evicted in order until `need` granules of the 65,536 are free. -/
def Dev.evictFor (need : Nat) : List Nat → Dev → Dev
  | [], d => d
  | n :: rest, d =>
    if Nat.ble (d.fld Reg.RUN_CACHE_USED.used + need) 65536 then d
    else (((d.modRun fun r => { r with cache := Tab.del r.cache n }).runCounts).count 0x3C 1).evictFor need rest

/-- Is decoder `u` active and free? -/
def Dev.decoderFree (d : Dev) (u : Nat) : Bool :=
  (d.fld Reg.RUN_DEC_STAT.active).testBit u && !(d.run.decodes.any (fun q => q.decoder == some u))

/-- A waiting decode of an item given to a decoder. -/
def assignDecoder (u : Nat) (item : DecItem) : List Decode → List Decode
  | [] => []
  | q :: qs => if q.decoder.isNone && q.item == item then { q with decoder := some u } :: qs else q :: assignDecoder u item qs

/-- The dictionary a tile needs and the cache lacks, if its header is sound. -/
def Dev.dictMissing (d : Dev) (n : Nat) : Option Nat :=
  let t := d.tileDef n
  let h := headerOf (d.frameBytes t 0 32)
  if d.headerCheck t = 0 && h.usesDict then
    match d.dictOf h with
    | some m => if d.cached m then none else some m
    | none => none
  else none

/-- The first waiting decode that decoder `u` can take, in the order made (R128): not a second attempt of its own; a tile whose dictionary is
missing waits for the dictionary, whose decode comes first, and one whose dictionary is on a decoder lets the next pass. -/
def Dev.nextDecode (u : Nat) (d : Dev) : List Decode → Option Decode
  | [] => none
  | q :: qs =>
    let again : Bool := q.avoid == some u || (match q.first with | some (v, _) => v == u | none => false)
    if q.decoder.isSome || again then d.nextDecode u qs
    else match q.item with
      | .seg _ _ _ => some q
      | .tile n =>
        match d.dictMissing n with
        | none => some q
        | some m =>
          match d.run.decodes.find? (fun x => x.item == .tile m) with
          | none => some ⟨.tile m, none, none, none⟩
          | some x => if x.decoder.isSome || x.avoid == some u || (match x.first with | some (v, _) => v == u | none => false) then d.nextDecode u qs
            else some x

/-- DECODE_START (R127, R128, R131): decoder `u`, free and active, takes the next decode; granules are freed for a tile, and the decode
waits while nothing can be evicted. A dictionary that is asked for by a tile's decode is asked for by that tile's context. -/
def Dev.decodeStart (u : Nat) (d : Dev) : Dev :=
  if !(d.decoderFree u) then d
  else match d.nextDecode u d.run.decodes with
    | none => d
    | some q =>
      match q.item with
      | .seg _ _ _ => (d.modRun fun r => { r with decodes := assignDecoder u q.item r.decodes }).runCounts
      | .tile n =>
        let h := headerOf (d.frameBytes (d.tileDef n) 0 32)
        let need := d.tileGranules n
        let d := d.evictFor need (d.evictable (if h.usesDict then d.dictOf h else none))
        if Nat.blt 65536 (d.fld Reg.RUN_CACHE_USED.used + need) then d
        else
          let asker := d.run.decodes.findSome? fun x => match x.item with
            | .tile m => if d.dictMissing m = some n then some (d.tileDef m).ctx else none
            | .seg _ _ _ => none
          let d := if d.run.decodes.any (fun x => x.item == q.item) then d
            else (d.modDef n fun t => { t with busy := true, ctx := asker.getD t.ctx }).modRun fun r => { r with decodes := q :: r.decodes }
          let d := d.modRun fun r => { r with decodes := assignDecoder u q.item r.decodes }
          (d.when q.first.isSome fun d => d.addFld Reg.RUN_RETRIES.count 1).runCounts

/-! ### The result of a decode -/

/-- The bytes of a range up to the first poisoned line (R306). -/
def Dev.bytesBefore (d : Dev) (a n : Nat) : List Byte :=
  match (linesOf a n).find? (fun l => (d.lineMeta l).poison) with
  | some l => d.mem.readBytes a (64 * l - a)
  | none => d.mem.readBytes a n

/-- The bytes of a tile definition, or the status of its failure, by the checks of Table 6-2 in order; `dict` gives the dictionary's bytes. A
stream that runs into a poisoned line fails with MEM, one that ends or fails before it does not read it (R125, R126). -/
def Dev.decodeWith (d : Dev) (dict : Header → Except Nat (List Byte)) (n : Nat) : Except Nat (List Byte) :=
  let t := d.tileDef n
  let st := d.headerCheck t
  if st ≠ 0 then .error st
  else
    let h := headerOf (d.frameBytes t 0 32)
    let payload := d.bytesBefore (t.frame + 32) h.payloadLen
    let whole := payload.length == h.payloadLen
    match (if h.usesDict then dict h else .ok []) with
    | .error e => .error e
    | .ok dict =>
      match (if h.format = 0 then (if whole then .ok payload else .error DecStat.mem) else inflateTile payload dict h.bytes) with
      | .error e => .error (if e = DecStat.truncated && !whole then DecStat.mem else e)
      | .ok bs => if crc32c bs = h.crc then .ok bs else .error DecStat.tileCrc

/-- The dictionary's bytes from the cache (R124). -/
def Dev.dictCached (d : Dev) (h : Header) : Except Nat (List Byte) :=
  match d.dictOf h with
  | some m => match Tab.find d.run.cache m with
    | some e => .ok e.bytes
    | none => .error DecStat.dict
  | none => .error DecStat.dict

/-- A tile's decode. -/
def Dev.decodeTile (d : Dev) (n : Nat) : Except Nat (List Byte) := d.decodeWith d.dictCached n

/-- The dictionary's bytes, decoded when the cache lacks it (R128, R158). -/
def Dev.dictFresh (d : Dev) (h : Header) : Except Nat (List Byte) :=
  match d.dictOf h with
  | some m => match Tab.find d.run.cache m with
    | some e => .ok e.bytes
    | none => d.decodeWith (fun _ => .error DecStat.dict) m
  | none => .error DecStat.dict

/-- Number of bits set among the low `n`. -/
def popCount (v n : Nat) : Nat := ((List.range n).filter (fun i => v.testBit i)).length

/-- A decoder is retired (R143): a spare takes its place while one remains and fewer than 24 are active; its work is redone. -/
def Dev.decoderRetire (u : Nat) (d : Dev) : Dev :=
  if (d.fld Reg.RUN_DEC_RETIRED.retired).testBit u then d
  else
    let wasActive := (d.fld Reg.RUN_DEC_STAT.active).testBit u
    let d := d.setFld Reg.RUN_DEC_RETIRED.retired (Nat.lor (d.fld Reg.RUN_DEC_RETIRED.retired) (2 ^ u))
    let d := d.setFld Reg.RUN_DEC_STAT.active (Nat.land (d.fld Reg.RUN_DEC_STAT.active) (Nat.xor 0x3FFFFFF (2 ^ u)))
    let redo := (d.run.decodes.filter (fun q => q.decoder == some u)).map (fun q => { q with decoder := none })
    let d := d.modRun fun r => { r with decodes := redo ++ r.decodes.filter (fun q => q.decoder != some u) }
    if !wasActive then d
    else
      let idle := (List.range 26).find? fun v =>
        !((d.fld Reg.RUN_DEC_STAT.active).testBit v) && !((d.fld Reg.RUN_DEC_RETIRED.retired).testBit v)
      match idle with
      | some v =>
        (d.setFld Reg.RUN_DEC_STAT.active (Nat.lor (d.fld Reg.RUN_DEC_STAT.active) (2 ^ v))).raiseTo none 0x0503 Sev.degraded 0x28 u v
      | none => d.raiseTo none 0x0504 Sev.degraded 0x28 u (popCount (d.fld Reg.RUN_DEC_STAT.active) 26)

/-- One fault of a decoder counted; at fail_limit it is retired. -/
def Dev.decoderFault (u : Nat) (d : Dev) : Dev :=
  let n := Tab.get d.run.decFaults 0 u + 1
  let d := d.modRun fun r => { r with decFaults := Tab.set r.decFaults 0 u n }
  d.when (Nat.ble (d.fld Reg.RUN_SPARE_CFG.fail_limit) n) fun d => d.decoderRetire u

/-- The decode of decoder `u` taken off the list. -/
def Dev.decodeOff (u : Nat) (d : Dev) : Dev :=
  d.modRun fun r => { r with decodes := r.decodes.filter (fun q => q.decoder != some u) }

/-- The event ring of a context (R104). -/
def Dev.evtRing (d : Dev) (k : Nat) : Nat := (Tab.get d.seq.ctxs Ctx.idle k).evtRing

/-- A tile enters the cache, pinned when its definition asks and the limit allows (R132). -/
def Dev.cacheInsert (n : Nat) (bs : List Byte) (d : Dev) : Dev :=
  let t := d.tileDef n
  let g := granules bs.length
  let pinned := d.fld Reg.RUN_CACHE_PIN.pinned
  let wants := (t.pin || t.dict) && !t.unpinned
  let fits := Nat.ble (pinned + g) (d.fld Reg.RUN_CACHE_CFG.pin_limit_mib * 2048)
  let c := d.run.decodeCount + 1
  let d := d.modRun fun r => { r with decodeCount := c, cache := Tab.put r.cache n ⟨bs, wants && fits, c⟩ }
  let d := d.when (wants && !fits) fun d =>
    (d.modDef n fun t => { t with unpinned := true }).raiseTo (some (d.evtRing t.ctx)) 0x0505 Sev.warn 0x28 t.tile pinned
  d.runCounts

/-- A tile's decode has failed with MEM: the poisoned line it met is reported (R300). -/
def Dev.decodePoison (n : Nat) (res : Except Nat (List Byte)) (d : Dev) : Dev :=
  match res with
  | .error st => d.when (st == DecStat.mem) fun d => d.reportPoison (d.tileDef n).frame (d.tileDef n).len 0x28
  | .ok _ => d

/-- The end of a tile's decode on decoder `u` with a status or bytes (R126, R127); true when a failure stands. -/
def Dev.tileDecoded (u n : Nat) (first : Option (Nat × Nat)) (res : Except Nat (List Byte)) (d : Dev) : Dev × Bool :=
  let t := d.tileDef n
  match res with
  | .ok bs =>
    let d := (d.modDef n fun t => { t with busy := false, header := some (headerOf (d.frameBytes t 0 32)) }).cacheInsert n bs
    let d := match first with
      | some (v, st) => (d.raiseTo (some (d.evtRing t.ctx)) 0x0502 Sev.recovered 0x28 (st * 2 ^ 56 + v * 2 ^ 48 + t.tile) t.frame).decoderFault v
      | none => d
    (d.freeDef n, false)
  | .error st =>
    if first.isNone && st != DecStat.mem && st != DecStat.dict then
      ((d.modRun fun r => { r with decodes := ⟨.tile n, none, some (u, st), none⟩ :: r.decodes }).runCounts, false)
    else
      let d := d.modDef n fun t => { t with busy := false, failed := some st }
      let d := d.raiseTo (some (d.evtRing t.ctx)) 0x0501 Sev.warn 0x28 (st * 2 ^ 56 + u * 2 ^ 48 + t.ctx * 2 ^ 40 + t.tile) t.frame
      ((d.freeDef n).runCounts, true)

/-! ### The page cache (R139 to R141) -/

/-- Bands of a page of `n` lines. -/
def bandsOf (n : Nat) : Nat := (n + 63) / 64

/-- Lines of band `b` of a page of `n` lines. -/
def bandLines (n b : Nat) : Nat := min 64 (n - 64 * b)

/-- Lines of segment `s` of a band of `n` lines. -/
def segLines (n s : Nat) : Nat := min 16 (n - 16 * s)

/-- Bytes of the band directory (R139). -/
def dirBytes (bands : Nat) : Nat := (64 * bands + 4095) / 4096 * 4096

/-- The header of an entry (Table 6-6). -/
def pcacheHeader (committed : Bool) (gen length image : Nat) : List Byte :=
  let bs := leBytes 2 0x4350 ++ [1#8, if committed then 1#8 else 0#8] ++ leBytes 4 gen ++ leBytes 4 length ++
    leBytes 4 (bandsOf length) ++ leBytes 4 image ++ List.replicate 40 0#8
  bs ++ leBytes 4 (crc32c bs)

/-- The image's header_crc (CFG_IMAGE_CRC). -/
def Dev.imageCrc (d : Dev) : Nat := (d.reg Reg.CFG_IMAGE_CRC.addr).toNat

/-- The generation of the current entry. -/
def Dev.pcacheGen (d : Dev) : Nat := d.fld Reg.RUN_PCACHE_STAT.generation

/-- A write of page-cache lines with their generation, source 0x29 (R140). -/
def Dev.pcacheWrite (a : Nat) (bs : List Byte) (d : Dev) : Dev := d.memWriteGen 0x29 d.pcacheGen a bs

/-- Is encoder `e` free for a segment: not retired, not the rejoin stream's, not busy? -/
def Dev.encoderFree (d : Dev) (e : Nat) : Bool :=
  !((d.fld Reg.RUN_ENC_STAT.retired).testBit e) && !((d.fld Reg.RUN_ENC_STAT.rejoin).testBit e) &&
  !((d.fld Reg.RUN_ENC_STAT.busy).testBit e)

/-- The lowest free encoder. -/
def Dev.freeEncoder (d : Dev) : Option Nat := (List.range 4).find? d.encoderFree

/-- An encoder's busy bit. -/
def Dev.encBusy (e : Nat) (on : Bool) (d : Dev) : Dev :=
  let m := d.fld Reg.RUN_ENC_STAT.busy
  d.setFld Reg.RUN_ENC_STAT.busy (if on then Nat.lor m (2 ^ e) else Nat.land m (Nat.xor 15 (2 ^ e)))

/-- The base of context record slot `n` (R137). -/
def Dev.ctxRecord (d : Dev) (n : Nat) : Nat := d.pair Reg.RUN_CTX_BASE_LO.addr + n * 0x10000

/-- Bytes of a context record. -/
abbrev ctxRecordBytes : Nat := 0x8800

/-- Does the record in a slot fail: its rec_crc, or a poisoned line (R137)? -/
def Dev.ctxRecordBad (d : Dev) (n : Nat) : Bool :=
  let a := d.ctxRecord n
  let bs := d.mem.readBytes a ctxRecordBytes
  d.rangePoisoned a ctxRecordBytes || crc32c (bs.take 0x8040 ++ leBytes 4 0 ++ bs.drop 0x8044) != leAt bs 0x8040 4

/-- The rejoin stream that is open takes a free encoder while it holds none (R138), restored from slot 1 if it was saved. With a record that
fails, the stream has ended, and its frames are sent again as a new one (R137, R356). -/
def Dev.rejoinTake (d : Dev) : Dev :=
  match d.run.rejoin, d.freeEncoder with
  | some x, some e =>
    if d.fld Reg.RUN_ENC_STAT.rejoin ≠ 0 then d
    else
      let lost := x.saved && d.ctxRecordBad 1
      let d := d.when lost fun d => (d.reportPoison (d.ctxRecord 1) ctxRecordBytes 0x2C).modPair fun p => { p with
        dirty := p.dirty ++ x.frames.filter fun n => !(p.dirty.contains n) }
      let d := d.modRun fun r => { r with rejoin := some (if lost then ⟨[], [], false⟩ else { x with saved := false }) }
      (d.encBusy e true).setFld Reg.RUN_ENC_STAT.rejoin (2 ^ e)
  | _, _ => d

/-- Waiting segments (encoder 4) given to free encoders, `fuel` at most. -/
def Dev.segGive : Nat → Dev → Dev
  | 0, d => d
  | fuel + 1, d =>
    match d.run.segments.find? (fun s => s.2 == 4), d.freeEncoder with
    | some (s, _), some e =>
      let given := d.run.segments.map fun q => if q.1 = s then (s, e) else q
      ((d.encBusy e true).modRun fun r => { r with segments := given }).segGive fuel
    | _, _ => d

/-- Free encoders are given out (R138): one to an open rejoin stream, any other to the page cache's segments. -/
def Dev.segAssign (d : Dev) : Dev := d.rejoinTake.segGive 4

/-- What was still to be encoded of the page cache's entry is dropped; the encoders are free, and no band waits for it. -/
def Dev.pcacheDrop (d : Dev) : Dev :=
  let d := d.run.segments.foldl (fun d s => d.when (s.2 != 4) fun d => d.encBusy s.2 false) d
  let d := d.modCmp fun m => { m with committed := m.committed.map fun c => { c with segsLeft := 0 } }
  (d.modRun fun r => { r with segments := [] }).setFlag Reg.RUN_PCACHE_STAT.busy false

/-- A new entry starts at PAGE_BEGIN with cache = 1 (R113, R140): the entry before it is invalid, and what was still to be encoded of it is
dropped, so that no band waits for it. -/
def Dev.pcacheStart (page length : Nat) (d : Dev) : Dev :=
  let base := d.seq.pcacheBase
  let d := d.setFld Reg.RUN_PCACHE_STAT.generation (d.pcacheGen + 1)
  let d := ((d.setFlag Reg.RUN_PCACHE_STAT.committed false).setFlag Reg.RUN_PCACHE_STAT.overflow false).pcacheDrop
  let start := 64 + dirBytes (bandsOf length)
  let d := d.modRun fun r => { r with
    pcacheEnd := start, pcachePage := some page, pcacheInvalid := false, segWriter := []
    entryBase := base, entryLen := d.seq.pcacheLen }
  let d := (d.setFld Reg.RUN_PCACHE_USED.used_4k ((start + 4095) / 4096)).segAssign
  let d := d.when (Nat.ble 64 d.run.entryLen) fun d => d.pcacheWrite base (pcacheHeader false d.pcacheGen length d.imageCrc)
  d.when (Nat.blt d.run.entryLen start) fun d => (d.setFlag Reg.RUN_PCACHE_STAT.overflow true).modSeq fun q =>
    { q with pages := Tab.upd q.pages Page.empty page fun p => { p with overflow := true } }

/-- The values of `n` lines of a band from line `l` on, as bytes (R146). -/
def bandBytes (g : Geom) (cells : Tab Nat) (l n : Nat) : List Byte :=
  packDoses ((List.range (n * g.planes * g.cols)).map fun i => Tab.get cells 0 (l * g.planes * g.cols + i))

/-- The descriptor of segment `s` of band `b` written (Table 6-7). -/
def Dev.pcacheDescribe (b s offset length crc : Nat) (d : Dev) : Dev :=
  d.pcacheWrite (d.run.entryBase + 64 + 64 * b + 16 * s) (leBytes 5 offset ++ leBytes 3 length ++ leBytes 4 crc ++ leBytes 4 0)

/-- The segments of committed band `b` of the cached page handed to the encoders; one without lines has length 0 at once, and the offset its
descriptor holds is a free value (R139). -/
def Dev.pcacheSegments (b lines : Nat) (d : Dev) : Dev :=
  let segs := (List.range 4).filter fun s => segLines lines s != 0
  let d := (List.range 4).foldl (fun d s => d.when (segLines lines s == 0 && !(d.flag Reg.RUN_PCACHE_STAT.overflow)) fun d =>
    (d.pcacheDescribe b s (Config.freeNat d.freshSeed) 0 (crc32c [])).useFree 1) d
  ((d.modRun fun r => { r with segments := segs.map fun s => (s, 4) }).setFlag Reg.RUN_PCACHE_STAT.busy true).segAssign

/-- The page that the current entry caches, if it still writes it. -/
def Dev.cachingPage (d : Dev) : Option Nat :=
  if d.flag Reg.RUN_PCACHE_STAT.overflow then none else d.run.pcachePage

/-- PCACHE_SEGMENT_DONE (R113, R139, R140): encoder `e` has finished the segment it holds: the stream goes to the next 64-byte
boundary with its descriptor, or overflows the region; after the last segment of the last band the header is rewritten
committed. -/
def Dev.pcacheSegmentDone (e : Nat) (d : Dev) : Dev :=
  match d.run.segments.find? (fun s => s.2 == e), d.cmp.committed, d.run.pcachePage with
  | some (s, _), some c, some p =>
    let base := d.run.entryBase
    let n := segLines c.lines s
    let raw := bandBytes d.geom c.cells (16 * s) n
    let out := deflate (d.fld Reg.RUN_PCACHE_CFG.depth_m1 + 1) (d.flag Reg.RUN_PCACHE_CFG.dyn) raw
    let o := (d.run.pcacheEnd + 63) / 64 * 64
    let d := d.count (0x3E + e) ((raw.length + 63) / 64)
    let ovf := d.flag Reg.RUN_PCACHE_STAT.overflow || Nat.blt d.run.entryLen (o + out.length)
    let d := (d.modRun fun r => { r with segments := r.segments.filter (fun q => q.1 != s) }).encBusy e false
    let d := d.modCmp fun m => { m with committed := m.committed.map fun c => { c with segsLeft := c.segsLeft - 1 } }
    let d :=
      if ovf then
        (d.setFlag Reg.RUN_PCACHE_STAT.overflow true).modSeq fun q =>
          { q with pages := Tab.upd q.pages Page.empty p fun g => { g with overflow := true } }
      else
        let d := (d.pcacheWrite (base + o) out).pcacheDescribe c.band s o out.length (crc32c raw)
        let d := d.modRun fun r => { r with pcacheEnd := o + out.length, segWriter := Tab.put r.segWriter (c.band * 4 + s) e }
        d.setFld Reg.RUN_PCACHE_USED.used_4k ((o + out.length + 4095) / 4096)
    let d := d.segAssign
    let page := Tab.get d.seq.pages Page.empty p
    let last := d.run.segments.isEmpty && c.page == p && c.band + 1 == bandsOf page.length
    let d := d.when d.run.segments.isEmpty fun d => d.setFlag Reg.RUN_PCACHE_STAT.busy false
    if last && !(d.flag Reg.RUN_PCACHE_STAT.overflow) && !d.run.pcacheInvalid && !page.aborted then
      (d.pcacheWrite base (pcacheHeader true d.pcacheGen page.length d.imageCrc)).setFlag Reg.RUN_PCACHE_STAT.committed true
    else d
  | _, _, _ => d

/-- An encoder's window fails while it encodes a segment: the segment is encoded again from the band buffer (Table 15-8). -/
def Dev.segAgain (e : Nat) (d : Dev) : Dev :=
  match d.run.segments.find? (fun s => s.2 == e), d.cmp.committed with
  | some (s, _), some c => d.count (0x3E + e) ((segLines c.lines s * d.geom.planes * d.geom.cols / 2 + 63) / 64)
  | _, _ => d

/-- The descriptor of segment `s` of band `b` (Table 6-7): offset, length, CRC. -/
def Dev.segDescriptor (d : Dev) (b s : Nat) : Nat × Nat × Nat :=
  let a := d.run.entryBase + 64 + 64 * b + 16 * s
  (d.memLe a 5, d.memLe (a + 5) 3, d.memLe (a + 8) 4)

/-- The bytes of a segment of a copied band, or none when it fails its CRC, its stream or its memory (R141). -/
def Dev.decodeSegment (d : Dev) (lines b s : Nat) : Option (List Byte) :=
  let q := d.segDescriptor b s
  let n := segLines lines s * d.geom.planes * d.geom.cols / 2
  let a := d.run.entryBase + q.1
  if d.rangePoisoned a q.2.1 then none
  else match inflate (d.mem.readBytes a q.2.1) [] n (n + 1) with
    | .ok bs => if crc32c bs = q.2.2 then some bs else none
    | .error _ => none

/-- Band values from the bytes of lines `l` on. -/
def cellsFrom (g : Geom) (l : Nat) (bs : List Byte) (t : Tab Nat) : Tab Nat :=
  (unpackDoses bs).zipIdx.foldl (fun t v => Tab.set t 0 (l * g.planes * g.cols + v.2) v.1) t

/-- The context record of an encoder stream after `blocks` whole blocks of its input (Table 6-5), kind 1. -/
def contextRecord (depth : Nat) (dyn : Bool) (input : List Byte) (blocks written : Nat) : List Byte :=
  let bs := (deflateBlocks depth input).take blocks
  let used := ((bs.flatMap id).map EncSym.span).sum
  let bits := encStreamBits dyn false bs
  let pend := bits.drop (8 * written)
  let win := ((input.take used).reverse.take 32768).reverse
  let v := ((pend.zipIdx.map fun p => if p.1 then 2 ^ p.2 else 0)).sum
  let head := List.replicate (32768 - win.length) 0#8 ++ win ++ leBytes 2 0x5843 ++ [1#8, 1#8] ++ leBytes 1 (depth - 1) ++
    leBytes 1 (if dyn then 1 else 0) ++ leBytes 2 win.length ++ leBytes 8 used ++ leBytes 8 written ++ leBytes 8 v ++
    leBytes 1 pend.length ++ leBytes 1 (if dyn then 2 else 1) ++ leBytes 2 0 ++ leBytes 2 0 ++ leBytes 2 0 ++
    leBytes 4 (crc32c (input.take used)) ++ List.replicate 20 0#8
  let tail := List.replicate 60 0#8 ++ List.replicate 1920 0#8
  head ++ leBytes 4 (crc32c (head ++ leBytes 4 0 ++ tail)) ++ tail

/-- The rejoin stream leaves its encoder by way of slot 1 (R137, R143): saved after the last block of its input that is complete. -/
def Dev.rejoinSave (d : Dev) : Dev :=
  match d.run.rejoin with
  | none => d
  | some x =>
    let depth := d.fld Reg.RUN_REJOIN_CFG.depth_m1 + 1
    let dyn := d.flag Reg.RUN_REJOIN_CFG.dyn
    let blocks := (deflateBlocks depth x.input).length - 1
    let written := (encStreamBits dyn false ((deflateBlocks depth x.input).take blocks)).length / 8
    let d := d.memWrite 0x2C (d.ctxRecord 1) (contextRecord depth dyn x.input blocks written)
    (d.modRun fun r => { r with rejoin := some { x with saved := true } }).setFld Reg.RUN_ENC_STAT.rejoin 0

/-- An encoder is retired (R143): a segment it holds starts again on another, the rejoin stream moves by save and restore, and an export
leaves it at its next block boundary (EXPORT_SUSPEND). -/
def Dev.encoderRetire (e : Nat) (d : Dev) : Dev :=
  let m := d.fld Reg.RUN_ENC_STAT.retired
  if m.testBit e then d
  else
    let exports : Bool := match d.run.export_ with | some x => x.encoder == e | none => false
    let d := (d.setFld Reg.RUN_ENC_STAT.retired (Nat.lor m (2 ^ e))).encBusy e exports
    let d := d.modRun fun r => { r with segments := r.segments.map fun q => if q.2 = e then (q.1, 4) else q }
    let d := d.raiseTo none 0x0508 Sev.degraded 0x29 e (4 - popCount (d.fld Reg.RUN_ENC_STAT.retired) 4)
    (d.when ((d.fld Reg.RUN_ENC_STAT.rejoin).testBit e) fun d => d.rejoinSave).segAssign

/-- One fault of an encoder counted; at fail_limit it is retired. -/
def Dev.encoderFault (e : Nat) (d : Dev) : Dev :=
  let n := Tab.get d.run.encFaults 0 e + 1
  let d := d.modRun fun r => { r with encFaults := Tab.set r.encFaults 0 e n }
  d.when (Nat.ble (d.fld Reg.RUN_SPARE_CFG.fail_limit) n) fun d => d.encoderRetire e

/-- The end of a segment's decode on decoder `u` (R141): its lines join the staging band; a first failure is decoded once more
on another decoder, a second leaves the lines blank. -/
def Dev.segDecoded (u page b s : Nat) (first : Option (Nat × Nat)) (fault : Bool) (d : Dev) : Dev :=
  match d.cmp.staging with
  | none => d
  | some g =>
    if g.page ≠ page ∨ g.band ≠ b ∨ !g.copy then d
    else
      match (if fault then none else d.decodeSegment g.lines b s) with
      | some bs =>
        let g' := { g with segs := Nat.lor g.segs (2 ^ s), cells := cellsFrom d.geom (16 * s) bs g.cells }
        d.modCmp fun m => { m with staging := some g' }
      | none =>
        let d := d.when (!fault) fun d => d.reportPoison (d.run.entryBase + (d.segDescriptor b s).1) (d.segDescriptor b s).2.1 0x28
        if first.isNone then
          d.modRun fun r => { r with decodes := ⟨.seg page b s, none, some (u, DecStat.tileCrc), none⟩ :: r.decodes }
        else
          let bad := (List.range (segLines g.lines s)).map (fun i => (16 * s + i, 8, 0))
          let d := d.modCmp fun m => { m with staging := some { g with segs := Nat.lor g.segs (2 ^ s), bad := g.bad ++ bad } }
          let d := d.modSeq fun q => { q with pages := Tab.upd q.pages Page.empty page fun p => { p with spoiled := true } }
          let idx := (Tab.get d.seq.pages Page.empty page).index
          let d := d.raiseTo none 0x0509 Sev.warn 0x28 (b * 256 + s) idx
          match Tab.find d.run.segWriter (b * 4 + s) with
          | some e => d.encoderFault e
          | none => d

/-! ### The export stream (R135 to R138, R142) -/

/-- Do two ranges share a byte? -/
def overlaps (a n b m : Nat) : Bool := Nat.blt a (b + m) && Nat.blt b (a + n)

/-- The export source and output registers. -/
def Dev.xpSrc (d : Dev) : Nat := d.pair Reg.RUN_XP_SRC_LO.addr
def Dev.xpDst (d : Dev) : Nat := d.pair Reg.RUN_XP_DST_LO.addr
def Dev.xpLen (d : Dev) : Nat := d.fld Reg.RUN_XP_LEN.len
def Dev.xpDlen (d : Dev) : Nat := d.fld Reg.RUN_XP_DLEN.len

/-- Is an export stream open (running, suspended or at OUT_FULL)? -/
def Dev.xpOpen (d : Dev) : Bool := Nat.ble 1 (d.fld Reg.RUN_XP_STAT.state) && Nat.ble (d.fld Reg.RUN_XP_STAT.state) 3

/-- An export command refused. -/
def Dev.xpIllegal (d : Dev) : Dev := d.setFld Reg.RUN_XP_STAT.result 4

/-- START (R142): opens a stream; it is suspended until an encoder is free (R138). -/
def Dev.exportStart (depthM1 : Nat) (dyn : Bool) (d : Dev) : Dev :=
  if !(d.responds Reg.RUN_XP_CMD.addr) then d
  else if d.xpOpen || d.xpLen == 0 || d.xpDlen == 0 || overlaps d.xpSrc d.xpLen d.xpDst d.xpDlen ||
      !(d.inFitted d.xpSrc d.xpLen) || !(d.inFitted d.xpDst d.xpDlen) then d.xpIllegal
  else
    let input := d.mem.readBytes d.xpSrc d.xpLen
    let d := d.segAssign
    let enc := if d.run.segments.any (fun s => s.2 == 4) then none else d.freeEncoder
    let x : Export := {
      depth := depthM1 % 256 + 1, dyn := dyn, src := d.xpSrc, len := d.xpLen, rest := deflate (depthM1 % 256 + 1) dyn input
      total := 0, crc := crc32c input, dst := d.xpDst, area := d.xpDlen, encoder := enc.getD 4
      memFail := false, consumed := 0, saved := false }
    let d := d.modRun fun r => { r with export_ := some x }
    let d := (d.setFld Reg.RUN_XP_STAT.result 0).setFld Reg.RUN_XP_OUT.written 0
    match enc with
    | some e => (d.setFld Reg.RUN_XP_STAT.state 1).encBusy e true
    | none => d.setFld Reg.RUN_XP_STAT.state 2

/-- The first `n` bytes still to come of the export stream written to its area. -/
def Dev.exportWrite (n : Nat) (d : Dev) : Dev :=
  match d.run.export_ with
  | none => d
  | some x =>
    let bs := x.rest.take n
    let d := d.memWrite 0x2B (x.dst + d.fld Reg.RUN_XP_OUT.written) bs
    let d := d.addFld Reg.RUN_XP_OUT.written bs.length
    d.modRun fun r => { r with export_ := some { x with rest := x.rest.drop n, total := x.total + bs.length } }

/-- Room left in the export's area. -/
def Dev.exportRoom (d : Dev) (x : Export) : Nat := x.area - d.fld Reg.RUN_XP_OUT.written

/-- CONTINUE (R136, R142): after OUT_FULL, the next output area. -/
def Dev.exportContinue (d : Dev) : Dev :=
  if !(d.responds Reg.RUN_XP_CMD.addr) then d
  else match d.run.export_ with
    | some x =>
      if d.fld Reg.RUN_XP_STAT.state ≠ 3 ∨ d.xpDlen = 0 ∨ overlaps x.src x.len d.xpDst d.xpDlen ∨ !(d.inFitted d.xpDst d.xpDlen) then d.xpIllegal
      else
        let d := d.modRun fun r => { r with export_ := some { x with dst := d.xpDst, area := d.xpDlen } }
        ((d.setFld Reg.RUN_XP_OUT.written 0).setFld Reg.RUN_XP_STAT.state (if x.encoder = 4 then 2 else 1)).setFld
          Reg.RUN_XP_STAT.result 0
    | none => d.xpIllegal

/-- The end of the export stream: state done, its result and EV_RUN_EXPORT_DONE. -/
def Dev.exportEnd (result : Nat) (d : Dev) : Dev :=
  match d.run.export_ with
  | none => d
  | some x =>
    let d := (d.setFld Reg.RUN_XP_STAT.state 4).setFld Reg.RUN_XP_STAT.result result
    let d := d.when (x.encoder != 4) fun d => d.encBusy x.encoder false
    ((d.modRun fun r => { r with export_ := none }).segAssign).raiseTo none 0x0507 Sev.info 0x2B x.total (result * 2 ^ 32 + x.crc)

/-- CANCEL (R142). -/
def Dev.exportCancel (d : Dev) : Dev :=
  if !(d.responds Reg.RUN_XP_CMD.addr) then d
  else if d.xpOpen then d.exportEnd 3 else d.xpIllegal

/-- OUT_FULL (R136): the area fills while output is still to come; `consumed` input bytes have been taken so far, none of them of a line
that failed. -/
def Dev.exportOutFull (consumed : Nat) (d : Dev) : Dev :=
  match d.run.export_ with
  | none => d
  | some x =>
    let room := d.exportRoom x
    let n := max x.consumed (min consumed x.len)
    if d.fld Reg.RUN_XP_STAT.state ≠ 1 ∨ x.rest.length ≤ room ∨ x.memFail ∨ d.waitsRefetch .exportSource ∨
        d.rangePoisoned (x.src + x.consumed) (n - x.consumed) then d
    else
      let d := (d.exportWrite room).modRun fun r => { r with export_ := r.export_.map fun x => { x with consumed := n } }
      (d.setFld Reg.RUN_XP_STAT.state 3).raiseTo none 0x0506 Sev.info 0x2B x.area n

/-- EXPORT_DONE (R142): the rest fits the area, or a source line still to be read failed. -/
def Dev.exportDone (d : Dev) : Dev :=
  match d.run.export_ with
  | none => d
  | some x =>
    if d.fld Reg.RUN_XP_STAT.state ≠ 1 ∨ d.waitsRefetch .exportSource then d
    else if x.memFail then d.exportEnd 2
    else if d.rangePoisoned (x.src + x.consumed) (x.len - x.consumed) then
      (d.reportPoison (x.src + x.consumed) (x.len - x.consumed) 0x2B).exportEnd 2
    else if x.rest.length ≤ d.exportRoom x then (d.exportWrite x.rest.length).exportEnd 1
    else d

/-- EXPORT_SUSPEND (R137, R138, R143): a segment waits and no encoder is free, or the encoder is retired: the export gives it up at the block
boundary after `blocks` blocks, and its record goes to slot 0. -/
def Dev.exportSuspend (blocks : Nat) (d : Dev) : Dev :=
  match d.run.export_ with
  | none => d
  | some x =>
    let leaves := d.run.segments.any (fun s => s.2 == 4) || (d.fld Reg.RUN_ENC_STAT.retired).testBit x.encoder
    if d.fld Reg.RUN_XP_STAT.state ≠ 1 ∨ !leaves ∨ x.encoder = 4 then d
    else
      let input := d.mem.readBytes x.src x.len
      let done := (deflateBlocks x.depth input).take blocks
      let bytes := (encStreamBits x.dyn false done).length / 8
      let used := ((done.flatMap id).map EncSym.span).sum
      let n := min (bytes - x.total) (d.exportRoom x)
      let d := d.exportWrite n
      let d := d.memWrite 0x2C (d.ctxRecord 0) (contextRecord x.depth x.dyn input blocks (x.total + n))
      let d := (d.setFld Reg.RUN_XP_STAT.state 2).encBusy x.encoder false
      (d.modRun fun r => { r with export_ := r.export_.map fun x => { x with encoder := 4, saved := true, consumed := max x.consumed used } }).segAssign

/-- A stream's settings and counts taken from its record (Table 6-5); what it goes on to write is what it would have written (R137). -/
def Export.restore (bs : List Byte) (x : Export) : Export :=
  { x with
    depth := leAt bs 0x8004 1 + 1, dyn := leAt bs 0x8005 1 % 2 == 1, consumed := leAt bs 0x8008 8, total := leAt bs 0x8010 8, saved := false }

/-- EXPORT_RESUME (R137, R138): an encoder is free and no segment waits: the stream is restored from its record; a record that
fails its check ends it with MEM. A stream that never held an encoder has no record. -/
def Dev.exportResume (d : Dev) : Dev :=
  match d.run.export_, d.freeEncoder with
  | some x, some e =>
    if d.fld Reg.RUN_XP_STAT.state ≠ 2 ∨ d.run.segments.any (fun s => s.2 == 4) then d
    else if x.saved && d.ctxRecordBad 0 then (d.reportPoison (d.ctxRecord 0) ctxRecordBytes 0x2C).exportEnd 2
    else
      let y := if x.saved then x.restore (d.mem.readBytes (d.ctxRecord 0) ctxRecordBytes) else x
      ((d.setFld Reg.RUN_XP_STAT.state 1).encBusy e true).modRun fun r => { r with export_ := some { y with encoder := e } }
  | _, _ => d

end Sys2Proof.Machine
end

