-- ==== Sys2Proof/Machine/Composer.lean ====
section
/-! DEFINITION. Machine/Composer.lean: the composer (chapter 7): footprints (R147, R148), tokens (R154), the staging band
(R155, R156), the placement record and recomposition (R157 to R159), lanes and their sparing (R161, R162). -/

namespace Sys2Proof.Machine

/-! ### Placements -/

/-- Fields of a placement's first word (Table 5-4). -/
def Plc.blendCode (p : Plc) : Nat := p.w0 / 2 ^ 53 % 8
def Plc.invert (p : Plc) : Bool := p.w0.testBit 55
def Plc.orient (p : Plc) : Nat := if p.kind = 1 then 0 else p.w0 / 2 ^ 50 % 8
def Plc.planeMask (p : Plc) : Nat := p.w0 / 2 ^ 42 % 256
def Plc.dose (p : Plc) : Nat := p.w0 / 2 ^ 38 % 16

/-- The page width and the window (R145). -/
def Dev.pageW (d : Dev) : Nat := d.fld Reg.CMP_PAGE_W.page_w
def Dev.xOrigin (d : Dev) : Nat := d.fld Reg.CMP_X_ORIGIN.x_origin

/-- Does a placement cover a line and a column of a page of `n` lines (R106, R145)? -/
def Plc.coversPage (p : Plc) (pageW n : Nat) : Bool :=
  decide (p.y < n) && decide (0 < p.y + p.height) && decide (p.x < pageW) && decide (0 < p.x + p.width)

/-- The first page line a placement covers. -/
def Plc.topLine (p : Plc) : Nat := (max p.y 0).toNat

/-- The top band (R106). -/
def Plc.topBand (p : Plc) : Nat := p.topLine / 64

/-- The device columns a placement writes: from the first up to but not including the second (R148). -/
def Dev.plcCols (d : Dev) (p : Plc) : Nat × Nat :=
  let x0 : Int := d.xOrigin
  let lo := max 0 (p.x - x0)
  let hi := min (d.geom.cols : Int) (min (p.x + p.width) (d.pageW : Int) - x0)
  (lo.toNat, if lo < hi then hi.toNat else lo.toNat)

/-- The lines of band `b`, of `n` lines, that a placement writes: from the first up to but not including the second. -/
def plcLines (p : Plc) (b n : Nat) : Nat × Nat :=
  let lo := max 0 (p.y - (64 * b : Nat))
  let hi := min (n : Int) (p.y + p.height - (64 * b : Nat))
  (lo.toNat, if lo < hi then hi.toNat else lo.toNat)

/-- Does a placement write an element of band `b`, of `n` lines, on this device? -/
def Dev.plcWrites (d : Dev) (p : Plc) (b n : Nat) : Bool :=
  let c := d.plcCols p
  let l := plcLines p b n
  Nat.blt c.1 c.2 && Nat.blt l.1 l.2 && p.planeMask % 2 ^ d.geom.planes != 0

/-- Does a placement reach below band `b` on a page of `n` lines? -/
def Plc.extends (p : Plc) (b n : Nat) : Bool := decide ((64 * (b + 1) : Nat) < p.y + p.height) && Nat.blt (64 * (b + 1)) n

/-- A token: line of the band, plane, stripe (R154). -/
abbrev Token := Nat × Nat × Nat

/-- The numbers from `a` up to but not including `b`. -/
def rangeFrom (a b : Nat) : List Nat := (List.range (b - a)).map (· + a)

/-- The tokens of a placement in a band that go to logical lane `k`, by line, plane and stripe. -/
def Dev.plcTokens (d : Dev) (k b n : Nat) (p : Plc) : List Token :=
  let c := d.plcCols p
  let l := plcLines p b n
  if c.2 ≤ c.1 then []
  else
    let stripes := (rangeFrom (c.1 / 32) ((c.2 - 1) / 32 + 1)).filter (fun g => g % 8 == k)
    let planes := (List.range d.geom.planes).filter (fun q => p.planeMask.testBit q)
    (rangeFrom l.1 l.2).flatMap fun y => planes.flatMap fun q => stripes.map fun g => (y, q, g)

/-- The bytes of the tile a placement uses, from the cache. -/
def Dev.plcTile (d : Dev) (p : Plc) : Option (List Byte) :=
  if p.kind = 1 then some [] else (Tab.find d.run.cache p.serial).map (·.bytes)

/-- The width of a placement's tile before orientation. -/
def Plc.tileWidth (p : Plc) : Nat := (footprint p.orient p.width p.height).1

/-- The height of a placement's tile before orientation. -/
def Plc.tileHeight (p : Plc) : Nat := (footprint p.orient p.width p.height).2

/-- The value of an element that a placement covers, from the band's value (R147, R150 to R152): footprint column `u` and
line `v`. -/
def Plc.apply (p : Plc) (tile : List Byte) (b u v : Nat) : Nat :=
  let src := orientSource p.orient p.tileWidth p.tileHeight u v
  let t := if p.kind = 1 then p.dose else tileDose tile p.tileWidth src.1 src.2
  if p.kind = 2 then maskValue p.invert p.dose b t else blend p.blendCode b t

/-- One element of a token applied: device column `c` of line `l`, plane `q` of band `b`. -/
def Dev.applyElement (d : Dev) (p : Plc) (tile : List Byte) (b l q c : Nat) (t : Tab Nat) : Tab Nat :=
  let i := d.geom.index l q c
  let u := ((d.xOrigin + c : Nat) : Int) - p.x
  let v := ((64 * b + l : Nat) : Int) - p.y
  Tab.set t 0 i (p.apply tile (Tab.get t 0 i) u.toNat v.toNat)

/-- One token applied: its 32 elements as one step (R154). -/
def Dev.applyToken (d : Dev) (p : Plc) (tile : List Byte) (b : Nat) (k : Token) (t : Tab Nat) : Tab Nat :=
  let c := d.plcCols p
  (rangeFrom (max c.1 (32 * k.2.2)) (min c.2 (32 * k.2.2 + 32))).foldl
    (fun t c => d.applyElement p tile b k.1 k.2.1 c t) t

/-! ### The staging band -/

/-- Staging states, Table 7-3. -/
abbrev Stage.idle : Nat := 0
abbrev Stage.clearing : Nat := 1
abbrev Stage.composing : Nat := 2
abbrev Stage.confirmed : Nat := 3

/-- The state of the staging buffer. -/
def Dev.stageState (d : Dev) : Nat := d.fld Reg.CMP_STAGE_STAT.state

/-- The staging band changed. -/
def Dev.modStaging (f : Staging → Staging) (d : Dev) : Dev := d.modCmp fun m => { m with staging := m.staging.map f }

/-- The committed band changed. -/
def Dev.modCommitted (f : Committed → Committed) (d : Dev) : Dev := d.modCmp fun m => { m with committed := m.committed.map f }

/-- Tokens of the first `n` entries that go to logical lane `k`. -/
def Dev.laneTokens (d : Dev) (g : Staging) (k n : Nat) : Nat :=
  ((g.entries.take n).map (fun p => (d.plcTokens k g.band g.lines p).length)).sum

/-- Is entry `e` composed in this band: every lane has applied its tokens? -/
def Dev.entryDone (d : Dev) (g : Staging) (e : Nat) : Bool :=
  (List.range 8).all fun k => Nat.ble (d.laneTokens g k (e + 1)) (Tab.get g.lanes 0 k)

/-- The placements in staging that are not yet composed (R129). -/
def Dev.outstanding (d : Dev) (g : Staging) : Nat :=
  ((List.range g.entries.length).filter (fun e => !(d.entryDone g e))).length

/-- Has every token of the staging band been applied? -/
def Dev.stagingDone (d : Dev) (g : Staging) : Bool := d.outstanding g == 0

/-- The counts of CMP_STAGE_STAT follow the staging band. -/
def Dev.stageCounts (d : Dev) : Dev :=
  match d.cmp.staging with
  | some g =>
    let d := (d.setFld Reg.CMP_STAGE_STAT.entries (min g.entries.length 16384)).setFlag Reg.CMP_STAGE_STAT.rec_ovf g.overflow
    (d.setFlag Reg.CMP_STAGE_STAT.copy g.copy).setFld Reg.CMP_STAGE_STAT.outstanding (d.outstanding g)
  | none =>
    let d := (d.setFld Reg.CMP_STAGE_STAT.entries 0).setFlag Reg.CMP_STAGE_STAT.rec_ovf false
    (d.setFlag Reg.CMP_STAGE_STAT.copy false).setFld Reg.CMP_STAGE_STAT.outstanding 0

/-- Band `b` of a page taken into staging: its clear starts; the placements of the band before that reach into it come first
(R107, R155). -/
def Dev.stageBand (page b : Nat) (copy : Bool) (carried : List Plc) (d : Dev) : Dev :=
  let n := bandLines (Tab.get d.seq.pages Page.empty page).length b
  let es := carried.filter (fun p => d.plcWrites p b n)
  let g : Staging := ⟨page, b, n, copy, es, Nat.blt 16384 es.length, [], [], 0, [], [], false⟩
  let d := (d.modCmp fun m => { m with staging := some g }).setFld Reg.CMP_STAGE_STAT.state Stage.clearing
  let d := d.when (!copy) fun d => d.setFld Reg.SEQ_BAND.band b
  d.stageCounts

/-- A placement added to the staging band (R157). -/
def Dev.stageAdd (p : Plc) (d : Dev) : Dev :=
  let d := d.modStaging fun g => { g with
    entries := g.entries ++ [p], overflow := g.overflow || Nat.blt 16384 (g.entries.length + 1) }
  d.stageCounts

/-- The staging band confirmed (R108). -/
def Dev.stageConfirm (d : Dev) : Dev :=
  let d := d.modStaging fun g => { g with confirmed := true }
  d.when (d.stageState == Stage.composing) fun d => d.setFld Reg.CMP_STAGE_STAT.state Stage.confirmed

/-- A placement's use of its tile ends. -/
def Dev.releasePlc (composed : Bool) (d : Dev) (p : Plc) : Dev :=
  if p.kind = 1 then d else d.releaseRef p.serial composed

/-- The references of the placements of a band that reach below it are released, when no later band will be staged. -/
def Dev.releaseCarried (page : Nat) (d : Dev) : Dev :=
  match d.cmp.committed with
  | some c =>
    if c.page = page then
      (c.entries.filter (fun p => p.extends c.band (Tab.get d.seq.pages Page.empty page).length)).foldl (Dev.releasePlc false) d
    else d
  | none => d

/-- BAND_DISCARD (R156): the staging band, in whatever state, is dropped with its tokens. -/
def Dev.bandDiscard (d : Dev) : Dev :=
  match d.cmp.staging with
  | none => d
  | some g =>
    let d := d.modCmp fun m => { m with staging := none, failed := m.failed.filter (fun f => f.1 != 1) }
    let d := d.setFld Reg.CMP_STAGE_STAT.state Stage.idle
    let d := (g.entries.foldl (Dev.releasePlc false) d).addFld Reg.CMP_DISCARDS.count 1
    let d := d.modRun fun r => { r with decodes := r.decodes.filter fun q => match q.item with | .seg _ _ _ => false | .tile _ => true }
    let d := d.count 0x52 1
    let idx := (Tab.get d.seq.pages Page.empty g.page).index
    let d := d.tagReachAll (fun r => r.page == g.page && r.band == g.band && Nat.ble r.stage 3) 7 0 TagRec.bandArg
    (d.stageCounts).raiseTo (some (d.evtRing 0)) 0x0604 Sev.info 0x30 (idx * 2 ^ 32 + g.band) (min g.entries.length 16384)

/-! ### Lanes -/

/-- The physical lane of logical lane `k` (CMP_LANE_MAP). -/
abbrev laneFld (k : Nat) : Fld := ⟨Reg.CMP_LANE_MAP.addr, 4 * k + 3, 4 * k⟩

/-- The next active physical lane after `u`, ascending, wrapping from 8 to 0. -/
def Dev.nextLane (d : Dev) (u : Nat) : Nat :=
  (((List.range 8).map (fun i => (u + 1 + i) % 9)).find? (fun v => (d.fld Reg.CMP_LANE_STAT.active).testBit v)).getD u

/-- Every logical lane of physical lane `u` passed to `v`. -/
def Dev.laneMove (u v : Nat) (d : Dev) : Dev :=
  (List.range 8).foldl (fun d k => if d.fld (laneFld k) = u then d.setFld (laneFld k) v else d) d

/-- LANE_RETIRE (R162). -/
def Dev.laneRetire (u : Nat) (d : Dev) : Dev :=
  let rt := d.fld Reg.CMP_LANE_STAT.retired
  if rt.testBit u then d
  else
    let act := d.fld Reg.CMP_LANE_STAT.active
    let d := (d.setFld Reg.CMP_LANE_STAT.retired (Nat.lor rt (2 ^ u))).setFld Reg.CMP_LANE_STAT.active (Nat.land act (Nat.xor 0x1FF (2 ^ u)))
    if !(act.testBit u) then d
    else if !(act.testBit 8) && !(rt.testBit 8) then
      let d := d.setFld Reg.CMP_LANE_STAT.active (Nat.lor (d.fld Reg.CMP_LANE_STAT.active) 256)
      (d.laneMove u 8).raise 0x0602 Sev.degraded u 8
    else
      let v := d.nextLane u
      (d.laneMove u v).raise 0x0603 Sev.degraded u v

/-- One fault of the physical lane of logical lane `k`, cause 1 parity or 2 timeout, with `n` tokens reissued (R161). -/
def Dev.laneFault (k cause n : Nat) (d : Dev) : Dev :=
  let u := d.fld (laneFld k)
  let d := d.satFld (if cause = 1 then Reg.CMP_LANE_FAULT.parity u else Reg.CMP_LANE_FAULT.timeouts u) 1
  let d := d.raise 0x0601 Sev.recovered (u * 256 + cause) n
  let c := Tab.get d.cmp.faults 0 u + 1
  let d := d.modCmp fun m => { m with faults := Tab.set m.faults 0 u c }
  d.when (Nat.ble (d.fld Reg.CMP_SPARE_CFG.fail_limit) c) fun d => d.laneRetire u

/-- The entry and the token that are number `n` of a lane. -/
def Dev.nextToken (d : Dev) (k b lines : Nat) : List Plc → Nat → Nat → Option (Nat × Plc × Token)
  | [], _, _ => none
  | p :: ps, e, n =>
    let ts := d.plcTokens k b lines p
    match ts[n]? with
    | some t => some (e, p, t)
    | none => d.nextToken k b lines ps (e + 1) (n - ts.length)

/-- Is a region of the staging band waiting for recomposition, so that later tokens of its stripes are held back (R158)? -/
def Dev.stageHeld (d : Dev) (t : Token) : Bool := d.cmp.failed.any fun f => f.1 == 1 && f.2.2.2 == 32 * t.2.2 / 128 * 128

/-- Does a token of an earlier placement than entry `e` still wait on physical lane `u`, which serves several logical lanes (R154)? -/
def Dev.laneBehind (d : Dev) (g : Staging) (u e : Nat) : Bool :=
  (List.range 8).any fun k => d.fld (laneFld k) == u &&
    (match d.nextToken k g.band g.lines g.entries 0 (Tab.get g.lanes 0 k) with | some (i, _, _) => Nat.blt i e | none => false)

/-- TOKEN_APPLY (R154, R161): the physical lane of logical lane `k` applies the lane's next token; with `parity` (the
tokens it had taken and not written) the token fails parity instead and is reissued. -/
def Dev.tokenApply (k : Nat) (parity : Option Nat) (d : Dev) : Dev :=
  match d.cmp.staging with
  | none => d
  | some g =>
    if d.stageState ≠ Stage.composing ∧ d.stageState ≠ Stage.confirmed then d
    else
      let n := Tab.get g.lanes 0 k
      match d.nextToken k g.band g.lines g.entries 0 n with
      | none => d
      | some (e, p, t) =>
        match d.plcTile p with
        | none => d
        | some tile =>
          if d.stageHeld t || d.laneBehind g (d.fld (laneFld k)) e then d
          else match parity with
          | some more => d.laneFault k 1 (more + 1)
          | none =>
            let u := d.fld (laneFld k)
            let g' := { g with
              lanes := Tab.set g.lanes 0 k (n + 1), tokens := Tab.set g.tokens 0 u (Tab.get g.tokens 0 u + 1)
              cells := d.applyToken p tile g.band t g.cells }
            let d := d.modCmp fun m => { m with staging := some g' }
            let d := (d.addPair Reg.CMP_TOKENS_LO.addr 1).count (0x48 + u) 1
            let d :=
              if d.entryDone g' e then
                let d := match p.tag with
                  | some tag => if p.topBand = g.band then
                      match Tab.find d.pmu.followed tag with
                      | some r => d.tagReach tag 3 u r.bandArg
                      | none => d
                    else d
                  | none => d
                if p.extends g.band (Tab.get d.seq.pages Page.empty g.page).length then d else d.releasePlc true p
              else d
            d.stageCounts

/-- LANE_TOKEN_TIMEOUT (R161): no acknowledge within 10 µs; `more` later tokens are reissued with it. -/
def Dev.laneTimeout (k more : Nat) (d : Dev) : Dev :=
  match d.cmp.staging with
  | none => d
  | some g =>
    match d.nextToken k g.band g.lines g.entries 0 (Tab.get g.lanes 0 k) with
    | none => d
    | some _ => if d.stageState = Stage.composing ∨ d.stageState = Stage.confirmed then d.laneFault k 2 (more + 1) else d

/-! ### Recomposition (R158, R159) -/

/-- The outcome of a recomposition. -/
inductive Recomposed where
  | values (t : Tab Nat)
  /-- reason of Table 7-6 -/
  | failed (reason : Nat)
  /-- a copy's segment failed both its decodes -/
  | segment
deriving DecidableEq, Repr

/-- The tile bytes a recomposition uses, while the definition is current: the cache's, or decoded again from the frame, with its dictionary
if the cache lacks that too (R158, R159). -/
def Dev.recompTile (d : Dev) (p : Plc) : Except Nat (List Byte) :=
  if p.kind ≠ 1 ∧ !((d.tileDef p.serial).current) then .error 2
  else match d.plcTile p with
    | some bs => .ok bs
    | none =>
      match d.decodeWith d.dictFresh p.serial with
      | .ok bs => .ok bs
      | .error _ => .error 3

/-- The entries applied to the 128 elements of a region, from 0; `upto` bounds each logical lane's tokens for the staging
band. -/
def Dev.recompose (d : Dev) (b lines l q c0 : Nat) (upto : Nat → Option Nat) :
    List Plc → (Nat → Nat) → Tab Nat → Recomposed
  | [], _, t => .values t
  | p :: ps, seen, t =>
    let here := fun k => (d.plcTokens k b lines p)
    let mine := (List.range 8).flatMap fun k => ((here k).zipIdx.filter (fun z =>
      z.1.1 == l && z.1.2.1 == q && 32 * z.1.2.2 / 128 * 128 == c0 &&
      (match upto k with | some n => Nat.blt (seen k + z.2) n | none => true))).map (·.1)
    let seen' := fun k => seen k + (here k).length
    if mine.isEmpty then d.recompose b lines l q c0 upto ps seen' t
    else match d.recompTile p with
      | .error r => .failed r
      | .ok tile => d.recompose b lines l q c0 upto ps seen' (mine.foldl (fun t k => d.applyToken p tile b k t) t)

/-- The values of the region replaced. -/
def Dev.putRegion (d : Dev) (l q c0 : Nat) (new old : Tab Nat) : Tab Nat :=
  (rangeFrom c0 (c0 + 128)).foldl (fun t c => Tab.set t 0 (d.geom.index l q c) (Tab.get new 0 (d.geom.index l q c))) old

/-- A page marked spoiled. -/
def Dev.spoil (page : Nat) (d : Dev) : Dev :=
  d.modSeq fun q => { q with pages := Tab.upd q.pages Page.empty page fun p => { p with spoiled := true } }

/-- CMP_STAGE_STAT.recomposing. -/
def Dev.recompFlag (d : Dev) : Dev := d.setFlag Reg.CMP_STAGE_STAT.recomposing (!d.cmp.failed.isEmpty)

/-- A segment of a copied page has failed twice (R141): its lines are blank in the buffer that holds the band, the page is spoiled, and the
encoder that wrote it has a fault. -/
def Dev.segFails (page b s lines : Nat) (staging : Bool) (d : Dev) : Dev :=
  let bad := (List.range (segLines lines s)).map fun i => (16 * s + i, 8, 0)
  let d := if staging then d.modStaging fun g => { g with bad := g.bad ++ bad } else d.modCommitted fun c => { c with bad := c.bad ++ bad }
  let d := (d.spoil page).raiseTo none 0x0509 Sev.warn 0x28 (b * 256 + s) (Tab.get d.seq.pages Page.empty page).index
  match Tab.find d.run.segWriter (b * 4 + s) with
  | some e => d.encoderFault e
  | none => d

/-- BAND_LINE_RECOMPOSE (R158, R159): the oldest failed band-buffer line is recomposed from the record, or fails; a line of a copy is
decoded again from its segment, twice at most (R141). `deadline` says that the first page line it covers has reached its deadline. -/
def Dev.bandRecompose (deadline : Bool) (d : Dev) : Dev :=
  match d.cmp.failed with
  | [] => d
  | (buf, l, q, c0) :: rest =>
    let d := d.modCmp fun m => { m with failed := rest }
    let info : Option (Nat × Nat × Nat × Bool × List Plc × Bool × Tab Nat) :=
      if buf = 1 then d.cmp.staging.map fun g => (g.page, g.band, g.lines, g.copy, g.entries, g.overflow, g.lanes)
      else d.cmp.committed.map fun c => (c.page, c.band, c.lines, c.copy, c.entries, c.overflow, [])
    match info with
    | none => d.recompFlag
    | some (page, b, lines, copy, es, ovf, lanes) =>
      let idx := (Tab.get d.seq.pages Page.empty page).index
      let where_ := idx * 2 ^ 32 + 64 * b + l
      let res :=
        if deadline then Recomposed.failed 4
        else if copy then
          match d.decodeSegment lines b (l / 16) with
          | some bs => Recomposed.values (cellsFrom d.geom (l / 16 * 16) bs [])
          | none => Recomposed.segment
        else if ovf then Recomposed.failed 1
        else d.recompose b lines l q c0 (fun k => if buf = 1 then some (Tab.get lanes 0 k) else none) es (fun _ => 0) []
      let tried : Nat := if deadline || !copy then 0 else match res with | .segment => 2 | _ => 1
      let d := d.addFld Reg.RUN_DECODES.count tried
      let d := match res with
        | .segment =>
          let q := d.segDescriptor b (l / 16)
          (d.reportPoison (d.run.entryBase + q.1) q.2.1 0x28).segFails page b (l / 16) lines (buf == 1)
        | .values t =>
          let d := if buf = 1 then d.modStaging fun g => { g with cells := d.putRegion l q c0 t g.cells }
            else d.modCommitted fun c => { c with cells := d.putRegion l q c0 t c.cells }
          (d.addFld Reg.CMP_RECOMP.done 1).raiseTo (some (d.evtRing 0)) 0x0605 Sev.recovered 0x30 where_ (q * 2 ^ 32 + c0)
        | .failed r =>
          let d := if buf = 1 then d.modStaging fun g => { g with bad := g.bad ++ [(l, q, c0)] }
            else d.modCommitted fun c => { c with bad := c.bad ++ [(l, q, c0)] }
          let d := (d.spoil page).when (d.run.pcachePage == some page) fun d => d.modRun fun r => { r with pcacheInvalid := true }
          (d.addFld Reg.CMP_RECOMP.failed 1).raiseTo (some (d.evtRing 0)) 0x0606 Sev.warn 0x30 where_
            (r * 2 ^ 56 + q * 2 ^ 32 + c0)
      d.recompFlag

end Sys2Proof.Machine
end

