-- ==== Sys2Proof/Machine/Pages.lean ====
section
/-! DEFINITION. Machine/Pages.lean: jobs, pages and port lines: which line a port fires at a line start (R185, R219), when a
page is complete, the job log (R118, R119), and the reporting of blank lines (R23, R194, R225, R255). -/

namespace Sys2Proof.Machine

/-- The page of a serial number. -/
def Dev.page (d : Dev) (n : Nat) : Page := Tab.get d.seq.pages Page.empty n
/-- A page changed. -/
def Dev.modPage (n : Nat) (f : Page → Page) (d : Dev) : Dev := d.modSeq fun q => { q with pages := Tab.upd q.pages Page.empty n f }
/-- The job of a serial number. -/
def Dev.job (d : Dev) (n : Nat) : Job := Tab.get d.seq.jobs Job.empty n
/-- A job changed. -/
def Dev.modJob (n : Nat) (f : Job → Job) (d : Dev) : Dev := d.modSeq fun q => { q with jobs := Tab.upd q.jobs Job.empty n f }
/-- A sequencer context. -/
def Dev.ctx (d : Dev) (k : Nat) : Ctx := Tab.get d.seq.ctxs Ctx.idle k
/-- A context changed. -/
def Dev.modCtx (k : Nat) (f : Ctx → Ctx) (d : Dev) : Dev := d.modSeq fun q => { q with ctxs := Tab.upd q.ctxs Ctx.idle k f }

/-! ### The job log -/

/-- One record of a job's log (R118): the last slot is kept for JOB_END (type 5); a record that finds only that slot is
discarded and counted, with EV_SEQ_LOG_FULL once a job. `body` is bytes 1 to 31. -/
def Dev.logWrite (js type : Nat) (body : List Byte) (d : Dev) : Dev :=
  let j := d.job js
  if j.log.len = 0 then d
  else if type ≠ 5 ∧ j.log.len ≤ j.log.written + 1 then
    let d := d.modJob js fun j => { j with log := { j.log with discarded := j.log.discarded + 1, fullPosted := true } }
    d.when (!j.log.fullPosted) fun d => d.raiseOpen (some (d.evtRing j.ctx)) 0x0403 Sev.warn 0x20
  else if j.log.len ≤ j.log.written then d
  else
    (d.memWrite 0x20 (j.log.base + 32 * j.log.written) (BitVec.ofNat 8 type :: body)).modJob js fun j =>
      { j with log := { j.log with written := j.log.written + 1 } }

/-! ### Lines and line starts -/

/-- The segment of a page that holds a line. -/
def Page.segOf (p : Page) (y : Nat) : Option Seg := p.segs.find? fun s => Nat.ble s.first y && Nat.blt y (s.first + s.count)

/-- The Z of a page line. -/
def Page.zOf (p : Page) (y : Nat) : Option Nat :=
  match p.segOf y with
  | some s => s.z.map fun z => z + (y - s.first)
  | none => none

/-- Is a page line's pass a reverse one? -/
def Page.reverseAt (p : Page) (y : Nat) : Bool := match p.segOf y with | some s => s.reverse | none => false

/-- The row of a page line. -/
def Dev.rowOf (d : Dev) (y : Nat) : Nat := y % d.geom.rows

/-- Does port `k` carry page line `y`: enabled, and of its row? -/
def Dev.carries (d : Dev) (k y : Nat) : Bool := d.portEnabled k && d.geom.row k == d.rowOf y

/-- The line start at which port `k` fires line `y` of a page (R185, R219). -/
def Dev.lineStartOf (d : Dev) (page k y : Nat) : Option Nat :=
  let p := d.page page
  (p.zOf y).map fun z => (d.job p.job).start + z + d.effOffset (p.reverseAt y) k

/-- The page line that port `k` fires at line start `a`, among the pages not yet recorded. -/
def Dev.lineAt (d : Dev) (k a : Nat) : Option (Nat × Nat) :=
  (d.seq.pages.filter (fun e => !e.2.recorded)).findSome? fun e =>
    e.2.segs.findSome? fun s =>
      match s.z with
      | none => none
      | some z =>
        let base := (d.job e.2.job).start + z + d.effOffset s.reverse k
        if base ≤ a ∧ a < base + s.count ∧ s.first + (a - base) < e.2.length ∧ d.carries k (s.first + (a - base)) then
          some (e.1, s.first + (a - base))
        else none

/-- LOOKAHEAD. -/
def Dev.lookahead (d : Dev) : Nat := d.fld Reg.ASM_CFG.lookahead

/-- The deadline of a line that fires at line start `s` (R190). -/
def Dev.deadline (d : Dev) (s : Nat) : Nat := if s ≤ d.lookahead then 1 else s - d.lookahead

/-- Port lines of a page: over the enabled ports, the lines of their row. -/
def Dev.pageExpected (d : Dev) (p : Page) : Nat :=
  (d.enabledPorts.map fun k => countBelow (fun y => d.geom.row k == d.rowOf y) p.length).sum

/-- Has every line of a page fired on every port, with its ACK or its timeout (R118, R255)? -/
def Dev.pageComplete (d : Dev) (p : Page) : Bool := p.closed && Nat.ble p.length p.corrected && Nat.ble (d.pageExpected p) p.settled

/-- The line start at which a page's last line fires on its last port; none while a segment has no Z. -/
def Dev.pageLastStart (d : Dev) (n : Nat) : Option Nat :=
  let p := d.page n
  if p.segs.any (fun s => s.z.isNone) then none
  else some (((p.segs.flatMap fun s => d.enabledPorts.flatMap fun k =>
    (rangeFrom (s.first + s.count - min s.count 4) (s.first + s.count)).filterMap fun y =>
      if d.carries k y ∧ y < p.length then d.lineStartOf n k y else none)).foldl max 0)

/-! ### Blank lines -/

/-- Who reports a run of blank lines. -/
abbrev Rep.asm : Nat := 0
abbrev Rep.pac : Nat := 1
abbrev Rep.hlk : Nat := 2
abbrev Rep.pair : Nat := 3
abbrev Rep.cover : Nat := 4

/-- Causes of Table 1-13 by position. -/
abbrev Blank.late : Nat := 1
abbrev Blank.overspeed : Nat := 2
abbrev Blank.memory : Nat := 3
abbrev Blank.nak : Nat := 4
abbrev Blank.dispute : Nat := 5

/-- The event of a closed run (R194, R196, R225, R255, R353). -/
def Dev.runEvent (rep port : Nat) (r : BlankRun) (d : Dev) : Dev :=
  let arg0 := r.first % 2 ^ 32 + r.count * 2 ^ 32 + port * 2 ^ 48 + r.row * 2 ^ 54
  let arg1 := (d.page r.page).index + r.detail * 2 ^ 48 + r.cause * 2 ^ 56
  let e := if rep = Rep.asm then (0x0801, 0x40) else if rep = Rep.pac then (0x0A03, 0x50)
    else if rep = Rep.hlk then (0x0B04, 0x58) else if rep = Rep.pair then (0x1006, 0x80) else (0x1004, 0x80)
  d.raiseTo (some (d.evtRing 0)) e.1 (if rep = Rep.cover then Sev.recovered else Sev.warn) e.2 arg0 arg1

/-- ASM_PORT_STAT.in_run of assembly's run. -/
def Dev.inRun (rep port : Nat) (on : Bool) (d : Dev) : Dev :=
  d.when (rep == Rep.asm) fun d => d.setFlag (Reg.ASM_PORT_STAT.in_run port) on

/-- The open run of a port and reporter closed. -/
def Dev.runClose (rep port : Nat) (d : Dev) : Dev :=
  match Tab.get d.asm.runs none (port * 8 + rep) with
  | none => d
  | some r =>
    ((d.modAsm fun a => { a with runs := Tab.set a.runs none (port * 8 + rep) none }).inRun rep port false).runEvent rep port r

/-- A blank line joins its port's run, or opens one; a run closes with its 65,535th line (R194). -/
def Dev.runLine (rep port page line cause detail : Nat) (d : Dev) : Dev :=
  let fresh : BlankRun := ⟨line, 1, d.rowOf line, page, cause, detail⟩
  match Tab.get d.asm.runs none (port * 8 + rep) with
  | some r =>
    if r.page = page ∧ r.cause = cause ∧ r.detail = detail then
      (d.modAsm fun a => { a with runs := Tab.set a.runs none (port * 8 + rep) (some { r with count := r.count + 1 }) }).when
        (Nat.ble 65534 r.count) fun d => d.runClose rep port
    else
      ((d.runClose rep port).modAsm fun a => { a with runs := Tab.set a.runs none (port * 8 + rep) (some fresh) }).inRun rep port true
  | none =>
    (d.modAsm fun a => { a with runs := Tab.set a.runs none (port * 8 + rep) (some fresh) }).inRun rep port true

/-- A port line is blank: counted by its cause, its run kept, its page spoiled (R23, R321). -/
def Dev.blankLine (rep port page line cause detail : Nat) (d : Dev) : Dev :=
  let d := (d.countBlank cause).spoil page
  let d := if cause = Blank.late then (d.addFld Reg.ASM_BLANK_LATE.count 1).count 0x80 1
    else if cause = Blank.overspeed then (d.addFld Reg.PAC_BLANK_OVS.count 1).count 0x91 1
    else if cause = Blank.memory then d.addFld Reg.ASM_BLANK_MEM.count 1
    else if cause = Blank.nak then (d.addFld (Reg.HLK_PORT_NAK.count port) 1).count 0xC0 1
    else d
  d.runLine rep port page line cause detail

/-- A port line of a page settled: fired, or blank. -/
def Dev.settle (page : Nat) (blank : Bool) (d : Dev) : Dev :=
  d.modPage page fun p => { p with settled := p.settled + 1, blanks := p.blanks + (if blank then 1 else 0) }

/-! ### The PAGE record -/

/-- The flags of a PAGE record (Table 5-9). -/
def Page.flags (p : Page) : Nat :=
  (if p.spoiled then 1 else 0) + (if p.aborted then 2 else 0) + (if p.cached then 4 else 0) + (if p.copy then 8 else 0) +
  (if p.overflow then 16 else 0)

/-- The runs of a page that are still open are closed. -/
def Dev.runsOfPage (n : Nat) (d : Dev) : Dev :=
  (List.range 256).foldl (fun d i =>
    match Tab.get d.asm.runs none i with
    | some r => if r.page = n then d.runClose (i % 8) (i / 8) else d
    | none => d) d

/-- The PAGE record of page `n` (R118), and its event when PAGE_BEGIN asked for one (R119). -/
def Dev.pageRecord (n : Nat) (d : Dev) : Dev :=
  let p := d.page n
  let d := d.runsOfPage n
  let body := leBytes 1 p.flags ++ leBytes 2 p.version ++ leBytes 4 p.index ++ leBytes 4 p.length ++ leBytes 4 p.blanks ++
    leBytes 8 p.firstNs ++ leBytes 8 p.lastNs
  let d := d.logWrite p.job 2 body
  let d := d.modJob p.job fun j => { j with done := j.done + 1, blanks := j.blanks + p.blanks }
  let d := d.modPage n fun p => { p with recorded := true }
  d.when p.evt fun d =>
    d.raiseTo (some p.evr) 0x0402 Sev.info 0x20 (p.index * 256 + p.flags) ((d.job p.job).id * 2 ^ 32 + p.blanks)

/-- PAGE_RECORD_WRITE (R118, R119): the oldest page without its record, once complete. -/
def Dev.pageRecordWrite (d : Dev) : Dev :=
  match d.seq.pages.find? (fun e => !e.2.recorded) with
  | none => d
  | some (n, p) => if d.pageComplete p then d.pageRecord n else d

end Sys2Proof.Machine
end

