-- ==== Sys2Proof/Machine/Energy.lean ====
section
/-! DEFINITION. Machine/Energy.lean: energy control (chapter 10): fire history (R198 to R200), the class of an element (R201),
thermal bands (R206 to R208). -/

namespace Sys2Proof.Machine

/-- Energy modes, Table 10-1. -/
abbrev NrgMode.none : Nat := 0
abbrev NrgMode.history : Nat := 1
abbrev NrgMode.preheat : Nat := 2
abbrev NrgMode.both : Nat := 3

/-- Is an element idle: the `k` most recent bits of its bitmap all 0 (R197)? -/
def nrgIdle (k b : Nat) : Bool := b % 2 ^ k == 0

/-- The history field of the lookup (Table 10-1). -/
def nrgField (mode k b : Nat) : Nat :=
  if mode = NrgMode.none then 0
  else if mode = NrgMode.preheat then (if nrgIdle k b then 0 else 15)
  else b

/-- The class of an element (R201): `map` is the port's class map, `t` its thermal band. -/
def nrgClass (mode k : Nat) (map : Nat → Nat) (t b dose : Nat) (dead : Bool) : Nat :=
  if dead then 0
  else if dose = 0 ∧ ¬ (nrgIdle k b ∧ (mode = NrgMode.preheat ∨ mode = NrgMode.both)) then 0
  else map (t * 256 + nrgField mode k b * 16 + dose)

/-- The bitmap after a line (R200). -/
def nrgShift (b dose : Nat) : Nat := (2 * b + (if dose = 0 then 0 else 1)) % 16

/-- Entry `i` of the class map of port `k` (Table 10-2); the default is the dose. -/
def Dev.classMap (d : Dev) (k i : Nat) : Nat := Tab.get (Tab.get d.cfg.tables [] 0x0901) (i % 16) (k * 1024 + i) % 16

/-- The key of element `n` of port `k` in the history tables. -/
def histKey (k n : Nat) : Nat := k * 8192 + n

/-- The bitmaps of port `k` set to 0b0000 (R199). -/
def Dev.histClear (k : Nat) (d : Dev) : Dev :=
  d.modNrg fun x => { x with hist := x.hist.filter fun e => e.1 / 8192 != k }

/-- The thermal band of port `k` for a band of a page. -/
def Dev.thermalBand (d : Dev) (page band k : Nat) : Nat := Tab.get d.nrg.bands 0 (page * 2 ^ 26 + band) / 4 ^ k % 4

/-- One element of a port line classed, its history updated; the classes so far, most recent first. -/
def Dev.classElement (d : Dev) (k t : Nat) (dead : Nat → Bool) (acc : List Nat × Nrg × Nat) (e : Nat × Nat) : List Nat × Nrg × Nat :=
  let i := histKey k e.2
  let b := Tab.get acc.2.1.hist 0 i
  let cls := nrgClass (d.fld Reg.NRG_CFG.mode) (d.fld Reg.NRG_CFG.k_m1 + 1) (d.classMap k) t b e.1 (dead e.2)
  (cls :: acc.1,
   { acc.2.1 with hist := Tab.set acc.2.1.hist 0 i (nrgShift b e.1), lastClass := Tab.set acc.2.1.lastClass 0 i cls },
   acc.2.2 + (if e.1 = 0 ∧ cls ≠ 0 then 1 else 0))

/-- The doses of a port line turned into classes (R197 to R201): `dead` tells which elements correction treated as defective. -/
def Dev.classLine (k t : Nat) (clear : Bool) (dead : Nat → Bool) (doses : List Nat) (d : Dev) : List Nat × Dev :=
  let d := d.when clear fun d => d.histClear k
  let r := doses.zipIdx.foldl (d.classElement k t dead) ([], d.nrg, 0)
  (r.1.reverse, (({ d with nrg := r.2.1 }).addPair Reg.NRG_PREHEATS_LO.addr r.2.2).count 0x88 r.2.2)

/-! ### Thermal bands (R206 to R208) -/

/-- up(n) of the thresholds. -/
def Dev.bandUp (d : Dev) (n : Nat) : Nat :=
  if n = 1 then d.fld Reg.NRG_TBAND_LIM0.up1 else if n = 2 then d.fld Reg.NRG_TBAND_LIM0.up2 else d.fld Reg.NRG_TBAND_LIM1.up3

/-- The band raised while the temperature reaches the next threshold. -/
def bandRise (up : Nat → Nat) (theta : Nat) : Nat → Nat → Nat
  | 0, n => n
  | fuel + 1, n => if n < 3 ∧ up (n + 1) ≤ theta then bandRise up theta fuel (n + 1) else n

/-- The band lowered while the temperature is below its threshold less the hysteresis. -/
def bandFall (up : Nat → Nat) (hyst theta : Nat) : Nat → Nat → Nat
  | 0, n => n
  | fuel + 1, n => if 0 < n ∧ theta + hyst < up n then bandFall up hyst theta fuel (n - 1) else n

/-- The decision for port `k` (R206) and whether it is stale. -/
def Dev.bandDecide (d : Dev) (k : Nat) : Nat × Bool :=
  let init := d.fld Reg.NRG_CFG.init_band
  let prev := Tab.get d.nrg.prev 0 k
  if !(d.portEnabled k) then (0, false)
  else if !(d.flag Reg.NRG_CFG.tband_en) then (init, false)
  else
    let now := d.tb2ns
    match Tab.find d.nrg.report k with
    | some (theta, at_) =>
      if d.fld Reg.NRG_CFG.stale_ms * 1000000 < now - at_ then (if d.nrg.decided then prev else init, true)
      else
        let n := if d.nrg.decided then prev else 0
        (bandFall d.bandUp (d.fld Reg.NRG_TBAND_LIM1.hyst) theta 3 (bandRise d.bandUp theta 3 n), false)
    | none => (if d.nrg.decided then prev else init, true)

/-- The decisions of all ports as 64 bits, the band of port p at bits 2p + 1:2p. -/
def packBands (f : Nat → Nat) : Nat := ((List.range 32).map fun k => f k % 4 * 4 ^ k).sum

/-- The bands `v` in force for band `b` of a page: reported, and written as a BAND record (R208). -/
def Dev.thermalSet (page b v : Nat) (d : Dev) : Dev :=
  let p := d.page page
  let d := d.modNrg fun x => { x with
    decided := true, bands := Tab.set x.bands 0 (page * 2 ^ 26 + b) v, decidedBands := Tab.set x.decidedBands 0 page (b + 1)
    prev := (List.range 32).foldl (fun t k => Tab.set t 0 k (v / 4 ^ k % 4)) x.prev }
  let d := (d.setPair Reg.NRG_TBAND_LO.addr v).setPair Reg.NRG_TBAND_WHERE_LO.addr (p.index + b * 2 ^ 32)
  d.logWrite p.job 3 (leBytes 3 0 ++ leBytes 4 p.index ++ leBytes 4 b ++ leBytes 4 0 ++ leBytes 8 v ++ leBytes 8 0)

/-- The device's own decision for band `b` of a page (R206 to R208), sent to a partner; a stale decision is counted and the first of a
run posted. -/
def Dev.thermalDecide (page b : Nat) (d : Dev) : Dev :=
  let p := d.page page
  let dec := fun k => d.bandDecide k
  let v := packBands fun k => (dec k).1
  let d' := (List.range 32).foldl (fun (d : Dev) k =>
    let r := dec k
    let was := Tab.get d.nrg.stale false k
    let d := d.modNrg fun x => { x with stale := Tab.set x.stale false k r.2 }
    let d := d.setFlag (Reg.NRG_PORT_TEMP.stale k) r.2
    if r.2 then
      (d.addFld Reg.NRG_STALE.count 1).when (!was) fun d =>
        d.raiseTo (some (d.evtRing 0)) 0x0901 Sev.warn 0x48 (k * 2 ^ 32 + r.1) (p.index * 2 ^ 32 + b)
    else d) d
  (d'.when d'.pairServes fun d => d.pairSend (.band p.index b v)).thermalSet page b v

/-- The first band of a page whose thermal bands are not decided yet. -/
def Dev.nextDecision (d : Dev) (page : Nat) : Nat := Tab.get d.nrg.decidedBands 0 page

/-- The bands the ACTIVE decided, taken for each committed band they name in its turn (R337). -/
def Dev.thermalTake (page : Nat) : Nat → Dev → Dev
  | 0, d => d
  | fuel + 1, d =>
    let b := d.nextDecision page
    let p := d.page page
    match d.duo.bands.find? (fun e => e.1 == p.index && e.2.1 == b) with
    | none => d
    | some e =>
      if Nat.ble p.bands b then d
      else ((d.modPair fun x => { x with bands := x.bands.erase e }).thermalSet page b e.2.2).thermalTake page fuel

/-- THERMAL_BAND_DECISION (R206, R337): at the commit of band `b` of a page every port's band is fixed; a SHADOW waits for the ACTIVE's
BAND message. -/
def Dev.thermalDecision (page b : Nat) (d : Dev) : Dev :=
  if d.isMirror then d.thermalTake page (b + 1) else d.thermalDecide page b

/-- A TEMP record's report (R206, R249): θ is the highest temperature among the sensors whose mask bit is set; a record with no
mask bit set is no report. -/
def Dev.tempReport (k mask : Nat) (temps : List Nat) (d : Dev) : Dev :=
  let ts := (temps.zipIdx.filter (fun t => t.2 < 4 ∧ mask.testBit t.2)).map (fun t => t.1 % 4096)
  match ts with
  | [] => d
  | t :: rest =>
    let theta := rest.foldl max t
    let now := d.tb2ns
    let d := d.modNrg fun x => { x with report := Tab.put x.report k (theta, now) }
    let d := (d.setFld (Reg.NRG_PORT_TEMP.temp k) theta).setFlag (Reg.NRG_PORT_TEMP.valid k) true
    d.setFld (Reg.NRG_PORT_TEMP.age_ms k) 0

/-- At every JOB_BEGIN of context 0 the valid bits clear, and the next decision is the first of its job. -/
def Dev.nrgJobBegin (d : Dev) : Dev :=
  ((List.range 32).foldl (fun d k => d.setFlag (Reg.NRG_PORT_TEMP.valid k) false) d).modNrg fun x => { x with decided := false }

end Sys2Proof.Machine
end

