-- ==== Sys2Proof/Machine/DoseCorrect.lean ====
section
/-! DEFINITION. Machine/DoseCorrect.lean: dose correction (chapter 8): defect tables (R169, R171 to R173, R175) and the
correction of one line (R166 to R170). -/

namespace Sys2Proof.Machine

/-! ### Defect tables -/

/-- Bytes of a defect table. -/
abbrev defectTableBytes : Nat := 32832

/-- A defect table version by serial number. -/
def Dev.defTab (d : Dev) (n : Nat) : DefTab := Tab.get d.dcr.versions DefTab.empty n

/-- The elements of a bitmap that are set, in rising order. -/
def bitmapElements (bs : List Byte) : List Nat :=
  bs.zipIdx.flatMap fun b => ((List.range 8).filter (fun i => b.1.toNat.testBit i)).map (fun i => 8 * b.2 + i)

/-- The checks of Table 8-4 on the bytes of a table, in order; 0 when they pass. `version` is DEFECT_SYNC's operand, none for the
image's table. -/
def defectCheck (bs : List Byte) (version : Option Nat) : Nat :=
  if leAt bs 0 2 ≠ 0x5444 ∨ leAt bs 2 1 ≠ 1 then 1
  else if crc32c (bs.take 60) ≠ leAt bs 60 4 then 2
  else if leAt bs 4 4 ≠ 262144 ∨ 64 ≤ leAt bs 3 1 ∨ leAt bs 10 2 ≠ 0 ∨ leAt bs 20 40 ≠ 0 then 3
  else if (match version with | some v => decide (leAt bs 8 2 ≠ v) | none => false) then 4
  else if crc32c ((bs.drop 64).take 32768) ≠ leAt bs 16 4 then 5
  else if (bitmapElements ((bs.drop 64).take 32768)).length ≠ leAt bs 12 4 then 6
  else 0

/-- The version that the bytes of a table spell. -/
def defectOf (bs : List Byte) : DefTab := ⟨leAt bs 8 2, leAt bs 3 1 % 64, bitmapElements ((bs.drop 64).take 32768)⟩

/-- The default table 0x0704: no defects, version 0, valid CRCs (Table 8-1). -/
def defectDefault : List Byte :=
  let bitmap := List.replicate 32768 0#8
  let h := leBytes 2 0x5444 ++ [1#8, 0#8] ++ leBytes 4 262144 ++ leBytes 4 0 ++ leBytes 4 0 ++ leBytes 4 (crc32c bitmap) ++
    List.replicate 40 0#8
  h ++ leBytes 4 (crc32c h) ++ bitmap

/-- Is an element defective in a list of elements? -/
def isDefect (bits : List Nat) (e : Nat) : Bool := bits.contains e

/-- The unhideable elements of a version (R169). -/
def Dev.unhideable (d : Dev) (t : DefTab) : Nat :=
  let g := d.geom
  (t.bits.filter fun e =>
    let c := e % g.cols
    if g.rows = 1 then
      (c == 0 || isDefect t.bits (e - 1)) && (c + 1 == g.cols || isDefect t.bits (e + 1))
    else
      let p := e / g.cols / g.rows
      (List.range g.rows).all fun r => g.element p r c == e || isDefect t.bits (g.element p r c)).length

/-- A version becomes the active one (R169, R173). -/
def Dev.defectTake (n : Nat) (d : Dev) : Dev :=
  let t := d.defTab n
  let u := d.unhideable t
  let d := d.modDcr fun x => { x with active := n, pending := if x.pending = some n then none else x.pending }
  let d := (d.setFld Reg.DCR_ACTIVE.version t.version).setFld Reg.DCR_ACTIVE.hide_curve t.hideCurve
  let d := (d.setFld Reg.DCR_ACTIVE_COUNT.defects t.bits.length).setFld Reg.DCR_UNHIDEABLE.count u
  let d := d.when d.dcr.pending.isNone fun d => (d.setFlag Reg.DCR_PENDING.valid false).setFld Reg.DCR_PENDING.version 0
  d.when (u != 0) fun d => d.raiseTo (some (d.evtRing 0)) 0x0703 Sev.warn 0x38 u t.version

/-- The shadow of the tables written to device memory (R175): what its bytes hold is not defined, so they are free values; source
0x38, class REREAD. -/
def Dev.shadowWrite (o n : Nat) (d : Dev) : Dev :=
  let a := d.pair Reg.DCR_SHADOW_BASE_LO.addr + o
  let seed := d.freshSeed
  let m := d.mem.forget a n seed
  let ls := (linesOf a n).foldl (fun t l => Tab.put t l ⟨false, Cls.reread, 0x38, 0⟩) m.lines
  { d.useFree n with mem := { m with lines := ls } }

/-- DEFECT_TABLE_CHECK_DONE, the table's part (R172): 0 and the new pending version; else the cause of Table 8-4. -/
def Dev.defectChecked (a version : Nat) (d : Dev) : Nat × Dev :=
  let bs := d.mem.readBytes a defectTableBytes
  let c := defectCheck bs (some version)
  if c ≠ 0 then (c, d.raiseTo (some (d.evtRing 0)) 0x0702 Sev.warn 0x38 c a)
  else
    let n := d.dcr.nextVersion
    let d := d.modDcr fun x => { x with versions := Tab.put x.versions n (defectOf bs), nextVersion := n + 1, pending := some n }
    (0, ((d.setFlag Reg.DCR_PENDING.valid true).setFld Reg.DCR_PENDING.version version).shadowWrite 0 0xC0000)

/-! ### Curves and weights (Table 8-1) -/

/-- Curve `k` at dose `q`. -/
def Dev.curve (d : Dev) (k q : Nat) : Nat := Tab.get (Tab.get d.cfg.tables [] 0x0701) (273 * q) (k * 16 + q) % 4096
/-- The curve index of an element. -/
def Dev.curveIndex (d : Dev) (e : Nat) : Nat := Tab.get (Tab.get d.cfg.tables [] 0x0702) 0 e % 64
/-- The weight of a dose. -/
def Dev.weight (d : Dev) (q : Nat) : Nat := Tab.get (Tab.get d.cfg.tables [] 0x0703) 128 q

/-- Curve `k` as a list over the doses. -/
def Dev.curveList (d : Dev) (k : Nat) : List Nat := (List.range 16).map (d.curve k)

/-! ### One line -/

/-- What the correction of plane `p` of page line `y` reads (R166): `dose` by column. -/
def Dev.correctIn (d : Dev) (p y : Nat) (dose : Nat → Nat) : CorrectIn :=
  let g := d.geom
  let t := d.defTab d.dcr.active
  let cols := List.range g.cols
  let e := fun c => g.element p (y % g.rows) c
  { rows := g.rows, cols := g.cols, hideEn := d.flag Reg.DCR_CFG.hide_en, keepWhite := d.flag Reg.DCR_CFG.keep_white
    dose := cols.map dose
    defect := cols.map (fun c => isDefect t.bits (e c))
    curve := cols.map (fun c => d.curveList (d.curveIndex (e c)))
    hideCurve := d.curveList t.hideCurve
    weight := (List.range 16).map d.weight
    carry := cols.map (fun c => Tab.get d.dcr.carry 0 (p * g.cols + c)) }

/-- One plane of a line corrected: its output doses by column, and the device with the plane's carries, DCR_SAT and DCR_LOST. -/
def Dev.correctPlane (p y : Nat) (dose : Nat → Nat) (d : Dev) : List Nat × Dev :=
  let x := d.correctIn p y dose
  let cols := List.range x.cols
  let d' := d.modDcr fun z => { z with carry := cols.foldl (fun t c => Tab.set t 0 (p * x.cols + c) (x.carryOut c)) z.carry }
  let sat := (cols.filter x.saturated).length
  let lost := (cols.filter x.lost).length
  (cols.map x.q, ((d'.addFld Reg.DCR_SAT.count sat).addFld Reg.DCR_LOST.count lost).count 0x59 sat)

/-- Every plane of a line corrected. -/
def Dev.correctPlanes (y : Nat) (dose : Nat → Nat → Nat) : List Nat → Dev → List (List Nat) × Dev
  | [], d => ([], d)
  | p :: ps, d =>
    let r := d.correctPlane p y (dose p)
    let rest := r.2.correctPlanes y dose ps
    (r.1 :: rest.1, rest.2)

/-- Is the page printed in PRINT_WEB (the PACING section's mode)? -/
def Dev.isWeb (d : Dev) : Bool := d.fld Reg.PAC_CFG.print_mode == 0
def Dev.isSheet (d : Dev) : Bool := d.fld Reg.PAC_CFG.print_mode == 1
def Dev.isScan (d : Dev) : Bool := d.fld Reg.PAC_CFG.print_mode == 2

/-- Are the carries set to 0 before the first line of a page (R170)? -/
def Dev.carryResets (d : Dev) (p : Page) : Bool :=
  p.index == 0 || p.afterSkip || !d.isWeb || !(d.flag Reg.DCR_CFG.web_carry)

/-- Does page line `y` open a job, a sheet or scan page, a pass, or the lines after SKIP_LINES: is every port's history cleared before its
next line (R199)? -/
def Dev.histResets (d : Dev) (p : Page) (y : Nat) : Bool :=
  (y == 0 && (p.index == 0 || p.afterSkip || !d.isWeb)) ||
    (match p.segOf y with | some s => d.isScan && y == s.first | none => false)

/-- Is the row of page line `y` masked out by its pass (R184)? -/
def Dev.passMasks (d : Dev) (p : Page) (y : Nat) : Bool :=
  match p.segOf y with
  | some s => d.isScan && !(s.mask.testBit (d.rowOf y))
  | none => false

/-- The pending version that a page takes is taken before its first line (R173), with EV_DCR_TAKEN. -/
def Dev.pageTakes (n : Nat) (d : Dev) : Dev :=
  let p := d.page n
  match p.takes with
  | none => d
  | some v =>
    let old := d.fld Reg.DCR_ACTIVE.version
    let d := (d.modPage n fun p => { p with takes := none }).defectTake v
    d.raiseTo (some (d.evtRing 0)) 0x0701 Sev.info 0x38 (old * 2 ^ 16 + (d.defTab v).version)
      ((d.job p.job).id * 2 ^ 32 + p.index)

end Sys2Proof.Machine
end

