-- ==== Sys2Proof/Machine/PairLines.lean ====
section
/-! DEFINITION. Machine/PairLines.lean: the digests of a pair (R350, R352): an own digest and the partner's meet, and a difference
opens a dispute. -/

namespace Sys2Proof.Machine

/-- Do the two devices of a pair compare lines: does the device run as one with its partner? -/
def Dev.pairLines (d : Dev) : Bool := d.pairServes || d.isMirror

/-- The page index modulo 4 that frames and DIGESTs carry. -/
def Dev.pseq (d : Dev) (page : Nat) : Nat := (d.page page).index % 4

/-- A dispute of a port line opened (R350), or, with 16 more waiting, left without a majority (R352). -/
def Dev.disputeOpen (k page line mine theirs : Nat) (d : Dev) : Dev :=
  let d := d.count 0xE9 1
  if d.duo.disputes.length ≤ 16 then
    d.modPair fun p => { p with disputes := p.disputes ++ [⟨k, page, line, mine, theirs, none, none⟩] }
  else
    ((d.modPair fun p => { p with unresolved := p.unresolved ++ [(k, line)] }).addFld Reg.PAIR_DISPUTE.no_majority 1).raiseTo
      (some (d.evtRing 0)) 0x1005 Sev.warn 0x80 (k * 2 ^ 32 + line) 3

/-- Two digests of a line with their flags (bit 32: decided blank, bit 33: recovered): a dispute when they differ and no flag is set
(R350). -/
def Dev.digestMeet (k page line mine theirs : Nat) (d : Dev) : Dev :=
  if mine % 2 ^ 32 = theirs % 2 ^ 32 ∨ 2 ^ 32 ≤ mine ∨ 2 ^ 32 ≤ theirs then d
  else d.disputeOpen k page line (mine % 2 ^ 32) (theirs % 2 ^ 32)

/-- The partner's digest of a line, if its DIGEST has arrived. -/
def Dev.theirDigest (d : Dev) (k page line : Nat) : Option Nat :=
  (d.duo.theirs.find? (fun e => e.1 == k && e.2.1 == line && e.2.2.1 == d.pseq page)).map (·.2.2.2)

/-- A port line has entered the lookahead buffer with its digest (R350): the DIGEST is sent, and meets the partner's. -/
def Dev.digestOwn (k page line v : Nat) (d : Dev) : Dev :=
  if !d.pairLines then d
  else
    let d := d.pairSend (.digest k line (d.pseq page) (v % 2 ^ 32) (v / 2 ^ 32))
    let d := d.modPair fun p => { p with mine := p.mine ++ [(k, page, line, v)] }
    match d.theirDigest k page line with
    | some t => d.digestMeet k page line v t
    | none => d

/-- DIGEST (R350): the partner's digest of a line arrives. -/
def Dev.digestArrive (k line pseq v : Nat) (d : Dev) : Dev :=
  if !d.pairLines then d
  else
    let d := d.modPair fun p => { p with theirs := p.theirs ++ [(k, line, pseq, v)] }
    match d.duo.mine.find? (fun e => e.1 == k && e.2.2.1 == line && d.pseq e.2.1 == pseq) with
    | some e => d.digestMeet k e.2.1 line e.2.2.2 v
    | none => d

/-- A port line has fired: its digests are needed no more. -/
def Dev.digestForget (k page line : Nat) (d : Dev) : Dev :=
  let q := d.pseq page
  d.modPair fun p => { p with
    mine := p.mine.filter (fun e => !(e.1 == k && e.2.1 == page && e.2.2.1 == line))
    theirs := p.theirs.filter (fun e => !(e.1 == k && e.2.1 == line && e.2.2.1 == q))
    lstats := p.lstats.filter (fun e => !(e.1 == k && e.2.1 == line))
    unresolved := p.unresolved.filter (fun e => !(e.1 == k && e.2 == line)) }

end Sys2Proof.Machine
end

