-- ==== Sys2Proof/Machine/Assembly.lean ====
section
/-! DEFINITION. Machine/Assembly.lean: line assembly (chapter 9): the row-delay store (R186, R187), LINE_CORRECT with its
store writes, STORE_READ with recomputation from parity (R188, R189, R192), the digest log (R195). -/

namespace Sys2Proof.Machine

/-! ### The store -/

/-- The base of the row-delay store. -/
def Dev.storeBase (d : Dev) : Nat := d.pair Reg.ASM_RDS_BASE_LO.addr
/-- The address of the slot of reference index `z` in ring `k`; ring 32 is parity (R186). -/
def Dev.slotOf (d : Dev) (k z : Nat) : Nat := d.storeBase + k * 2 ^ 25 + z % 8192 * 4096

/-- Bytes of a line of port `k`. -/
def Dev.portBytes (d : Dev) (k : Nat) : Nat := d.portElems k / 2

/-- Does a slot of ring `k` fail its check, or hold poison? -/
def Dev.slotBad (d : Dev) (k z : Nat) : Bool :=
  d.asm.bad.contains (k, z % 8192) || d.rangePoisoned (d.slotOf k z) (if k = 32 then 4096 else d.portBytes k)

/-- The bytes of a slot of ring `k` as 4,096 bytes, zeros beyond the port's line. -/
def Dev.slotBytes (d : Dev) (k z : Nat) : List Byte :=
  if k = 32 then d.mem.readBytes (d.slotOf k z) 4096
  else d.mem.readBytes (d.slotOf k z) (d.portBytes k) ++ List.replicate (4096 - d.portBytes k) 0#8

/-- The enabled ports whose row is that of page line `y`: the parity group (R186). -/
def Dev.parityGroup (d : Dev) (y : Nat) : List Nat := d.enabledPorts.filter (fun k => d.carries k y)

/-- Byte-wise exclusive or. -/
def xorBytes (a b : List Byte) : List Byte := List.zipWith (· ^^^ ·) a b

/-- Lines of port `k` written and not yet read. -/
def Dev.storeLines (d : Dev) (k : Nat) : List PortLine := Tab.get d.asm.store [] k
/-- Lines of port `k` in its lookahead buffer. -/
def Dev.lookLines (d : Dev) (k : Nat) : List PortLine := Tab.get d.asm.look [] k

/-- The number of the line start that a page line's Z has on the reference row. -/
def Dev.refStart (d : Dev) (page z : Nat) : Nat := (d.job (d.page page).job).start + z

/-- R187, R210: must correction of the line with reference index `z` of a page wait: its slot, or a line that energy control's
repair may need, is not yet read on a port that carries it, of whatever row? -/
def Dev.storeStall (d : Dev) (page z : Nat) : Bool :=
  let g := d.refStart page z
  (List.range 32).any fun k => (d.storeLines k).any fun l =>
    l.z % 8192 == z % 8192 || Nat.ble (d.refStart l.page l.z + 8192) (g + 4 * d.geom.rows)

/-- ASM_STAT and ASM_PORT_STAT follow the store and the buffers. -/
def Dev.asmShow (d : Dev) : Dev :=
  let zs := ((List.range 32).flatMap d.storeLines).map (fun l => (l.page, l.z))
  let d := d.setFld Reg.ASM_STAT.depth (min zs.eraseDups.length 8192)
  let d := d.setFlag Reg.ASM_STAT.active (!zs.isEmpty || (List.range 32).any (fun k => !(d.lookLines k).isEmpty))
  (List.range 32).foldl (fun d k => d.setFld (Reg.ASM_PORT_STAT.fill k) (d.lookLines k).length) d

/-- The store or a buffer has changed: the registers, and panic with the reserves (R291). -/
def Dev.asmCounts (d : Dev) : Dev := d.asmShow.panicFollow d.reserveMin

/-- Does a failed region of the band touch port `k`: the whole line, or 128 columns of its plane within its span (R159)? -/
def Dev.badTouches (d : Dev) (k : Nat) (f : Nat × Nat × Nat) : Bool :=
  f.2.1 == 8 || (d.geom.plane k == f.2.1 && decide ((f.2.2 : Int) ≤ d.portLast k) && decide (d.portFirst k < (f.2.2 + 128 : Nat)))

/-- The dose of element `n` of port `k` on page line `y` (R180, R182 to R184): `out` gives the corrected doses. -/
def Dev.portDose (d : Dev) (k y : Nat) (masked : Bool) (out : Nat → Nat) (n : Nat) : Nat :=
  let c := d.portColumn k n
  if masked || !(d.stitchTakes k c y) then 0 else out c

/-- The line of port `k` as the store holds it. -/
def Dev.portLineBytes (d : Dev) (k y : Nat) (masked : Bool) (out : Nat → Nat) : List Byte :=
  packDoses ((List.range (d.portElems k)).map (d.portDose k y masked out))

/-- STORE_WRITE (R186): the port line of page line `y` written to its slot. -/
def Dev.storeWrite (page y z k : Nat) (masked : Bool) (bad : Bool) (outs : List (List Nat)) (d : Dev) : Dev :=
  let out := fun c => (outs.getD (d.geom.plane k) []).getD c 0
  let bs := d.portLineBytes k y masked out
  let l : PortLine := {
    page := page, line := y, z := z, start := (d.lineStartOf page k y).getD 0, clear := d.dcr.clears.contains k
    version := d.dcr.active, mem := if bad then some (1 + Config.recompDetail % 4) else none, classes := [], digest := 0, before := [] }
  let d := d.modDcr fun x => { x with clears := x.clears.filter (· != k) }
  (d.memWriteGen 0x40 (z / 8192 % 2 ^ 16) (d.slotOf k z) bs).modAsm fun a =>
    { a with store := Tab.put a.store k (Tab.get a.store [] k ++ [l]), bad := a.bad.filter (· != (k, z % 8192)) }

/-- The parity line of reference index `z` written (R186). -/
def Dev.parityWrite (y z : Nat) (d : Dev) : Dev :=
  let bs := (d.parityGroup y).foldl (fun a k => xorBytes a (d.slotBytes k z)) (List.replicate 4096 0#8)
  (d.memWriteGen 0x40 (z / 8192 % 2 ^ 16) (d.slotOf 32 z) bs).modAsm fun a => { a with bad := a.bad.filter (· != (32, z % 8192)) }

/-- LINE_CORRECT (R166 to R173, R180 to R187): the next line of the committed band, when its Z is known, no failed band-buffer
line of it waits for recomposition, no data it needs waits for its repair (R175), and the store has room. -/
def Dev.lineCorrect (d : Dev) : Dev :=
  match d.cmp.committed with
  | none => d
  | some c =>
    let y := 64 * c.band + c.next
    let p := d.page c.page
    if Nat.ble c.lines c.next || d.cmp.failed.any (fun f => f.1 == 0 && f.2.1 == c.next) ||
        d.asm.repairs.any (fun r => !r.1) then d
    else match p.zOf y with
      | none => d
      | some z =>
        if d.storeStall c.page z then d.setFlag Reg.ASM_STAT.stall true
        else
          let d := d.setFlag Reg.ASM_STAT.stall false
          let d := d.when (y == 0) fun d =>
            let d := d.pageTakes c.page
            let d := d.modPage c.page fun p => { p with version := d.fld Reg.DCR_ACTIVE.version }
            d.when (d.carryResets p) fun d => d.modDcr fun x => { x with carry := [] }
          let d := d.when (d.histResets p y) fun d => d.modDcr fun x => { x with clears := List.range 32 }
          let g := d.geom
          let r := d.correctPlanes y (fun q col => Tab.get c.cells 0 (g.index c.next q col)) (List.range g.planes)
          let d := (r.2.addPair Reg.DCR_LINES_LO.addr 1).count 0x58 1
          let masked := d.passMasks p y
          let bad := c.bad.filter (fun f => f.1 == c.next)
          let d := (d.parityGroup y).foldl (fun d k => d.storeWrite c.page y z k masked (bad.any (d.badTouches k)) r.1) d
          let d := d.parityWrite y z
          let d := d.modCommitted fun c => { c with next := c.next + 1 }
          let d := d.modPage c.page fun p => { p with corrected := y + 1 }
          (d.tagReachAll (fun t => t.page == c.page && t.line == y && Nat.ble t.stage 4) 5 0 TagRec.lineArg).asmCounts

/-! ### Reading the store -/

/-- The digest of a port line's classes (R189). -/
def lineDigest (classes : List Nat) : Nat := crc32c (packDoses classes)

/-- The digest log record of a line (R195, Table 9-2). -/
def Dev.digestLog (k : Nat) (l : PortLine) (late : Bool) (d : Dev) : Dev :=
  let n := d.fld Reg.ASM_DLOG_LEN.len
  if n = 0 then d
  else
    let i := d.fld Reg.ASM_DLOG_PTR.written % n
    let bs := leBytes 4 l.line ++ leBytes 1 k ++ leBytes 1 (d.rowOf l.line) ++ leBytes 1 (if late then 1 else 0) ++ leBytes 1 0 ++
      leBytes 4 l.digest ++ leBytes 4 (d.page l.page).index
    (d.memWrite 0x42 (d.pair Reg.ASM_DLOG_BASE_LO.addr + 16 * i) bs).addFld Reg.ASM_DLOG_PTR.written 1

/-- arg0 of an event about one line (R196), as a blank run of count 1. -/
def Dev.lineArg0 (d : Dev) (k line : Nat) : Nat := line % 2 ^ 32 + 2 ^ 32 + k * 2 ^ 48 + d.rowOf line * 2 ^ 54

/-- The arg1 of a blank run of one line. -/
def Dev.lineArg1 (d : Dev) (page cause detail : Nat) : Nat := (d.page page).index + detail * 2 ^ 48 + cause * 2 ^ 56

/-- STORE_LINE_RECOMPUTE (R192): a slot that fails is the exclusive or of the parity slot and the other members of its group;
none when another of them fails too, with its ring. -/
def Dev.storeRecompute (k z y : Nat) (d : Dev) : Except Nat (List Byte) :=
  let others := 32 :: (d.parityGroup y).filter (· != k)
  match others.find? (fun j => d.slotBad j z) with
  | some j => .error j
  | none => .ok ((others.foldl (fun a j => xorBytes a (d.slotBytes j z)) (List.replicate 4096 0#8)).take (d.portBytes k))

/-- Which elements of port `k` correction treated as defective with a version (R201, R202). -/
def Dev.deadElement (d : Dev) (k version n : Nat) : Bool :=
  d.flag Reg.DCR_CFG.hide_en && isDefect (d.defTab version).bits (d.geom.group k * d.geom.cols + d.portColumn k n)

/-- The last four lines of a port since its last clearing, with one more (R209). -/
def lastFour (clear : Bool) (ls : List (Nat × Nat)) (l : Nat × Nat) : List (Nat × Nat) :=
  let ls := (if clear then [] else ls) ++ [l]
  ls.drop (ls.length - 4)

/-- A line read from the store passes energy control, is digested, logged, and enters the buffer, or is discarded when it is
late (R188 to R191, R350). -/
def Dev.lineEnter (k : Nat) (l : PortLine) (doses : List Byte) (recovered : Bool) (d : Dev) : Dev :=
  let t := d.thermalBand l.page (l.line / 64) k
  let r := d.classLine k t l.clear (d.deadElement k l.version) (unpackDoses doses)
  let before := if l.clear then [] else Tab.get d.nrg.recent [] k
  let d := r.2.modNrg fun x => { x with recent := Tab.upd x.recent [] k fun ls => lastFour l.clear ls (l.z, l.line) }
  let l := { l with classes := r.1, digest := lineDigest r.1, before := before }
  let late := Nat.ble (d.deadline l.start) d.pac.starts
  let d := d.digestLog k l late
  let d := d.digestOwn k l.page l.line (l.digest + (if late || l.mem.isSome then 2 ^ 32 else 0) + (if recovered then 2 ^ 33 else 0))
  let d := (d.setFld (Reg.ASM_PORT_DIG_LO.line k) l.line).setFld (Reg.ASM_PORT_DIG_HI.digest k) l.digest
  if late then d
  else (d.modAsm fun a => { a with look := Tab.put a.look k (Tab.get a.look [] k ++ [l]) }).count (0x60 + k) 1

/-- The lines of a range were written back (R301): source 0x70. -/
def Dev.asWriteBack (a n : Nat) (d : Dev) : Dev :=
  (linesOf a n).foldl (fun d l => { d with mem := { d.mem with lines := Tab.put d.mem.lines l { d.lineMeta l with src := 0x70 } } }) d

/-- The doses of page line `y`, with reference index `z`, as port `k` reads them from the store (R192): a slot that fails is recomputed,
written back and reported with EV_ASM_RECOMP, and the answer says so; or the address of the second slot that fails. Poison that a read
finds is reported (R300). -/
def Dev.storeFetch (k z y : Nat) (d : Dev) : Except Nat (List Byte × Bool) × Dev :=
  let a := d.slotOf k z
  if !(d.slotBad k z) then (.ok (d.mem.readBytes a (d.portBytes k), false), d)
  else
    let d := d.reportPoison a (d.portBytes k) 0x41
    match d.storeRecompute k z y with
    | .ok bs =>
      let d := ((d.memWriteGen 0x40 (z / 8192 % 2 ^ 16) a bs).asWriteBack a bs.length).modAsm fun x =>
        { x with bad := x.bad.filter (· != (k, z % 8192)) }
      (.ok (bs, true), ((d.addFld Reg.ASM_RECOMP.done 1).count 0x81 1).raiseTo none 0x0802 Sev.recovered 0x40 (d.lineArg0 k y) a)
    | .error j => (.error (d.slotOf j z), d.reportPoison (d.slotOf j z) (if j = 32 then 4096 else d.portBytes j) 0x41)

/-! ### Repairs of correction and energy data (R175, R209) -/

/-- A repair is complete: counted, with EV_DCR_REPAIR or EV_NRG_REPAIR; kind 1 is a carry line or a line of bitmaps, else a table. -/
def Dev.repairDone (nrg : Bool) (a0 a1 : Nat) (d : Dev) : Dev :=
  let own := a0 / 2 ^ 56 == 1
  if nrg then (d.addFld (if own then Reg.NRG_REPAIRS.history else Reg.NRG_REPAIRS.table) 1).raise 0x0902 Sev.recovered a0 a1
  else (d.addFld (if own then Reg.DCR_REPAIRS.carry else Reg.DCR_REPAIRS.table) 1).raise 0x0704 Sev.recovered a0 a1

/-- The data cannot be repaired: EV_DCR_STATE_LOST or EV_NRG_STATE_LOST, FATAL; the line that needed it stays held. -/
def Dev.repairLost (nrg : Bool) (a0 a1 : Nat) (d : Dev) : Dev := d.raise (if nrg then 0x0903 else 0x0705) Sev.fatal a0 a1

/-- The line that needed the data is held until the repair completes (R33). -/
def Dev.repairHold (nrg : Bool) (a0 a1 : Nat) (d : Dev) : Dev :=
  d.modAsm fun x => { x with repairs := x.repairs.filter (· != (nrg, a0, a1)) ++ [(nrg, a0, a1)] }

/-- The shadow's copy is there: the repair that waits for it completes. -/
def Dev.repairEnd (nrg : Bool) (a0 a1 : Nat) (d : Dev) : Dev :=
  if d.asm.repairs.contains (nrg, a0, a1) then
    (d.modAsm fun x => { x with repairs := x.repairs.filter (· != (nrg, a0, a1)) }).repairDone nrg a0 a1
  else d

/-- The doses of a port's lines, by Z and page line, read from the store in their order; none when one cannot be recovered. -/
def Dev.storeFetchAll (k : Nat) : List (Nat × Nat) → Dev → Option (List (List Byte)) × Dev
  | [], d => (some [], d)
  | l :: ls, d =>
    match d.storeFetch k l.1 l.2 with
    | (.ok bs, d) => let r := d.storeFetchAll k ls; (r.1.map (bs.1 :: ·), r.2)
    | (.error _, d) => (none, d)

/-- The bitmaps of elements `n` to `n + m - 1` of port `k` after lines of the given doses, from a clearing (R200). -/
def Dev.histRebuild (k n m : Nat) (lines : List (List Byte)) (d : Dev) : Dev :=
  d.modNrg fun x => { x with hist := (rangeFrom n (n + m)).foldl (fun h e =>
    Tab.set h 0 (histKey k e) ((lines.map fun bs => (unpackDoses bs).getD e 0).foldl nrgShift 0)) x.hist }

/-- A line of bitmaps is recomputed from the doses of its port's last lines (R209). -/
def Dev.historyRepair (offset k line block : Nat) (d : Dev) : Dev :=
  let a0 := 2 ^ 56 + offset
  let a1 := k * 2 ^ 32 + line
  match d.storeFetchAll k (Tab.get d.nrg.recent [] k) with
  | (some ls, d) => (d.histRebuild k (128 * block) 128 ls).repairDone true a0 a1
  | (none, d) => (d.repairHold true a0 a1).repairLost true a0 a1

/-- A carry line is restored from its second copy, or lost with it (R175). -/
def Dev.carryRepair (offset line : Nat) (lost : Bool) (d : Dev) : Dev :=
  let a0 := 2 ^ 56 + offset
  if lost then (d.repairHold false a0 line).repairLost false a0 line else d.repairDone false a0 line

/-- Does port `k` wait for the repair of energy data? -/
def Dev.repairHolds (d : Dev) (k : Nat) : Bool := d.asm.repairs.any fun r => r.1 && r.2.2 / 2 ^ 32 == k

/-- STORE_READ (R188, R192): the next line of port `k` in firing order, while the buffer has a free slot. A line that must be
blank for memory has passed correction, and passes energy control too (R24). A SHADOW does not class a line before the ACTIVE's BAND
message for its band (R337). A line lost in the store is blank with EV_ASM_STORE_LOST, without classes. -/
def Dev.storeRead (k : Nat) (d : Dev) : Dev :=
  match d.storeLines k with
  | [] => d
  | l :: rest =>
    if Nat.ble 16 (d.lookLines k).length || d.repairHolds k || (d.isMirror && Nat.ble (d.nextDecision l.page) (l.line / 64)) then d
    else
      let was := d.reserveMin
      let a := d.slotOf k l.z
      let d := (d.modAsm fun x => { x with store := Tab.set x.store [] k rest }).countRead a (d.portBytes k)
      let d :=
        match d.storeFetch k l.z l.line with
        | (.ok r, d) => d.lineEnter k l r.1 r.2
        | (.error second, d) =>
          let d := (d.addFld Reg.ASM_RECOMP.lost 1).raiseTo none 0x0803 Sev.fatal 0x40 (d.lineArg0 k l.line) second
          d.modAsm fun x => { x with look := Tab.put x.look k (Tab.get x.look [] k ++ [{ l with mem := some 1 }]) }
      (d.asmShow.modMem fun m => { m with inFlight := Tab.upd m.inFlight 0 k (· - 1) }).panicFollow was

end Sys2Proof.Machine
end

