-- ==== Sys2Proof/Machine/Snapshot.lean ====
section
/-! DEFINITION. Machine/Snapshot.lean: the capture of a rejoin (R355, phase 3): what the ACTIVE's snapshot holds, and the copy in the
checkpoint area (R357). -/

namespace Sys2Proof.Machine

/-- Is a register part of what a snapshot carries: SEQ's; the rings'; RUN_PCACHE_STAT and RUN_PCACHE_USED; CMP_STAGE_STAT; the active and
pending defect table; the thermal bands; line pacing's position, H, Z and states? -/
def snapReg (a : Nat) : Bool :=
  a / 0x100000 == 4 || (Nat.ble 0x301000 a && Nat.blt a 0x302000) ||
  [Reg.RUN_PCACHE_STAT.addr, Reg.RUN_PCACHE_USED.addr, Reg.CMP_STAGE_STAT.addr, Reg.DCR_ACTIVE.addr, Reg.DCR_ACTIVE_COUNT.addr,
   Reg.DCR_UNHIDEABLE.addr, Reg.DCR_PENDING.addr, Reg.NRG_TBAND_LO.addr, Reg.NRG_TBAND_LO.addr + 4, Reg.NRG_TBAND_WHERE_LO.addr,
   Reg.NRG_TBAND_WHERE_LO.addr + 4, Reg.PAC_STAT.addr, Reg.PAC_LINE_Z.addr, Reg.PAC_POS_A_LO.addr, Reg.PAC_POS_A_LO.addr + 4,
   Reg.PAC_POS_B_LO.addr, Reg.PAC_POS_B_LO.addr + 4, Reg.PAC_HWM_LO.addr, Reg.PAC_HWM_LO.addr + 4, Reg.PAC_DET_STAT.addr,
   Reg.PAC_PASS_STAT.addr].contains a

/-- The fire history after one more port line of `doses` on port `k`, cleared before it when `clear`. -/
def histAfter (k : Nat) (clear : Bool) (doses : List Nat) (h : Tab Nat) : Tab Nat :=
  let h := if clear then h.filter fun e => e.1 / 8192 != k else h
  doses.zipIdx.foldl (fun h e => Tab.set h 0 (histKey k e.2) (nrgShift (Tab.get h 0 (histKey k e.2)) e.1)) h

/-- The histories behind every line the store holds (R209, R355). -/
def Dev.histBehind (d : Dev) : Tab Nat :=
  d.enabledPorts.foldl (fun h k => (d.storeLines k).foldl (fun h l =>
    histAfter k l.clear (unpackDoses ((d.slotBytes k l.z).take (d.portBytes k))) h) h) d.nrg.hist

/-- The lines that the histories behind the store's lines rest on (R209). -/
def Dev.recentBehind (d : Dev) : Tab (List (Nat × Nat)) :=
  d.enabledPorts.foldl (fun t k => Tab.put t k ((d.storeLines k).foldl (fun ls l => lastFour l.clear ls (l.z, l.line))
    (Tab.get t [] k))) d.nrg.recent

/-- The snapshot of the present state. -/
def Dev.snapshot (d : Dev) : Snap :=
  { seq := d.seq, run := d.run, cmp := d.cmp, dcr := d.dcr, hist := d.histBehind, recent := d.recentBehind, lastClass := d.nrg.lastClass, pac := d.pac
    rings := d.hdma.rings, msr := d.msr, spits := d.hlk.spits, asked := d.mot.asked, regs := d.regs.filter fun e => snapReg e.1
    ckpts := d.duo.ckpts }

/-- The bytes of a rejoin's copy in the checkpoint area: the band, its carries, the store lines of 4 × I reference lines (R355). -/
def Dev.snapBytes (d : Dev) : Nat :=
  let e := d.geom.planes * d.geom.cols
  32 * e + 2 * e + 4 * d.geom.rows * 33 * 4096

/-- The capture (R355, phase 3). The layout of its copy in the checkpoint area is not stated: the bytes are free values behind the four
checkpoints; source 0x83, class RECOMPUTE. -/
def Dev.rejoinCapture (d : Dev) : Dev :=
  if !d.isActive || d.rejoinPhase != 3 || d.duo.snap.isSome then d
  else
    let a := d.pair Reg.PAIR_CKPT_BASE_LO.addr + 2 ^ 21
    let n := d.snapBytes
    let s := d.snapshot
    let m := d.mem.forget a n d.freshSeed
    let ls := (linesOf a n).foldl (fun t l => Tab.put t l ⟨false, Cls.recompute, 0x83, 0⟩) m.lines
    ({ d.useFree n with mem := { m with lines := ls } }).modPair fun p => { p with snap := some s }

/-- Does a rejoin hold the next commit: from the capture until the copy is done? -/
def Dev.rejoinHolds (d : Dev) : Bool := d.isActive && d.rejoinPhase == 3 && d.duo.snap.isSome

end Sys2Proof.Machine
end

