-- ==== Sys2Proof/Machine/Trigger.lean ====
section
/-! DEFINITION. Machine/Trigger.lean: arming, disarming and skipping of the trigger units (R381, R382). -/

namespace Sys2Proof.Machine

/-- A trigger unit that has never been armed. -/
abbrev Trg.rest : Trg := ⟨false, 0, 0, 0⟩
/-- Trigger unit `n`. -/
def Dev.trg (d : Dev) (n : Nat) : Trg := Tab.get d.tim.trgs Trg.rest n
/-- Trigger unit `n` changed. -/
def Dev.modTrg (n : Nat) (f : Trg → Trg) (d : Dev) : Dev := d.modTim fun t => { t with trgs := Tab.upd t.trgs Trg.rest n f }

/-- Does a trigger unit pace the sweep slots (Table 19-3, target 1)? -/
def Dev.slotsTriggered (d : Dev) : Bool := (List.range 16).any fun n => d.fld (Reg.TIM_TRG_CFG.target n) == 1

/-- An event of that unit: each channel's next slot may start. -/
def Dev.slotsDue (d : Dev) : Dev :=
  d.modMsr fun m => { m with sweeps := m.sweeps.map fun s => { s with due := if s.started then List.range 8 else [] } }

/-- The period of a unit, in 2^-16 ns. -/
def Dev.trgPeriod (d : Dev) (n : Nat) : Nat := d.fld (Reg.TIM_TRG_PERIOD.period n) * 2 ^ 16 + d.fld (Reg.TIM_TRG_PERIOD_FRAC.frac n)

/-- The scheduled time of a unit's next event, in 2^-16 ns (R381). -/
def Dev.trgNext (d : Dev) (n : Nat) : Nat := (d.trg n).start + (d.trg n).k * d.trgPeriod n

/-- A unit armed (R381); a unit already armed stays as it is. An absolute start that has passed begins with the first event at or
after the arming time. -/
def Dev.trgArm (n : Nat) (d : Dev) : Dev :=
  if (d.trg n).armed then d
  else
    let now := d.tbRead (d.fld (Reg.TIM_TRG_CFG.tb n))
    let start := d.pair (Reg.TIM_TRG_START_LO.addr n) * 2 ^ 16
    let p := d.trgPeriod n
    let t : Trg :=
      if d.flag (Reg.TIM_TRG_CFG.abs n) then ⟨true, start, if start < now then (now - start + p - 1) / p else 0, 0⟩
      else ⟨true, now + start, 0, 0⟩
    (d.modTrg n fun _ => t).setFlag (Reg.TIM_TRG_STAT.armed n) true

/-- A unit disarmed (R381). -/
def Dev.trgDisarm (n : Nat) (d : Dev) : Dev :=
  (d.modTrg n fun t => { t with armed := false }).setFlag (Reg.TIM_TRG_STAT.armed n) false

/-- Every unit disarmed: entry to LOAD, SLEEP or RESET (R381). -/
def Dev.trgDisarmAll (d : Dev) : Dev := (List.range 16).foldl (fun d n => d.trgDisarm n) d

/-- Entry to STANDBY arms every unit with arm_std (R381). -/
def Dev.trgStandby (d : Dev) : Dev :=
  (List.range 16).foldl (fun d n => d.when (d.flag (Reg.TIM_TRG_CFG.arm_std n)) fun d => d.trgArm n) d

/-- The mode change's part for the units (R381). -/
def Dev.trgMode (m : Nat) (d : Dev) : Dev :=
  if m = Mode.standby then d.trgStandby
  else if m = Mode.load ∨ m = Mode.sleep ∨ m = Mode.reset then d.trgDisarmAll else d

/-- TRIGGER_ARM: a write of TIM_TRG_CTL arms the units of its arm bits; a unit whose disarm bit is set too is not armed (Table 19-10). -/
def Dev.trgCtlArm (w : Nat) (d : Dev) : Dev :=
  if !(d.responds Reg.TIM_TRG_CTL.addr) then d
  else (List.range 16).foldl (fun d n => d.when (w.testBit n && !(w.testBit (16 + n))) fun d => d.trgArm n) d

/-- TRIGGER_DISARM: a write of TIM_TRG_CTL disarms the units of its disarm bits. -/
def Dev.trgCtlDisarm (w : Nat) (d : Dev) : Dev :=
  if !(d.responds Reg.TIM_TRG_CTL.addr) then d
  else (List.range 16).foldl (fun d n => d.when (w.testBit (16 + n)) fun d => d.trgDisarm n) d

/-- A forward step of base `b` has reached `now`: for an armed unit of that base past two or more of its event times, all but the one
that is raised at once are skipped (R382). -/
def Dev.trgSkip (b n : Nat) (d : Dev) : Dev :=
  let t := d.trg n
  let p := d.trgPeriod n
  let now := d.tbRead b
  if !t.armed ∨ d.fld (Reg.TIM_TRG_CFG.tb n) ≠ b ∨ now < d.trgNext n + p then d
  else
    let m := (now - d.trgNext n) / p
    let d := (d.modTrg n fun t => { t with k := t.k + m }).satFld (Reg.TIM_TRG_STAT.skipped n) m
    d.raise 0x1206 Sev.warn n m

/-- Every unit of a base that has stepped forward (R382). -/
def Dev.trgSkipAll (b : Nat) (d : Dev) : Dev := (List.range 16).foldl (fun d n => d.trgSkip b n) d

end Sys2Proof.Machine
end

