-- ==== Sys2Proof/Machine/Sequencer.lean ====
section
/-! DEFINITION. Machine/Sequencer.lean: the contexts (chapter 5): taking, walking and ending chains (R91, R94 to R100, R115 to
R117, R441), the checks every command passes (R101 to R104), jobs, pages, bands and placements (R106 to R114), the
commands that change tiles, parameters and counters. -/

namespace Sys2Proof.Machine

/-! ### The state of a context (Table 5-16) -/

abbrev CtxState.idle : Nat := 0
abbrev CtxState.running : Nat := 1
abbrev CtxState.waiting : Nat := 2
abbrev CtxState.tail : Nat := 3
abbrev CtxState.refetch : Nat := 4
abbrev CtxState.mode : Nat := 5
abbrev CtxState.stalled : Nat := 6
abbrev CtxState.stopping : Nat := 7

/-- The state of context `k`. -/
def Dev.ctxState (d : Dev) (k : Nat) : Nat := d.fld (Reg.SEQ_CTX_STAT.state k)

/-- Bit `k` of a mask field set or cleared. -/
def Dev.setBit (f : Fld) (k : Nat) (on : Bool) (d : Dev) : Dev :=
  let m := d.fld f
  d.setFld f (if on then Nat.lor m (2 ^ k) else m - Nat.land m (2 ^ k))

/-- The state of context `k` changed, with the masks of SEQ_STAT (Table 5-11). -/
def Dev.setCtxState (k s : Nat) (d : Dev) : Dev :=
  let was := d.ctxState k
  let d := d.when (k == 0 && s == CtxState.stalled && was != s) fun d => d.count 0x19 1
  let d := d.when (s == CtxState.tail && was == CtxState.running) fun d => d.count 0x1A 1
  let d := (d.setFld (Reg.SEQ_CTX_STAT.state k) s).setBit Reg.SEQ_STAT.busy_mask k (s != 0)
  (d.setBit Reg.SEQ_STAT.held_mask k (s == CtxState.refetch || s == CtxState.mode)).setBit Reg.SEQ_STAT.tail_mask k (s == CtxState.tail)

/-- The address of the next command of context `k`. -/
def Dev.ctxPc (d : Dev) (k : Nat) : Nat := d.pair (Reg.SEQ_CTX_PC_LO.addr k)
/-- The address of the next command changed. -/
def Dev.setCtxPc (k a : Nat) (d : Dev) : Dev := d.setPair (Reg.SEQ_CTX_PC_LO.addr k) a

/-- The block of a command address. -/
def blockOf (a : Nat) : Nat := a / 4096 * 4096
/-- The link word of a block. -/
def Dev.linkWord (d : Dev) (a : Nat) : Nat := d.memLe (blockOf a + 0xFF8) 8
/-- Is a line of the block poisoned, so that its read is unrecoverable (R116)? -/
def Dev.blockBad (d : Dev) (a : Nat) : Bool := d.rangePoisoned (blockOf a) 4096

/-- The job open on context `k`. -/
def Dev.openJob (d : Dev) (k : Nat) : Option Nat := (d.ctx k).job
/-- Is a page open on context 0? -/
def Dev.pageIsOpen (d : Dev) : Bool := d.seq.openPage.isSome

/-- Context `k` holds no chain any more: its stack is empty, nothing of the chain is left, and its SAMPLE request is withdrawn (R271). -/
def Dev.ctxRelease (k : Nat) (d : Dev) : Dev :=
  let d := (d.pmuContextStops k).setCtxState k CtxState.idle
  let d := (d.setFld (Reg.SEQ_CTX_STAT.depth k) 0).setFlag (Reg.SEQ_CTX_STAT.in_job k) false
  let d := (d.setFlag (Reg.SEQ_CTX_STAT.in_page k) false).setFlag (Reg.SEQ_CTX_STAT.boot k) false
  let d := d.when (k == 0) fun d => (d.modDcr fun x => { x with sync := none }).modSeq fun q => { q with uses := [] }
  let d := (d.releaseHold (.seqBlock k)).modMsr fun m => { m with samples := m.samples.filter (·.ctx != k) }
  d.modCtx k fun c => { c with
    stack := [], wait := .nothing, held := none, begun := false, job := none, doorbell := false, drops := [], stopping := none
    placed := [] }

/-! ### Staging the next band (R107, R108, R155) -/

/-- The first page with bands still to be committed, in program order. -/
def Dev.unfinishedPage (d : Dev) : Option (Nat × Page) := d.seq.pages.find? fun e => Nat.blt e.2.bands (bandsOf e.2.length)

/-- The free staging buffer takes the next band that context 0 needs: the next of the first unfinished page, with the
placements of the committed band that reach into it. -/
def Dev.stageNext (d : Dev) : Dev :=
  if d.cmp.staging.isSome then d
  else match d.unfinishedPage with
    | none => d
    | some (n, p) =>
      let carried := match d.cmp.committed with
        | some c => if c.page = n ∧ c.band + 1 = p.bands then c.entries.filter (fun q => q.extends c.band p.length) else []
        | none => []
      d.stageBand n p.bands p.copy carried

/-- PAC_STAT follows the pacer: its state, and whether a pass is armed or a datum waits (Table 11-21). -/
def Dev.pacShow (d : Dev) : Dev :=
  let armed := if d.isScan then d.pac.pass.isNone && d.pac.feed.isNone && !d.pac.passes.isEmpty && (Mode.isPrint d.mode || d.isShadow)
    else !d.pac.datums.isEmpty
  let state := if !(Mode.isPrint d.mode || d.isShadow) then 0
    else if !d.isScan then (if d.pac.grid then (if d.isSheet && d.seq.pages.any (fun e => e.2.segs.any fun s => s.z.isNone) then 2 else 1) else 0)
    else if d.pac.pass.isSome then 3
    else if d.fld Reg.PAC_PASS_STAT.feed == 1 then 4 else 2
  (d.setFlag Reg.PAC_STAT.armed armed).setFld Reg.PAC_STAT.state state

/-- A page cut behind its last committed line (R110). In PRINT_WEB the lines after it leave the stream; in PRINT_SCAN the passes
that only hold such lines are not made. -/
def Dev.pageCut (n : Nat) (d : Dev) : Dev :=
  let p := d.page n
  let len := min p.length (64 * p.bands)
  let d := d.modPage n fun p => { p with length := len, aborted := true, closed := true }
  let d := d.when (len == 0) fun d => d.modPage n fun p => { p with takes := none, version := d.fld Reg.DCR_ACTIVE.version }
  if d.isWeb then d.modJob p.job fun j => { j with cursor := j.cursor - (p.length - len) }
  else
    let gone := fun (q : Pass) => q.page == n && Nat.ble len q.first
    let lines := ((d.pac.passes.filter gone).map fun q => q.lines + d.offMax).sum
    ((d.modPac fun a => { a with passes := a.passes.filter (fun q => !(gone q)) }).modJob p.job fun j => { j with cursor := j.cursor - lines }).pacShow

/-- BAND_DISCARD (R156): the staging band is discarded, whatever state and job it is in, and no page is open on context 0 any more. -/
def Dev.stagingEnd (d : Dev) : Dev :=
  let d := d.bandDiscard.modSeq fun q => { q with openPage := none }
  (d.setFlag Reg.SEQ_BAND.valid false).setFlag (Reg.SEQ_CTX_STAT.in_page 0) false

/-- A chain of context 0 ends by abort or error (R110, R156): the staging band is discarded, and every page that is not wholly committed
ends after its last committed line. -/
def Dev.pagesEnd (d : Dev) : Dev :=
  let cut := (d.seq.pages.filter fun e => Nat.blt e.2.bands (bandsOf e.2.length)).map (·.1)
  cut.foldl (fun d n => d.pageCut n) d.stagingEnd

/-! ### Jobs -/

/-- The sheet datums that wait are discarded, one EV_PAC_SHEET_UNUSED each (R228). -/
def Dev.datumsDiscard (js : Nat) (d : Dev) : Dev :=
  let j := d.job js
  let d := d.pac.datums.foldl (fun d g =>
    (d.satFld Reg.PAC_DET_STAT.unused 1).raiseTo (some (d.evtRing 0)) 0x0A07 Sev.info 0x50 (g - j.start) j.id) d
  ((d.modPac fun a => { a with datums := [] }).setFld Reg.PAC_DET_STAT.pending 0).setFlag Reg.PAC_STAT.armed
    (d.flag Reg.PAC_STAT.armed && !d.isSheet)

/-- The JOB_END record, and the job closed (R118, Table 5-9). -/
def Dev.jobClose (k flags detail : Nat) (d : Dev) : Dev :=
  match d.openJob k with
  | none => d
  | some js =>
    let j := d.job js
    let full := if j.log.discarded = 0 then 0 else 1
    let body := leBytes 1 (flags + full) ++ leBytes 2 detail ++ leBytes 4 j.id ++ leBytes 4 j.done ++ leBytes 4 j.blanks ++
      leBytes 8 d.tb2ns ++ leBytes 8 j.log.discarded
    let d := d.logWrite js 5 body
    let d := (d.modJob js fun j => { j with closed := true }).modCtx k fun c => { c with job := none }
    let d := d.setFlag (Reg.SEQ_CTX_STAT.in_job k) false
    d.when (k == 0 && d.isSheet) fun d => d.datumsDiscard js

/-! ### The end of a chain (R85, R116, R117, R441) -/

/-- The chain of context `k` is released: its descriptor completes, or an orphan is reported (R72), or the boot job ends (R119). -/
def Dev.chainDone (k status detail : Nat) (d : Dev) : Dev :=
  let n := 48 + k
  let last := (d.ctx k).lastCmd
  let boot := d.flag (Reg.SEQ_CTX_STAT.boot k)
  let d := d.ctxRelease k
  if boot then
    (d.modCfg fun c => { c with bootRunning := false }).raiseHalf (some (d.evtRing k)) 0x0404 Sev.info 0x20 detail
  else
    match d.hdma.orphans.find? (fun o => o.1 == k) with
    | some o =>
      (d.modHdma fun h => { h with orphans := h.orphans.filter (fun q => q.1 != k) }).raiseTo none 0x0307 Sev.info 0x18 k o.2
    | none =>
      match (Tab.get d.hdma.rings Ring.idle n).job with
      | some j =>
        if j.taken then
          let bytes := leBytes 8 last ++ leBytes 4 (if status = Stat.jobErr then detail else 0) ++ leBytes 3 status
          (d.ringComplete n j.index 16 bytes j.flags status j.jobId).abortDecide n j.index (status == Stat.aborted)
        else d
      | none => d

/-- A context ends its chain under R116, with status JOB_ERR and a detail code or MEM_ERR; the event names a command address and
word. -/
def Dev.ctxEnd (k status detail addr word : Nat) (d : Dev) : Dev :=
  let d := (d.when (k == 0) Dev.pagesEnd).jobClose k 4 detail
  let d := d.setFld (Reg.SEQ_CTX_STAT.last_err k) detail
  let d := d.raiseTo (some (d.evtRing k)) 0x0401 Sev.warn 0x20 (k * 2 ^ 56 + detail * 2 ^ 48 + addr) word
  d.chainDone k status detail

/-- A context ends with a detail code at its last command. -/
def Dev.ctxFail (k detail : Nat) (d : Dev) : Dev := d.ctxEnd k Stat.jobErr detail (d.ctx k).lastCmd (d.ctx k).lastWord

/-- A context ends with MEM_ERR. -/
def Dev.ctxMemErr (k : Nat) (d : Dev) : Dev := d.ctxEnd k Stat.memErr 0 (d.ctx k).lastCmd (d.ctx k).lastWord

/-- CONTEXT_STOP (R441): the chain that context `k` holds ends, boot chains included, on entry to SAFE and before a RELOAD or a
SLEEP leaves STANDBY. `safe`: the open page of context 0 ends as R44 says, which the entry to SAFE does for every page; the staging
band is discarded either way (R156). -/
def Dev.ctxStop (safe : Bool) (k : Nat) (d : Dev) : Dev :=
  if d.ctxState k = CtxState.idle then d
  else
    let d := d.when (k == 0) fun d => if safe then d.stagingEnd else d.pagesEnd
    let d := d.jobClose k 2 0
    d.chainDone k Stat.aborted (if d.flag (Reg.SEQ_CTX_STAT.boot k) then 0x19 else 0)

/-- Have all lines of the pages of a job fired on every port? -/
def Dev.jobFired (d : Dev) (js : Nat) : Bool := d.seq.pages.all fun e => e.2.job != js || d.pageComplete e.2

/-- A context with an open job ends as R116 describes, aborted and without a detail code (R117): the job's record carries the aborted flag
beside R116's error flag, and the event names the last command. -/
def Dev.abortJob (k : Nat) (d : Dev) : Dev :=
  let d := (d.when (k == 0) Dev.pagesEnd).jobClose k 6 0
  d.raiseTo (some (d.evtRing k)) 0x0401 Sev.warn 0x20 (k * 2 ^ 56 + (d.ctx k).lastCmd) (d.ctx k).lastWord

/-- CONTEXT_ABORT (R117): an abort of the descriptor whose chain context `k` holds reaches its arbitration point. A chain of
context 0 with an open job is released once the committed lines of its page have fired. -/
def Dev.contextAbort (k : Nat) (d : Dev) : Dev :=
  let n := 48 + k
  match d.hdma.abort, (Tab.get d.hdma.rings Ring.idle n).job with
  | some a, some j =>
    if a.ring ≠ n ∨ !(a.slots.contains j.index) ∨ !j.taken ∨ d.flag (Reg.SEQ_CTX_STAT.boot k) ∨
        d.ctxState k = CtxState.idle ∨ d.ctxState k = CtxState.stopping then d
    else
      let d := d.holdEnd (.seqBlock k)
      match d.openJob k with
      | some js =>
        let d := d.abortJob k
        if k = 0 then
          if d.jobFired js then d.chainDone 0 Stat.aborted 0
          else (d.setCtxState 0 CtxState.stopping).modCtx 0 fun c => { c with
            stopping := some js, wait := .nothing, held := none, stack := [], doorbell := false }
        else d.chainDone k Stat.aborted 0
      | none => d.chainDone k (if (d.ctx k).begun then Stat.ok else Stat.aborted) 0
  | _, _ => d

/-- The stopping context 0 releases its chain once the lines of its job have fired (R117). -/
def Dev.stoppingRelease (d : Dev) : Dev :=
  match (d.ctx 0).stopping with
  | some js => if d.ctxState 0 = CtxState.stopping ∧ d.jobFired js then d.chainDone 0 Stat.aborted 0 else d
  | none => d

/-- A posted job descriptor in an abort's scope that no context has taken completes ABORTED when it reaches the head; one that is still
being fetched waits for it, as on a copy ring (`Dev.abortHead`). -/
def Dev.abortJobHead (n : Nat) (d : Dev) : Dev :=
  let idx := d.ringHead n
  match d.hdma.abort with
  | none => d
  | some a =>
    let r := Tab.get d.hdma.rings Ring.idle n
    let taken : Bool := match r.job with | some j => j.taken | none => false
    if a.ring ≠ n ∨ !(a.slots.contains idx) ∨ idx = d.ringTail n ∨ taken ∨ (r.job.isNone ∧ d.ringState n ≠ RingState.stopped) then d
    else
      let flags := match r.job with | some j => j.flags | none => 0
      let id := match r.job with | some j => j.jobId | none => 0
      (d.ringComplete n idx 16 (List.replicate 8 0#8 ++ leBytes 4 0 ++ leBytes 3 Stat.aborted) flags Stat.aborted id).abortDecide n idx true

/-- Every leading job descriptor in scope aborted, `fuel` at most. -/
def Dev.abortJobHeads (n : Nat) : Nat → Dev → Dev
  | 0, d => d
  | fuel + 1, d => (d.abortJobHead n).abortJobHeads n fuel

/-- ABORT_RESOLVE (R89, R90, R117): the slots in scope at the head complete ABORTED unless their natural completion came first,
held refetches of the ring end, and the outcome is recorded once every slot is decided. -/
def Dev.abortResolve (d : Dev) : Dev :=
  let d := d.stoppingRelease
  match d.hdma.abort with
  | none => d
  | some a =>
    let d :=
      if Nat.blt a.ring 48 then
        (d.when (a.slots.contains (d.ringHead a.ring)) fun d => d.holdEnd (.copy a.ring)).abortHeads a.ring (a.slots.length + 1)
      else d.abortJobHeads a.ring (a.slots.length + 1)
    d.abortRecord

/-! ### Walking a chain -/

/-- A new frame at address `a`: the frame generation is its block's gen (R95). A block that cannot be read ends the context with
MEM_ERR. -/
def Dev.enterFrame (k a : Nat) (d : Dev) : Dev :=
  let d := (d.setCtxPc k a).setFld (Reg.SEQ_CTX_GEN.gen k) (d.linkWord a / 2 ^ 48)
  if d.blockBad a then (d.reportPoison (blockOf a) 4096 0x20).ctxMemErr k else d

/-- Context `k` starts a chain at block `head` (R95), with a fresh frame. -/
def Dev.chainStart (k head : Nat) (boot : Bool) (d : Dev) : Dev :=
  let d := (d.setCtxState k CtxState.running).setFlag (Reg.SEQ_CTX_STAT.boot k) boot
  let d := d.modCtx k fun c => { c with begun := false, lastCmd := 0, lastWord := 0, doorbell := false }
  d.enterFrame k head

/-- May contexts take chains in the present mode (Table 2-1), and is no LOAD or SLEEP being entered (R441)? -/
def Dev.seqRuns (d : Dev) : Bool :=
  Nat.ble 3 d.mode && d.mode != Mode.safe && d.mode != Mode.sleep && d.glb.sleepTrigger.isNone && d.flt.safeReq.isNone

/-- BOOT_JOB_START (R63): a boot job that waits starts on context 1. -/
def Dev.bootStart (d : Dev) : Dev :=
  if !d.cfg.bootPending then d
  else
    let d := d.modCfg fun c => { c with bootPending := false, bootRunning := true }
    (d.setFld Reg.CFG_BOOT_STAT.state 2).chainStart 1 (d.pair Reg.CFG_BOOT_ADDR_LO.addr) true

/-- JOB_DESCRIPTOR_TAKE (R85, R91): context `k`, free, takes the descriptor fetched from its job ring; reserved bits complete it
with DESC_ERR, a head outside fitted memory with RANGE. -/
def Dev.jobDescriptorTake (k : Nat) (d : Dev) : Dev :=
  let n := 48 + k
  match (Tab.get d.hdma.rings Ring.idle n).job with
  | none => d
  | some j =>
    let inScope : Bool := match d.hdma.abort with | some a => a.ring == n && a.slots.contains j.index | none => false
    if j.taken ∨ d.ctxState k ≠ CtxState.idle ∨ !d.seqRuns ∨ d.ringState n = RingState.stopped ∨ inScope ∨
        (k = 1 ∧ d.cfg.bootPending) ∨ Nat.ble 8 k then d
    else
      let refuse := fun (s : Nat) (d : Dev) =>
        (d.ringComplete n j.index 16 (List.replicate 8 0#8 ++ leBytes 4 0 ++ leBytes 3 s) j.flags s j.jobId).abortDecide n j.index false
      if j.reservedBad then refuse Stat.descErr d
      else if !(d.inFitted j.head 4096) then refuse Stat.range d
      else (d.modRing n fun r => { r with job := some { j with taken := true } }).chainStart k j.head false

/-- The link word at word 511 acted on (R97), its first failing row first. -/
def Dev.linkAct (k : Nat) (d : Dev) : Dev :=
  let a := d.ctxPc k
  let w := d.linkWord a
  let d := d.modCtx k fun c => { c with doorbell := false }
  if d.rangePoisoned a 8 then (d.reportPoison a 8 0x20).ctxEnd k Stat.memErr 0 a w
  else
    let isEnd := w.testBit 47
    let next := w % 2 ^ 40 / 4096 * 4096
    let gen := d.fld (Reg.SEQ_CTX_GEN.gen k)
    let err := fun (code : Nat) => d.ctxEnd k Stat.jobErr code a w
    if w / 2 ^ 40 % 128 ≠ 0 ∨ w % 4096 ≠ 0 ∨ (¬ isEnd ∧ ¬ d.inFitted next 4096) then err 0x11
    else if w / 2 ^ 48 ≠ gen then err 0x12
    else if !isEnd then
      if d.blockBad next then ((d.setCtxPc k next).reportPoison (blockOf next) 4096 0x20).ctxEnd k Stat.memErr 0 next w
      else if d.linkWord next / 2 ^ 48 ≠ gen then
        d.ctxEnd k Stat.jobErr 0x13 (next + 0xFF8) (d.linkWord next)
      else (d.setCtxPc k next).setCtxState k CtxState.running
    else if !(d.ctx k).stack.isEmpty then err 0x10
    else if (d.openJob k).isNone then d.chainDone k Stat.ok 0
    else if d.flag (Reg.SEQ_CTX_STAT.boot k) then err 0x14
    else (d.pmuContextStops k).setCtxState k CtxState.tail

/-- Do contexts go on with their chains: none is to stop at its next command boundary for an entry to SAFE or SLEEP (R441)? -/
def Dev.seqGoes (d : Dev) : Bool := d.flt.safeReq.isNone && d.glb.sleepTrigger.isNone

/-- LINK_WORD (R97): a running context at word 511 reads the link word. -/
def Dev.linkStep (k : Nat) (d : Dev) : Dev :=
  if d.ctxState k = CtxState.running ∧ d.ctxPc k % 4096 = 0xFF8 ∧ d.seqGoes then d.linkAct k else d

/-- SEQ_CTX_DB (R99, R100): a doorbell asks for one more read of the link word. -/
def Dev.ctxDoorbell (k : Nat) (d : Dev) : Dev :=
  if d.responds (Reg.SEQ_CTX_DB.addr k) then
    (d.modCtx k fun c => { c with doorbell := true }).modGlb fun g => { g with keepwetCancelled := true }
  else d

/-- WAIT_TAIL_REREAD (R100): the re-read that a doorbell asked for. -/
def Dev.tailReread (k : Nat) (d : Dev) : Dev :=
  if d.ctxState k = CtxState.tail ∧ (d.ctx k).doorbell ∧ d.seqGoes then d.linkAct k else d

/-- WAIT_TAIL_POLL (R100): the 10 µs poll. -/
def Dev.tailPoll (k : Nat) (d : Dev) : Dev := if d.ctxState k = CtxState.tail ∧ d.seqGoes then d.linkAct k else d

/-! ### Executing a command -/

/-- What a command's effect comes to. -/
inductive SeqOut where
  /-- executed; the context goes on behind it -/
  | done (d : Dev)
  /-- executed; the context goes on at an address, and may have ended on the way -/
  | jump (d : Dev)
  /-- executed; the context waits (state 2) -/
  | waits (w : Waiting) (d : Dev)
  /-- held in a state of Table 5-16 with its progress -/
  | hold (state step : Nat) (d : Dev)
  /-- the context ends with a detail code -/
  | fail (detail : Nat) (d : Dev)
  /-- the context ends with MEM_ERR -/
  | memErr (d : Dev)
deriving DecidableEq, Repr

/-- A command of context `k` has executed. -/
def Dev.cmdCount (k : Nat) (d : Dev) : Dev := (d.addFld (Reg.SEQ_CTX_CMDS.count k) 1).pmuCommand k

/-- The outcome of a command of `words` words applied to its context. -/
def SeqOut.settle (k w0 w1 words : Nat) : SeqOut → Dev
  | .done d =>
    let d := (d.modCtx k fun c => { c with held := none }).setCtxState k CtxState.running
    (d.setCtxPc k (d.ctxPc k + 8 * words)).cmdCount k
  | .jump d => d.cmdCount k
  | .waits w d =>
    let d := (d.modCtx k fun c => { c with held := none, wait := w }).setCtxState k CtxState.waiting
    ((d.setCtxPc k (d.ctxPc k + 8 * words)).cmdCount k).pmuContextStops k
  | .hold s n d => (d.modCtx k fun c => { c with held := some ⟨w0, w1, n⟩ }).setCtxState k s
  | .fail detail d => d.ctxFail k detail
  | .memErr d => d.ctxMemErr k

/-- A context that would run while a read of its own awaits a refetch is held (R33, R116). -/
def Dev.seqHold (k : Nat) (d : Dev) : Dev :=
  d.when (d.ctxState k == CtxState.running && d.waitsRefetch (.seqBlock k)) fun d => d.setCtxState k CtxState.refetch

/-- The outcome of the command that context `k` held, tried again: a context whose block was asked for once more meanwhile waits on for it. -/
def SeqOut.resume (k : Nat) (h : Held) (words : Nat) (o : SeqOut) : Dev := (o.settle k h.w0 h.w1 words).seqHold k

/-- The first failing check's detail code. -/
def firstFail : List (Bool × Nat) → Option Nat
  | [] => none
  | (b, c) :: l => if b then some c else firstFail l

/-- Is context `k` ready to execute a command: running, not at word 511, and not about to stop (R92, R96, R441)? A command arrives when its
word has been fetched and its turn has come: a row is one turn of one context, so of contexts 1 to 7 the one whose command arrives is the
only one with a fetched command that waits, and round robin serves it; context 0's commands take no turn from theirs, nor theirs
from its slot. -/
def Dev.cmdReady (d : Dev) (k : Nat) : Bool :=
  Nat.blt k 8 && d.ctxState k == CtxState.running && d.ctxPc k % 4096 != 0xFF8 && d.seqGoes

/-- A command of context `k` executes (R101 to R103): STRADDLE, then its checks in order, then its effect. -/
def Dev.cmdExec (k w0 w1 words : Nat) (checks : Dev → List (Bool × Nat)) (body : Dev → SeqOut) (d : Dev) : Dev :=
  if !(d.cmdReady k) then d
  else
    let d := d.modCtx k fun c => { c with lastCmd := d.ctxPc k, lastWord := w0 }
    match firstFail ((words == 2 && d.ctxPc k % 4096 == 0xFF0, 0x03) :: checks d) with
    | some code => d.ctxFail k code
    | none => (body d).settle k w0 w1 words

/-! #### Checks -/

/-- Non-zero bits of a word outside the mask of the fields a command has (R101). -/
def reservedBad (w mask : Nat) : Bool := Nat.land w (Nat.xor mask (2 ^ 56 - 1)) % 2 ^ 56 != 0

abbrev Detail.reserved : Nat := 0x02
abbrev Detail.ctxIllegal : Nat := 0x04
abbrev Detail.nesting : Nat := 0x05
abbrev Detail.range : Nat := 0x06
abbrev Detail.param : Nat := 0x07
abbrev Detail.tileDirFull : Nat := 0x15

/-- Context 0 only (R102). -/
def only0 (k : Nat) : Bool × Nat := (k != 0, Detail.ctxIllegal)
/-- Is a job open on context `k`? -/
def Dev.inJob (d : Dev) (k : Nat) : Bool := (d.openJob k).isSome
/-- Is context `k` in a page? -/
def Dev.inPage (d : Dev) (k : Nat) : Bool := k == 0 && d.pageIsOpen

/-- The first word of a command from its opcode and its other 56 bits. -/
def word0 (op w : Nat) : Nat := op * 2 ^ 56 + w % 2 ^ 56

/-! ### NOP, SIGNAL, MARK, CALL, RETURN -/

/-- NOP. -/
def Dev.cmdNop (k w : Nat) (d : Dev) : Dev :=
  d.cmdExec k (word0 0x00 w) 0 1 (fun _ => [(reservedBad w 0, Detail.reserved)]) .done

/-- A sync counter increased (R93). -/
def Dev.syncAdd (c n : Nat) (d : Dev) : Dev := d.addFld (Reg.SEQ_SYNC.count c) n

/-- SIGNAL (R93, R119). -/
def Dev.cmdSignal (k w : Nat) (d : Dev) : Dev :=
  d.cmdExec k (word0 0x22 w) 0 1 (fun _ => [(reservedBad w 0xF8001FFFFFFFFF, Detail.reserved)]) fun d =>
    let d := d.when (w.testBit 51) fun d => d.syncAdd (w / 2 ^ 32 % 32) 1
    .done (d.when (w.testBit 55) fun d =>
      let id := match d.openJob k with | some js => (d.job js).id | none => 0
      d.raiseTo (some (w / 2 ^ 52 % 8)) 0x0410 Sev.info 0x20 (k * 2 ^ 32 + w % 2 ^ 32) id)

/-- SEQ_SYNC_INC (R93). -/
def Dev.syncInc (v : Word) (d : Dev) : Dev :=
  if d.responds Reg.SEQ_SYNC_INC.addr then d.syncAdd (v.toNat / 2 ^ 16 % 32) (v.toNat % 2 ^ 16) else d

/-- MARK (R118): page and band are those open on context 0. -/
def Dev.cmdMark (k w : Nat) (d : Dev) : Dev :=
  d.cmdExec k (word0 0x23 w) 0 1 (fun d => [(reservedBad w 0xFFFFFFFFFFFF, Detail.reserved), (!(d.inJob k), Detail.nesting)]) fun d =>
    match d.openJob k with
    | none => .done d
    | some js =>
      let page := match d.seq.openPage with | some n => (d.page n).index | none => 0xFFFFFFFF
      let band := if d.pageIsOpen then d.fld Reg.SEQ_BAND.band else 0
      .done (d.logWrite js 4 (leBytes 1 k ++ leBytes 2 0 ++ leBytes 4 page ++ leBytes 4 band ++ leBytes 4 0 ++
        leBytes 8 (w % 2 ^ 48) ++ leBytes 8 d.tb2ns))

/-- CALL (R95, R115). -/
def Dev.cmdCall (k w : Nat) (d : Dev) : Dev :=
  d.cmdExec k (word0 0x30 w) 0 1 (fun d => [(reservedBad w 0xFFFFFFFFF8, Detail.reserved),
      (!(d.inFitted w 8) || w % 4096 == 0xFF8, Detail.range), (Nat.ble 8 (d.ctx k).stack.length, 0x0E)]) fun d =>
    let d := d.modCtx k fun c => { c with stack := (d.ctxPc k + 8, d.fld (Reg.SEQ_CTX_GEN.gen k)) :: c.stack }
    .jump ((d.setFld (Reg.SEQ_CTX_STAT.depth k) (d.ctx k).stack.length).enterFrame k w)

/-- RETURN (R115). -/
def Dev.cmdReturn (k w : Nat) (d : Dev) : Dev :=
  d.cmdExec k (word0 0x31 w) 0 1 (fun d => [(reservedBad w 0, Detail.reserved), ((d.ctx k).stack.isEmpty, 0x0F)]) fun d =>
    match (d.ctx k).stack with
    | [] => .fail 0x0F d
    | (a, g) :: rest =>
      let d := (d.modCtx k fun c => { c with stack := rest }).setFld (Reg.SEQ_CTX_STAT.depth k) rest.length
      .jump ((d.setCtxPc k a).setFld (Reg.SEQ_CTX_GEN.gen k) g)

/-- BAD_OPCODE (R101): a word whose opcode Table 5-3 does not list; a WAIT of a kind 6 to 15 ends the context with RANGE (R105). -/
def Dev.cmdBadOpcode (k w : Nat) (d : Dev) : Dev :=
  let op := w / 2 ^ 56 % 256
  let known := [0x00, 0x01, 0x02, 0x03, 0x04, 0x05, 0x06, 0x11, 0x20, 0x21, 0x22, 0x23, 0x24, 0x30, 0x31, 0x40, 0x41, 0x50,
    0x80, 0x81, 0x82, 0x83, 0x90]
  if op = 0x21 ∧ 6 ≤ w / 2 ^ 52 % 16 then
    d.cmdExec k w 0 1 (fun _ => [(true, Detail.range)]) .done
  else if known.contains op then d
  else d.cmdExec k w 0 1 (fun _ => [(true, 0x01)]) .done

/-! ### Parameters (Table 5-5) -/

/-- A SET: param and 48 low bits of the word, its place, its range, its effect. -/
def Dev.cmdSet (k param w : Nat) (place : Dev → Bool) (range : Dev → Bool) (body : Dev → SeqOut) (d : Dev) : Dev :=
  let v := w % 2 ^ 48
  d.cmdExec k (word0 0x20 (param * 2 ^ 48 + v)) 0 1 (fun d => [(v / 2 ^ 40 != 0, Detail.reserved), (!(place d), Detail.param),
    (!(range d), Detail.range)]) body

/-- SET LOG_BASE. -/
def Dev.setLogBase (k w : Nat) (d : Dev) : Dev :=
  d.cmdSet k 0x01 w (fun d => !(d.inJob k)) (fun _ => w % 64 == 0) fun d => .done (d.modCtx k fun c => { c with logBase := w })
/-- SET LOG_LEN. -/
def Dev.setLogLen (k w : Nat) (d : Dev) : Dev :=
  d.cmdSet k 0x02 w (fun d => !(d.inJob k)) (fun _ => w != 1) fun d => .done (d.modCtx k fun c => { c with logLen := w })
/-- SET PCACHE_BASE. -/
def Dev.setPcacheBase (k w : Nat) (d : Dev) : Dev :=
  d.cmdSet k 0x03 w (fun d => k == 0 && !d.pageIsOpen) (fun _ => w % 4096 == 0) fun d => .done (d.modSeq fun q => { q with pcacheBase := w })
/-- SET PCACHE_LEN. -/
def Dev.setPcacheLen (k w : Nat) (d : Dev) : Dev :=
  d.cmdSet k 0x04 w (fun d => k == 0 && !d.pageIsOpen) (fun _ => w % 4096 == 0) fun d => .done (d.modSeq fun q => { q with pcacheLen := w })
/-- SET EVT_RING. -/
def Dev.setEvtRing (k w : Nat) (d : Dev) : Dev :=
  d.cmdSet k 0x05 w (fun _ => true) (fun _ => Nat.blt w 8) fun d => .done (d.modCtx k fun c => { c with evtRing := w })

/-- Is a SET parameter defined (Table 5-5; Tables of chapters 12, 13 and 20)? -/
def paramDefined (p : Nat) : Bool :=
  (Nat.ble 1 p && Nat.ble p 5) || (Nat.ble 0x40 p && Nat.ble p 0x4A) || (Nat.ble 0x60 p && Nat.ble p 0x66) ||
  p == 0x70 || p == 0x71

/-- SET_PARAM_UNDEFINED (R104): an undefined param ends the context with PARAM. The defined ones test their place themselves. -/
def Dev.setUndefined (k param w : Nat) (d : Dev) : Dev :=
  if paramDefined (param % 256) then d else d.cmdSet k (param % 256) w (fun _ => false) (fun _ => true) .done

/-! ### Tiles -/

/-- TILE_DEF (R103, R128, R130, R133, R443). -/
def Dev.cmdTileDef (k w w1 : Nat) (d : Dev) : Dev :=
  let frame := w1 % 2 ^ 40
  let len := w1 / 2 ^ 40 % 2 ^ 24
  d.cmdExec k (word0 0x90 w) w1 2 (fun d => [(reservedBad w 0xC0000000FFFFFF, Detail.reserved),
      (Nat.blt len 32 || frame % 8 != 0 || !(d.inFitted frame len), Detail.range),
      ((Tab.find d.run.dir (w % 2 ^ 24)).isNone && Nat.ble 131072 d.run.dir.length, Detail.tileDirFull)]) fun d =>
    .done (d.define k (w % 2 ^ 24) frame len (w.testBit 55) (w.testBit 54))

/-- TILE_DROP (R133). -/
def Dev.cmdTileDrop (k w : Nat) (d : Dev) : Dev :=
  d.cmdExec k (word0 0x11 w) 0 1 (fun _ => [(reservedBad w 0xFFFFFF, Detail.reserved)]) fun d =>
    let d := match Tab.find d.run.dir (w % 2 ^ 24) with
      | some n => d.modCtx k fun c => { c with drops := n :: c.drops }
      | none => d
    .done (d.undefine (w % 2 ^ 24))

/-! ### BARRIER -/

/-- Have the earlier effects of context `k` landed (Table 5-7): its dropped tiles are freed; on context 0 every band of earlier
pages is committed and written to the page cache. Device-memory writes are visible at once in this model (R290). -/
def Dev.barrierMet (d : Dev) (k : Nat) : Bool :=
  (d.ctx k).drops.all (fun n => (Tab.find d.run.defs n).isNone) &&
  (k != 0 || (d.unfinishedPage.isNone && d.run.segments.isEmpty))

/-- BARRIER's effect. -/
def Dev.barrierBody (k : Nat) (d : Dev) : SeqOut :=
  if d.barrierMet k then .done (d.modCtx k fun c => { c with drops := [] }) else .hold CtxState.stalled 0 d

/-- BARRIER (R93). -/
def Dev.cmdBarrier (k w : Nat) (d : Dev) : Dev :=
  d.cmdExec k (word0 0x24 w) 0 1 (fun d => [(reservedBad w 0, Detail.reserved), (d.inPage k, Detail.nesting)]) fun d => d.barrierBody k

/-- BARRIER_DONE: the conditions of a held BARRIER hold. -/
def Dev.barrierDone (k : Nat) (d : Dev) : Dev :=
  match (d.ctx k).held with
  | some h =>
    if h.w0 / 2 ^ 56 = 0x24 ∧ d.ctxState k = CtxState.stalled ∧ d.barrierMet k ∧ d.seqGoes then (d.barrierBody k).resume k h 1 else d
  | none => d

/-! ### JOB_BEGIN and JOB_END -/

/-! ### The transmit lanes (R240, R251) -/

/-- Head port `k`. -/
def Dev.hport (d : Dev) (k : Nat) : HPort := Tab.get d.hlk.ports HPort.off k
/-- Head port `k` changed. -/
def Dev.modPort (k : Nat) (f : HPort → HPort) (d : Dev) : Dev := d.modHlk fun h => { h with ports := Tab.upd h.ports HPort.off k f }

/-- Something that left on a transmit lane, after everything sent before. -/
def Dev.headSend (o : HeadOut) (d : Dev) : Dev := d.modHlk fun h => { h with out := h.out ++ [o] }

/-- The device state that IDLE blocks carry (R240). -/
def idleState (m : Nat) : Nat :=
  if m = Mode.service then 1 else if Mode.isPrint m then 2 else if m = Mode.shadow then 3 else if m = Mode.safe then 4 else 0

/-- Payload byte 1 of the IDLE blocks on port `k`'s lane: the active flag and the device state; none where the lane is at electrical idle:
in RESET, LOAD, FILL and SLEEP, and on a disabled port (R240, R250, Table 12-13). -/
def Dev.laneIdle (d : Dev) (k : Nat) : Option Nat :=
  if d.mode = Mode.reset ∨ d.mode = Mode.load ∨ d.mode = Mode.fill ∨ d.mode = Mode.sleep ∨ !(d.fld Reg.HLK_PORT_EN.en).testBit k then none
  else some (d.fld (Reg.HLK_PORT_STAT.active k) + 2 * idleState d.mode)

/-- What fills port `k`'s lane between frames follows its flags: an IDLE block of a new content, or electrical idle. -/
def Dev.idleShow (k : Nat) (d : Dev) : Dev :=
  let b := d.laneIdle k
  if (d.hport k).idle = b then d
  else (d.headSend (match b with
    | some v => .idle k ([0x1E#8, BitVec.ofNat 8 v, BitVec.ofNat 8 k] ++ List.replicate 5 0#8)
    | none => .dark k)).modPort k fun h => { h with idle := b }

/-- Every lane goes to electrical idle (Table 12-13). -/
def Dev.lanesDark (d : Dev) : Dev :=
  (List.range 32).foldl (fun d k =>
    if (d.hport k).idle.isNone then d else (d.headSend (.dark k)).modPort k fun h => { h with idle := none }) d

/-- HLK_PORT_STAT.active of every port: 1 on UP ports in the print modes (Table 12-13), and the lanes' IDLE blocks with it. -/
def Dev.activeShow (d : Dev) : Dev :=
  (List.range 32).foldl (fun d k => (d.setFlag (Reg.HLK_PORT_STAT.active k)
    (Mode.isPrint d.mode && d.fld (Reg.HLK_PORT_STAT.state k) == 5)).idleShow k) d

/-- EV_GLB_MODE_CHANGE with the new mode (R46); a sweep that runs is to be abandoned by every change but STANDBY to SERVICE (R268); each
entry to a print mode may post EV_GLB_AVS_VMAX once (R19). -/
def Dev.modeChange (m trigger : Nat) (d : Dev) : Dev :=
  let old := d.mode
  let d := (d.setFld Reg.GLB_MODE.prev_mode old).setFld Reg.GLB_MODE.mode m
  let d := d.when (!(old == Mode.standby && m == Mode.service)) fun d => d.modMsr fun x => { x with
    sweeps := x.sweeps.map fun s => { s with cut := s.cut || s.started } }
  let d := d.when (Mode.isPrint m) fun d => d.modGlb fun g => { g with vmaxPosted := false }
  let d := d.when (!(Mode.isPrint m || m == Mode.shadow)) fun d => d.setFlag Reg.MEM_STAT.panic false
  ((((d.setFlag Reg.GLB_MODE.transit false).activeShow).trgMode m).count 0x00 1).raiseTo (some 0) 0x0101 Sev.info 0x08 (old * 16 + m) trigger

/-- The grid at index `j` from datum `p0` (R217). -/
def Dev.gridAt (p0 : Int) (j : Nat) (d : Dev) : Dev :=
  let num := d.fld Reg.PAC_LINE_NUM.value
  let den := d.fld Reg.PAC_LINE_DEN.value
  d.modPac fun a => { a with p0 := p0, j := j, q := j * num / den, rem := j * num % den, grid := true }

/-- A session of line starts begins: they are numbered from 1 again; the lines of earlier jobs have all fired. -/
def Dev.sessionStart (d : Dev) : Dev :=
  let d := d.modSeq fun q => { q with
    jobs := q.jobs.map (fun e => (e.1, { e.2 with start := 0, cursor := 0 }))
    pages := q.pages.map (fun e => (e.1, { e.2 with segs := [] })) }
  let d := d.modPac fun a => { a with
    starts := 0, lastTime := none, slow := 0, datums := [], passes := [], pass := none, grid := false }
  d.modHlk fun h => { h with ports := h.ports.map (fun e => (e.1, { e.2 with upAt := 0 })) }

/-- The print mode is entered from STANDBY (R35, R219): P0 := H and the first boundary is j = 1; in PRINT_SCAN the passes give the
datums. -/
def Dev.printEnter (d : Dev) : Dev :=
  let d := (d.modeChange (8 + d.fld Reg.PAC_CFG.print_mode) 2).sessionStart
  if d.isScan then d.pacShow
  else
    let h := d.pair Reg.PAC_HWM_LO.addr
    ((d.when d.isActive fun d => d.pairSend (.datum 0 h 0)).gridAt (h : Nat) 1).pacShow

/-- The number of the next line start. -/
def Dev.nextStart (d : Dev) : Nat := d.pac.starts + 1

/-- Has the last line of the last closed job fired on every port, so that the print mode is being left (R35)? -/
def Dev.exitDue (d : Dev) : Bool :=
  Mode.isPrint d.mode && (d.openJob 0).isNone &&
  d.seq.pages.all (fun e => e.2.recorded ||
    (match d.pageLastStart e.1 with | some s => Nat.ble s d.pac.starts && e.2.closed && Nat.ble e.2.length e.2.corrected | none => false)) &&
  (List.range 32).all (fun k => (Tab.get d.hlk.ports HPort.off k).due.isEmpty)

/-- The pages that contexts wait for in the next job of context 0 (R105) are now those of job `js`. -/
def Dev.waitsBind (js : Nat) (d : Dev) : Dev :=
  d.modSeq fun q => { q with ctxs := q.ctxs.map fun e => (e.1, match e.2.wait with
    | .page none n => { e.2 with wait := .page (some js) n }
    | _ => e.2) }

/-- A job opened on context `k` (R118, R219): its JOB record; on context 0 its place in the stream of line starts. -/
def Dev.jobOpen (k id : Nat) (d : Dev) : Dev :=
  let c := d.ctx k
  let js := d.seq.nextJob
  let before := (d.seq.jobs.filter (fun e => e.2.ctx == 0)).foldl (fun m e => max m (e.2.start + e.2.cursor)) 0
  let j : Job := { Job.empty with
    ctx := k, id := id, log := ⟨c.logBase, c.logLen, 0, 0, false⟩, closed := false
    start := if k = 0 then max d.nextStart before else 0 }
  let d := d.modSeq fun q => { q with jobs := Tab.put q.jobs js j, nextJob := js + 1 }
  let d := d.modCtx k fun c => { c with job := some js, begun := true, placed := [] }
  let d := (d.setFlag (Reg.SEQ_CTX_STAT.in_job k) true).setFld (Reg.SEQ_CTX_JOB.job_id k) id
  let d := d.when (k == 0) fun d => (d.nrgJobBegin).waitsBind js
  d.logWrite js 1 (leBytes 1 k ++ leBytes 2 0 ++ leBytes 4 id ++ leBytes 4 d.imageCrc ++ leBytes 4 0 ++ leBytes 8 d.tb2ns ++ leBytes 8 0)

/-- JOB_BEGIN's effect: on context 0 it is held in SERVICE, in CALIBRATE and while the print mode is being left (R35, R39), and
enters the print mode from STANDBY. -/
def Dev.jobBeginBody (k id : Nat) (d : Dev) : SeqOut :=
  if k ≠ 0 then .done (d.jobOpen k id)
  else
    let d := d.modGlb fun g => { g with keepwetCancelled := true }
    if d.mode = Mode.service ∨ d.mode = Mode.calibrate ∨ d.exitDue then .hold CtxState.mode 0 d
    else .done ((d.when (d.mode == Mode.standby) Dev.printEnter).jobOpen 0 id)

/-- JOB_BEGIN (R102, R219, R283, R443). -/
def Dev.cmdJobBegin (k w : Nat) (d : Dev) : Dev :=
  d.cmdExec k (word0 0x01 w) 0 1 (fun d => [(reservedBad w 0xFFFFFFFF, Detail.reserved),
      (k == 0 && d.marginImage && d.mode == Mode.standby, Detail.ctxIllegal), (d.inJob k, Detail.nesting),
      ((d.ctx k).logLen != 0 && !(d.inFitted (d.ctx k).logBase (32 * (d.ctx k).logLen)), Detail.range)]) fun d =>
    d.jobBeginBody k (w % 2 ^ 32)

/-- HELD_JOB_BEGIN (R35, R39): the JOB_BEGIN that context 0 holds executes once STANDBY is reached. -/
def Dev.heldJobBegin (d : Dev) : Dev :=
  match (d.ctx 0).held with
  | some h =>
    if d.ctxState 0 = CtxState.mode ∧ d.mode = Mode.standby ∧ d.seqGoes then (d.jobBeginBody 0 (h.w0 % 2 ^ 32)).resume 0 h 1 else d
  | none => d

/-- JOB_END (R118). -/
def Dev.cmdJobEnd (k w : Nat) (d : Dev) : Dev :=
  d.cmdExec k (word0 0x02 w) 0 1 (fun d => [(reservedBad w 0, Detail.reserved), (!(d.inJob k) || d.inPage k, Detail.nesting)]) fun d =>
    .done (d.jobClose k 0 0)

/-! ### Pages -/

/-- The pending defect table is taken by page `n` (Table 5-7, R173), unless an earlier page takes it. -/
def Dev.pageClaims (n : Nat) (d : Dev) : Dev :=
  match d.dcr.pending with
  | none => d
  | some v => if d.seq.pages.any (fun e => !e.2.recorded && e.2.takes == some v) then d else d.modPage n fun p => { p with takes := some v }

/-- The lines of a web page whose line start has already come (R220): each is blank as late data. -/
def Dev.lateAtOpen (n : Nat) (d : Dev) : Dev :=
  let p := d.page n
  d.enabledPorts.foldl (fun d k =>
    match d.lineStartOf n k 0 with
    | none => d
    | some s0 =>
      (List.range (min p.length (d.pac.starts + 1 - s0))).foldl (fun d y =>
        if d.carries k y then (d.blankLine Rep.asm k n y Blank.late 0).settle n true else d) d) d

/-- A sheet datum rejected (R228): posted with its reason, the Z of its line 0 and the page it would have been bound to. -/
def Dev.datumReject (reason z page : Nat) (d : Dev) : Dev :=
  (d.satFld Reg.PAC_DET_STAT.tos_early 1).raiseTo (some (d.evtRing 0)) 0x0A06 Sev.warn 0x50 (reason * 2 ^ 32 + z % 2 ^ 32) page

/-- The line start after the last line of the pages before page `n`. -/
def Dev.sheetEnd (d : Dev) (n : Nat) : Nat :=
  ((d.seq.pages.filter (fun e => Nat.blt e.1 n)).flatMap fun e => e.2.segs.filterMap fun s =>
    s.z.map fun z => (d.job e.2.job).start + z + s.count).foldl max 0

/-- A sheet's line 0 placed at line start `g`: the stream of its job, and of the jobs behind it, reaches to its end (R219, R227). -/
def Dev.sheetBind (n g : Nat) (d : Dev) : Dev :=
  let p := d.page n
  let j := d.job p.job
  let z := g - j.start
  let d := d.modPage n fun p => { p with segs := p.segs.map fun s => { s with z := some z } }
  let d := d.modJob p.job fun j => { j with cursor := max j.cursor (z + p.length) }
  let over_ := j.start + max j.cursor (z + p.length)
  let d := d.modSeq fun q => { q with jobs := q.jobs.map fun e =>
    if p.job < e.1 ∧ e.2.ctx = 0 then (e.1, { e.2 with start := max e.2.start over_ }) else e }
  d.lateAtOpen n

/-- The waiting datums bound, in order, to the open pages that wait for theirs; one that comes too early is rejected (R227, R228). -/
def Dev.bindDatums : Nat → Dev → Dev
  | 0, d => d
  | fuel + 1, d =>
    match d.pac.datums, d.seq.pages.find? (fun e => !e.2.recorded && e.2.segs.any (fun s => s.z.isNone)) with
    | g :: rest, some (n, p) =>
      let d := d.modPac fun a => { a with datums := rest }
      let start := (d.job p.job).start
      let d := if g < d.sheetEnd n + p.gap ∨ g < start then d.datumReject 2 (g - start) p.index else d.sheetBind n g
      d.bindDatums fuel
    | _, _ => (d.setFld Reg.PAC_DET_STAT.pending d.pac.datums.length).setFlag Reg.PAC_STAT.armed (!d.pac.datums.isEmpty)

/-- A page opened (R113, R219): the next of job `js`, with its place in the stream; its first band is staged when the buffer is
free. -/
def Dev.pageOpen (js length : Nat) (evt : Bool) (evr : Nat) (cached copy : Bool) (d : Dev) : Dev :=
  let j := d.job js
  let n := d.seq.nextPage
  let segs : List Seg :=
    if d.isWeb then [⟨0, length, some j.cursor, false, 15⟩] else if d.isSheet then [⟨0, length, none, false, 15⟩] else []
  let p : Page := { Page.empty with
    job := js, index := j.pages, length := length, evt := evt, evr := evr, cached := cached, copy := copy, segs := segs
    afterSkip := j.afterSkip, closed := copy, recorded := false, gap := j.skip }
  let d := d.modSeq fun q => { q with pages := Tab.put q.pages n p, nextPage := n + 1 }
  let d := d.modJob js fun j => { j with
    pages := j.pages + 1, afterSkip := false, skip := 0, cursor := if d.isWeb then j.cursor + length else j.cursor }
  let d := (d.setFld Reg.SEQ_PAGE.page j.pages).pageClaims n
  let d := d.when d.isWeb fun d => d.lateAtOpen n
  let d := d.when d.isSheet fun d => d.bindDatums 9
  d.stageNext

/-- PAGE_BEGIN (R102, R113, R443). -/
def Dev.cmdPageBegin (k w : Nat) (d : Dev) : Dev :=
  let cached := w.testBit 54
  let length := w % 2 ^ 32
  d.cmdExec k (word0 0x03 w) 0 1 (fun d => [(reservedBad w 0xF80000FFFFFFFF, Detail.reserved), only0 k,
      (!(d.inJob k) || d.inPage k, Detail.nesting),
      (length == 0 || (cached && !(d.inFitted d.seq.pcacheBase d.seq.pcacheLen)), Detail.range)]) fun d =>
    match d.openJob 0 with
    | none => .done d
    | some js =>
      let n := d.seq.nextPage
      let d := d.pageOpen js length (w.testBit 55) (w / 2 ^ 51 % 8) cached false
      let d := d.when cached fun d => d.pcacheStart n length
      let d := (d.modSeq fun q => { q with openPage := some n }).modCtx 0 fun c => { c with placed := [] }
      .done (((d.setFlag Reg.SEQ_BAND.valid true).setFld Reg.SEQ_BAND.band 0).setFlag (Reg.SEQ_CTX_STAT.in_page 0) true)

/-- Lines of a page that its segments cover. -/
def Page.covered (p : Page) : Nat := (p.segs.map (·.count)).sum

/-- PAGE_END's effect (R108): the last band is confirmed once it is staged; the bands before it are confirmed in turn. -/
def Dev.pageEndBody (d : Dev) : SeqOut :=
  match d.seq.openPage with
  | none => .done d
  | some n =>
    let p := d.page n
    match d.cmp.staging with
    | none => .hold CtxState.stalled 0 d
    | some g =>
      if g.page ≠ n then .hold CtxState.stalled 0 d
      else if g.band + 1 < bandsOf p.length then .hold CtxState.stalled 0 d.stageConfirm
      else
        let d := (d.stageConfirm).modPage n fun p => { p with closed := true }
        let d := (d.modSeq fun q => { q with openPage := none }).modCtx 0 fun c => { c with placed := [] }
        .done ((d.setFlag Reg.SEQ_BAND.valid false).setFlag (Reg.SEQ_CTX_STAT.in_page 0) false)

/-- PAGE_END (R108, R230). -/
def Dev.cmdPageEnd (k w : Nat) (d : Dev) : Dev :=
  d.cmdExec k (word0 0x04 w) 0 1 (fun d => [(reservedBad w 0, Detail.reserved), only0 k, (!(d.inPage k), Detail.nesting),
      (d.isScan && (match d.seq.openPage with | some n => Nat.blt (d.page n).covered (d.page n).length | none => false), 0x17)])
    Dev.pageEndBody

/-- SKIP_LINES (R221). -/
def Dev.cmdSkipLines (k w : Nat) (d : Dev) : Dev :=
  d.cmdExec k (word0 0x05 w) 0 1 (fun d => [(reservedBad w 0xFFFFFFFF, Detail.reserved), (k != 0 || d.isScan, Detail.ctxIllegal),
      (!(d.inJob k) || d.inPage k, Detail.nesting), (w % 2 ^ 32 == 0, Detail.range)]) fun d =>
    match d.openJob 0 with
    | none => .done d
    | some js =>
      let n := w % 2 ^ 32
      .done (d.modJob js fun j => { j with
        afterSkip := true, cursor := if d.isWeb then j.cursor + n else j.cursor, skip := if d.isWeb then j.skip else j.skip + n })

/-- Has the last copy opened its last band in the buffers, wholly decoded (R141)? -/
def Dev.copyStaged (d : Dev) : Bool :=
  match d.unfinishedPage with
  | none => true
  | some (n, p) =>
    match d.cmp.staging with
    | some g => p.copy && g.page == n && g.band + 1 == bandsOf p.length && g.segs == 2 ^ ((g.lines + 15) / 16) - 1
    | none => false

/-- COPIES' effect: the copies are opened one after another, each once the one before is wholly staged. -/
def Dev.copiesBody (count step : Nat) (d : Dev) : SeqOut :=
  match d.openJob 0 with
  | none => .done d
  | some js =>
    if step = 0 then
      if d.unfinishedPage.isSome then .hold CtxState.stalled 0 d
      else .hold CtxState.stalled 1 (d.pageOpen js (d.memLe (d.run.entryBase + 8) 4) false 0 false true)
    else if !d.copyStaged then .hold CtxState.stalled step d
    else if step < count then .hold CtxState.stalled (step + 1) (d.pageOpen js (d.memLe (d.run.entryBase + 8) 4) false 0 false true)
    else .done d

/-- COPIES (R114). -/
def Dev.cmdCopies (k w : Nat) (d : Dev) : Dev :=
  d.cmdExec k (word0 0x06 w) 0 1 (fun d => [(reservedBad w 0xFFFFFFFF, Detail.reserved), only0 k,
      (!(d.inJob k) || d.inPage k, Detail.nesting), (w % 2 ^ 32 == 0, Detail.range),
      (d.flag Reg.RUN_PCACHE_STAT.overflow, 0x0D), (!(d.flag Reg.RUN_PCACHE_STAT.committed), 0x0C)])
    (fun d => d.copiesBody (w % 2 ^ 32) 0)

/-! ### Placements (R106 to R108, R112) -/

/-- A signed 32-bit coordinate. -/
def coord32 (n : Nat) : Int := signed 32 n

/-- The placement that a first word describes at (x, y), with the definition it uses. -/
def Dev.plcOf (_d : Dev) (kind w0 serial : Nat) (h : Option Header) (x y : Int) (cmd : Nat) : Plc :=
  let wh := if kind = 1 then (w0 / 2 ^ 19 % 2 ^ 19 + 1, w0 % 2 ^ 19 + 1)
    else match h with
      | some h => footprint (w0 / 2 ^ 50 % 8) h.width h.height
      | none => (0, 0)
  { kind := kind, w0 := w0, serial := serial, width := wh.1, height := wh.2, x := x, y := y, cmd := cmd, tag := none }

/-- The kind of a placement by its opcode: 0 PLACE, 1 FILL, 2 MASK. -/
def kindOf (w0 : Nat) : Nat := w0 / 2 ^ 56 % 256 - 0x80

/-- The followed placement of a tag (R418). -/
def Dev.tagRec (d : Dev) (p : Plc) (page : Nat) : TagRec :=
  let tile := if p.kind = 1 then none else some (p.w0 % 2 ^ 24)
  let y0 := p.topLine
  let cols := d.plcCols p
  let onPort := fun (k : Nat) => d.carries k y0 && p.planeMask.testBit (d.geom.plane k) &&
    (List.range (d.portElems k)).any (fun n => Nat.ble cols.1 (d.portColumn k n) && Nat.blt (d.portColumn k n) cols.2)
  ⟨0, tile, page, (d.page page).index, p.topBand, y0, ((d.enabledPorts.find? onPort).getD 0)⟩

/-- A placement of a tile whose decode is not over: its failure will end context 0 with TILE_BAD, wherever the placement lies (R112). -/
def Dev.useNoted (serial cmd w0 : Nat) (d : Dev) : Dev :=
  let u := (serial, cmd, w0)
  if d.cached serial || d.seq.uses.contains u then d else d.modSeq fun q => { q with uses := q.uses ++ [u] }

/-- One placement of the open page (R106, R108, R112, R129). -/
def Dev.placeOne (w0 : Nat) (x y : Int) (cmd : Nat) (d : Dev) : SeqOut :=
  match d.seq.openPage with
  | none => .done d
  | some n =>
    let kind := kindOf w0
    let p := d.page n
    let def? := if kind = 1 then some 0 else Tab.find d.run.dir (w0 % 2 ^ 24)
    match def? with
    | none => .fail 0x08 d
    | some serial =>
      let t := d.tileDef serial
      let d := d.when (kind != 1) fun d => d.requestDecode 0 serial
      if kind ≠ 1 ∧ t.failed.isSome then .fail 0x09 d
      else if kind ≠ 1 ∧ t.header.isNone then .hold CtxState.stalled 0 d
      else
        let d := d.when (kind != 1) fun d => d.useNoted serial cmd w0
        let q := d.plcOf kind w0 serial t.header x y cmd
        if !(q.coversPage d.pageW p.length) then .done (d.tagPlacement false (d.tagRec q n) cmd).2
        else
          match d.cmp.staging with
          | none => .hold CtxState.stalled 0 d
          | some g =>
            if g.page ≠ n then .hold CtxState.stalled 0 d
            else if q.topBand < g.band then .fail 0x0A d
            else if g.band < q.topBand then .hold CtxState.stalled 0 d.stageConfirm
            else if Nat.ble 256 (d.outstanding g) then .hold CtxState.stalled 0 d
            else
              let writes := d.plcWrites q g.band g.lines
              let d := d.when (kind != 1) fun d => d.count (if d.cached serial then 0x3A else 0x3B) 1
              let r := d.tagPlacement writes (d.tagRec q n) cmd
              if !writes then .done r.2
              else
                let d := r.2.when (kind != 1) fun d => d.modDef serial fun t => { t with refs := t.refs + 1 }
                let d := d.stageAdd { q with tag := r.1 }
                .done (match r.1 with
                  | some tag => if kind ≠ 1 ∧ d.cached serial then d.tagReach tag 2 0 (w0 % 2 ^ 24) else d
                  | none => d)

/-- A placement command's effect: one placement, remembered for REPEAT (R111). -/
def Dev.placeBody (w0 w1 : Nat) (d : Dev) : SeqOut :=
  let cmd := d.ctxPc 0
  match d.placeOne w0 (coord32 (w1 / 2 ^ 32)) (coord32 w1) cmd with
  | .done d => .done (d.modCtx 0 fun c => { c with placed := c.placed ++ [(w0, w1, cmd)] })
  | o => o

/-- The checks of the placement commands (Table 5-4): reserved bits, context, place, blend, planes. -/
def Dev.placeChecks (d : Dev) (k w mask : Nat) (blend : Bool) (more : Bool) : List (Bool × Nat) :=
  [(reservedBad w mask, Detail.reserved), only0 k, (!(d.inPage k), Detail.nesting),
   ((blend && Nat.ble 6 (w / 2 ^ 53 % 8)) || w / 2 ^ 42 % 256 == 0 || Nat.ble (2 ^ d.geom.planes) (w / 2 ^ 42 % 256) || more, Detail.range)]

/-- PLACE (R106, R112). -/
def Dev.cmdPlace (k w w1 : Nat) (d : Dev) : Dev :=
  d.cmdExec k (word0 0x80 w) w1 2 (fun d => d.placeChecks k w 0xFFFC0000FFFFFF true false) fun d => d.placeBody (word0 0x80 w) w1
/-- FILL (R151). -/
def Dev.cmdFill (k w w1 : Nat) (d : Dev) : Dev :=
  d.cmdExec k (word0 0x81 w) w1 2 (fun d => d.placeChecks k w 0xE3FFFFFFFFFFFF true false) fun d => d.placeBody (word0 0x81 w) w1
/-- MASK (R152). -/
def Dev.cmdMask (k w w1 : Nat) (d : Dev) : Dev :=
  d.cmdExec k (word0 0x82 w) w1 2 (fun d => d.placeChecks k w 0x9FFFC000FFFFFF false (w / 2 ^ 38 % 16 == 0)) fun d =>
    d.placeBody (word0 0x82 w) w1

/-- The replays of a REPEAT from number `step` on: replay j of placement i has number (j - 1) * n + i (R111). -/
def Dev.repeatFrom (ps : List (Nat × Nat × Nat)) (dx dy : Int) (total : Nat) : Nat → Nat → Dev → SeqOut
  | 0, step, d => if total ≤ step then .done d else .hold CtxState.stalled step d
  | fuel + 1, step, d =>
    if total ≤ step then .done d
    else
      let j : Int := (step / ps.length + 1 : Nat)
      let q := ps.getD (step % ps.length) (0, 0, 0)
      let x := coord32 (q.2.1 / 2 ^ 32) + j * dx
      let y := coord32 q.2.1 + j * dy
      if x < -(2 ^ 31) ∨ 2 ^ 31 ≤ x ∨ y < -(2 ^ 31) ∨ 2 ^ 31 ≤ y then .fail Detail.range d
      else match d.placeOne q.1 x y q.2.2 with
        | .done d => d.repeatFrom ps dx dy total fuel (step + 1)
        | .hold s _ d => .hold s step d
        | o => o

/-- REPEAT's effect. -/
def Dev.repeatBody (w w1 step : Nat) (d : Dev) : SeqOut :=
  let n := w / 2 ^ 48 % 256
  let placed := (d.ctx 0).placed
  if placed.length < n then .fail 0x0B d
  else
    let total := n * (w % 2 ^ 16)
    d.repeatFrom (placed.drop (placed.length - n)) (coord32 (w1 / 2 ^ 32)) (coord32 w1) total (total - step) step

/-- REPEAT (R111). -/
def Dev.cmdRepeat (k w w1 : Nat) (d : Dev) : Dev :=
  d.cmdExec k (word0 0x83 w) w1 2 (fun d => [(reservedBad w 0xFF00000000FFFF, Detail.reserved), only0 k, (!(d.inPage k), Detail.nesting),
      (w / 2 ^ 48 % 256 == 0 || w % 2 ^ 16 == 0, Detail.range)]) fun d => d.repeatBody w w1 0

/-! ### Scan passes (R230) -/

/-- Entry `i` of the pass table. -/
def Dev.passEntry (d : Dev) (i : Nat) : Nat := Tab.get (Tab.get d.cfg.tables [] 0x0A01) 0 i

/-- PASS (R230, R231): the pass takes the next lines of the open page, at the Z that follow the passes before it. -/
def Dev.cmdPass (k w : Nat) (d : Dev) : Dev :=
  let rest := fun (d : Dev) => match d.seq.openPage with | some n => (d.page n).length - (d.page n).covered | none => 0
  d.cmdExec k (word0 0x40 w) 0 1 (fun d => [(reservedBad w 63, Detail.reserved), (k != 0 || !d.isScan, Detail.ctxIllegal),
      (!(d.inPage k), Detail.nesting), (rest d == 0, Detail.range)]) fun d =>
    match d.seq.openPage with
    | none => .done d
    | some n =>
      let p := d.page n
      let e := d.passEntry (w % 64)
      let lines := min (e % 2 ^ 16 + 1) (rest d)
      let z := (d.job p.job).cursor
      let first := p.covered
      let rev := e.testBit 36
      let d := d.modPage n fun p => { p with
        segs := p.segs ++ [⟨first, lines, some z, rev, e / 2 ^ 32 % 16⟩], lastPass := some first }
      let d := d.modJob p.job fun j => { j with cursor := z + lines + d.offMax }
      .done (d.modPac fun a => { a with passes := a.passes ++ [⟨n, w % 64, first, lines, z, rev, false⟩] }).pacShow

/-- FEED (R230): the pass queued last is marked; one whose line starts are over is fed now. -/
def Dev.cmdFeed (k w : Nat) (d : Dev) : Dev :=
  let last := fun (d : Dev) => match d.seq.openPage with | some n => (d.page n).lastPass | none => none
  d.cmdExec k (word0 0x41 w) 0 1 (fun d => [(reservedBad w 0, Detail.reserved), (k != 0 || !d.isScan, Detail.ctxIllegal),
      (!(d.inPage k) || (last d).isNone, Detail.nesting)]) fun d =>
    match d.seq.openPage, last d with
    | some n, some first =>
      let here := fun (q : Pass) => q.page == n && q.first == first
      let d := d.modPage n fun p => { p with lastPass := none }
      if d.pac.passes.any here then
        .done (d.modPac fun a => { a with passes := a.passes.map fun q => if here q then { q with feed := true } else q })
      else match d.pac.pass with
        | some q =>
          .done (d.modPac fun a => { a with pass := some (if here q then { q with feed := true } else q) })
        | none =>
          let e := d.fld Reg.PAC_PASS_STAT.entry
          .done (d.modPac fun a => { a with feed := some (n, e, d.passEntry e / 2 ^ 16 % 2 ^ 16, a.passEnd) }).pacShow
    | _, _ => .done d

/-! ### DEFECT_SYNC (R171, R172) -/

/-- DEFECT_SYNC (R172, R443): the table is read and checked; context 0 holds until the check completes. -/
def Dev.cmdDefectSync (k w : Nat) (d : Dev) : Dev :=
  let table := w % 2 ^ 40
  d.cmdExec k (word0 0x50 w) 0 1 (fun d => [(reservedBad w 0xFFFFFFFFFFF000, Detail.reserved), only0 k, (!(d.inJob k), Detail.nesting),
      (!(d.inFitted table defectTableBytes), Detail.range)]) fun d =>
    .hold CtxState.stalled 0 (d.modDcr fun x => { x with sync := some (table, w / 2 ^ 40 % 2 ^ 16, false) })

/-- DEFECT_TABLE_CHECK_DONE (R172). -/
def Dev.defectCheckDone (d : Dev) : Dev :=
  match d.dcr.sync, (d.ctx 0).held with
  | some (a, v, bad), some h =>
    if d.waitsRefetch .defectSync || !d.seqGoes then d else
    let d := d.modDcr fun x => { x with sync := none }
    if bad ∨ d.rangePoisoned a defectTableBytes then (SeqOut.memErr (d.reportPoison a defectTableBytes 0x38)).resume 0 h 1
    else
      let r := d.defectChecked a v
      if r.1 = 0 then (SeqOut.done r.2).resume 0 h 1 else (SeqOut.fail 0x16 r.2).resume 0 h 1
  | _, _ => d

/-! ### What releases a stalled context 0 -/

/-- The effect of a command that context 0 holds in state 6, tried again. -/
def Dev.heldBody (h : Held) (d : Dev) : Option (Nat × SeqOut) :=
  let op := h.w0 / 2 ^ 56
  if op = 0x04 then some (1, d.pageEndBody)
  else if op = 0x06 then some (1, d.copiesBody (h.w0 % 2 ^ 32) h.step)
  else if op = 0x80 ∨ op = 0x81 ∨ op = 0x82 then some (2, d.placeBody h.w0 h.w1)
  else if op = 0x83 then some (2, d.repeatBody (h.w0 % 2 ^ 56) h.w1 h.step)
  else none

/-- The command that context 0 holds is tried again (state 6 of Table 5-16). -/
def Dev.retry0 (d : Dev) : Dev :=
  match (d.ctx 0).held with
  | some h =>
    if d.ctxState 0 ≠ CtxState.stalled || !d.seqGoes then d
    else match d.heldBody h with
      | some (words, o) => o.resume 0 h words
      | none => d
  | none => d

/-- BAND_CLEAR_DONE (R155): composing may begin; a band of a copy has its segments decoded instead (R141), and is confirmed when all are. -/
def Dev.bandClearDone (d : Dev) : Dev :=
  match d.cmp.staging with
  | none => d
  | some g =>
    if d.stageState ≠ Stage.clearing then d
    else
      let d := d.setFld Reg.CMP_STAGE_STAT.state (if g.confirmed then Stage.confirmed else Stage.composing)
      let d := d.when g.copy fun d =>
        let segs := (List.range 4).filter fun s => segLines g.lines s != 0
        d.modRun fun r => { r with
          decodes := r.decodes ++ segs.map fun s => ⟨.seg g.page g.band s, none, none, none⟩ }
      d.retry0

/-- Is the staging band ready to commit: confirmed, composed or decoded, nothing of it waiting for recomposition, and the
committed band read by dose correction and written to the page cache (R108, R140)? -/
def Dev.commitReady (d : Dev) (g : Staging) : Bool :=
  d.stageState == Stage.confirmed &&
  (if g.copy then g.segs == 2 ^ ((g.lines + 15) / 16) - 1 else d.stagingDone g) &&
  !(d.cmp.failed.any (fun f => f.1 == 1)) && !d.rejoinHolds &&
  (match d.cmp.committed with | some c => c.next == c.lines && c.segsLeft == 0 | none => true)

/-- The physical lane with the most tokens, the lowest number among equals, and its count (CMP_BAND_MAXLANE). -/
def maxLane (t : Tab Nat) : Nat × Nat :=
  (List.range 9).foldl (fun m u => if m.2 < Tab.get t 0 u then (u, Tab.get t 0 u) else m) (0, 0)

/-- R357: the carry checkpoint of a commit in a pair, source 0x83: the carries of the planes in column order, two bytes each, in
one of four slots, which the commits take in turn. -/
def Dev.checkpoint (c : Committed) (d : Dev) : Dev :=
  if !(d.flag Reg.PAIR_CFG.pair_en) then d
  else
    let g := d.geom
    let k : Checkpoint := ⟨c.page, c.band, c.lines, c.copy, c.entries, c.overflow, d.dcr.carry⟩
    let d := d.modPair fun p => { p with ckpts := (k :: p.ckpts).take 4 }
    let bs := (List.range (g.planes * g.cols)).flatMap fun i => leBytes 2 (unsigned 16 (Tab.get d.dcr.carry 0 i))
    d.memWrite 0x83 (d.pair Reg.PAIR_CKPT_BASE_LO.addr + d.fld Reg.CMP_COMMITS.count % 4 * 2 ^ 19) bs

/-- BAND_COMMIT (R107 to R109, R140, R155, R206, R357). -/
def Dev.bandCommit (d : Dev) : Dev :=
  match d.cmp.staging with
  | none => d
  | some g =>
    if !(d.commitReady g) then d
    else
      let cached := d.cachingPage == some g.page
      let segs := (g.lines + 15) / 16
      let c : Committed := ⟨g.page, g.band, g.lines, 0, g.copy, g.entries, g.overflow, g.cells, if cached then segs else 0, g.bad⟩
      let d := d.modCmp fun m => { m with staging := none, committed := some c, failed := m.failed.filter (fun f => f.1 == 1) }
      let d := (d.setFld Reg.CMP_STAGE_STAT.state Stage.idle).addFld Reg.CMP_COMMITS.count 1
      let d := d.count 0x51 1
      let total := (g.tokens.map (·.2)).sum
      let top := maxLane g.tokens
      let d := (d.setFld Reg.CMP_BAND_TOKENS.tokens (min total 0xFFFFFFFF)).setFld Reg.CMP_BAND_MAXLANE.lane top.1
      let d := d.setFld Reg.CMP_BAND_MAXLANE.tokens (min top.2 0xFFFFFFF)
      let d := (d.setFld Reg.CMP_BAND_RECORD.entries (min g.entries.length 16384)).setFlag Reg.CMP_BAND_RECORD.overflow g.overflow
      let d := (d.stageCounts).modPage g.page fun p => { p with bands := g.band + 1 }
      let d := ((d.thermalDecision g.page g.band).checkpoint c).rejoinCapture
      let d := d.tagReachAll (fun r => r.page == g.page && r.band == g.band && Nat.ble r.stage 3) 4 0 TagRec.bandArg
      let d := d.when cached fun d => d.pcacheSegments g.band g.lines
      (d.stageNext).retry0

/-! ### Decodes that context 0 or the composer waits for -/

/-- The first placement whose tile's decode has just failed: its command's address and first word. -/
def Dev.failedUse (d : Dev) (serial : Nat) : Option (Nat × Nat) :=
  match d.seq.uses.find? (·.1 == serial), d.cmp.staging with
  | some u, _ => some u.2
  | none, some g => (g.entries.find? (fun p => p.kind != 1 && p.serial == serial)).map fun p => (p.cmd, p.w0)
  | none, none => none

/-- A placement's tile has failed to decode (R112): context 0 ends with TILE_BAD as soon as that is known, and the event names the first
placement that uses it. With its chain already over, only the band that would have held it is discarded. -/
def Dev.tileFailed (serial : Nat) (d : Dev) : Dev :=
  match d.failedUse serial with
  | none => d
  | some (cmd, w0) =>
    if d.ctxState 0 = CtxState.idle ∨ d.ctxState 0 = CtxState.stopping then d.pagesEnd
    else d.ctxEnd 0 Stat.jobErr 0x09 cmd w0

/-- DECODE_HEADER_CHECKED (R112): the header of the current definition of a tile, whose decode has been asked for, is checked. -/
def Dev.headerChecked (tile : Nat) (d : Dev) : Dev :=
  match Tab.find d.run.dir tile with
  | none => d
  | some n =>
    let t := d.tileDef n
    if t.header.isSome ∨ t.failed.isSome ∨ !t.busy then d
    else
      let st := d.headerCheck t
      let d :=
        if st = 0 then d.modDef n fun t => { t with header := some (headerOf (d.frameBytes t 0 32)) }
        else d.modDef n fun t => { t with failed := some st }
      d.retry0

/-- A copy's band whose segments are all decoded is confirmed (R141, R155). -/
def Dev.copyConfirm (d : Dev) : Dev :=
  match d.cmp.staging with
  | some g => d.when (g.copy && g.segs == 2 ^ ((g.lines + 15) / 16) - 1) Dev.stageConfirm
  | none => d

/-- DECODE_COMPLETE (R126, R127, R141): the decode on decoder `u` ends; `fault` is the status that a hardware fault of the decoder
gives instead of the frame's own outcome. -/
def Dev.decodeComplete (u : Nat) (fault : Option Nat) (d : Dev) : Dev :=
  match d.run.decodes.find? (fun q => q.decoder == some u) with
  | none => d
  | some q =>
    let held : Bool := match q.item with | .tile n => d.waitsRefetch (.decoder (d.tileDef n).tile) | .seg _ _ _ => false
    if held then d else
    let d := ((d.decodeOff u).addFld Reg.RUN_DECODES.count 1).count (0x20 + u) 1
    match q.item with
    | .seg page b s => ((d.segDecoded u page b s q.first fault.isSome).copyConfirm).retry0
    | .tile n =>
      let res := match fault with | some st => .error st | none => d.decodeTile n
      let r := (d.when fault.isNone fun d => d.decodePoison n res).tileDecoded u n q.first res
      if r.2 then (r.1.tileFailed n).retry0
      else
        let d := r.1
        let d := d.when (d.cached n) fun d => d.modSeq fun s => { s with uses := s.uses.filter (·.1 != n) }
        let d := d.when (d.cached n) fun d => (d.pmu.followed.filter (fun e => Nat.ble e.2.stage 1 && e.2.tile == some (d.tileDef n).tile)).foldl
          (fun d e => d.tagReach e.1 2 (1 + u) (d.tileDef n).tile) d
        d.retry0

end Sys2Proof.Machine
end

