-- ==== Sys2Proof/Machine/Fantail.lean ====
section
/-! DEFINITION. Machine/Fantail.lean: the always-on subsystem (chapter 21): inputs and filters, rules, the retained log, wakes and the
power enables. Without VDD_AON (GLB_STATUS.aon_ok 0) nothing here happens (R439). -/

namespace Sys2Proof.Machine

/-- Is VDD_AON present and the Fantail running? -/
def Dev.aonOk (d : Dev) : Bool := d.flag Reg.GLB_STATUS.aon_ok

/-- The milliseconds since VDD_AON came up (R401). -/
def Dev.aonMs (d : Dev) : Nat := d.pair Reg.FAN_AON_MS_LO.addr % 2 ^ 48

/-- Are the event rings served: in every mode in which the host interface runs (Table 2-1)? -/
def Dev.ringsServed (d : Dev) : Bool :=
  d.mode != Mode.reset && d.mode != Mode.load && d.mode != Mode.fill && d.mode != Mode.sleep

/-- Is the device awake (R402)? -/
def Dev.awake (d : Dev) : Bool := d.mode != Mode.sleep && d.mode != Mode.reset

/-! ### The retained log (R409, Tables 21-3 and 21-4) -/

/-- An entry written to the retained log with the next sequence number; at 64 entries the oldest is overwritten. -/
def Dev.fanLog (kind index code value : Nat) (d : Dev) : Dev :=
  if !d.aonOk then d
  else
    let seq := (d.fld Reg.FAN_LOG_SEQ.seq + 1) % 2 ^ 32
    let e := leBytes 6 d.aonMs ++ leBytes 1 kind ++ leBytes 1 index ++ leBytes 2 code ++ leBytes 2 value ++ leBytes 4 seq
    (d.setFld Reg.FAN_LOG_SEQ.seq seq).modFan fun f => { f with log := Tab.put f.log ((seq + 63) % 64) e }

abbrev FanLog.ruleTrue : Nat := 1
abbrev FanLog.ruleFalse : Nat := 2
abbrev FanLog.wake : Nat := 3
abbrev FanLog.sleep : Nat := 4
abbrev FanLog.mode : Nat := 5
abbrev FanLog.event : Nat := 6
abbrev FanLog.keepwetDone : Nat := 7
abbrev FanLog.aonUp : Nat := 8

/-! ### Wakes (R406) -/

abbrev WakeCause.rule : Nat := 1
abbrev WakeCause.wakeN : Nat := 2
abbrev WakeCause.encoder : Nat := 3
abbrev WakeCause.keepwet : Nat := 4

/-- A wake cause arises: it waits in SLEEP and while SLEEP is being entered (R41); elsewhere it has no effect (R405). -/
def Dev.wakeRequest (cause : Nat) (d : Dev) : Dev :=
  if (d.mode == Mode.sleep && !d.fan.raising) || d.glb.sleepTrigger.isSome then
    d.modFan fun f => { f with pendingCauses := Nat.lor f.pendingCauses (2 ^ cause) }
  else d

/-! ### Rules (R404, R405) -/

/-- FAN_STAT.out: an output is active while a true, enabled rule names it; its pin is driven by out_pol (R405). -/
def Dev.fanOutputs (d : Dev) : Dev :=
  let d := (List.range 8).foldl (fun d o => d.setBit Reg.FAN_STAT.out o ((List.range 16).any fun n =>
    d.flag (Reg.FAN_RULE_CFG.en n) && d.flag (Reg.FAN_RULE_CFG.out_en n) && d.fld (Reg.FAN_RULE_CFG.out n) == o &&
      (Tab.get d.fan.rules (false, 0) n).1)) d
  d.modFan fun f => { f with pins := Nat.xor (d.fld Reg.FAN_STAT.out) (d.fld Reg.FAN_CFG.out_pol) }

/-- A rule becomes true or false (R405): its output, its wake request, its log entry and EV_FAN_RULE. -/
def Dev.ruleTransition (n : Nat) (on : Bool) (value : Nat) (d : Dev) : Dev :=
  let d := d.modFan fun f => { f with rules := Tab.set f.rules (false, 0) n (on, 0) }
  let d := (d.setBit Reg.FAN_STAT.rules n on).fanOutputs
  let d := d.when (on && d.flag (Reg.FAN_RULE_CFG.wake n)) fun d => d.wakeRequest WakeCause.rule
  d.when (d.flag (Reg.FAN_RULE_CFG.log n)) fun d =>
    (d.fanLog (if on then FanLog.ruleTrue else FanLog.ruleFalse) n 0 value).when d.ringsServed fun d =>
      d.raise 0x1402 Sev.info (n * 256 + if on then 1 else 0) value

/-- Does a sample meet the condition a rule waits for (Table 21-1): that of becoming true, or when it is true that of becoming
false? -/
def ruleCondition (kind thr hyst : Nat) (on : Bool) (value : Nat) : Bool :=
  if kind = 0 then (if on then Nat.blt (value + hyst) thr else Nat.ble thr value)
  else if kind = 1 then (if on then Nat.blt (thr + hyst) value else Nat.ble value thr)
  else if kind = 2 then (if on then value == 0 else value == 1)
  else (if on then value == 1 else value == 0)

/-- A rule evaluated at a valid sample of its source (R404). -/
def Dev.ruleEval (value n : Nat) (d : Dev) : Dev :=
  let (on, count) := Tab.get d.fan.rules (false, 0) n
  if ruleCondition (d.fld (Reg.FAN_RULE_CFG.kind n)) (d.fld (Reg.FAN_RULE_THR.thr n)) (d.fld (Reg.FAN_RULE_THR.hyst n)) on value then
    if d.fld (Reg.FAN_RULE_CFG.m n) ≤ count + 1 then d.ruleTransition n (!on) value
    else d.modFan fun f => { f with rules := Tab.set f.rules (false, 0) n (on, count + 1) }
  else d.modFan fun f => { f with rules := Tab.set f.rules (false, 0) n (on, 0) }

/-- The enabled rules of a source evaluated in number order. -/
def Dev.rulesEval (digital : Bool) (src value : Nat) (d : Dev) : Dev :=
  (List.range 16).foldl (fun d n =>
    d.when (d.flag (Reg.FAN_RULE_CFG.en n) && d.fld (Reg.FAN_RULE_CFG.src n) == src &&
        Nat.ble 2 (d.fld (Reg.FAN_RULE_CFG.kind n)) == digital) fun d => d.ruleEval value n) d

/-! ### Inputs and filters (R402, R403) -/

/-- The code of an input voltage in microvolts. -/
def ainCode (uv : Nat) : Nat := min 4095 (uv * 4096 / 1800000)

/-- The median of five numbers. -/
def median5 (xs : List Nat) : Nat := (sortBy Nat.ble xs).getD 2 0

/-- An analogue input after a sample: the IIR filter of shift `k`, or the last five samples. -/
def FanIn.take (median : Bool) (k now x : Nat) (a : FanIn) : FanIn :=
  let s : Int := if a.samples.isEmpty then 16 * (x : Int) else a.s + (16 * (x : Int) - a.s) / 2 ^ k
  { s := if median then a.s else s, samples := (x :: a.samples).take 5, last := now }

/-- The output of an analogue input, once it is valid. -/
def FanIn.output (median : Bool) (a : FanIn) : Option Nat :=
  if median then (if a.samples.length = 5 then some (median5 a.samples) else none)
  else if a.samples.isEmpty then none else some (a.s / 16).toNat

/-- An enabled analogue input sampled at a voltage in microvolts, filtered, and its rules evaluated. -/
def Dev.ainTake (i uv : Nat) (d : Dev) : Dev :=
  if !d.aonOk || !d.flag (Reg.FAN_AIN_CFG.en i) || Nat.ble 8 i then d
  else
    let median := d.flag (Reg.FAN_AIN_CFG.filt i)
    let a := (Tab.get d.fan.ain FanIn.none_ i).take median (d.fld (Reg.FAN_AIN_CFG.k i)) (d.tbRead 2) (ainCode uv)
    let d := d.modFan fun f => { f with ain := Tab.set f.ain FanIn.none_ i a }
    match a.output median with
    | none => d
    | some y => ((d.setFld (Reg.FAN_AIN_VAL.valid i) 1).setFld (Reg.FAN_AIN_VAL.y i) y).rulesEval false i y

/-- Does a trigger unit name the Fantail (Table 19-3)? -/
def Dev.fanTriggered (d : Dev) : Bool := (List.range 16).any fun n => d.fld (Reg.TIM_TRG_CFG.target n) == 3

/-- FAN_AIN_SAMPLE: an input sampled from the Fantail's own timer; idle while the device is awake and a trigger unit names the Fantail
(R402). -/
def Dev.fanAinSample (i uv : Nat) (d : Dev) : Dev :=
  if d.awake && d.fanTriggered then d else d.ainTake i uv

/-- A trigger event of target 3 while awake: every enabled input sampled; ignored less than 1 ms after the last sample (R402).
DESIGN CHOICE: the millisecond is counted on TB2. -/
def Dev.fanTriggerSample (uvs : List Nat) (d : Dev) : Dev :=
  if !d.awake then d
  else (List.range 8).foldl (fun d i =>
    let a := Tab.get d.fan.ain FanIn.none_ i
    if a.samples.isEmpty || Nat.blt (d.tbRead 2) a.last || Nat.ble (a.last + 1000000 * 65536) (d.tbRead 2) then d.ainTake i (uvs.getD i 0) else d) d

/-- A digital filter of `n` samples after a sample (R213). -/
def DinFilter.sample (n : Nat) (raw : Bool) (f : DinFilter) : DinFilter :=
  let run := if f.run ≠ 0 ∧ f.raw = raw then min n (f.run + 1) else 1
  { level := if n ≤ run then some raw else f.level, raw := raw, run := run }

/-- One digital input sampled: its filter of dn samples (0: disabled), FAN_DIN_LVL, and its rules once the level is known. -/
def Dev.dinTake (j : Nat) (raw : Bool) (d : Dev) : Dev :=
  if d.fld Reg.FAN_CFG.dn = 0 then d
  else
    let f := (Tab.get d.fan.din DinFilter.unknown j).sample (d.fld Reg.FAN_CFG.dn) raw
    let d := d.modFan fun x => { x with din := Tab.set x.din DinFilter.unknown j f }
    match f.level with
    | none => d
    | some l =>
      ((d.setBit Reg.FAN_DIN_LVL.valid j true).setBit Reg.FAN_DIN_LVL.level j l).rulesEval true j (if l then 1 else 0)

/-- The entry of the digital filters that WAKE_N has. -/
abbrev wakeNFilter : Nat := 16

/-- FAN_DIN_SAMPLE: one more millisecond; WAKE_N and the digital inputs sampled (R402). WAKE_N's filtered fall requests a wake (Table 21-2). -/
def Dev.fanDinSample (levels : Nat) (wakeN : Bool) (d : Dev) : Dev :=
  if !d.aonOk then d
  else
    let d := d.setPair Reg.FAN_AON_MS_LO.addr ((d.aonMs + 1) % 2 ^ 48)
    let old := Tab.get d.fan.din DinFilter.unknown wakeNFilter
    let f := old.sample 3 wakeN
    let d := d.modFan fun x => { x with din := Tab.set x.din DinFilter.unknown wakeNFilter f }
    let d := d.when (old.level == some true && f.level == some false) fun d => d.wakeRequest WakeCause.wakeN
    (List.range 16).foldl (fun d j => d.dinTake j (levels.testBit j)) d

/-- FAN_ENCODER_EDGE (R407): in SLEEP with enc_en, an edge counts; enc_cnt of them within enc_win_ms wake the device. -/
def Dev.fanEncoderEdge (d : Dev) : Dev :=
  if !d.aonOk || d.mode != Mode.sleep || !d.flag Reg.FAN_ENC.enc_en then d
  else
    let now := d.aonMs
    let es := now :: d.fan.edges.filter fun t => Nat.ble now (t + d.fld Reg.FAN_ENC.enc_win_ms)
    if d.fld Reg.FAN_ENC.enc_cnt ≤ es.length then (d.modFan fun f => { f with edges := [] }).wakeRequest WakeCause.encoder
    else d.modFan fun f => { f with edges := es }

/-- KEEPWET_TIMER (R408): kw_min minutes after the entry to SLEEP. -/
def Dev.keepwetTimer (d : Dev) : Dev :=
  if !d.aonOk || d.mode != Mode.sleep || d.fld Reg.FAN_KEEPWET.kw_min == 0 then d else d.wakeRequest WakeCause.keepwet

/-! ### Power enables (R401, R406) -/

/-- PWR_EN[0] raised, the first step of the wake sequence. -/
def Dev.pwrRaise (d : Dev) : Dev :=
  (d.setBit Reg.FAN_STAT.pwr_en 0 true).modFan fun f => { f with raising := true, releasing := false }

/-- PWR_EN_STEP: the next output raised in rising order, or released in falling order. -/
def Dev.pwrEnStep (d : Dev) : Dev :=
  let pwr := d.fld Reg.FAN_STAT.pwr_en
  if !d.aonOk then d
  else if d.fan.releasing then
    match (List.range 4).reverse.find? fun k => pwr.testBit k with
    | some k => (d.setBit Reg.FAN_STAT.pwr_en k false).modFan fun f => { f with releasing := k != 0 }
    | none => d.modFan fun f => { f with releasing := false }
  else if d.fan.raising then
    match (List.range 4).find? fun k => !pwr.testBit k with
    | some k => (d.setBit Reg.FAN_STAT.pwr_en k true).modFan fun f => { f with raising := k != 3 }
    | none => d.modFan fun f => { f with raising := false }
  else d

/-- SLEEP reached (R406): a log entry, the filters of the encoder watch at rest, and PWR_EN[3] released. -/
def Dev.fanSleep (d : Dev) : Dev :=
  let d := d.fanLog FanLog.sleep 0 0 0
  (d.setBit Reg.FAN_STAT.pwr_en 3 false).modFan fun f =>
    { f with releasing := true, raising := false, edges := [], keepwet := false }

/-- FANTAIL_WAKE (R406): once the release is complete, every cause that waits is recorded and PWR_EN is raised. It is a keep-wet
wake when KEEPWET is its only cause (R408). -/
def Dev.fantailWake (d : Dev) : Dev :=
  let causes := d.fan.pendingCauses
  if !d.aonOk || d.mode != Mode.sleep || d.fan.releasing || d.fan.raising || causes == 0 then d
  else
    let d := (d.setFld Reg.FAN_WAKE.causes (causes / 2)).addFld Reg.FAN_WAKE.count 1
    let d := d.fanLog FanLog.wake causes 0 0
    (d.modFan fun f => { f with
      pendingCauses := 0, wakeOwed := some (causes, d.aonMs), keepwet := causes == 2 ^ WakeCause.keepwet }).pwrRaise

/-- Is a register one of the FAN block's? -/
def fanReg (a : Nat) : Bool := Nat.ble 0x1400000 a && Nat.blt a 0x1401000

/-- The Fantail as VDD_AON finds it. -/
def Fan.rest : Fan := ⟨[], [], [], [], [], [], false, false, 0, none, none, false, 0⟩

/-- AON_POWER_UP (R401): the Fantail resets, writes the log entry AON_UP and raises PWR_EN. -/
def Dev.aonPowerUp (d : Dev) : Dev :=
  let d := { d with regs := d.regs.filter (fun e => !fanReg e.1), fan := Fan.rest }
  let d := (d.setFlag Reg.GLB_STATUS.aon_ok true).fanLog FanLog.aonUp 0 0 0
  (d.modFan fun f => { f with aonOwed := some (d.fld Reg.FAN_LOG_SEQ.seq) }).pwrRaise

/-- The rings are served again: the wake and AON_UP events that are owed (R412). -/
def Dev.fanServe (d : Dev) : Dev :=
  let d := match d.fan.aonOwed with
    | some seq => (d.modFan fun f => { f with aonOwed := none }).raise 0x1403 Sev.warn seq 0
    | none => d
  match d.fan.wakeOwed with
  | some (causes, ms) => (d.modFan fun f => { f with wakeOwed := none }).raise 0x1401 Sev.info causes ms
  | none => d

/-- FANTAIL_CONFIG_APPLY (R411): the FAN configuration registers of a new image, as (offset, value), applied as one step; the saved log
is the image's. An input or rule whose configuration changes restarts. -/
def Dev.fanApply (regs : List (Nat × Word)) (saved : Tab Nat) (d : Dev) : Dev :=
  if !d.aonOk then d
  else
    let new := fun (a : Nat) => match regs.find? (fun r => r.1 == a) with | some r => r.2 | none => regReset a
    let dn := d.fld Reg.FAN_CFG.dn
    let put := fun (d : Dev) (a : Nat) => d.setReg a (new a)
    let d := (List.range 8).foldl (fun d i =>
      if d.reg (Reg.FAN_AIN_CFG.addr i) = new (Reg.FAN_AIN_CFG.addr i) then d
      else (put d (Reg.FAN_AIN_CFG.addr i)).setReg (Reg.FAN_AIN_VAL.addr i) 0#32 |>.modFan fun f => { f with ain := Tab.del f.ain i }) d
    let d := (List.range 16).foldl (fun d n =>
      if d.reg (Reg.FAN_RULE_CFG.addr n) = new (Reg.FAN_RULE_CFG.addr n) ∧
          d.reg (Reg.FAN_RULE_THR.addr n) = new (Reg.FAN_RULE_THR.addr n) then d
      else ((put (put d (Reg.FAN_RULE_CFG.addr n)) (Reg.FAN_RULE_THR.addr n)).setBit Reg.FAN_STAT.rules n false).modFan
        fun f => { f with rules := Tab.del f.rules n }) d
    let d := put (put (put d Reg.FAN_CFG.addr) Reg.FAN_KEEPWET.addr) Reg.FAN_ENC.addr
    let d := d.when (d.fld Reg.FAN_CFG.dn != dn) fun d => (d.setReg Reg.FAN_DIN_LVL.addr 0#32).modFan fun f =>
      { f with din := f.din.filter (fun e => e.1 == wakeNFilter) }
    (d.modFan fun f => { f with saved := saved }).fanOutputs

end Sys2Proof.Machine
end

