-- ==== Sys2Proof/Machine/Motion.lean ====
section
/-! DEFINITION. Machine/Motion.lean: the service axes (chapter 20): requests (R390, R395, R396), the control cycle (R387 to R394),
homing (R398), switches (R399), power-down and SAFE (R395). Positions are kept in 2^-24 microsteps (R388). -/

namespace Sys2Proof.Machine

/-! ### Arithmetic -/

/-- The integer square root, bit by bit from bit `k` down. -/
def isqrtGo (n : Nat) : Nat → Nat → Nat
  | 0, r => if (r + 1) * (r + 1) ≤ n then r + 1 else r
  | k + 1, r => isqrtGo n k (if (r + 2 ^ (k + 1)) * (r + 2 ^ (k + 1)) ≤ n then r + 2 ^ (k + 1) else r)

/-- The integer square root of a number below 2^192. -/
def isqrt (n : Nat) : Nat := isqrtGo n 95 0

/-- round(4,095 cos(πi/512)) for i = 0 to 256: the default a_i (R391). -/
def microCos : List Nat :=
    [4095, 4095, 4095, 4094, 4094, 4093, 4092, 4091, 4090, 4089, 4087, 4086, 4084, 4082, 4080, 4078, 4075, 4073, 4070, 4067, 4064, 4061, 4058, 4054, 4051, 4047, 4043, 4039, 4035, 4030, 4026, 4021, 4016, 4011, 4006, 4001, 3996, 3990, 3984, 3978, 3972, 3966, 3960, 3953, 3947, 3940, 3933, 3926, 3919, 3911, 3904, 3896, 3888, 3880, 3872, 3864, 3856, 3847, 3838, 3830, 3821, 3811, 3802, 3793] ++
    [3783, 3774, 3764, 3754, 3744, 3733, 3723, 3713, 3702, 3691, 3680, 3669, 3658, 3646, 3635, 3623, 3611, 3600, 3588, 3575, 3563, 3551, 3538, 3525, 3512, 3499, 3486, 3473, 3460, 3446, 3433, 3419, 3405, 3391, 3377, 3362, 3348, 3333, 3319, 3304, 3289, 3274, 3259, 3244, 3228, 3213, 3197, 3181, 3165, 3149, 3133, 3117, 3101, 3084, 3068, 3051, 3034, 3017, 3000, 2983, 2966, 2948, 2931, 2913] ++
    [2896, 2878, 2860, 2842, 2824, 2805, 2787, 2769, 2750, 2731, 2713, 2694, 2675, 2656, 2636, 2617, 2598, 2578, 2559, 2539, 2519, 2500, 2480, 2460, 2439, 2419, 2399, 2378, 2358, 2337, 2317, 2296, 2275, 2254, 2233, 2212, 2191, 2170, 2148, 2127, 2105, 2084, 2062, 2040, 2018, 1997, 1975, 1952, 1930, 1908, 1886, 1864, 1841, 1819, 1796, 1774, 1751, 1728, 1705, 1682, 1659, 1636, 1613, 1590] ++
    [1567, 1544, 1521, 1497, 1474, 1450, 1427, 1403, 1380, 1356, 1332, 1308, 1285, 1261, 1237, 1213, 1189, 1165, 1141, 1116, 1092, 1068, 1044, 1019, 995, 971, 946, 922, 897, 873, 848, 824, 799, 774, 750, 725, 700, 675, 651, 626, 601, 576, 551, 526, 501, 476, 451, 426, 401, 376, 351, 326, 301, 276, 251, 226, 201, 176, 151, 126, 100, 75, 50, 25] ++
    [0]

/-- One microstep as a position. -/
abbrev microstep : Int := 2 ^ 24

/-- The microstep that a position lies in. -/
def microOf (p : Int) : Int := p / microstep

/-- The sign of an integer. -/
def signOf (z : Int) : Int := if 0 < z then 1 else if z < 0 then -1 else 0

/-- The greatest speed from which DECEL still stops in distance `dist` (R389), in 2^-24. -/
def speedCap (decel jerk dist : Nat) : Nat :=
  if jerk = 0 then isqrt (2 * decel * dist)
  else
    let r := isqrt (decel ^ 4 * 2 ^ 16 / jerk ^ 2 + 8 * decel * dist)
    (r * jerk - decel ^ 2 * 2 ^ 8) / (2 * jerk)

/-- The distance travelled while braking at `decel` from speed `u`, cycle by cycle (R389). -/
def brakeDistance (decel u : Nat) : Nat :=
  if decel = 0 then 0 else let n := u / decel; n * u - decel * (n * (n + 1) / 2)

/-- One cycle of the profile (R389) with speed limit `vmax`. -/
def Axis.profile (x : Axis) (vmax : Nat) : Axis :=
  let t := x.target * microstep
  let dd := t - x.p
  let s := signOf dd
  let u := x.v * s
  let dn := dd.natAbs
  let un : Int :=
    if u < 0 then min (u + (x.decel : Nat)) 0
    else max (min (u + (x.accel : Nat)) (min (vmax : Nat) (speedCap x.decel x.jerk dn : Nat))) (u - (x.decel : Nat))
  let u32 : Int :=
    if x.jerk = 0 then un * 256
    else u * 256 + clampInt (x.a - (x.jerk : Nat)) (x.a + (x.jerk : Nat)) ((un - u) * 256)
  if 0 ≤ u32 ∧ (dn : Int) * 256 ≤ u32 ∧ u32 ≤ (x.decel : Nat) * 256 then
    { x with p := t, v := 0, a := 0, moving := false }
  else
    let dir := if s = 0 then signOf x.v else s
    let v := u32 / 256 * dir
    { x with a := u32 - u * 256, v := v, p := x.p + v }

/-- The target at which braking at DECEL from the present speed ends (R390). -/
def Axis.stopTarget (x : Axis) : Int :=
  let e := x.p + signOf x.v * (brakeDistance x.decel x.v.natAbs : Nat)
  if 0 < x.v then -((-e) / microstep) else e / microstep

/-! ### Axes and their registers -/

/-- Axis `k`. -/
def Dev.axis (d : Dev) (k : Nat) : Axis := Tab.get d.mot.axes Axis.rest k

/-- Is axis `k` enabled? -/
def Dev.axisOn (d : Dev) (k : Nat) : Bool := Nat.blt k 6 && d.flag (Reg.MOT_AX_CFG.en k)

/-- The state of an axis (MOT_AX_STAT). -/
def Dev.axisState (d : Dev) (k : Nat) : Nat :=
  let x := d.axis k
  if !(d.axisOn k) then 0 else if x.fault ≠ 0 then 4 else if x.phase ≠ 0 then 3 else if x.moving then 2 else if x.powered then 1 else 5

/-- The registers of axis `k` follow it. -/
def Dev.axisShow (k : Nat) (d : Dev) : Dev :=
  let x := d.axis k
  let d := (d.setFld (Reg.MOT_AX_STAT.state k) (d.axisState k)).setFld (Reg.MOT_AX_STAT.fault k) x.fault
  let d := (d.setFld (Reg.MOT_AX_STAT.phase k) x.phase).setFlag (Reg.MOT_AX_STAT.valid k) x.valid
  let d := (d.setFlag (Reg.MOT_AX_STAT.home k) (x.home == some true)).setFlag (Reg.MOT_AX_STAT.lim k) (x.lim == some true)
  let d := (d.setFld (Reg.MOT_AX_POS.pos k) (unsigned 32 (microOf x.p))).setFld (Reg.MOT_AX_TGT.tgt k) (unsigned 32 x.target)
  let d := (d.setFld (Reg.MOT_AX_VEL.vel k) (unsigned 32 x.v)).setBit Reg.MOT_STAT.fault k (x.fault != 0)
  let d := (d.setBit Reg.MOT_STAT.valid k x.valid).setBit Reg.MOT_STAT.powered k x.powered
  d.setBit Reg.MOT_STAT.moving k (d.axisOn k && (x.moving || x.v != 0))

/-- Axis `k` changed, its registers with it. -/
def Dev.modAxis (k : Nat) (f : Axis → Axis) (d : Dev) : Dev :=
  (d.modMot fun m => { m with axes := Tab.upd m.axes Axis.rest k f }).axisShow k

/-- Does an axis stand still? -/
def Dev.axisStill (d : Dev) (k : Nat) : Bool := !((d.axis k).moving) && (d.axis k).v == 0 && (d.axis k).phase == 0

/-- The duties of axis `k` at 0: both sides of each bridge low. -/
def Dev.dutyOff (k : Nat) (d : Dev) : Dev := (d.setFld (Reg.MOT_AX_DUTY.duty_a k) 0).setFld (Reg.MOT_AX_DUTY.duty_b k) 0

/-- The axes at LOAD: the profiles and tables of the MOTION section (R396); an axis that is not enabled drives nothing (R386). -/
def Dev.axesLoad (d : Dev) : Dev :=
  (List.range 6).foldl (fun d k =>
    let on := d.axisOn k
    let d := d.modAxis k fun x => { x with
      vmax := d.fld (Reg.MOT_AX_VMAX.vmax k), accel := d.fld (Reg.MOT_AX_ACCEL.accel k), decel := d.fld (Reg.MOT_AX_DECEL.decel k)
      jerk := d.fld (Reg.MOT_AX_JERK.jerk k), table := d.fld (Reg.MOT_AX_CFG.table k)
      powered := x.powered && on, moving := x.moving && on, v := if on then x.v else 0, a := if on then x.a else 0 }
    d.when (!on) (·.dutyOff k)) d

/-! ### Power and faults -/

/-- A still axis powered down (R395): its hold mode decides whether the position stays known. The currents of the next power-on begin at 0
(R392). -/
def Dev.axisDown (k : Nat) (d : Dev) : Dev :=
  let lose := d.flag (Reg.MOT_AX_CFG.hold k)
  (d.modAxis k fun x => { x with powered := false, valid := x.valid && !lose, iA := 0, iB := 0 }).dutyOff k

/-- An axis takes a fault (R393, R398, R399): 1 LIMIT, 2 FAR_LIMIT, 3 HOME_NOT_FOUND, 4 SUPPLY. It brakes at DECEL, but stops at
once on SUPPLY; homing ends. A context that waits for the axis will end (R396). -/
def Dev.axisFault (k fault : Nat) (lost : Bool) (d : Dev) : Dev :=
  let d := d.modSeq fun q => { q with ctxs := q.ctxs.map fun e => (e.1, match e.2.wait with
    | .axis m f => if m.testBit k then { e.2 with wait := .axis m (f + (if f.testBit k then 0 else 2 ^ k)) } else e.2
    | _ => e.2) }
  let d := d.modAxis k fun x =>
    let x := { x with fault := fault, phase := 0, seek := false, limCount := 0, valid := x.valid && !lost }
    if fault = 4 then { x with v := 0, a := 0, target := microOf x.p, moving := false } else { x with target := x.stopTarget }
  d.raise 0x1302 Sev.fault (k * 256 + fault) (unsigned 64 (microOf (d.axis k).p))

/-- AXIS_POWER_DOWN (R395): `off_ms` after a still axis stopped. -/
def Dev.axisPowerDown (k : Nat) (d : Dev) : Dev :=
  if d.axisOn k && d.axisStill k && (d.axis k).powered && d.fld (Reg.MOT_AX_IDLE.off_ms k) != 0 then d.axisDown k else d

/-- AXIS_IDLE_TIMER (R392): `idle_ms` after an axis stopped, the holding current takes over. -/
def Dev.axisIdle (k : Nat) (d : Dev) : Dev :=
  if d.axisOn k && d.axisStill k then d.modAxis k fun x => { x with holding := true } else d

/-- Each moving axis decelerates at DECEL to a stop, homing abandoned (R40, R390, R398). -/
def Dev.axisStop (k : Nat) (d : Dev) : Dev :=
  let x := d.axis k
  if x.moving ∨ x.phase ≠ 0 then
    d.modAxis k fun x => { x with target := x.stopTarget, phase := 0, seek := false, valid := x.valid && x.phase == 0, moving := true }
  else d

/-- The axes in SAFE (R395, Table 2-4): nothing is driven; an axis moving at entry becomes unknown. -/
def Dev.axesSafe (d : Dev) : Dev :=
  (List.range 6).foldl (fun d k =>
    if !(d.axisOn k) then d
    else if d.axisStill k then d.axisDown k
    else (d.modAxis k fun x => { x with v := 0, a := 0, target := microOf x.p, moving := false, phase := 0, seek := false, limCount := 0, valid := false }).axisDown k) d

/-! ### Homing (R398) -/

/-- The home direction of axis `k`, +1 or -1. -/
def Dev.homeDir (d : Dev) (k : Nat) : Int := if d.flag (Reg.MOT_AX_CFG.home_dir k) then 1 else -1

/-- A target beyond any travel. -/
abbrev farAway : Int := 2 ^ 34

/-- Phase 3: toward home_dir until the switch goes active. -/
def Dev.homeSeek (k : Nat) (d : Dev) : Dev :=
  let h := d.homeDir k
  d.modAxis k fun x => { x with phase := 3, seek := true, from_ := x.p, target := microOf x.p + h * farAway, moving := true }

/-- Phase 2, when the home switch is active, else phase 3. -/
def Dev.homeLeave (k : Nat) (d : Dev) : Dev :=
  let h := d.homeDir k
  if (d.axis k).home = some true then
    d.modAxis k fun x => { x with phase := 2, seek := true, from_ := x.p, target := microOf x.p - h * farAway, moving := true }
  else d.homeSeek k

/-- A homing phase whose motion has come to rest goes on to the next. -/
def Dev.homeNext (k : Nat) (d : Dev) : Dev :=
  let x := d.axis k
  if x.phase = 1 then d.homeLeave k
  else if x.phase = 2 then d.homeSeek k
  else if x.phase = 4 then
    let shift := d.sfld (Reg.MOT_AX_HOME.home_pos k) - x.latch
    let d := d.modAxis k fun x => { x with
      phase := 0, p := x.p + shift * microstep, target := x.target + shift, valid := true, moving := false, holding := false }
    d.raise 0x1301 Sev.info k (unsigned 64 x.latch)
  else d

/-- The travel of a seeking phase: home_range microsteps without the switch change is HOME_NOT_FOUND. -/
def Dev.homeRange (k : Nat) (d : Dev) : Dev :=
  let x := d.axis k
  if x.seek ∧ (d.fld (Reg.MOT_AX_RANGE.home_range k) : Int) * microstep ≤ ((x.p - x.from_).natAbs : Int) then d.axisFault k 3 false else d

/-! ### Switches (R398, R399) -/

/-- The chatter window of a switch after an edge at `now`: (window, edges to report). -/
def chatter (now winNs limit : Nat) (w : Nat × Nat × Bool) : (Nat × Nat × Bool) × Option Nat :=
  let w := if w.2.1 = 0 ∨ winNs < now - w.1 then (now, 1, false) else (w.1, w.2.1 + 1, w.2.2)
  if limit < w.2.1 ∧ ¬ w.2.2 then ((w.1, w.2.1, true), some w.2.1) else (w, none)

/-- A ball of which no sample has been taken since RESET. -/
abbrev Ball.unknown : Ball := ⟨none, false, 0, 0⟩
/-- A filter after a sample at level `b` stamped `t`: the run of equal samples, counted up to 255, and the level once the run has `n`. -/
def Ball.next (n : Nat) (b : Bool) (t : Nat) (f : Ball) : Ball :=
  let f : Ball := if f.run != 0 && f.raw == b then { f with run := min (f.run + 1) 255 } else { f with raw := b, run := 1, since := t }
  if n ≤ f.run then { f with level := some b } else f
/-- Does that sample make an edge of the filtered level: a change that does not come from the unknown state? -/
def Ball.edge (n : Nat) (b : Bool) (f : Ball) : Bool := f.level == some (!b) && (f.next n b 0).level == some b

/-- The filter of the home (`which` 0) or limit switch of axis `k`. -/
def Dev.switchBall (d : Dev) (k which : Nat) : Ball := Tab.get d.mot.switches Ball.unknown (2 * k + min which 1)

/-- A 1 MHz sample of that switch at level `high` (R213, deb_n); the position at which a run of the home switch begins is noted. -/
def Dev.switchSample (k which : Nat) (high : Bool) (d : Dev) : Dev :=
  let f := (d.switchBall k which).next (d.fld (Reg.MOT_AX_CFG.deb_n k)) high (d.tbRead 2)
  let starts := f.run == 1 && which == 0
  d.modMot fun m => { m with
    switches := Tab.set m.switches Ball.unknown (2 * k + min which 1) f
    runAt := if starts then Tab.set m.runAt 0 k (microOf (d.axis k).p) else m.runAt }

/-- SWITCH_EDGE (R398, R399): a sample of the home (`which` 0) or limit switch of an axis at level `high`; the edge that it qualifies acts.
The first known level is no edge (R213). Homing is the ACTIVE's (R397). -/
def Dev.switchEdge (k which : Nat) (high : Bool) (d : Dev) : Dev :=
  if 6 ≤ k ∨ d.mode = Mode.reset ∨ d.mode = Mode.sleep then d
  else
    let d := d.switchSample k which high
    if (d.switchBall k which).level ≠ some high then d else
    let home := which == 0
    let active := high != d.flag (if home then Reg.MOT_AX_CFG.home_pol k else Reg.MOT_AX_CFG.lim_pol k)
    let x := d.axis k
    let was := if home then x.home else x.lim
    let d := d.modAxis k fun x => if home then { x with home := some active } else { x with lim := some active }
    if was.isNone ∨ was = some active ∨ !(d.axisOn k) then d
    else if x.phase ≠ 0 then
      if d.isShadow then d
      else if !home then (if active then d.axisFault k 2 true else d)
      else if x.phase = 2 ∧ x.seek ∧ !active then
        d.modAxis k fun x => { x with seek := false, target := microOf x.p - d.homeDir k * (d.fld (Reg.MOT_AX_BACKOFF.backoff k) : Nat) }
      else if x.phase = 3 ∧ active then
        d.modAxis k fun x => { x with
          phase := 4, seek := false, latch := Tab.get d.mot.runAt 0 k
          target := Tab.get d.mot.runAt 0 k - d.homeDir k * (d.fld (Reg.MOT_AX_BACKOFF.backoff k) : Nat) }
      else d
    else
      let d := d.satFld (if home then Reg.MOT_AX_SWCNT.home_edges k else Reg.MOT_AX_SWCNT.lim_edges k) 1
      let r := chatter d.tb2ns (d.fld (Reg.MOT_AX_SW_CFG.chat_win_ms k) * 1000000) (d.fld (Reg.MOT_AX_SW_CFG.chat_max k))
        (if home then x.winHome else x.winLim)
      let d := d.modAxis k fun x => if home then { x with winHome := r.1 } else { x with winLim := r.1 }
      match r.2 with
      | some n => d.raise 0x1303 Sev.warn (k * 256 + which) n
      | none => d

/-- The switch at the end toward which a moving axis goes, active for lim_persist consecutive cycles, brakes it with fault LIMIT
(R399). -/
def Dev.limitCheck (k : Nat) (d : Dev) : Dev :=
  let x := d.axis k
  let persist := d.fld (Reg.MOT_AX_SW_CFG.lim_persist k)
  let toward := if x.v = 0 then none else if signOf x.v = d.homeDir k then x.home else x.lim
  if x.phase ≠ 0 then d
  else if toward ≠ some true then d.modAxis k fun x => { x with limCount := 0 }
  else
    let d := d.modAxis k fun x => { x with limCount := x.limCount + 1 }
    if persist ≠ 0 ∧ persist ≤ x.limCount + 1 ∧ x.fault = 0 then d.axisFault k 1 false else d

/-! ### The drive (R391, R392, R394) -/

/-- Entry `i` of microstep table `t`: (a_i, b_i). -/
def Dev.microEntry (d : Dev) (t i : Nat) : Nat × Nat :=
  match Tab.find (Tab.get d.cfg.tables [] 0x1301) (256 * t + i) with
  | some w => (w % 2 ^ 12, w / 2 ^ 16 % 2 ^ 12)
  | none => (microCos.getD i 0, microCos.getD (256 - i) 0)

/-- The coil amplitudes (A, B) at a position (R391). -/
def Dev.coils (d : Dev) (t : Nat) (p : Int) : Int × Int :=
  let e := (microOf p % 1024).toNat
  let ab := d.microEntry t (e % 256)
  let a : Int := ab.1
  let b : Int := ab.2
  match e / 256 with
  | 0 => (a, b)
  | 1 => (-b, a)
  | 2 => (-a, -b)
  | _ => (b, -a)

/-- A duty (R392): `i` and `iPrev` in mA, the back-EMF amplitude with its sign, speed `v`, cycle `tc` in 2^-16 ns, supply in mV. -/
def coilDuty (r l ke tc vm : Nat) (i iPrev amp v : Int) : Int :=
  let n1 := (r : Int) * i * tc * 2 ^ 32 * 4095
  let n2 := (l : Int) * (i - iPrev) * 65536000 * 2 ^ 32 * 4095000
  let n3 := (ke : Int) * amp * v * 1000000 * 65536000
  clampInt (-4095) 4095 (4095 * (n1 + n2 + n3) / ((tc : Int) * 2 ^ 32 * 4095000 * vm))

/-- The duties of a driven PWM axis, or the step pulses of a step/direction axis, for the cycle. `p0` is the position before it. With a
supply of 0 that vm_min_dv lets pass, R392 states no duty: it is a free value. -/
def Dev.axisDrive (k tc vm : Nat) (p0 : Int) (d : Dev) : Dev :=
  let x := d.axis k
  if !x.powered then d
  else if d.flag (Reg.MOT_AX_CFG.form k) then
    let sd : Int := 2 ^ d.fld (Reg.MOT_AX_CFG.sd k)
    let n := microOf x.p / sd - microOf p0 / sd
    if n = 0 then d else d.modAxis k fun x => { x with steps := x.steps + n, dir := decide (0 < n) }
  else
    let c := d.coils x.table x.p
    let ic : Int := if x.holding then d.fld (Reg.MOT_AX_CUR.i_hold_ma k) else d.fld (Reg.MOT_AX_CUR.i_run_ma k)
    let iA := ic * c.1 / 4095
    let iB := ic * c.2 / 4095
    let r := d.fld (Reg.MOT_AX_MOTOR.r_mohm k)
    let l := d.fld (Reg.MOT_AX_MOTOR.l_uh k)
    let ke := d.fld (Reg.MOT_AX_DRIVE.ke k)
    let free := fun (n : Nat) => ((Config.freeNat n % 8191 : Nat) : Int) - 4095
    let dA := if vm = 0 then free d.freshSeed else coilDuty r l ke tc vm iA x.iA (-c.2) x.v
    let dB := if vm = 0 then free (d.freshSeed + 1) else coilDuty r l ke tc vm iB x.iB c.1 x.v
    let d := (d.when (vm == 0) (·.useFree 2)).modAxis k fun x => { x with iA := iA, iB := iB }
    (d.setFld (Reg.MOT_AX_DUTY.duty_a k) (unsigned 13 dA)).setFld (Reg.MOT_AX_DUTY.duty_b k) (unsigned 13 dB)

/-! ### The control cycle (R387) -/

/-- One axis advanced by one cycle. -/
def Dev.axisCycle (tc vm k : Nat) (d : Dev) : Dev :=
  if !(d.axisOn k) then d
  else
    let x := d.axis k
    let slow := x.phase = 2 ∨ x.phase = 3
    let vmax := if slow then x.vmax / 2 ^ d.fld (Reg.MOT_AX_CFG.home_shift k) else x.vmax
    let p0 := x.p
    if !x.moving then d.axisDrive k tc vm p0
    else
      let y := x.profile vmax
      let d := d.modAxis k fun _ => if y.moving then y else { y with holding := false }
      let d := ((d.homeRange k).limitCheck k).axisDrive k tc vm p0
      if y.moving then d else d.homeNext k

/-- One axis while the supply is too low (R393): its bridges are low, a moving axis stops and faults, a still one is powered down. -/
def Dev.axisUnpowered (k : Nat) (d : Dev) : Dev :=
  if !(d.axisOn k) then d
  else
    let d := d.dutyOff k
    if d.axisStill k then (if (d.axis k).powered then d.axisDown k else d) else d.axisFault k 4 true

/-- Axis `k` told to the SHADOW, with the number of its requests executed (R397). -/
def Dev.axisTell (k : Nat) (d : Dev) : Dev :=
  d.when d.isActive fun d => d.pairSend (.state [] [(k, Tab.get d.mot.asked 0 k, d.axis k)] [] [])

/-- The motion cycle (R387 to R394) with MOT_VM_SENSE at `sense` mV; the axes of a SHADOW follow the ACTIVE's STATE instead (R397). -/
def Dev.motionCycle (tc sense : Nat) (d : Dev) : Dev :=
  let vm := sense * d.fld Reg.MOT_CFG.vm_div_q8 / 256
  let low := Nat.blt vm (d.fld Reg.MOT_CFG.vm_min_dv * 100)
  let d := (d.count 0xF2 1).setFld Reg.MOT_VM.vm_mv (min vm 65535)
  let d := if low = d.mot.vmLow then d
    else (d.modMot fun m => { m with vmLow := low }).raise 0x1304 Sev.warn (if low then 1 else 0) vm
  if d.isShadow then d
  else
    let moving := (List.range 6).filter fun k => d.axisOn k && ((d.axis k).moving || (d.axis k).v != 0)
    let d := if low then (List.range 6).foldl (fun d k => d.axisUnpowered k) d else (List.range 6).foldl (fun d k => d.axisCycle tc vm k) d
    moving.foldl (fun d k => d.axisTell k) d

/-! ### Requests (R396) -/

/-- Detail code AXIS_STATE. -/
abbrev Detail.axisState : Nat := 0x18

/-- Does line pacing own axis `k` as its feed axis? -/
def Dev.feedOwns (d : Dev) (k : Nat) : Bool :=
  d.mode == Mode.printScan && d.flag Reg.PAC_FEED_CFG.src && d.fld Reg.PAC_FEED_CFG.axis == k

/-- A motion request for axis `k` counted; it acts on the device that holds the ACTIVE role, or on one alone (R338). -/
def Dev.axisAsk (k : Nat) (act : Axis → Axis) (d : Dev) : Dev :=
  let d := d.modMot fun m => { m with asked := Tab.upd m.asked 0 k (· + 1) }
  if d.isShadow then d else (d.modAxis k act).axisTell k

/-- Does an axis stand still, with every request for it carried out: in SHADOW as the ACTIVE has told? -/
def Dev.axisRests (d : Dev) (k : Nat) : Bool :=
  d.axisStill k && (!d.isShadow || Nat.ble (Tab.get d.mot.asked 0 k) (Tab.get d.mot.told 0 k))

/-- A motion SET: parameter, the 48 low bits, the range of the value, the states that refuse it, its effect on the axis. -/
def Dev.axisSet (k param w : Nat) (range : Axis → Nat → Bool) (refused : Axis → Bool) (act : Nat → Axis → Axis) (d : Dev) : Dev :=
  let n := w / 2 ^ 37 % 8
  let v := w % 2 ^ 37
  let word := word0 0x20 (param * 2 ^ 48 + w % 2 ^ 48)
  d.cmdExec k word 0 1 (fun d => [(w % 2 ^ 48 / 2 ^ 40 != 0, Detail.reserved), (d.feedOwns n, Detail.ctxIllegal),
      (!(d.axisOn n) || Nat.ble (2 ^ 32) v || !(range (d.axis n) v), Detail.range), (refused (d.axis n), Detail.axisState)]) fun d =>
    .done (d.axisAsk n (act v))

/-- A new target: the axis is powered and moves unless it is there. -/
def Axis.goTo (x : Axis) (t : Int) : Axis :=
  { x with target := t, powered := true, holding := false, moving := x.moving || decide (t * microstep ≠ x.p) || decide (x.v ≠ 0) }

/-- SET MOVE_ABS. -/
def Dev.moveAbs (k w : Nat) (d : Dev) : Dev :=
  d.axisSet k 0x40 w (fun _ _ => true) (fun x => !x.valid || x.phase != 0 || x.fault != 0) fun v x => x.goTo (signed 32 v)
/-- SET MOVE_REL: it clears a fault. -/
def Dev.moveRel (k w : Nat) (d : Dev) : Dev :=
  d.axisSet k 0x41 w (fun x v => decide (-(2 ^ 31) ≤ x.target + signed 32 v) && decide (x.target + signed 32 v < 2 ^ 31))
    (fun x => x.phase != 0) fun v x => ({ x with fault := 0 }).goTo (x.target + signed 32 v)
/-- SET VMAX. -/
def Dev.setVmax (k w : Nat) (d : Dev) : Dev :=
  d.axisSet k 0x42 w (fun _ v => v != 0) (fun _ => false) fun v x => { x with vmax := v }
/-- SET ACCEL. -/
def Dev.setAccel (k w : Nat) (d : Dev) : Dev :=
  d.axisSet k 0x43 w (fun _ v => v != 0 && Nat.blt v (2 ^ 24)) (fun _ => false) fun v x => { x with accel := v }
/-- SET DECEL. -/
def Dev.setDecel (k w : Nat) (d : Dev) : Dev :=
  d.axisSet k 0x44 w (fun _ v => v != 0 && Nat.blt v (2 ^ 24)) (fun _ => false) fun v x => { x with decel := v }
/-- SET JERK. -/
def Dev.setJerk (k w : Nat) (d : Dev) : Dev :=
  d.axisSet k 0x45 w (fun _ _ => true) (fun _ => false) fun v x => { x with jerk := v }
/-- SET HOME (R398): it clears a fault, and the position is unknown until homing ends. -/
def Dev.setHome (k w : Nat) (d : Dev) : Dev :=
  d.axisSet k 0x46 w (fun _ v => v == 0) (fun _ => false) fun _ x =>
    { x with fault := 0, phase := 1, seek := false, valid := false, powered := true, holding := false, moving := true, target := x.stopTarget }
/-- SET STOP (R390): homing is abandoned and leaves the position unknown. -/
def Dev.setStop (k w : Nat) (d : Dev) : Dev :=
  d.axisSet k 0x47 w (fun _ v => v == 0) (fun _ => false) fun _ x =>
    { x with target := x.stopTarget, valid := x.valid && x.phase == 0, phase := 0, seek := false }
/-- SET SET_POS. -/
def Dev.setPos (k w : Nat) (d : Dev) : Dev :=
  d.axisSet k 0x48 w (fun _ _ => true) (fun x => x.moving || x.phase != 0) fun v x =>
    { x with p := signed 32 v * microstep, target := signed 32 v, valid := true }
/-- SET POWER (R395). -/
def Dev.setPower (k w : Nat) (d : Dev) : Dev :=
  let n := w / 2 ^ 37 % 8
  let lose := d.flag (Reg.MOT_AX_CFG.hold n)
  let d := d.axisSet k 0x49 w (fun _ v => Nat.blt v 2) (fun x => x.moving || x.phase != 0) fun v x =>
    if v = 1 then { x with powered := true } else { x with powered := false, valid := x.valid && !lose, iA := 0, iB := 0 }
  if (d.axis n).powered then d else d.dutyOff n
/-- SET TABLE. -/
def Dev.setTable (k w : Nat) (d : Dev) : Dev :=
  d.axisSet k 0x4A w (fun _ v => Nat.blt v 4) (fun x => x.moving || x.phase != 0) fun v x => { x with table := v }

/-- A relative move of the feed axis by line pacing (R232). -/
def Dev.feedMove (k : Nat) (delta : Int) (d : Dev) : Dev := d.axisAsk k fun x => x.goTo (x.target + delta)

end Sys2Proof.Machine
end

