-- ==== Sys2Proof/Machine/Pacing.lean ====
section
/-! DEFINITION. Machine/Pacing.lean: line pacing (chapter 11): encoder counts, the high-water mark and the reverse fault (R212 to R216),
the grid and line starts (R217 to R219, R222), index checking (R223), overspeed and the Governor (R224 to R226), sheets (R227,
R228), scan passes and feeds (R231, R232), encoder forwarding (R233, R234), the slack monitor (R16, R19). -/

namespace Sys2Proof.Machine

/-! ### Ports at a line start -/

/-- Is port `k` in state UP (Table 12-12)? -/
def Dev.portUp (d : Dev) (k : Nat) : Bool := d.fld (Reg.HLK_PORT_STAT.state k) == 5

/-- The line of a page among the frames sent and the lookahead buffer of port `k`. -/
def Dev.lineReady (d : Dev) (k page line : Nat) : Option PortLine :=
  ((d.hport k).frames ++ d.lookLines k).find? fun l => l.page == page && l.line == line

/-- A port line leaves the frames and the lookahead buffer of its port. -/
def Dev.lineGone (k page line : Nat) (d : Dev) : Dev :=
  let keep := fun (l : PortLine) => !(l.page == page && l.line == line)
  let d := d.modPort k fun h => { h with frames := h.frames.filter keep, ends := h.ends.filter fun e => !(e.1 == page && e.2.1 == line) }
  (d.modAsm fun a => { a with look := Tab.set a.look [] k ((Tab.get a.look [] k).filter keep) }).asmCounts

/-- Does port `k` serve a line that fires at line start `s`: UP, and the line's deadline after it became UP (R257)? -/
def Dev.portServes (d : Dev) (k s : Nat) : Bool := d.portUp k && Nat.blt (d.hport k).upAt (d.deadline s)

/-- A port line that no FIRE block will carry is blank with LINK_DOWN (R254). -/
def Dev.linkDownLine (k page line : Nat) (d : Dev) : Dev :=
  (((d.lineGone k page line).runClose Rep.asm k).runClose Rep.pac k).blankLine Rep.hlk k page line Blank.nak 0x11 |>.settle page true

/-- The blank cause and detail that port `k` finds for a line at its line start, before overspeed: LINK_DOWN, late, or memory (R191,
R193, R254). -/
def Dev.startCause (d : Dev) (k a page line : Nat) : Nat × Nat :=
  if !(d.portServes k a) then (Blank.nak, 0x11)
  else match d.lineReady k page line with
    | none => (Blank.late, 0)
    | some l => match l.mem with
      | some m => (Blank.memory, m)
      | none => if (d.hport k).void.contains (page, line) then (Blank.memory, 3) else (0, 0)

/-- The ports whose line at line start `a` comes within rec_ns of the port's last line start that was not blanked for overspeed; a line that
is already to be blank is not tested (R224). -/
def Dev.overspeedMask (d : Dev) (a t : Nat) : Nat :=
  ((d.enabledPorts.filter fun k => match d.lineAt k a, Tab.find d.pac.lastFire k with
    | some (n, y), some t0 => (d.startCause k a n y).1 == 0 && decide (t < t0 + d.fld Reg.PAC_RECOVERY.rec_ns * 65536)
    | _, _ => false).map (2 ^ ·)).sum

/-- Port `k` at line start `a` with time `t` (2^-16 ns): the line it fires there, if any, is due at its fire instant, or blank for
LINK_DOWN at once. Only an overspeed blank leaves the port's last time as it was. A page keeps the times of its first and last line start. -/
def Dev.portStart (a t mask : Nat) (d : Dev) (k : Nat) : Dev :=
  match d.lineAt k a with
  | none => d
  | some (n, y) =>
    if d.isShadow && !d.isMirror then (d.lineGone k n y).settle n false
    else
    let c := d.startCause k a n y
    let ns := t / 65536
    let ovs := c.1 == 0 && mask.testBit k
    let d := d.when (!ovs) fun d => d.modPac fun p => { p with lastFire := Tab.put p.lastFire k t }
    let d := d.modPage n fun p => { p with firstNs := if p.firstNs = 0 then ns else p.firstNs, lastNs := ns }
    if c.1 = Blank.nak ∧ !d.pairLines then d.linkDownLine k n y
    else
      let shot : Shot := {
        page := n, line := y, start := a, time := t + d.fld Reg.PAC_FIRE_DLY.fire_dly_ns * 65536
        cause := if ovs then Blank.overspeed else c.1, detail := c.2
        framed := (d.hport k).frames.any (fun l => l.page == n && l.line == y), ready := none, blank := false, counted := false }
      d.modPort k fun h => { h with due := h.due ++ [shot] }

/-! ### The slack monitor (R16, R19) -/

/-- Lc: the greatest line start, on the reference row, whose line has passed dose correction. -/
def Dev.slackDone (d : Dev) : Int :=
  ((d.seq.pages.filterMap fun e => if e.2.corrected = 0 then none else (e.2.zOf (e.2.corrected - 1)).map fun z => d.refStart e.1 z).map
    fun (n : Nat) => (n : Int)).foldl max 0

/-- The page lines placed in the stream that fire after line start `a` on a row delayed by `off`: the first of each segment, as its line
start on the reference row and its page line. -/
def Dev.linesAfter (d : Dev) (a off : Nat) : List (Nat × Nat) :=
  d.seq.pages.flatMap fun e => e.2.segs.filterMap fun s => match s.z with
    | none => none
    | some z =>
      let s0 := (d.job e.2.job).start + z
      let s1 := max s0 (a + 1 - off)
      if s1 < s0 + s.count then some (s1, s.first + (s1 - s0)) else none

/-- Lf: the first line start after `a` that holds a page line on the reference row, with its page line; in PRINT_WEB with a job open and
no further page, the next line start; else the earliest line that a delayed row still fires. None with nothing placed that is still to
fire. -/
def Dev.slackNext (d : Dev) (a : Nat) : Option (Nat × Nat) :=
  let first := fun (c : Nat × Nat) (rest : List (Nat × Nat)) => rest.foldl (fun m x => if x.1 < m.1 then x else m) c
  match d.linesAfter a 0, d.linesAfter a d.offMax with
  | c :: rest, _ => some (first c rest)
  | [], c :: rest => if d.isWeb && (d.openJob 0).isSome then some (a + 1, 0) else some (first c rest)
  | [], [] => if d.isWeb && (d.openJob 0).isSome then some (a + 1, 0) else none

/-- S and its lateness shown, in the interval's minimum, and in the alarm of R19 at page line `line`. -/
def Dev.slackShow (s : Nat) (late : Bool) (line : Nat) (d : Dev) : Dev :=
  let d := ((d.setFlag Reg.GLB_SLACK_NOW.valid true).setFlag Reg.GLB_SLACK_NOW.late late).setFld Reg.GLB_SLACK_NOW.slack s
  let d := d.setFld Reg.GLB_SLACK_MIN.min_slack (min s (d.fld Reg.GLB_SLACK_MIN.min_slack))
  let d := d.modGlb fun g => { g with minSlack := min s g.minSlack }
  if s < d.fld Reg.GLB_SLACK_CFG.slack_alarm then
    if d.glb.alarmArmed then
      (((d.modGlb fun g => { g with alarmArmed := false }).setFld Reg.GLB_AVS_STAT.slack_alarm 1).count 0x02 1).raise 0x0110 Sev.warn s line
    else d
  else d.modGlb fun g => { g with alarmArmed := true }

/-- SLACK_EVALUATE (R16, R19): after every line start in a print mode. With nothing placed that is still to fire there is no line number
Lf, and S, its lateness and the line are free values. -/
def Dev.slackEvaluate (d : Dev) : Dev :=
  if !(Mode.isPrint d.mode) then d
  else match d.slackNext d.pac.starts with
    | none =>
      let n := d.freshSeed
      let late := Config.freeNat n % 2 == 1
      (d.useFree 3).slackShow (if late then 0 else Config.freeNat (n + 1) % 65536) late (Config.freeNat (n + 2) % 2 ^ 64)
    | some (lf, line) =>
      let z := d.slackDone - (lf : Int)
      d.slackShow (clampInt 0 65535 z).toNat (decide (z < 0)) line

/-! ### The Governor (R226) -/

/-- GOV_OUT driven as PAC_STAT.gov and gov_pol say: gov_pol 0 drives it high when asserted. -/
def Dev.govDrive (d : Dev) : Dev := d.modPac fun a => { a with govOut := d.flag Reg.PAC_STAT.gov != d.flag Reg.PAC_GOV.gov_pol }

/-- GOV_OUT asserted or released, driven, and posted. -/
def Dev.govSet (on : Bool) (tNs : Nat) (d : Dev) : Dev :=
  if d.flag Reg.PAC_STAT.gov = on then d
  else ((d.setFlag Reg.PAC_STAT.gov on).govDrive.count 0x92 (if on then 1 else 0)).raiseTo none 0x0A04 Sev.info 0x50 (if on then 1 else 0) tNs

/-- GOVERNOR_CHANGE (R226): the interval `t` (2^-16 ns) between two line starts judged against rec_ns / I. -/
def Dev.governor (t : Nat) (d : Dev) : Dev :=
  let x := t * d.geom.rows
  let lim := d.fld Reg.PAC_RECOVERY.rec_ns * 100 * 65536
  if !(d.flag Reg.PAC_STAT.gov) then d.when (Nat.blt (x * d.fld Reg.PAC_GOV.thresh_pct) lim) fun d =>
    (d.modPac fun a => { a with slow := 0 }).govSet true (t / 65536)
  else if lim ≤ x * d.fld Reg.PAC_GOV.rel_pct then
    let n := d.pac.slow + 1
    let d := d.modPac fun a => { a with slow := n }
    d.when (Nat.ble (d.fld Reg.PAC_GOV.hold_lines) n) fun d => d.govSet false (t / 65536)
  else d.modPac fun a => { a with slow := 0 }

/-! ### Line starts -/

/-- Is the place of a job's Z = 0 fixed: no sheet of an earlier job waits for its datum (R219)? -/
def Dev.jobPlaced (d : Dev) (js : Nat) : Bool :=
  !(d.seq.pages.any fun e => Nat.blt e.2.job js && !e.2.recorded && e.2.segs.any fun s => s.z.isNone)

/-- The job whose Z PAC_LINE_Z shows at line start `a`: the latest job of context 0 that has begun by then. -/
def Dev.startJob (d : Dev) (a : Nat) : Option (Nat × Job) :=
  ((d.seq.jobs.filter (fun e => e.2.ctx == 0 && Nat.ble e.2.start a && e.2.start != 0 && d.jobPlaced e.1)).getLast?)

/-- The datums behind the first whose line 0 comes at line start `a` while the page before theirs is not open: rejected, reason 3
(R228). -/
def Dev.datumsLate (a : Nat) (d : Dev) : Dev :=
  match d.pac.datums with
  | [] => d
  | g :: rest =>
    let late := rest.filter (· == a)
    if late.isEmpty then d
    else
      let d := d.modPac fun p => { p with datums := g :: rest.filter (· != a) }
      let job := d.startJob a
      let start := match job with | some e => e.2.start | none => a
      let index := match job with | some e => e.2.pages | none => 0
      (late.foldl (fun d g => d.datumReject 3 (g - start) (index + 1)) d).bindDatums 0

/-- The pass in progress has made a line start; after its last the grid ends, and a marked feed becomes due (R231, R232). -/
def Dev.passStarted (t : Nat) (d : Dev) : Dev :=
  match d.pac.pass with
  | none => d
  | some q =>
    let n := d.pac.passStarts + 1
    let d := d.modPac fun a => { a with passStarts := n }
    if n < q.lines + d.offMax then d
    else d.modPac fun a => { a with
      pass := none, grid := false, passEnd := t
      feed := if q.feed then some (q.page, q.entry, d.passEntry q.entry / 2 ^ 16 % 2 ^ 16, t) else none }

/-- LINE_START (R217 to R219): a reference line start with time `t` (2^-16 ns). `ovs` gives the ports to blank for overspeed when another
device decides it (R336). -/
def Dev.lineStart (t : Nat) (ovs : Option Nat) (d : Dev) : Dev :=
  let a := d.pac.starts + 1
  let mask := match ovs with | some m => m | none => d.overspeedMask a t
  let last := d.pac.lastTime
  let d := (d.modPac fun p => { p with starts := a, lastTime := some t }).count 0x90 1
  let d := match last with
    | some t0 => (d.setFld Reg.PAC_PERIOD.t_ns (min ((t - t0) / 65536) 0xFFFFFFFF)).governor (t - t0)
    | none => d
  let z := match d.startJob a with | some e => a - e.2.start | none => d.fld Reg.PAC_LINE_Z.z
  let d := d.setFld Reg.PAC_LINE_Z.z z
  let d := d.when d.isActive fun d => d.pairSend (.lineStart z t mask)
  let d := d.enabledPorts.foldl (Dev.portStart a t mask) d
  let d := d.when d.isSheet fun d => d.datumsLate a
  ((d.passStarted t).slackEvaluate).pacShow

/-- A line start of the device's own pacing; a SHADOW takes the time and the overspeed mask of the ACTIVE's LINESTART for its Z when that
has arrived, and decides no overspeed itself (R336). -/
def Dev.ownStart (t : Nat) (d : Dev) : Dev :=
  if !d.isShadow then d.lineStart t none
  else
    let z := match d.startJob (d.pac.starts + 1) with | some e => d.pac.starts + 1 - e.2.start | none => 0
    match d.duo.starts.find? (fun e => e.1 == z) with
    | some e => (d.modPair fun p => { p with starts := p.starts.erase e }).lineStart e.2.1 (some e.2.2)
    | none => d.lineStart t (some 0)

/-! ### Encoders -/

/-- An encoder channel before its first count. -/
abbrev Encoder.rest : Encoder := ⟨0, none⟩
/-- Channel `c` (0 A, 1 B). -/
def Dev.encoder (d : Dev) (c : Nat) : Encoder := Tab.get d.pac.enc Encoder.rest c
/-- A channel changed. -/
def Dev.modEncoder (c : Nat) (f : Encoder → Encoder) (d : Dev) : Dev := d.modPac fun a => { a with enc := Tab.upd a.enc Encoder.rest c f }
/-- The register pair of a channel's position. -/
def posAddr (c : Nat) : Nat := if c = 0 then Reg.PAC_POS_A_LO.addr else Reg.PAC_POS_B_LO.addr
/-- The settings of a channel. -/
def Dev.encCfg (d : Dev) (c : Nat) : Word := d.reg (if c = 0 then Reg.PAC_ENC_CFG_A.addr else Reg.PAC_ENC_CFG_B.addr)

/-! #### The filters of the balls (R213) -/

abbrev Ball.step (c : Nat) : Nat := 3 * c
abbrev Ball.dir (c : Nat) : Nat := 3 * c + 1
abbrev Ball.idx (c : Nat) : Nat := 3 * c + 2
abbrev Ball.tos : Nat := 6
abbrev Ball.sos : Nat := 7
abbrev Ball.feedDone : Nat := 8

/-- Ball `k`'s filter. -/
def Dev.ball (d : Dev) (k : Nat) : Ball := Tab.get d.pac.balls Ball.unknown k
/-- N of ball `k`: idx_n, filt_n, tos_n, or sos_n for SOS_IN and FEED_DONE. -/
def Dev.ballN (d : Dev) (k : Nat) : Nat :=
  if k = Ball.tos then d.fld Reg.PAC_DET_CFG.tos_n
  else if Ball.tos < k then d.fld Reg.PAC_DET_CFG.sos_n
  else if k % 3 = 2 then (d.encCfg (k / 3)).toNat / 2 ^ 18 % 64
  else (d.encCfg (k / 3)).toNat / 2 ^ 12 % 64
/-- Does a sample of ball `k` at level `b` make an edge of its filtered level? The sampler runs from LOAD on. -/
def Dev.ballEdge (d : Dev) (k : Nat) (b : Bool) : Bool :=
  d.mode != Mode.reset && d.mode != Mode.sleep && (d.ball k).edge (d.ballN k) b
/-- A sample of ball `k` at level `b` stamped `t`. -/
def Dev.ballSample (k : Nat) (b : Bool) (t : Nat) (d : Dev) : Dev :=
  if d.mode = Mode.reset ∨ d.mode = Mode.sleep then d
  else d.modPac fun a => { a with balls := Tab.upd a.balls Ball.unknown k (Ball.next (d.ballN k) b t) }

/-- The counts of one sample (R212): in format 0 an active STEP edge, with the sign of the DIR level; in format 1 up edges on STEP and
down edges on DIR, which cancel. `step` and `dir` are the new levels of the balls that changed. -/
def countSigns (cfg : Word) (step dir : Option Bool) (dirLevel : Bool) : Int :=
  let stepUp := step == some (!cfg.getLsbD 2)
  if cfg.getLsbD 0 then (if stepUp then 1 else 0) - (if dir == some (!cfg.getLsbD 3) then 1 else 0)
  else if !stepUp then 0 else if dirLevel != cfg.getLsbD 3 then 1 else -1

/-- +1 when position counts run forward in the print direction, -1 when they run backward: invert, and the direction of the pass. -/
def Dev.printSign (d : Dev) : Int :=
  let rev := match d.pac.pass with | some q => q.reverse | none => false
  if d.flag Reg.PAC_CFG.invert != rev then -1 else 1

/-- How far position `a` is ahead of `b` in the print direction, modulo 2^48 (R214). -/
def Dev.ahead (d : Dev) (a b : Int) : Int := signed 48 (unsigned 48 (d.printSign * (a - b)))

/-- H (R215). -/
def Dev.hwm (d : Dev) : Nat := d.pair Reg.PAC_HWM_LO.addr

/-- t_ls of R218 for a line that a count at `t` starts (2^-16 ns): the overshoot (DEN - rem) / DEN of the time since the count before. -/
def Dev.interpolated (d : Dev) (t : Nat) : Nat :=
  let den := d.fld Reg.PAC_LINE_DEN.value
  let rem := d.pac.rem
  if !(d.flag Reg.PAC_CFG.interp_en) || rem == 0 then t
  else
    let cap := d.fld Reg.PAC_FIRE_DLY.interp_cap_ns * 65536
    let cnt := match d.pac.lastMove with | some t0 => min (t - t0) cap | none => cap
    t - ((den - rem) * cnt + den - 1) / den

/-- The grid at its next index (R217). -/
def Pac.advance (num den : Nat) (a : Pac) : Pac :=
  let q := a.q + num / den
  let r := a.rem + num % den
  if den ≤ r then { a with j := a.j + 1, q := q + 1, rem := r - den } else { a with j := a.j + 1, q := q, rem := r }

/-- REVERSE_FAULT (R216): H - p reaches reverse_limit in the modes and passes where it counts. -/
def Dev.reverseCheck (p back : Int) (d : Dev) : Dev :=
  let watched := Mode.isPrint d.mode && (!d.isScan || (d.pac.pass.isSome && d.pac.passStarts != 0))
  d.when (watched && !d.flag Reg.PAC_STAT.reverse_fault && decide ((d.fld Reg.PAC_REVERSE.reverse_limit : Int) ≤ back)) fun d =>
    (d.setFlag Reg.PAC_STAT.reverse_fault true).raiseTo none 0x0A01 Sev.fault 0x50 p.toNat d.hwm

/-- A reverse fault clears as p comes ahead of H again, and is posted (R216). -/
def Dev.reverseClear (d : Dev) : Dev :=
  d.when (d.flag Reg.PAC_STAT.reverse_fault) fun d =>
    let z := match d.startJob (d.pac.starts + 1) with | some e => d.pac.starts + 1 - e.2.start | none => 0
    (d.setFlag Reg.PAC_STAT.reverse_fault false).raiseTo none 0x0A02 Sev.info 0x50 d.pac.excursion z

/-- A count that moves H forward (R215 to R218): a reverse fault clears, and the boundary reached starts a line. -/
def Dev.hwmMoves (t p : Nat) (d : Dev) : Dev :=
  let d := (d.setPair Reg.PAC_HWM_LO.addr p).reverseClear
  let d := (d.modPac fun a => { a with excursion := 0 }).setFlag Reg.PAC_STAT.dir_rev false
  let due := decide ((d.pac.q : Int) + (if d.pac.rem = 0 then 0 else 1) ≤ d.ahead p d.pac.p0)
  let ts := d.interpolated t
  let d := d.modPac fun a => { a with lastMove := some t }
  d.when due fun d =>
    (d.modPac (Pac.advance (d.fld Reg.PAC_LINE_NUM.value) (d.fld Reg.PAC_LINE_DEN.value))).ownStart ts

/-- A count of the line-source channel (R215): with the grid in force H moves only forward, else it follows; a fault that still stands
clears at the first count that takes it forward. -/
def Dev.lineCount (t p : Nat) (d : Dev) : Dev :=
  if !d.pac.grid then
    let d := d.when (decide (0 < d.ahead p d.hwm)) Dev.reverseClear
    ((d.setPair Reg.PAC_HWM_LO.addr p).setFlag Reg.PAC_STAT.dir_rev false).modPac fun a => { a with
      lastMove := some t, excursion := if d.flag Reg.PAC_STAT.reverse_fault then a.excursion else 0 }
  else
    let f := d.ahead p d.hwm
    if 0 < f then d.hwmMoves t p
    else
      let d := d.modPac fun a => { a with excursion := max a.excursion (-f).toNat }
      (d.setFlag Reg.PAC_STAT.dir_rev (decide (2 ≤ -f))).reverseCheck p (-f)

/-! ### Forwarding (R233, R234) -/

/-- The field of encoder output `n`, from the same field of output 0. -/
def outFld (f : Fld) (n : Nat) : Fld := ⟨f.reg + 4 * n, f.hi, f.lo⟩

/-- An encoder output at rest. -/
abbrev EncOut.rest : EncOut := ⟨[], 0, false, [], 0⟩
/-- An encoder output changed. -/
def Dev.modOut (n : Nat) (f : EncOut → EncOut) (d : Dev) : Dev := d.modPac fun a => { a with outs := Tab.upd a.outs EncOut.rest n f }

/-- A step to forward: it waits, or is dropped beyond 65,535 and posted. -/
def Dev.outStep (n : Nat) (forward : Bool) (d : Dev) : Dev :=
  let o := Tab.get d.pac.outs EncOut.rest n
  if o.waiting.length < 65535 then d.modOut n fun o => { o with waiting := o.waiting ++ [forward] }
  else (d.modOut n fun o => { o with dropped := o.dropped + 1 }).raiseTo none 0x0A09 Sev.warn 0x50 n (o.dropped + 1)

/-- The DIR level of output `n` driven, in format step/direction on its ball. -/
def Dev.outDir (n : Nat) (level : Bool) (d : Dev) : Dev :=
  let o := Tab.get d.pac.outs EncOut.rest n
  if o.dir = level then d
  else d.modOut n fun o => { o with
    dir := level, sent := if d.fld (outFld Reg.PAC_OUT_CFG_0.fmt n) = 0 then o.sent ++ [.dir level] else o.sent }

/-- Output `n` as an image is applied: OFF drives its balls low and forgets what waits (R233). -/
def Dev.outLoad (n : Nat) (d : Dev) : Dev :=
  if d.fld (outFld Reg.PAC_OUT_CFG_0.mode n) ≠ 0 then d else (d.outDir n false).modOut n fun o => { o with waiting := [] }

/-- Output `n` after a count of its channel: the sign of the count, the position and the counts before and after, and the direction
CROSS passes through. -/
def Dev.outCount (up : Bool) (p0 p1 : Int) (c0 c1 : Nat) (dirThrough : Bool) (n : Nat) (d : Dev) : Dev :=
  let mode := d.fld (outFld Reg.PAC_OUT_CFG_0.mode n)
  let num := d.fld (outFld Reg.PAC_OUT_DIV_0.div_n n)
  let den := d.fld (outFld Reg.PAC_OUT_DIV_0.div_m n)
  if mode = 1 then d.outStep n up
  else if mode = 2 then
    let o0 := (num : Int) * p0 / den
    let o1 := (num : Int) * p1 / den
    if o0 = o1 then d else d.outStep n (decide (o0 < o1))
  else if mode = 3 then
    let d := d.outDir n dirThrough
    if num * c0 / den = num * c1 / den then d else d.outStep n dirThrough
  else d

/-- A channel's filtered DIR level has changed: CROSS outputs of a step/direction input pass it through at once (R233). -/
def Dev.dirThrough (c : Nat) (level : Bool) (d : Dev) : Dev :=
  (List.range 2).foldl (fun d n =>
    if d.fld (outFld Reg.PAC_OUT_CFG_0.src n) = c ∧ d.fld (outFld Reg.PAC_OUT_CFG_0.mode n) = 3 ∧ !(d.encCfg c).getLsbD 0 then d.outDir n level else d) d

/-- The counts of channel `c` in a sample with its edges (R212 to R218, R233): the new levels of the balls whose filtered levels changed,
the filtered DIR level, the edge's time (TB2, TB3 in a pair; 2^-16 ns). -/
def Dev.encoderCounts (c : Nat) (step dir : Option Bool) (dirLevel : Bool) (t : Nat) (d : Dev) : Dev :=
  let cfg := d.encCfg c
  let delta := countSigns cfg step dir dirLevel
  if delta = 0 then d
  else
    let p0 := d.pair (posAddr c)
    let p1 := unsigned 48 ((p0 : Int) + delta)
    let e := d.encoder c
    let d := (d.setPair (posAddr c) p1).count (0x93 + c) 1
    let d := d.modEncoder c fun e => { e with counts := e.counts + 1 }
    let through := if cfg.getLsbD 0 then decide (0 < delta) else dirLevel
    let d := (List.range 2).foldl (fun d n =>
      if d.fld (outFld Reg.PAC_OUT_CFG_0.src n) = c then d.outCount (decide (0 < delta)) (signed 48 p0) (signed 48 p1) e.counts (e.counts + 1) through n else d) d
    if d.fld Reg.PAC_CFG.line_src = c then d.lineCount t p1 else d

/-- ENCODER_COUNT (R212, R213, R233): a sample of channel `c`'s STEP and DIR balls, with its stamp, and the counts that the filtered edges it
makes come to; a count has the time of the first sample of the run that qualified its edge. Counting runs from LOAD on. -/
def Dev.encoderCount (c : Nat) (step dir : Bool) (t : Nat) (d : Dev) : Dev :=
  if d.mode = Mode.reset ∨ d.mode = Mode.sleep ∨ 2 ≤ c then d
  else
    let eStep := d.ballEdge (Ball.step c) step
    let eDir := d.ballEdge (Ball.dir c) dir
    let d := (d.ballSample (Ball.step c) step t).ballSample (Ball.dir c) dir t
    let d := d.when eDir fun d => d.dirThrough c dir
    d.encoderCounts c (if eStep then some step else none) (if eDir then some dir else none)
      ((d.ball (Ball.dir c)).level == some true) (d.ball (if eStep then Ball.step c else Ball.dir c)).since

/-- ENC_OUT_STEP (R234): the oldest waiting step of an output is sent: in format step/direction the DIR level it needs and then a pulse on
STEP; in format up/down a pulse on STEP for up and on DIR for down. -/
def Dev.encOutStep (n : Nat) (d : Dev) : Dev :=
  let o := Tab.get d.pac.outs EncOut.rest n
  match o.waiting with
  | [] => d
  | s :: rest =>
    let cross := d.fld (outFld Reg.PAC_OUT_CFG_0.mode n) == 3
    let d := d.when (!cross) fun d => d.outDir n s
    let act := if d.fld (outFld Reg.PAC_OUT_CFG_0.fmt n) = 0 ∨ s then OutAct.step else OutAct.down
    d.modOut n fun o => { o with waiting := rest, sent := o.sent ++ [act] }

/-- The index edge of a channel (R223, R233): forwarded; on the line-source channel it is checked against the edge before it when both came
forward. -/
def Dev.indexCheck (c : Nat) (d : Dev) : Dev :=
    let d := (List.range 2).foldl (fun d n =>
      if d.fld (outFld Reg.PAC_OUT_CFG_0.src n) = c ∧ d.fld (outFld Reg.PAC_OUT_CFG_0.mode n) ≠ 0 then d.modOut n fun o => { o with idx := o.idx + 1 } else d) d
    let p := d.pair (posAddr c)
    let forward := d.fld Reg.PAC_CFG.line_src == c && !d.flag Reg.PAC_STAT.dir_rev
    let last := (d.encoder c).lastIndex
    let d := d.modEncoder c fun e => { e with lastIndex := if forward then some p else none }
    match last with
      | some p0 =>
        if !forward || !(d.flag Reg.PAC_IDX_CFG.idx_chk_en) then d
        else
          let dist := (signed 48 (unsigned 48 ((p : Int) - p0))).natAbs
          let nominal := d.fld Reg.PAC_IDX_CFG.idx_nominal
          let d := d.setFld Reg.PAC_IDX_STAT.distance (min dist 0xFFFFFF)
          if ((dist : Int) - nominal).natAbs ≤ d.fld Reg.PAC_IDX_CFG.idx_tol then d
          else (d.satFld Reg.PAC_IDX_STAT.errors 1).raiseTo none 0x0A05 Sev.warn 0x50 dist p
      | none => d

/-- INDEX_EDGE (R213, R223, R233): a sample of a channel's IDX ball, and what the active edge of its filtered level does. -/
def Dev.indexEdge (c : Nat) (level : Bool) (d : Dev) : Dev :=
  if 2 ≤ c then d
  else
    let edge := d.ballEdge (Ball.idx c) level && level != (d.encCfg c).getLsbD 4
    (d.ballSample (Ball.idx c) level 0).when edge fun d => d.indexCheck c

/-! ### Sheets and passes -/

/-- The position of the line source; with trigger events as line source, the number of line starts. -/
def Dev.linePos (d : Dev) : Nat := if d.fld Reg.PAC_CFG.line_src = 2 then d.pac.starts else d.pair (posAddr (d.fld Reg.PAC_CFG.line_src))

/-- The number of the first line start at or after `ofs` counts behind position `p` (R227), or `ofs` trigger events (R222). -/
def Dev.firstStartAt (d : Dev) (p ofs : Nat) : Nat :=
  if d.fld Reg.PAC_CFG.line_src = 2 then max (d.pac.starts + 1) (d.pac.starts + ofs)
  else
    let x := d.ahead p d.pac.p0 + ofs
    let num : Int := d.fld Reg.PAC_LINE_NUM.value
    let den : Int := d.fld Reg.PAC_LINE_DEN.value
    max 1 (-((-(x * den)) / num)).toNat

/-- A sheet datum with line 0 at line start `g` joins those that wait; a ninth is ignored (R227). -/
def Dev.datumAdd (g : Nat) (d : Dev) : Dev :=
  let unbound := d.seq.pages.any (fun e => !e.2.recorded && e.2.segs.any fun s => s.z.isNone)
  if !unbound && (d.openJob 0).isNone then d
  else if 8 ≤ d.pac.datums.length then
    let index := match d.openJob 0 with | some js => (d.job js).pages | none => 0
    d.datumReject 1 0 (index + d.pac.datums.length)
  else ((d.modPac fun a => { a with datums := a.datums ++ [g] }).bindDatums 9).pacShow

/-- An active edge of filtered TOS_IN (R227); a SHADOW takes its datums from the ACTIVE (R336). -/
def Dev.tosDatum (d : Dev) : Dev :=
  let p := d.linePos
  if d.mode ≠ Mode.printSheet then d
  else
    let near : Bool := match d.pac.tosPos with
      | some q => decide ((signed 48 (unsigned 48 ((p : Int) - q))).natAbs < d.fld Reg.PAC_DET_CFG.lockout)
      | none => false
    if near then d
    else
      let g := d.firstStartAt p (d.fld Reg.PAC_TOS_OFS.offset)
      let d := d.modPac fun a => { a with tosPos := some p }
      let z := match d.startJob g with | some e => g - e.2.start | none => 0
      (d.when d.isActive fun d => d.pairSend (.datum 1 p z)).datumAdd g

/-- TOS_EDGE (R213, R227): a sample of TOS_IN, and what the active edge of its filtered level does. -/
def Dev.tosEdge (level : Bool) (d : Dev) : Dev :=
  let edge := d.ballEdge Ball.tos level && level != d.flag Reg.PAC_DET_CFG.tos_pol
  (d.ballSample Ball.tos level 0).when edge Dev.tosDatum

/-- Is the next queued pass armed (R231)? -/
def Dev.passArmed (d : Dev) : Bool :=
  d.isScan && d.pac.pass.isNone && d.pac.feed.isNone && !d.pac.passes.isEmpty

/-- The next queued pass starts with the datum of an SOS edge at position `p`, sos_offset behind it in the pass's direction (R231). -/
def Dev.passBegin (p : Nat) (d : Dev) : Dev :=
  match d.pac.passes with
  | [] => d
  | q :: rest =>
    let d := (d.modPac fun a => { a with passes := rest, pass := some q, passStarts := 0 }).setFld Reg.PAC_PASS_STAT.entry q.entry
    let ofs := d.fld Reg.PAC_SOS_OFS.offset
    let d := if d.fld Reg.PAC_CFG.line_src = 2 then d.modPac fun a => { a with grid := true, q := ofs - 1, rem := 0, j := 0 }
      else (d.setPair Reg.PAC_HWM_LO.addr (d.pair (posAddr (d.fld Reg.PAC_CFG.line_src)))).gridAt ((p : Int) + d.printSign * ofs) 0
    d.pacShow

/-- An active edge of filtered SOS_IN (R231). -/
def Dev.sosDatum (d : Dev) : Dev :=
  if d.mode ≠ Mode.printScan then d
  else if !d.passArmed then d.satFld Reg.PAC_DET_STAT.sos_ignored 1
  else
    let p := d.linePos
    let z := match d.pac.passes with | q :: _ => q.z | [] => 0
    (d.when d.isActive fun d => d.pairSend (.datum 2 p z)).passBegin p

/-- SOS_EDGE (R213, R231): a sample of SOS_IN, and what the active edge of its filtered level does. -/
def Dev.sosEdge (level : Bool) (d : Dev) : Dev :=
  let edge := d.ballEdge Ball.sos level && level != d.flag Reg.PAC_DET_CFG.sos_pol
  (d.ballSample Ball.sos level 0).when edge Dev.sosDatum

/-! ### Feeds (R232) -/

/-- A feed is done: posted with its duration. -/
def Dev.feedDone (d : Dev) : Dev :=
  match d.pac.feed with
  | none => d
  | some (_, entry, lines, t) =>
    let us := (d.tbRead 2 - t) / 65536000
    let handshake := !(d.flag Reg.PAC_FEED_CFG.src)
    let d := (d.modPac fun a => { a with feed := none, feedReq := false }).setFld Reg.PAC_PASS_STAT.feed (if handshake then 2 else 0)
    (d.raiseTo (some (d.evtRing 0)) 0x0A08 Sev.info 0x50 (entry * 2 ^ 16 + lines) us).pacShow

/-- FEED_START (R232): the feed that is due begins: FEED_REQ, or the move of the feed axis to its cumulative target. -/
def Dev.feedStart (d : Dev) : Dev :=
  match d.pac.feed with
  | none => d
  | some (page, entry, lines, _) =>
    if d.fld Reg.PAC_PASS_STAT.feed ≠ 0 then d
    else
      let d := d.modPac fun a => { a with feed := some (page, entry, lines, d.tbRead 2), feedReq := !(d.flag Reg.PAC_FEED_CFG.src) }
      let d := ((d.setFld Reg.PAC_PASS_STAT.feed 1).setFld Reg.PAC_PASS_STAT.entry entry).setFld Reg.PAC_PASS_STAT.feed_lines lines
      let d := if !(d.flag Reg.PAC_FEED_CFG.src) then d
        else
          let js := (d.page page).job
          let total := (d.job js).feedLines
          let scale := d.fld Reg.PAC_FEED_CFG.scale_q8
          let delta : Int := (((total + lines) * scale / 256 : Nat) : Int) - ((total * scale / 256 : Nat) : Int)
          let d := d.modJob js fun j => { j with feedLines := total + lines }
          let k := d.fld Reg.PAC_FEED_CFG.axis
          d.feedMove k delta
      d.pacShow

/-- A feed by axis is done once the axis stands still (R232). -/
def Dev.feedAxisCheck (d : Dev) : Dev :=
  d.when (d.flag Reg.PAC_FEED_CFG.src && d.fld Reg.PAC_PASS_STAT.feed == 1 && d.pac.feed.isSome &&
    d.axisRests (d.fld Reg.PAC_FEED_CFG.axis)) Dev.feedDone

/-- FEED_DONE is inactive again, and a held request may be made. -/
def Dev.feedFree (d : Dev) : Dev :=
  if d.fld Reg.PAC_PASS_STAT.feed = 2 then (d.setFld Reg.PAC_PASS_STAT.feed 0).pacShow else d

/-- FEED_DONE_EDGE (R213, R232): a sample of FEED_DONE; the active edge of its filtered level completes a handshake feed, and its inactive
level lets a held request be made. -/
def Dev.feedDoneEdge (level : Bool) (d : Dev) : Dev :=
  let active := level != d.flag Reg.PAC_DET_CFG.sos_pol
  let edge := d.ballEdge Ball.feedDone level
  let d := (d.ballSample Ball.feedDone level 0).when (edge && active && d.pac.feedReq) Dev.feedDone
  d.when (!active && (d.ball Ball.feedDone).level == some level) Dev.feedFree

/-- FEED_DONE_INACTIVE (R232): a sample of FEED_DONE at its inactive level. -/
def Dev.feedDoneInactive (d : Dev) : Dev := d.feedDoneEdge (d.flag Reg.PAC_DET_CFG.sos_pol)

/-- A trigger event for line pacing (R222): one line boundary at the trigger's time. -/
def Dev.triggerLine (t : Nat) (d : Dev) : Dev :=
  if d.fld Reg.PAC_CFG.line_src ≠ 2 ∨ !d.pac.grid then d
  else if d.isScan && d.pac.q != 0 then d.modPac fun a => { a with q := a.q - 1 }
  else d.ownStart t

end Sys2Proof.Machine
end

