-- ==== Sys2Proof/Machine/ImageCheck.lean ====
section
/-! DEFINITION. Machine/ImageCheck.lean: the configuration image: its format (R50 to R55), the device with an image applied (R56), and the
checks that give cause CONTENT (R444, R442 and the rules that name them). -/

namespace Sys2Proof.Machine

/-- An item of a section's payload (R53). -/
structure ImgItem where
  kind : Nat
  table : Nat
  data : List Byte
deriving DecidableEq, Repr

/-- A section: its type, its record's bytes, its items (none: the payload is malformed). -/
structure ImgSection where
  typ : Nat
  bytes : List Byte
  items : Option (List ImgItem)
deriving DecidableEq, Repr

abbrev Sec.ident : Nat := 0x01
abbrev Sec.headports : Nat := 0x04
abbrev Sec.pair : Nat := 0x0C
abbrev Sec.calib : Nat := 0x0D
abbrev Sec.bootjob : Nat := 0x10

/-- The section types that every image holds (Table 3-7). -/
def requiredSections : List Nat := [0x01, 0x02, 0x03, 0x04, 0x07]

/-- The blocks a section's items may write (Table 3-7). -/
def sectionBlocks (typ : Nat) : List Nat :=
  match typ with
  | 0x01 => [2] | 0x02 => [13] | 0x03 => [6, 7, 8] | 0x04 => [11, 12] | 0x05 => [9] | 0x06 => [7] | 0x07 => [10] | 0x08 => [19]
  | 0x09 => [18] | 0x0A => [20] | 0x0B => [3, 15, 17] | 0x0C => [16] | 0x0D => [12] | 0x0E => [14, 13] | 0x0F => [1, 5, 21] | _ => []

/-- A table's entry size in bytes and its number of entries. -/
def tableShape (id : Nat) : Option (Nat × Nat) :=
  match id with
  | 0x0201 => some (8, 1) | 0x0701 => some (2, 1024) | 0x0702 => some (1, 262144) | 0x0703 => some (2, 16) | 0x0704 => some (1, 32832)
  | 0x0802 => some (2, 1024) | 0x0901 => some (1, 32768) | 0x0902 => some (8, 512) | 0x0A01 => some (8, 64) | 0x0C01 => some (4, 64)
  | 0x0D01 => some (8, 80) | 0x0D02 => some (4, 16) | 0x0D03 => some (4, 256) | 0x0E01 => some (8, 32768) | 0x1001 => some (8, 16)
  | 0x1301 => some (4, 1024) | 0x1402 => some (16, 64) | _ => none

/-- The items of a payload (Table 3-6), none when one is malformed: a reserved byte or a byte of padding that is not 0, or data that
overrun the payload. -/
def itemsOf : Nat → List Byte → Option (List ImgItem)
  | 0, bs => if bs.isEmpty then some [] else none
  | fuel + 1, bs =>
    if bs.isEmpty then some []
    else
      let len := leAt bs 4 4
      let padded := (len + 7) / 8 * 8
      let data := (bs.drop 8).take len
      if bs.length < 8 + padded ∨ leAt bs 1 1 ≠ 0 ∨ ((bs.drop (8 + len)).take (padded - len)).any (· != 0#8) then none
      else
        match itemsOf fuel (bs.drop (8 + padded)) with
        | some rest => some (⟨leAt bs 0 1, leAt bs 2 2, data⟩ :: rest)
        | none => none

/-- The (offset, value) pairs of a REGS item. -/
def ImgItem.pairs (i : ImgItem) : List (Nat × Nat) :=
  (List.range (i.data.length / 8)).map fun k => (leAt i.data (8 * k) 4, leAt i.data (8 * k + 4) 4)

/-- The entries of a TABLE item. -/
def ImgItem.entries (i : ImgItem) (size : Nat) : List Nat := (List.range (i.data.length / size)).map fun k => leAt i.data (size * k) size

/-- The bits an image loads of the register at an offset; 0 for no IM register. -/
def imMask (a : Nat) : Nat := match regRow a with | some r => r.im | none => 0

/-- The registers an image writes with the value that stands: the last one (R56). -/
def writtenRegs (ss : List ImgSection) : Tab Nat :=
  (ss.flatMap fun s => (s.items.getD []).filter (·.kind == 1)).foldl (fun t i =>
    i.pairs.foldl (fun t p => Tab.put t p.1 p.2) t) []

/-- The tables an image loads: the entries of a later item replace those of an earlier one. -/
def writtenTables (ss : List ImgSection) : Tab (Tab Nat) :=
  (ss.flatMap fun s => (s.items.getD []).filter (·.kind == 2)).foldl (fun t i =>
    match tableShape i.table with
    | some (size, _) =>
      let es := i.entries size
      let old := (Tab.get t [] i.table).filter fun e => Nat.ble es.length e.1
      Tab.put t i.table ((es.zipIdx.map fun e => (e.2, e.1)) ++ old)
    | none => t) []

/-- What follows from the loaded registers: F (R280), C (R3), and the clamped AVSBus limits (R18). -/
def Dev.imageDerived (d : Dev) : Dev :=
  let total := d.channelGib * 2 ^ d.fld Reg.MEM_CFG.ch_log2
  let d := (d.setFld Reg.MEM_SIZE.total_gib total).setFld Reg.MEM_SIZE.fitted_64m (total * 255 / 16)
  let d := d.setFld Reg.CMP_GEOM.c_log2 (18 - d.fld Reg.CMP_GEOM.p_log2 - d.fld Reg.CMP_GEOM.i_log2)
  let clamp := fun (lo hi v : Nat) => max lo (min hi v)
  let lo := clamp 650 850 (d.fld Reg.GLB_AVS_LIMITS.avs_vmin_mv)
  let hi := clamp 650 850 (d.fld Reg.GLB_AVS_LIMITS.avs_vmax_mv)
  let d := (d.setFld Reg.GLB_AVS_LIMITS.avs_vmin_mv lo).setFld Reg.GLB_AVS_LIMITS.avs_vmax_mv hi
  let d := d.when (Nat.blt hi lo) fun d => d.setFlag Reg.GLB_AVS_CFG.avs_en false
  d.setFld Reg.GLB_AVS_IDLE.avs_idle_mv (max lo (min hi (d.fld Reg.GLB_AVS_IDLE.avs_idle_mv)))

/-- The device with an image's registers and tables in place of the old ones (R56); the FAN registers only where `fan` holds. -/
def Dev.imageOn (fan : Bool) (ss : List ImgSection) (d : Dev) : Dev :=
  let d := { d with regs := d.regs.filter fun e => imMask e.1 == 0 || (fanReg e.1 && !fan) }
  let d := (writtenRegs ss).foldl (fun d e => if fanReg e.1 && !fan then d else d.setReg e.1 (BitVec.ofNat 32 e.2)) d
  (d.modCfg fun c => { c with tables := writtenTables ss }).imageDerived

/-! ### Ranges (R444) -/

/-- The stated ranges of the IM fields: how many registers, the field of each, least and greatest value. -/
def imRanges : List (Nat × (Nat → Fld) × Nat × Nat) := [
  (1, fun _ => Reg.GLB_SLACK_CFG.slack_alarm, 16, 255), (1, fun _ => Reg.GLB_SLACK_CFG.slack_target, 16, 255),
  (1, fun _ => Reg.GLB_AVS_CFG.avs_calm, 1, 15), (1, fun _ => Reg.GLB_AVS_CFG.avs_interval, 1, 255),
  (1, fun _ => Reg.GLB_AVS_CFG.avs_step_mv, 1, 15), (1, fun _ => Reg.HDMA_REFETCH_CFG.refetch_tmo_ms, 1, 65535),
  (64, Reg.HDMA_RING_CFG.size_log2, 4, 16), (1, fun _ => Reg.RUN_CACHE_CFG.pin_limit_mib, 0, 16),
  (1, fun _ => Reg.RUN_SPARE_CFG.fail_limit, 1, 15), (1, fun _ => Reg.CMP_GEOM.i_log2, 0, 2),
  (1, fun _ => Reg.CMP_PAGE_W.page_w, 1, 0x7FFFFFFF), (1, fun _ => Reg.CMP_SPARE_CFG.fail_limit, 1, 15),
  (1, fun _ => Reg.ASM_EDGE.right_w, 0, 256), (1, fun _ => Reg.ASM_EDGE.left_w, 0, 256), (1, fun _ => Reg.NRG_CFG.stale_ms, 1, 255),
  (1, fun _ => Reg.PAC_LINE_NUM.value, 1, 16777215), (1, fun _ => Reg.PAC_LINE_DEN.value, 1, 16777215),
  (1, fun _ => Reg.PAC_RECOVERY.rec_ns, 15625, 1048575), (1, fun _ => Reg.PAC_GOV.hold_lines, 1, 255),
  (1, fun _ => Reg.PAC_REVERSE.reverse_limit, 2, 16777215), (1, fun _ => Reg.PAC_ENC_CFG_A.idx_n, 1, 32),
  (1, fun _ => Reg.PAC_ENC_CFG_A.filt_n, 1, 32), (1, fun _ => Reg.PAC_ENC_CFG_B.idx_n, 1, 32),
  (1, fun _ => Reg.PAC_ENC_CFG_B.filt_n, 1, 32), (1, fun _ => Reg.PAC_DET_CFG.sos_n, 1, 32), (1, fun _ => Reg.PAC_DET_CFG.tos_n, 1, 32),
  (1, fun _ => Reg.PAC_FEED_CFG.axis, 0, 5), (1, fun _ => Reg.PAC_CFG.print_mode, 0, 2), (1, fun _ => Reg.PAC_CFG.line_src, 0, 2),
  (2, fun n => outFld Reg.PAC_OUT_CFG_0.pw n, 2, 255), (2, fun n => outFld Reg.PAC_OUT_DIV_0.div_m n, 1, 65535),
  (2, fun n => outFld Reg.PAC_OUT_DIV_0.div_n n, 1, 65535), (1, fun _ => Reg.HLK_TIMING.retry_ms, 1, 255),
  (1, fun _ => Reg.HLK_TIMING.temp_100us, 1, 10), (1, fun _ => Reg.HLK_TIMING.ack_tmo_us, 5, 255)] ++ [
  (1, fun _ => Reg.MSR_CFG.i_code, 64, 4095), (1, fun _ => Reg.MSR_CFG.integ_us, 1, 245), (1, fun _ => Reg.MSR_CFG.elem_us, 11, 255),
  (1, fun _ => Reg.MSR_CAL_CFG.cal_tmo_s, 10, 65535), (1, fun _ => Reg.MEM_CFG.speed, 0, 2),
  (1, fun _ => Reg.MIG_CFG.scrub_gbps, 1, 255), (1, fun _ => Reg.FLT_CFG.wd_ms, 1, 255), (1, fun _ => Reg.FLT_CFG.irq_min, 0, 5), (1, fun _ => Reg.PAIR_CFG.rejoin_gbps, 1, 25),
  (1, fun _ => Reg.PAIR_CFG.pair_tmo_us, 20, 255), (1, fun _ => Reg.PAIR_CFG.commit_lead, 5, 50), (1, fun _ => Reg.CRC_CFG.mem_gbps, 1, 64),
  (1, fun _ => Reg.TIM_ETH_CFG.tc_mode, 0, 2), (1, fun _ => Reg.TIM_ETH_CFG.speed, 0, 2), (2, Reg.TIM_DOM_CFG.transport, 0, 2),
  (2, Reg.TIM_DOM_CFG.announce_tmo, 2, 10), (2, Reg.TIM_SERVO_LIM.step_ns, 1, 65535), (2, Reg.TIM_SERVO_LIM.lock_ns, 1, 255),
  (2, Reg.TIM_SERVO_LIM.adj_max, 1, 125), (16, Reg.TIM_TRG_CFG.target, 0, 6), (16, Reg.TIM_TRG_CFG.width, 1, 65535),
  (16, Reg.TIM_TRG_PERIOD.period, 100, 0xFFFFFFFF), (6, Reg.MOT_AX_CFG.sd, 0, 8), (6, Reg.MOT_AX_CFG.pw, 2, 255),
  (6, Reg.MOT_AX_CFG.deb_n, 1, 255), (1, fun _ => Reg.FAN_CFG.pwr_step_ms, 1, 255), (1, fun _ => Reg.FAN_ENC.enc_win_ms, 1, 255),
  (1, fun _ => Reg.FAN_ENC.enc_cnt, 1, 65535), (8, Reg.FAN_AIN_CFG.samp_ms, 1, 255), (16, Reg.FAN_RULE_CFG.m, 1, 15),
  (1, fun _ => Reg.PMU_CFG.tag_n, 0, 16)]

/-- The fields of an IM register that are neither loaded nor reserved: C, which is derived (Table 7-8). -/
def derivedMask (a : Nat) : Nat := if a = Reg.CMP_GEOM.addr then 0x1F00 else 0

/-- Every register an image writes keeps its fields in their ranges and its reserved bits 0. -/
def Dev.rangesOk (c : Dev) (written : Tab Nat) : Bool :=
  imRanges.all (fun r => (List.range r.1).all fun n =>
    let f := r.2.1 n
    (Tab.find written f.reg).isNone || (Nat.ble r.2.2.1 (c.fld f) && Nat.ble (c.fld f) r.2.2.2)) &&
  written.all (fun e => Nat.land e.2 (Nat.xor (Nat.lor (imMask e.1) (derivedMask e.1)) 0xFFFFFFFF) == 0) &&
  (List.range 2).all (fun n => (Tab.find written (Reg.TIM_DOM_CFG.addr n)).isNone || decide (-7 ≤ c.sfld (Reg.TIM_DOM_CFG.log_sync n)) &&
    decide (c.sfld (Reg.TIM_DOM_CFG.log_sync n) ≤ 4))

/-! ### Relations of the chapters -/

/-- The device-reserved regions (R442): base and size in bytes. -/
def Dev.reservedRegions (c : Dev) (paired : Bool) : List (Nat × Nat) :=
  [(c.pair Reg.ASM_RDS_BASE_LO.addr, 1056 * 2 ^ 20), (c.pair Reg.DCR_SHADOW_BASE_LO.addr, 2 ^ 20),
   (c.pair Reg.RUN_CTX_BASE_LO.addr, 2 ^ 18)] ++ (if paired then [(c.pair Reg.PAIR_CKPT_BASE_LO.addr, 2 ^ 26)] else [])

/-- Have two ranges no byte in common? -/
def apart (a b : Nat × Nat) : Bool := Nat.ble (a.1 + a.2) b.1 || Nat.ble (b.1 + b.2) a.1

/-- Is a relation true of every two elements of a list, the earlier first? -/
def allPairs {α : Type} (p : α → α → Bool) : List α → Bool
  | [] => true
  | x :: xs => xs.all (p x) && allPairs p xs

/-- R442 and R280: the reserved regions below F and apart; the logs' bases below F. -/
def Dev.basesOk (c : Dev) (paired : Bool) : Bool :=
  (c.reservedRegions paired).all (fun r => Nat.ble (r.1 + r.2) c.fitted) && allPairs apart (c.reservedRegions paired) &&
  Nat.blt (c.pair Reg.ASM_DLOG_BASE_LO.addr) c.fitted && Nat.blt (c.pair Reg.MIG_LOG_BASE_LO.addr) c.fitted

/-- R279: a configuration of Table 14-1. R289, R291: the scheduler's thresholds. -/
def Dev.memoryOk (c : Dev) : Bool :=
  Nat.ble c.channelGib 64 && Nat.blt (c.fld Reg.MEM_SCHED.wq_low) (c.fld Reg.MEM_SCHED.wq_high) &&
  Nat.ble (c.fld Reg.MEM_SCHED.wq_high) 128 && Nat.blt (c.fld Reg.MEM_SCHED.rt_low) (c.fld Reg.MEM_SCHED.rt_high)

/-- The stitch zones of a port from left to right (R182, R183): first column and width. -/
def Dev.portZones (c : Dev) (k : Nat) : List (Int × Nat) :=
  let ports := c.groupPorts k
  let lw := c.fld Reg.ASM_EDGE.left_w
  let rw := c.fld Reg.ASM_EDGE.right_w
  (if ports.head? == some k && lw != 0 then [(c.portFirst k, lw)] else []) ++
  (if k = 0 then [] else (c.joinZone (k - 1)).toList) ++ (c.joinZone k).toList ++
  (if ports.getLast? == some k && rw != 0 then [(c.portLast k + 1 - (rw : Nat), rw)] else [])

/-- R179: the ports' spans, overlaps and zones, and LOOKAHEAD. -/
def Dev.geometryOk (c : Dev) : Bool :=
  let g := c.geom
  (List.range 32).all (fun k =>
    c.portElems k % 64 == 0 && Nat.ble (c.portElems k) 8192 && decide (0 ≤ c.portFirst k) && decide (c.portLast k < g.cols) &&
    (!(Nat.blt (k + 1) 32 && g.group (k + 1) == g.group k) ||
      (decide (c.portFirst k < c.portFirst (k + 1)) && decide (c.portLast k + 1 - c.portFirst (k + 1) ≤ 256))) &&
    Nat.ble ((List.range k).filter fun j => g.group j == g.group k && decide (c.portFirst k ≤ c.portLast j)).length 1 &&
    (c.portZones k).all (fun z => decide (c.portFirst k ≤ z.1) && decide (z.1 + (z.2 : Nat) ≤ c.portLast k + 1)) &&
    allPairs (fun (a b : Int × Nat) => decide (a.1 + (a.2 : Int) ≤ b.1)) (c.portZones k)) &&
  Nat.ble 16 (c.fld Reg.ASM_CFG.lookahead) && Nat.ble (c.fld Reg.ASM_CFG.lookahead) (16 * g.rows)

/-- R203, R204: the class maps and pulse shapes; R206: the band thresholds. -/
def Dev.energyOk (c : Dev) : Bool :=
  let shapes := Tab.get c.cfg.tables [] 0x0902
  let part := fun (v i : Nat) => v / 2 ^ (10 * i) % 1024
  shapes.all (fun e =>
    let v := e.2
    Nat.blt v (2 ^ 50) && (e.1 % 16 != 0 || v == 0) && (part v 0 != 0 || part v 1 == 0) && (part v 2 != 0 || part v 3 == 0) &&
    Nat.ble (10 * (part v 0 + part v 1 + part v 2 + part v 3 + part v 4)) (c.fld Reg.PAC_RECOVERY.rec_ns)) &&
  (Tab.get c.cfg.tables [] 0x0901).all (fun e =>
    Nat.blt e.2 16 && (e.1 % 16 != 0 || Tab.get shapes 0 (e.1 / 1024 * 16 + e.2) / 2 ^ 40 % 1024 == 0)) &&
  Nat.blt (c.fld Reg.NRG_TBAND_LIM0.up1) (c.fld Reg.NRG_TBAND_LIM0.up2) && Nat.blt (c.fld Reg.NRG_TBAND_LIM0.up2) (c.fld Reg.NRG_TBAND_LIM1.up3)

/-- The initial defect table as the image and the defaults make it together (R165). -/
def Dev.initialDefects (c : Dev) : List Byte :=
  let t := Tab.get c.cfg.tables [] 0x0704
  defectDefault.zipIdx.map fun e => match Tab.find t e.2 with | some v => BitVec.ofNat 8 v | none => e.1

/-- R165, R172 and Table 9-6's profiles. -/
def Dev.correctionOk (c : Dev) : Bool :=
  (Tab.get c.cfg.tables [] 0x0701).all (fun e => Nat.blt e.2 4096) && (Tab.get c.cfg.tables [] 0x0702).all (fun e => Nat.blt e.2 64) &&
  (Tab.get c.cfg.tables [] 0x0703).all (fun e => Nat.ble e.2 256) && (Tab.get c.cfg.tables [] 0x0802).all (fun e => Nat.ble e.2 256) &&
  ((Tab.get c.cfg.tables [] 0x0704).isEmpty || defectCheck c.initialDefects none == 0)

/-- R235 and the pass table (R229). -/
def Dev.pacingOk (c : Dev) : Bool :=
  Nat.ble (c.fld Reg.PAC_LINE_DEN.value) (c.fld Reg.PAC_LINE_NUM.value) && Nat.ble 50 (c.fld Reg.PAC_GOV.rel_pct) &&
  Nat.blt (c.fld Reg.PAC_GOV.rel_pct) (c.fld Reg.PAC_GOV.thresh_pct) && Nat.ble (c.fld Reg.PAC_GOV.thresh_pct) 100 &&
  Nat.ble (c.fld Reg.PAC_FIRE_DLY.interp_cap_ns + 1000) (c.fld Reg.PAC_FIRE_DLY.fire_dly_ns) &&
  (List.range 2).all (fun n => Nat.ble (c.fld (outFld Reg.PAC_OUT_DIV_0.div_n n)) (c.fld (outFld Reg.PAC_OUT_DIV_0.div_m n))) &&
  (Tab.get c.cfg.tables [] 0x0A01).all (fun e => Nat.blt e.2 (2 ^ 37) && Nat.blt (e.2 / 2 ^ 32 % 16) (2 ^ c.geom.rows))

/-- Table 13-8 and Table 13-9. -/
def Dev.measureOk (c : Dev) : Bool :=
  Nat.ble (c.fld Reg.MSR_CFG.integ_us + 10) (c.fld Reg.MSR_CFG.elem_us) && Nat.ble (c.fld Reg.MSR_RBAND.r_lo) (c.fld Reg.MSR_RBAND.r_hi)

/-- Table 14-3's entries. -/
def Dev.timingOk (c : Dev) : Bool :=
  (Tab.get c.cfg.tables [] 0x0D01).all (fun e => Nat.blt e.2 (2 ^ 54)) && (Tab.get c.cfg.tables [] 0x0D02).all (fun e => Nat.blt e.2 (2 ^ 28)) &&
  (Tab.get c.cfg.tables [] 0x0D03).all (fun e => e.2 % 256 == 0 && Nat.ble (e.2 / 2 ^ 24) (if c.flag Reg.MEM_CFG.soldered then 1 else 2))

/-- The usable spare lines (R309). -/
def Dev.spareLines (c : Dev) : Nat :=
  if (c.retireEntries).any (fun e => e / 2 ^ 62 == 2) then
    countBelow (fun i => c.spareUsable (c.fitted / 64 + i)) ((c.totalBytes - c.fitted) / 64)
  else (c.totalBytes - c.fitted) / 64

/-- The spare lines that the retirements take (R309). -/
def Dev.spareTaken (c : Dev) : Nat := (c.retireEntries.map c.entryLines).sum

/-- R309, R298. -/
def Dev.retireOk (c : Dev) : Bool :=
  (Tab.get c.cfg.tables [] 0x0E01).all (fun e =>
    let kind := e.2 / 2 ^ 62
    let v := e.2 % 2 ^ 24
    e.2 / 2 ^ 24 % 2 ^ 38 == 0 && kind != 3 && (kind != 1 || Nat.blt (v * 2 ^ 16) c.fitted) &&
    (kind != 2 || (Nat.blt (v % 8) c.channels && Nat.ble (v / 16 % 2) (c.fld Reg.MEM_CFG.ranks_m1) && Nat.blt v 1024))) &&
  allPairs (fun a b => a != b) c.retireEntries && (c.retireEntries.isEmpty || Nat.ble c.spareTaken c.spareLines) &&
  (List.range 16).all (fun n => Nat.ble (c.fld (Reg.MIG_REGION_CFG.class_ n)) 3 &&
    (!c.flag (Reg.MIG_REGION_CFG.valid n) || (Nat.blt 0 (c.fld (Reg.MIG_REGION_CFG.frames n)) &&
      Nat.ble ((c.fld (Reg.MIG_REGION_BASE.frame n) + c.fld (Reg.MIG_REGION_CFG.frames n)) * 2 ^ 16) c.fitted)))

/-- Does a ring that is not OFF name the vector (R88)? -/
def Dev.vectorNamed (c : Dev) (v : Nat) : Bool := (List.range 64).any fun n => !c.ringOff n && c.fld (Reg.HDMA_RING_CFG.vector n) == v

/-- R75, R317, R318, R367. -/
def Dev.ringsOk (c : Dev) : Bool :=
  (List.range 64).all (fun n => c.ringOff n || c.fld (Reg.HDMA_RING_CFG.type_ n) == (if n < 48 then 1 else if n < 56 then 2 else 3)) &&
  (List.range 21).all (fun b => Nat.land (c.reg (Reg.FLT_ROUTE.addr (b + 1))).toNat 0x888000 == 0) &&
  (!c.flag Reg.FLT_CFG.irq_en || !c.vectorNamed (c.fld Reg.FLT_CFG.irq_vector)) &&
  (!c.flag Reg.CRC_CFG.irq_en || !c.vectorNamed (c.fld Reg.CRC_CFG.irq_vector))

/-- The valid entries of the pair's region table, table 0x1001: first frame, frames, raw. -/
def Dev.pairRegions (c : Dev) : List (Nat × Nat × Bool) :=
  (Tab.get c.cfg.tables [] 0x1001).filterMap fun e =>
    if e.2.testBit 63 then some (e.2 % 2 ^ 24, e.2 / 2 ^ 24 % 2 ^ 24, e.2.testBit 62) else none

/-- R329 and the region table. -/
def Dev.pairOk (c : Dev) (paired boot : Bool) : Bool :=
  !(paired && boot && c.fld Reg.PAIR_CFG.role == 1) &&
  (Tab.get c.cfg.tables [] 0x1001).all (fun e => e.2 / 2 ^ 48 % 2 ^ 14 == 0) &&
  c.pairRegions.all (fun r =>
    let span := (r.1 * 2 ^ 16, r.2.1 * 2 ^ 16)
    Nat.ble (span.1 + span.2) c.fitted && apart span (c.pair Reg.ASM_RDS_BASE_LO.addr, 1056 * 2 ^ 20) &&
    apart span (c.pair Reg.PAIR_CKPT_BASE_LO.addr, 2 ^ 26))

/-- The trigger unit that runs the motion cycle. -/
def Dev.motionUnit (c : Dev) : Option Nat := (List.range 16).find? fun n => c.fld (Reg.TIM_TRG_CFG.target n) == 2

/-- Table 19-3: a measurement trigger's period is at least elem_us. -/
def Dev.sweepPeriodOk (c : Dev) (n : Nat) : Bool :=
  c.fld (Reg.TIM_TRG_CFG.target n) != 1 || Nat.ble (c.fld Reg.MSR_CFG.elem_us * 1000) (c.fld (Reg.TIM_TRG_PERIOD.period n))

/-- R377, R383. -/
def Dev.timeOk (c : Dev) : Bool :=
  let target := fun (n : Nat) => c.fld (Reg.TIM_TRG_CFG.target n)
  (List.range 2).all (fun q => !c.flag (Reg.TIM_DOM_CFG.en q) || c.fld Reg.TIM_ETH_CFG.tc_mode == 0 ||
    c.fld Reg.TIM_ETH_CFG.tc_mode == c.fld (Reg.TIM_DOM_CFG.delay q) + 1) &&
  [1, 2, 3, 4, 6].all (fun t => Nat.ble ((List.range 16).filter fun n => target n == t).length 1) &&
  (List.range 4).all (fun g => Nat.ble ((List.range 16).filter fun n => target n == 5 && c.fld (Reg.TIM_TRG_CFG.gpio n) == g).length 1) &&
  (List.range 16).all c.sweepPeriodOk && (List.range 16).all (fun n => target n == 0 || Nat.ble 100 (c.fld (Reg.TIM_TRG_PERIOD.period n)))

/-- R387, R391, R394 and the ranges of the profiles. -/
def Dev.motionOk (c : Dev) : Bool :=
  let tc := match c.motionUnit with
    | some n => c.fld (Reg.TIM_TRG_PERIOD.period n) * 65536 + c.fld (Reg.TIM_TRG_PERIOD_FRAC.frac n)
    | none => 0
  (List.range 6).all (fun k => !c.flag (Reg.MOT_AX_CFG.en k) || (c.motionUnit.isSome && (!c.flag (Reg.MOT_AX_CFG.form k) ||
    Nat.ble (20 * c.fld (Reg.MOT_AX_CFG.pw k) * ((c.fld (Reg.MOT_AX_VMAX.vmax k) + 2 ^ 24 - 1) / 2 ^ 24) * 65536)
      (tc * 2 ^ c.fld (Reg.MOT_AX_CFG.sd k))))) &&
  (Tab.get c.cfg.tables [] 0x1301).all fun e => Nat.land e.2 0xF000F000 == 0

/-- R404: a rule's source is enabled. -/
def Dev.fantailOk (c : Dev) : Bool :=
  (List.range 16).all fun n => !c.flag (Reg.FAN_RULE_CFG.en n) ||
    (if c.fld (Reg.FAN_RULE_CFG.kind n) < 2 then
      Nat.blt (c.fld (Reg.FAN_RULE_CFG.src n)) 8 && c.flag (Reg.FAN_AIN_CFG.en (c.fld (Reg.FAN_RULE_CFG.src n)))
     else c.fld Reg.FAN_CFG.dn != 0)

/-! ### Items (Table 3-8, CONTENT) -/

/-- Is an item of a section well formed and allowed there; `fitted` is the fitted memory the image describes. -/
def itemOk (typ fitted : Nat) (i : ImgItem) : Bool :=
  let inBlocks := fun (b : Nat) => (sectionBlocks typ).contains b
  if i.kind = 1 then
    typ != Sec.bootjob && i.table == 0 && i.data.length % 8 == 0 &&
      i.pairs.all fun p => p.1 % 4 == 0 && inBlocks (p.1 / 0x100000) && imMask p.1 != 0
  else if i.kind = 2 then
    match tableShape i.table with
    | some (size, n) => inBlocks (i.table / 256) && i.data.length % size == 0 && Nat.ble i.data.length (size * n)
    | none => false
  else if i.kind = 3 then
    let a := leAt i.data 0 8
    typ == Sec.bootjob && i.table == 0 && Nat.ble 8 i.data.length && a % 64 == 0 && Nat.blt a (2 ^ 40) && Nat.ble (a + i.data.length - 8) fitted
  else if i.kind = 4 then
    let a := leAt i.data 0 8
    typ == Sec.bootjob && i.table == 0 && i.data.length == 8 && a % 4096 == 0 && Nat.blt a (2 ^ 40) && Nat.blt a fitted
  else false

/-- The CONTENT checks of Table 3-8 over the sections, against the device with the image applied. -/
def Dev.contentOk (d : Dev) (ss : List ImgSection) : Bool :=
  let c := d.imageOn true ss
  let has := fun (t : Nat) => ss.any (·.typ == t)
  ss.all (fun s => match s.items with
    | some is => is.all (itemOk s.typ c.fitted) && (s.typ != Sec.bootjob || (is.filter (·.kind == 4)).length == 1)
    | none => false) &&
  c.rangesOk (writtenRegs ss) && c.memoryOk && c.basesOk (has Sec.pair) && c.geometryOk && c.correctionOk && c.energyOk &&
  c.pacingOk && c.measureOk && c.timingOk && c.retireOk && c.ringsOk && c.pairOk (has Sec.pair) (has Sec.bootjob) && c.timeOk &&
  c.motionOk && c.fantailOk

/-- IDENT (R55): table 0x0201 matches GLB_ID under its mask. -/
def identOk (ss : List ImgSection) : Bool :=
  let v := Tab.get (Tab.get (writtenTables ss) [] 0x0201) 0 0
  let mask := v / 2 ^ 32
  Nat.land (regReset Reg.GLB_ID.addr).toNat mask == Nat.land (v % 2 ^ 32) mask

/-- The pair match value (R331). -/
def Dev.pairMatchOf (c : Dev) (ss : List ImgSection) : Nat :=
  crc32c (([0x03, 0x05, 0x06, 0x07, 0x0B].flatMap fun t => (ss.filter (·.typ == t)).flatMap (·.bytes)) ++
    leBytes 4 (c.reg Reg.HLK_PORT_EN.addr).toNat)

end Sys2Proof.Machine
end

