-- ==== Sys2Proof/Machine/HeadFrames.lean ====
section
/-! DEFINITION. Machine/HeadFrames.lean: what the device sends on a transmit lane (chapter 12): frames (R241, R242), FIRE blocks
(R245), CTRL commands (Table 12-5), spit bursts (R258). -/

namespace Sys2Proof.Machine

/-- The CRC-8 of R238: polynomial 0x2F, initial value and final XOR 0xFF, no reflection. -/
def crc8 (bs : List Byte) : Nat := Nat.xor (crcMsb 8 0x2F 0xFF bs) 0xFF

/-- The bytes of a frame (Tables 12-2, 12-3): START block, payload, END block. -/
def linkFrame (ftype pseq port row id len : Nat) (active void : Bool) (payload : List Byte) : List Byte :=
  let start := [BitVec.ofNat 8 (ftype * 16 + (if active then 8 else 0) + pseq % 4), BitVec.ofNat 8 (row * 32 + port)] ++
    leBytes 4 id ++ leBytes 1 len
  [0x33#8] ++ start ++ payload ++ [0xCC#8] ++ leBytes 4 (crc32c (start ++ payload)) ++ leBytes 1 (if void then 1 else 0) ++
    leBytes 2 (payload.length / 8)

/-- The eight bytes of a FIRE block (Table 12-6). -/
def fireBytes (line pseq sub cause : Nat) (active blank : Bool) : List Byte :=
  let body := leBytes 4 line ++ leBytes 1 (sub % 32 + (if blank then 32 else 0) + (if active then 64 else 0)) ++
    leBytes 1 (cause % 8 + pseq % 4 * 8)
  [0x55#8] ++ body ++ leBytes 1 (crc8 body)

/-! ### Line coding (R237, R238) -/

/-- A 64b/66b block (R237): control or data, and its 8 payload bytes. -/
structure Block where
  control : Bool
  payload : List Byte
deriving DecidableEq, Repr

/-- The data blocks of a payload, 8 bytes each. -/
def dataBlocks (bs : List Byte) : Nat → List Block
  | 0 => []
  | n + 1 => ⟨false, bs.take 8⟩ :: dataBlocks (bs.drop 8) n

/-- The blocks of what a port sends: a frame's START and END are control blocks, with data blocks between. -/
def HeadOut.blocks : HeadOut → List Block
  | .frame _ bs =>
    [⟨true, bs.take 8⟩] ++ dataBlocks ((bs.drop 8).take (bs.length - 16)) ((bs.length - 16) / 8) ++ [⟨true, bs.drop (bs.length - 8)⟩]
  | .fire _ _ bs => [⟨true, bs⟩]
  | .idle _ bs => [⟨true, bs⟩]
  | .dark _ => []

/-- Payload bits through the self-synchronising scrambler x^58 + x^39 + 1 from register `s` (bit 0 the bit sent last): the bits sent and
the register after them. -/
def scramble : Nat → List Bool → List Bool × Nat
  | s, [] => ([], s)
  | s, b :: bs =>
    let o := b != (s.testBit 57 != s.testBit 38)
    let r := scramble ((s * 2 + (if o then 1 else 0)) % 2 ^ 58) bs
    (o :: r.1, r.2)

/-- The bits of blocks on the lane: the sync header (0b01 data, 0b10 control), which is not scrambled, and the scrambled payload, byte 0
first, each byte least significant bit first (R237). -/
def laneBits : Nat → List Block → List Bool
  | _, [] => []
  | s, b :: bs =>
    let r := scramble s (b.payload.flatMap bitsLsb)
    (if b.control then [true, false] else [false, true]) ++ r.1 ++ laneBits r.2 bs

/-- The port an output belongs to. -/
def HeadOut.port : HeadOut → Nat
  | .frame k _ => k
  | .fire k _ _ => k
  | .idle k _ => k
  | .dark k => k

/-- What has left on port `k`'s transmit lane, in bits; an IDLE block stands once for all that repeat it. -/
def Dev.laneOut (d : Dev) (k : Nat) : List Bool :=
  laneBits (Config.scramblerStart k).toNat ((d.hlk.out.filter fun o => o.port == k).flatMap HeadOut.blocks)

/-- The return records (Table 12-8). -/
inductive RetKind where
  | ack
  | temp
  | status
  | cap
  | echo
  | sample
deriving DecidableEq, Repr

/-- The K character that starts a record, by its 8-bit value: K28.0, K28.2, K28.3, K28.4, K28.6, K27.7. -/
def RetKind.start : RetKind → Byte
  | .ack => 0x1C#8
  | .temp => 0x5C#8
  | .status => 0x7C#8
  | .cap => 0x9C#8
  | .echo => 0xDC#8
  | .sample => 0xFB#8

/-- The characters of a return record: its K character, its data characters and the CRC-8 over them (R238). -/
def returnChars (k : RetKind) (data : List Byte) : List Byte := [k.start] ++ data ++ [BitVec.ofNat 8 (crc8 data)]

/-- Does the device discard a record: a character had a code or disparity error, or the CRC-8 fails (R249)? -/
def recordBad (chars : Nat) (data : List Byte) (crc : Nat) : Bool := chars != 0 || crc8 data != crc

/-- Does port `k`'s lane carry active = 1 in this mode (Table 12-13)? -/
def Dev.laneActive (d : Dev) : Bool := Mode.isPrint d.mode

/-- A frame other than LINE sent on port `k` with the next frame sequence number (R242). -/
def Dev.sendFrame (k ftype len : Nat) (payload : List Byte) (d : Dev) : Dev :=
  let n := (d.hport k).seq
  (d.headSend (.frame k (linkFrame ftype 0 k (d.geom.row k) n len d.laneActive false payload))).modPort k fun h =>
    { h with seq := (n + 1) % 2 ^ 32 }

/-- A CTRL command sent on port `k` (Table 12-5): op, its argument bytes; an ACK is expected of all but CAP_REQ and STATUS_REQ. -/
def Dev.sendCtrl (k op : Nat) (args : List Byte) (d : Dev) : Dev :=
  let n := (d.hport k).seq
  let d := d.sendFrame k 3 0 ((BitVec.ofNat 8 op :: args ++ List.replicate 7 0#8).take 8)
  if op = 1 ∨ op = 6 then d else d.modPort k fun h => { h with expect := h.expect ++ [(n, 2, op)] }

/-! ### Spit bursts (R258, R41) -/

/-- A burst of port `k` is over. -/
def Dev.spitMark (k : Nat) (failed : Bool) (d : Dev) : Dev :=
  let busy := d.hlk.spits.any fun s => s.wait.testBit k
  (d.setBit Reg.HLK_SPIT_BUSY.busy k busy).setBit Reg.HLK_SPIT_FAIL.fail k failed

/-- A request whose ports are all done is reported and ended (R258); a keep-wet burst has no context, and its event is routed. -/
def Dev.spitEnd (s : Spit) (d : Dev) : Dev :=
  if s.wait ≠ 0 then d
  else
    let d := d.modHlk fun h => { h with spits := h.spits.erase s }
    let d := d.raiseTo (s.ctx.map d.evtRing) 0x0B06 Sev.info 0x58 s.done s.failed
    match s.ctx with
    | some c => d.when d.isActive fun d => d.pairSend (.state [] [] [c * 16 + 3] [])
    | none => d.modGlb fun g => { g with keepwetSpat := ((List.range 32).filter fun k => s.done.testBit k).length }

/-- Port `k` of the oldest request that waits for it is done, or failed. -/
def Dev.spitPort (k : Nat) (ok : Bool) (d : Dev) : Dev :=
  match d.hlk.spits.find? (fun s => s.wait.testBit k) with
  | none => d
  | some s =>
    let t : Spit := { s with
      wait := s.wait - 2 ^ k, done := if ok then s.done + 2 ^ k else s.done, failed := if ok then s.failed else s.failed + 2 ^ k }
    let d := d.modHlk fun h => { h with spits := h.spits.map fun x => if x = s then t else x }
    (d.spitMark k (!ok)).spitEnd t

/-- CTRL SPIT to every UP port of a mask; a port that is not UP has failed at once. -/
def Dev.spitStart (ctx : Option Nat) (mask count period cls : Nat) (d : Dev) : Dev :=
  let ports := (List.range 32).filter fun k => mask.testBit k
  let up := ports.filter d.portUp
  let bits := fun (l : List Nat) => (l.map (2 ^ ·)).sum
  let s : Spit := ⟨ctx, bits up, 0, bits (ports.filter fun k => !(up.contains k))⟩
  let d := d.modHlk fun h => { h with spits := h.spits ++ [s] }
  let d := ports.foldl (fun d k =>
    if up.contains k then (d.sendCtrl k 3 (leBytes 1 cls ++ leBytes 2 count ++ leBytes 2 period)).setBit Reg.HLK_SPIT_BUSY.busy k true
    else d.setBit Reg.HLK_SPIT_FAIL.fail k true) d
  d.spitEnd s

/-- SPIT_TIMEOUT (R258): count × period + 1 ms have passed since the oldest request of an owner (none: keep-wet); its ports without an
answer have failed. -/
def Dev.spitTimeout (ctx : Option Nat) (d : Dev) : Dev :=
  match d.hlk.spits.find? (fun s => s.ctx == ctx) with
  | none => d
  | some s =>
    let t : Spit := { s with wait := 0, failed := s.failed + s.wait % 2 ^ 32 }
    let d := d.modHlk fun h => { h with spits := h.spits.map fun x => if x = s then t else x }
    let d := (List.range 32).foldl (fun d k => if s.wait.testBit k then d.spitMark k true else d) d
    d.spitEnd t

/-- SET SPIT_CFG (R258). -/
def Dev.setSpitCfg (k w : Nat) (d : Dev) : Dev :=
  let rec_ := d.fld Reg.PAC_RECOVERY.rec_ns
  d.cmdSet k 0x71 w (fun d => d.mode == Mode.service || (d.isShadow && d.fld Reg.GLB_SHADOW_OF.partner_mode == Mode.service))
    (fun _ => w % 2 ^ 16 != 0 && Nat.ble ((rec_ + 999) / 1000) (w / 2 ^ 16 % 2 ^ 16) && w / 2 ^ 32 % 16 != 0 && Nat.blt w (2 ^ 36))
    fun d => .done (d.modCtx k fun c => { c with spitCfg := w % 2 ^ 48 })

/-- SET SPIT_GO (R258, R338): the context waits until every burst is acknowledged or its time has passed; a SHADOW's waits for the
ACTIVE's report. -/
def Dev.setSpitGo (k w : Nat) (d : Dev) : Dev :=
  d.cmdSet k 0x70 w (fun d => d.mode == Mode.service || (d.isShadow && d.fld Reg.GLB_SHADOW_OF.partner_mode == Mode.service))
    (fun d => Nat.blt w (2 ^ 32) && (d.ctx k).spitCfg != 0)
    fun d =>
      let cfg := (d.ctx k).spitCfg
      .waits .spit (if d.isShadow then d.modHlk fun h => { h with spits := h.spits ++ [⟨some k, 2 ^ 32, 0, 0⟩] }
        else d.spitStart (some k) w (cfg % 2 ^ 16) (cfg / 2 ^ 16 % 2 ^ 16) (cfg / 2 ^ 32 % 16))

end Sys2Proof.Machine
end

