-- ==== Sys2Proof/Machine/Measure.lean ====
section
/-! DEFINITION. Machine/Measure.lean: head measurement and tentering (chapter 13): the measurement parameters (R265), sweeps (R266 to
R269), samples (R270, R271), setpoints (R272, R273), calibration (R274 to R276). -/

namespace Sys2Proof.Machine

/-- The mode by which a request is judged: the partner's in SHADOW (R265). -/
def Dev.requestMode (d : Dev) : Nat := if d.isShadow then d.fld Reg.GLB_SHADOW_OF.partner_mode else d.mode

/-- May a request be made: in no print mode; SWEEP and VSET_APPLY in STANDBY, SERVICE and CALIBRATE only (R265)? -/
def Dev.requestLegal (d : Dev) (limited : Bool) : Bool :=
  let m := d.requestMode
  !(Mode.isPrint m) && (!limited || m == Mode.standby || m == Mode.service || m == Mode.calibrate)

/-- A SET of a measurement parameter: param and 48 low bits of the word, whether it is legal here, in range, its effect. -/
def Dev.measureSet (k param w : Nat) (legal range : Dev → Bool) (body : Dev → SeqOut) (d : Dev) : Dev :=
  d.cmdExec k (word0 0x20 (param * 2 ^ 48 + w % 2 ^ 48)) 0 1 (fun d => [(w % 2 ^ 48 / 2 ^ 40 != 0, Detail.reserved),
    (!(legal d), Detail.ctxIllegal), (!(range d), Detail.range)]) body

/-- SET RESULT_BASE. -/
def Dev.setResultBase (k w : Nat) (d : Dev) : Dev :=
  d.measureSet k 0x60 w (fun _ => true) (fun d => w % 64 == 0 && d.inFitted w (2 ^ 20)) fun d =>
    .done (d.modCtx k fun c => { c with resultBase := w })
/-- SET DEFECT_OUT. -/
def Dev.setDefectOut (k w : Nat) (d : Dev) : Dev :=
  d.measureSet k 0x62 w (fun _ => true) (fun d => w % 4096 == 0 && d.inFitted w defectTableBytes) fun d =>
    .done (d.modCtx k fun c => { c with defectOut := w })
/-- SET DEFECT_VER. -/
def Dev.setDefectVer (k w : Nat) (d : Dev) : Dev :=
  d.measureSet k 0x61 w (fun _ => true) (fun _ => Nat.blt w (2 ^ 17)) fun d => .done (d.modCtx k fun c => { c with defectVer := w })
/-- SET VSET_CODE. -/
def Dev.setVsetCode (k w : Nat) (d : Dev) : Dev :=
  d.measureSet k 0x65 w (fun _ => true) (fun _ => Nat.blt w (2 ^ 12)) fun d => .done (d.modCtx k fun c => { c with vsetCode := w })

/-- A completed request of a context told to the SHADOW (R338): kind 0 sweep, 1 sample, 2 setpoints, with the lines it wrote. -/
def Dev.requestDone (ctx kind : Nat) (lines : List (Nat × List Byte)) (d : Dev) : Dev :=
  d.when d.isActive fun d => d.pairSend (.state [] [] [ctx * 16 + kind] lines)

/-! ### Sweeps -/

/-- Statuses of Table 13-4. -/
abbrev Elem.ok : Nat := 0
abbrev Elem.low : Nat := 1
abbrev Elem.high : Nat := 2
abbrev Elem.open_ : Nat := 3
abbrev Elem.noConnect : Nat := 4
abbrev Elem.notSwept : Nat := 5
abbrev Elem.abandoned : Nat := 6

/-- The mean ADC code and the resistance of R261. -/
def resistance (i : Nat) (convs : List Nat) : Nat :=
  let n := convs.length
  let a := (convs.sum + n / 2) / n
  min ((a * 9375 + i / 2) / i) 0xFFFFF

/-- The status of a connected element (Table 13-4). -/
def Dev.elemStatus (d : Dev) (convs : List Nat) (r : Nat) : Nat :=
  if convs.contains 0xFFFF then Elem.open_
  else if r < d.fld Reg.MSR_RBAND.r_lo then Elem.low
  else if d.fld Reg.MSR_RBAND.r_hi < r then Elem.high
  else Elem.ok

/-- Entries of port `k` from element `a` up to `b` written with one status and r = 0 (R267). -/
def Dev.sweepFill (base k a b status : Nat) (d : Dev) : Dev :=
  d.memWrite 0x60 (base + 4 * (k * 8192 + a)) ((List.replicate (b - a) (leBytes 4 (status * 2 ^ 20))).flatten)

/-- The rest of port `k` from element `a` on: one status up to its last element, and NOT_SWEPT beyond. -/
def Dev.sweepPortEnd (base k a status : Nat) (d : Dev) : Dev :=
  (d.sweepFill base k a (d.portElems k) status).sweepFill base k (max a (d.portElems k)) 8192 Elem.notSwept

/-- Ports at the front of a channel that are not UP get no slot: their entries are NO_CONNECT. -/
def Dev.sweepSkip (base : Nat) : Nat → List Nat × Nat → Dev → (List Nat × Nat) × Dev
  | 0, c, d => (c, d)
  | fuel + 1, c, d =>
    match c.1 with
    | [] => (c, d)
    | k :: rest => if d.portUp k then (c, d) else Dev.sweepSkip base fuel (rest, 0) (d.sweepPortEnd base k c.2 Elem.noConnect)

/-- The first sweep replaced, or ended. -/
def Dev.setSweep (s : Option Sweep) (d : Dev) : Dev :=
  d.modMsr fun m => { m with sweeps := (match s with | some s => [s] | none => []) ++ m.sweeps.drop 1 }

/-- A defect table's bytes (Table 8-3). -/
def defectTable (version hideCurve : Nat) (bits : List Nat) : List Byte :=
  let bitmap := (List.range 32768).map fun i =>
    BitVec.ofNat 8 (((List.range 8).map fun j => if isDefect bits (8 * i + j) then 2 ^ j else 0).sum)
  let h := leBytes 2 0x5444 ++ [1#8, BitVec.ofNat 8 hideCurve] ++ leBytes 4 262144 ++ leBytes 2 version ++ leBytes 2 0 ++
    leBytes 4 bits.length ++ leBytes 4 (crc32c bitmap) ++ List.replicate 40 0#8
  h ++ leBytes 4 (crc32c h) ++ bitmap

/-- A list of numbers with another merged in, without repeats. -/
def mergeBits (a b : List Nat) : List Nat := b.foldl (fun l x => if l.contains x then l else l ++ [x]) a

/-- The bytes of the entries of a sweep's ports, for the partner. -/
def Dev.sweepLines (d : Dev) (s : Sweep) : List (Nat × List Byte) :=
  (d.enabledPorts.filter fun k => s.mask.testBit k).map fun k => (s.base + 32768 * k, d.mem.readBytes (s.base + 32768 * k) 32768)

/-- SWEEP_COMPLETE (R269): every slot is done: reported, and a defect table written when asked. -/
def Dev.sweepComplete (s : Sweep) (d : Dev) : Dev :=
  let d := d.setSweep none
  let act := d.defTab d.dcr.active
  let table := if s.enable then [(s.defectOut, defectTable s.version act.hideCurve (mergeBits act.bits s.bits))] else []
  let d := table.foldl (fun d t => d.memWrite 0x61 t.1 t.2) d
  let d := ((d.setFlag Reg.MSR_SWEEP_STAT.busy false).setFlag Reg.MSR_SWEEP_STAT.stale false).setFld Reg.MSR_SWEEP_STAT.oob s.oob
  (d.raiseTo (some (d.evtRing s.ctx)) 0x0C01 Sev.info 0x60 (2 ^ 56 + s.oob) (s.ctx * 2 ^ 32 + s.mask)).requestDone s.ctx 0
    (d.sweepLines s ++ table)

/-- The first sweep starts in STANDBY or SERVICE (R265); one with no port to sweep is complete. -/
def Dev.sweepStart (d : Dev) : Dev :=
  match d.msr.sweeps with
  | [] => d
  | s :: _ =>
    if s.started || d.isShadow || !(d.mode == Mode.standby || d.mode == Mode.service) then d
    else
      let chans := (List.range 8).map fun c => (((List.range 4).map (4 * c + ·)).filter fun k => s.mask.testBit k && d.portEnabled k, 0)
      let s := { s with started := true, chans := chans }
      let d := ((d.setSweep (some s)).setFlag Reg.MSR_SWEEP_STAT.busy true).setFld Reg.MSR_SWEEP_STAT.context s.ctx
      if chans.all (·.1.isEmpty) then d.sweepComplete s else d

/-- SET SWEEP (R265): pending; a context with a sweep pending is held. -/
def Dev.sweepBody (k w : Nat) (d : Dev) : SeqOut :=
  if d.msr.sweeps.any (·.ctx == k) then .hold CtxState.waiting 0 d
  else
    let c := d.ctx k
    let s : Sweep := ⟨k, w % 2 ^ 32, c.resultBase, c.defectOut, c.defectVer % 2 ^ 16, c.defectVer.testBit 16, [], 0, [], false, false, []⟩
    .done ((d.modMsr fun m => { m with sweeps := m.sweeps ++ [s] }).sweepStart)
/-- SET SWEEP. -/
def Dev.setSweepCmd (k w : Nat) (d : Dev) : Dev :=
  d.measureSet k 0x63 w (fun d => d.requestLegal true) (fun _ => w != 0 && Nat.blt w (2 ^ 32)) fun d => d.sweepBody k w

/-- Is a spit burst in progress on port `k`? -/
def Dev.spitting (d : Dev) (k : Nat) : Bool := (d.fld Reg.HLK_SPIT_BUSY.busy).testBit k

/-- A CTRL SENSE whose answer the slot or the sweep itself takes. -/
def Dev.senseQuiet (k : Nat) (args : List Byte) (d : Dev) : Dev :=
  d.sendFrame k 3 0 (([4#8] ++ args ++ List.replicate 7 0#8).take 8)

/-- SWEEP_SLOT (R266, R267): the next element of channel `c`: `connected` tells whether CONNECT was answered with 0 in time, `convs`
are the conversions of its window. -/
def Dev.sweepSlot (c : Nat) (connected : Bool) (convs : List Nat) (d : Dev) : Dev :=
  let d := d.sweepStart
  match d.msr.sweeps with
  | [] => d
  | s :: _ =>
    if !s.started || s.cut || Nat.ble 8 c || (d.slotsTriggered && !(s.due.contains c)) then d
    else
      let s := { s with due := s.due.filter (· != c) }
      let r := d.sweepSkip s.base 4 (s.chans.getD c ([], 0))
      let d := r.2
      let out : Sweep × Dev := match r.1.1 with
        | [] => ({ s with chans := s.chans.set c ([], 0) }, d)
        | k :: rest =>
          if d.spitting k then ({ s with chans := s.chans.set c r.1, due := c :: s.due }, d)
          else
            let n := r.1.2
            let d := d.senseQuiet k ([1#8] ++ leBytes 2 n)
            let res := resistance (d.fld Reg.MSR_CFG.i_code) convs
            let st := if connected then d.elemStatus convs res else Elem.noConnect
            let v := if connected then res + st * 2 ^ 20 else st * 2 ^ 20
            let d := d.memWrite 0x60 (s.base + 4 * (k * 8192 + n)) (leBytes 4 v)
            let bad := st == Elem.low || st == Elem.high || st == Elem.open_
            let e := d.geom.group k * d.geom.cols + d.portColumn k n
            let s := if bad then { s with oob := s.oob + 1, bits := mergeBits s.bits [e] } else s
            if n + 1 < d.portElems k then ({ s with chans := s.chans.set c (k :: rest, n + 1) }, d)
            else
              let d := (d.sweepFill s.base k (n + 1) 8192 Elem.notSwept).senseQuiet k [0#8]
              ({ s with chans := s.chans.set c (rest, 0) }, d)
      let d := out.2.setSweep (some out.1)
      if out.1.chans.all (·.1.isEmpty) then d.sweepComplete out.1 else d

/-- DISCONNECT on a port, whose ACK is awaited (R268). -/
def Dev.disconnect (k : Nat) (d : Dev) : Dev :=
  let e := (k, (d.hport k).seq, d.tb2ns)
  (d.senseQuiet k [0#8]).modMsr fun m => { m with discon := m.discon ++ [e] }

/-- SWEEP_ABANDON (R268): the remaining entries are ABANDONED, ports with an element connected get DISCONNECT; device memory is lost on
SLEEP and LOAD. -/
def Dev.sweepAbandon (d : Dev) : Dev :=
  match d.msr.sweeps with
  | [] => d
  | s :: _ =>
    if !s.cut then d
    else
      let gone := d.mode == Mode.load || d.mode == Mode.sleep
      let d := d.setSweep none
      let d := if gone then d else s.chans.foldl (fun d c =>
        match c.1 with
        | [] => d
        | k :: rest =>
          let d := d.when (c.2 != 0 && d.portUp k) fun d => d.disconnect k
          rest.foldl (fun d k => d.sweepPortEnd s.base k 0 Elem.abandoned) (d.sweepPortEnd s.base k c.2 Elem.abandoned)) d
      let d := (d.setFlag Reg.MSR_SWEEP_STAT.busy false).setFlag Reg.MSR_SWEEP_STAT.stale true
      let d := d.raiseTo (some (d.evtRing s.ctx)) 0x0C01 Sev.info 0x60 (2 * 2 ^ 56 + s.oob) (s.ctx * 2 ^ 32 + s.mask)
      (d.requestDone s.ctx 0 (if gone then [] else d.sweepLines s)).sweepStart

/-- LOAD or SLEEP is entered: the sweep that runs is abandoned while the ports are still there (R268); its results go with the memory. -/
def Dev.sweepLeave (d : Dev) : Dev :=
  (d.modMsr fun m => { m with sweeps := (m.sweeps.take 1).map fun s => { s with cut := s.started } }).sweepAbandon

/-! ### Samples -/

/-- A sample request is complete when every port of its mask has refused, was not UP, or has sent its samples. -/
def SampleReq.complete (r : SampleReq) : Bool :=
  (List.range 32).all fun k => !(r.mask.testBit k) || r.refused.testBit k || Nat.ble r.count (Tab.get r.values [] k).length

/-- A request completes with what has arrived (R270). -/
def Dev.sampleFinish (r : SampleReq) (d : Dev) : Dev :=
  let ports := (List.range 32).filter fun k => r.mask.testBit k
  let d := d.modMsr fun m => { m with samples := m.samples.filter (·.ctx != r.ctx) }
  let got := fun k => if r.refused.testBit k then [] else Tab.get r.values [] k
  let d := ports.foldl (fun d k =>
    let vs := got k
    let d := ((d.setFlag (Reg.MSR_HSAMP.valid k) true).setFlag (Reg.MSR_HSAMP.stale k) (d.mode == Mode.calibrate)).setFld (Reg.MSR_HSAMP.quantity k) r.quantity
    (d.setFld (Reg.MSR_HSAMP.count k) vs.length).setFld (Reg.MSR_HSAMP.value k) (vs.sum / vs.length)) d
  let none0 := ((ports.filter fun k => (got k).isEmpty).map (2 ^ ·)).sum
  (d.raiseTo (some (d.evtRing r.ctx)) 0x0C05 Sev.info 0x60 (r.ctx * 2 ^ 32 + none0) r.mask).requestDone r.ctx 1 []

/-- A pending request changed, and completed when it is complete. -/
def Dev.sampleUpdate (r : SampleReq) (d : Dev) : Dev :=
  let d := d.modMsr fun m => { m with samples := m.samples.map fun x => if x.ctx = r.ctx then r else x }
  if r.complete then d.sampleFinish r else d

/-- SET SAMPLE's effect (R270): SENSE READ to every UP port of the mask; in SHADOW the ACTIVE measures. -/
def Dev.sampleBody (k w : Nat) (d : Dev) : SeqOut :=
  if d.msr.samples.any (·.ctx == k) then .hold CtxState.waiting 0 d
  else
    let mask := w % 2 ^ 32
    let q := w / 2 ^ 32 % 16
    let n := w / 2 ^ 36 % 16 + 1
    if d.isShadow then .done (d.modMsr fun m => { m with samples := m.samples ++ [⟨k, mask, q, n, [], 0, []⟩] })
    else
      let ports := (List.range 32).filter fun p => mask.testBit p
      let up := ports.filter d.portUp
      let tags := up.map fun p => (p, (d.hport p).seq)
      let d := up.foldl (fun d p => d.sendCtrl p 4 [2#8, BitVec.ofNat 8 q, BitVec.ofNat 8 n]) d
      let r : SampleReq := ⟨k, mask, q, n, tags, ((ports.filter fun p => !(up.contains p)).map (2 ^ ·)).sum, []⟩
      .done ((d.modMsr fun m => { m with samples := m.samples ++ [r] }).sampleUpdate r)
/-- SET SAMPLE: quantities 5 to 15 are reserved (R263). -/
def Dev.setSample (k w : Nat) (d : Dev) : Dev :=
  d.measureSet k 0x64 w (fun d => d.requestLegal false) (fun _ => Nat.ble (w / 2 ^ 32 % 16) 4) fun d => d.sampleBody k w

/-- SAMPLE_RECORD (R263, R270, R271): a record whose tag matches a pending request is taken; any other is discarded and counted. -/
def Dev.sampleRecord (k value tag : Nat) (d : Dev) : Dev :=
  if !(d.portEnabled k) then d
  else match d.msr.samples.find? (fun r => match Tab.find r.tags k with
      | some t => t % 256 == tag && Nat.blt (Tab.get r.values [] k).length r.count && !(r.refused.testBit k)
      | none => false) with
    | some r => d.sampleUpdate { r with values := Tab.put r.values k (Tab.get r.values [] k ++ [value % 2 ^ 16]) }
    | none => d.satFld Reg.MSR_SWEEP_STAT.discards 1

/-- The head of port `k` has answered the READ frame `seq` of a request with a result other than 0 (R270). -/
def Dev.sampleRefused (k seq : Nat) (d : Dev) : Dev :=
  match d.msr.samples.find? (fun r => Tab.find r.tags k == some seq && !(r.refused.testBit k)) with
  | some r => d.sampleUpdate { r with refused := r.refused + 2 ^ k }
  | none => d

/-- SAMPLE_TIMEOUT (R265): count × 100 µs + 1 ms have passed since the request of context `k`. -/
def Dev.sampleTimeout (k : Nat) (d : Dev) : Dev :=
  match d.msr.samples.find? (fun r => r.ctx == k) with
  | some r => if d.isShadow then d else d.sampleFinish r
  | none => d

/-! ### Setpoints (R272, R273) -/

/-- The VSET codes driven from now on. -/
def Dev.vsetDrive (codes : List (Nat × Nat)) (d : Dev) : Dev :=
  codes.foldl (fun d e => d.setFld (Reg.MSR_VSET_NOW.code e.1) e.2) d

/-- The pending VSET_APPLY requests that may be are written, in issue order; a SHADOW takes the codes from the ACTIVE. -/
def Dev.vsetWrite (d : Dev) : Dev :=
  if d.isShadow || !(d.mode == Mode.standby || d.mode == Mode.service) then d
  else
    let d := (d.msr.vsets.filter fun r => !r.written).foldl (fun d r =>
      let codes := ((List.range 32).filter fun k => r.mask.testBit k).map fun k => (k, r.code)
      (d.vsetDrive codes).when d.isActive fun d => d.pairSend (.state codes [] [] [])) d
    d.modMsr fun m => { m with vsets := m.vsets.map fun r => { r with written := true } }

/-- SET VSET_APPLY's effect. -/
def Dev.vsetBody (k w : Nat) (d : Dev) : SeqOut :=
  if d.msr.vsets.any (·.ctx == k) then .hold CtxState.waiting 0 d
  else .done ((d.modMsr fun m => { m with vsets := m.vsets ++ [⟨k, w % 2 ^ 32, (d.ctx k).vsetCode, false⟩] }).vsetWrite)
/-- SET VSET_APPLY. -/
def Dev.setVsetApply (k w : Nat) (d : Dev) : Dev :=
  d.measureSet k 0x66 w (fun d => d.requestLegal true) (fun _ => Nat.blt w (2 ^ 32)) fun d => d.vsetBody k w

/-- VSET_SETTLED (R273): 50 µs after it was written, the request of context `k` completes. -/
def Dev.vsetSettled (k : Nat) (d : Dev) : Dev :=
  match d.msr.vsets.find? (fun r => r.ctx == k && r.written) with
  | some _ => (d.modMsr fun m => { m with vsets := m.vsets.filter (·.ctx != k) }).requestDone k 2 []
  | none => d

/-- The measurement requests that wait for STANDBY or SERVICE go on (R265). -/
def Dev.measureResume (d : Dev) : Dev := d.vsetWrite.sweepStart

/-- Has context `k` no measurement request pending (WAIT kind 3)? -/
def Dev.measureIdle (d : Dev) (k : Nat) : Bool :=
  !(d.msr.sweeps.any (·.ctx == k)) && !(d.msr.samples.any (·.ctx == k)) && !(d.msr.vsets.any (·.ctx == k))

/-! ### Calibration (R274 to R276) -/

/-- Results of MSR_CAL_STAT. -/
abbrev Cal.done : Nat := 1
abbrev Cal.order : Nat := 2
abbrev Cal.refRange : Nat := 3
abbrev Cal.trimRange : Nat := 4
abbrev Cal.notReady : Nat := 5
abbrev Cal.quality : Nat := 6

/-- The quality of channel `m`: the largest of the values taken so far (R276). -/
def Dev.calQuality (d : Dev) (m : Nat) : Nat :=
  let q2 := Tab.get d.msr.quals [] 2
  let q3 := Tab.get d.msr.quals [] 3
  min 65535 (max (q2.getD m 0) (max (q3.getD m 0) (q3.getD (8 + m) 0)))

/-- The largest quality of the eight channels. -/
def Dev.calWorst (d : Dev) : Nat := ((List.range 8).map d.calQuality).foldl max 0

/-- A step of calibration ends with a result. -/
def Dev.calResult (op result : Nat) (d : Dev) : Dev :=
  let d := ((d.setFlag Reg.MSR_CAL_STAT.busy false).setFld Reg.MSR_CAL_STAT.op op).setFld Reg.MSR_CAL_STAT.result result
  (d.modMsr fun m => { m with step := none }).raiseTo (some 0) 0x0C02 Sev.info 0x60 (op * 256 + result) d.calWorst

/-- Has step `s` succeeded since CALIBRATE was entered? -/
def Dev.calDone (d : Dev) (s : Nat) : Bool := (d.fld Reg.MSR_CAL_STAT.done).testBit (s - 1)

/-- May a calibration op start: in CALIBRATE, with no step running? -/
def Dev.calOpen (d : Dev) : Bool := d.mode == Mode.calibrate && d.msr.step.isNone && d.flt.safeReq.isNone

/-- Steps ZERO, VREF and RREF (1 to 3) start, when every step before has succeeded; later steps become invalid (R274). -/
def Dev.calStart (s : Nat) (d : Dev) : Dev :=
  if !(d.calOpen) then d
  else if !((List.range (s - 1)).all fun i => d.calDone (i + 1)) then d.calResult s Cal.order
  else
    let d := d.setFld Reg.MSR_CAL_STAT.done (d.fld Reg.MSR_CAL_STAT.done % 2 ^ (s - 1))
    let d := ((d.setFlag Reg.MSR_CAL_STAT.busy true).setFld Reg.MSR_CAL_STAT.op s).setFld Reg.MSR_CAL_STAT.result 0
    d.modMsr fun m => { m with
      step := some s, trims := m.trims.filter (fun e => Nat.blt e.1 s), quals := m.quals.filter (fun e => Nat.blt e.1 s) }

/-- Does a trim fit a signed field of `w` bits? -/
def trimFits (w : Nat) (z : Int) : Bool := decide (-(2 ^ (w - 1) : Int) ≤ z) && decide (z < 2 ^ (w - 1))

/-- Do the candidates of a step fit their fields: 8 ADC offsets; 8 ADC gains, 32 VSET offsets, 32 VSET gains; 8 current offsets, 8
current gains? -/
def trimsFit (s : Nat) (ts : List Int) : Bool :=
  ts.zipIdx.all fun t =>
    if s = 1 then trimFits 10 t.1
    else if s = 2 then (if 8 ≤ t.2 ∧ t.2 < 40 then trimFits 8 t.1 else trimFits 10 t.1)
    else if t.2 < 8 then trimFits 8 t.1 else trimFits 10 t.1

/-- The drive codes of step 3. -/
abbrev calLow : Nat := 102
abbrev calHigh : Nat := 512

/-- The distance of two numbers. -/
def dist (a b : Nat) : Nat := (a - b) + (b - a)

/-- A voltage of mean ADC code `a` against 2.5000 V, both in 3.000 V / 65,536 × 1/6 (R260): the deviation, of `vrefUnits`. -/
abbrev vrefUnits : Nat := 5 * 65536
def vrefOff (a : Nat) : Nat := dist (6 * a) vrefUnits

/-- The resistance of drive code `i` and mean ADC code `a` (R261) against 10.000 kΩ, in 0.01 Ω: the deviation. -/
def rrefOff (i a : Nat) : Nat := dist (min ((a * 9375 + i / 2) / i) 0xFFFFF) 1000000

/-- Does a reading lie outside its reference's ±2 % (Table 13-6)? Reading `j` of step 2 is channel j's, of step 3 channel j's at code 102,
then channel j - 8's at code 512. -/
def refBad (s j a : Nat) : Bool :=
  if s = 2 then Nat.blt (vrefUnits * 2) (vrefOff a * 100) else Nat.blt 20000 (rrefOff (if j < 8 then calLow else calHigh) a)

/-- The deviation of a reading in ppm (R276), rounded down. -/
def refPpm (s j a : Nat) : Nat :=
  if s = 2 then vrefOff a * 1000000 / vrefUnits else rrefOff (if j < 8 then calLow else calHigh) a

/-- How many readings a step takes: none, one of each channel, two of each channel. -/
def calReadings (s : Nat) : Nat := if s = 2 then 8 else if s = 3 then 16 else 0

/-- CAL_STEP_DONE (R274, R276): the running step has measured: the mean ADC codes of its reference readings, the trims its corrections
need, and the mean ADC codes read again with every candidate. -/
def Dev.calStepDone (readings : List Nat) (trims : List Int) (again : List Nat) (d : Dev) : Dev :=
  match d.msr.step with
  | none => d
  | some s =>
    if (List.range (calReadings s)).any fun j => refBad s j (readings.getD j 0) then d.calResult s Cal.refRange
    else if !(trimsFit s trims) then d.calResult s Cal.trimRange
    else
      let quals := (List.range (calReadings s)).map fun j => refPpm s j (again.getD j 0)
      let d := d.modMsr fun m => { m with trims := Tab.put m.trims s trims, quals := Tab.put m.quals s quals }
      (d.setFld Reg.MSR_CAL_STAT.done (d.fld Reg.MSR_CAL_STAT.done + 2 ^ (s - 1))).calResult s Cal.done

/-- The device leaves CALIBRATE for STANDBY: the hold stages are released, and what waited goes on. -/
def Dev.calLeave (d : Dev) : Dev :=
  let d := (List.range 32).foldl (fun d k => d.setFlag (Reg.MSR_VSET_NOW.held k) false) d
  let d := (d.modMsr fun m => { m with step := none, trims := [], quals := [] }).setFlag Reg.MSR_CAL_STAT.busy false
  (d.modeChange Mode.standby 3).measureResume

/-- The candidate trims loaded into the trim registers (R276). -/
def Dev.calLoad (d : Dev) : Dev :=
  let t1 := Tab.get d.msr.trims [] 1
  let t2 := Tab.get d.msr.trims [] 2
  let t3 := Tab.get d.msr.trims [] 3
  let at_ := fun (l : List Int) (i w : Nat) => unsigned w (l.getD i 0)
  let d := (List.range 8).foldl (fun d m =>
    let d := (d.setFld (Reg.MSR_CH_TRIM_A.adc_off m) (at_ t1 m 10)).setFld (Reg.MSR_CH_TRIM_A.adc_gain m) (at_ t2 m 10)
    let d := (d.setFld (Reg.MSR_CH_TRIM_B.i_off m) (at_ t3 m 8)).setFld (Reg.MSR_CH_TRIM_B.i_gain m) (at_ t3 (8 + m) 10)
    (d.setFlag (Reg.MSR_CH_QUAL.valid m) true).setFld (Reg.MSR_CH_QUAL.ppm m) (d.calQuality m)) d
  (List.range 32).foldl (fun d k =>
    (d.setFld (Reg.MSR_VSET_TRIM.v_off k) (at_ t2 (8 + k) 8)).setFld (Reg.MSR_VSET_TRIM.v_gain k) (at_ t2 (40 + k) 10)) d

/-- APPLY (R276): the candidate trims come into force at one instant and the device enters STANDBY. -/
def Dev.calApply (d : Dev) : Dev :=
  if !(d.calOpen) then d
  else if !(d.calDone 1 && d.calDone 2 && d.calDone 3) then d.calResult 4 Cal.notReady
  else if d.fld Reg.MSR_CAL_CFG.qual_max_ppm < d.calWorst then d.calResult 4 Cal.quality
  else
    let worst := d.calWorst
    let d := (d.calLoad.setFlag Reg.MSR_CAL_STAT.cal_valid true).calResult 4 Cal.done
    (d.raiseTo (some 0) 0x0C03 Sev.info 0x60 worst 0).calLeave

/-- Calibration abandoned for a reason: 1 ABANDON, 2 the time limit, 3 SAFE (Table 13-7). -/
def Dev.calAbandon (reason : Nat) (d : Dev) : Dev :=
  let done := d.fld Reg.MSR_CAL_STAT.done
  let last := if done / 4 % 2 = 1 then 3 else if done / 2 % 2 = 1 then 2 else done % 2
  d.raiseTo (some 0) 0x0C04 Sev.warn 0x60 reason last

/-- ABANDON (R274). -/
def Dev.calAbandonOp (d : Dev) : Dev :=
  if !(d.calOpen) then d else ((d.calResult 5 Cal.done).calAbandon 1).calLeave

/-- CAL_TIMEOUT (R275): cal_tmo_s have passed since CALIBRATE was entered. -/
def Dev.calTimeout (d : Dev) : Dev := if d.mode = Mode.calibrate ∧ d.flt.safeReq.isNone then (d.calAbandon 2).calLeave else d

end Sys2Proof.Machine
end

