-- ==== Sys2Proof/Machine/CfgImage.lean ====
section
/-! DEFINITION. Machine/CfgImage.lean: the configuration flash and its commands (R48, R65, R66), the slot checks (R50 to R58), and what a
loaded image leaves in the device (R56, R60). -/

namespace Sys2Proof.Machine

/-! ### The flash -/

/-- Bytes of the flash; erased flash reads 0xFF. -/
def Dev.flashBytes (d : Dev) (a n : Nat) : List Byte := (List.range n).map fun i => Tab.get d.cfg.flash 0xFF#8 (a + i)

/-- Bytes stored in the flash. -/
def flashWrite (t : Tab Byte) (a : Nat) : List Byte → Tab Byte
  | [] => t
  | b :: bs => flashWrite (Tab.set t 0xFF#8 a b) (a + 1) bs

/-- The first flash address of a slot (Table 3-2). -/
def slotBase (slot : Nat) : Nat := slot * 0x1000000

/-- The slots' size. -/
abbrev slotSize : Nat := 0x1000000

/-- Has the flash answered SFDP (R48)? -/
def Dev.flashFound (d : Dev) : Bool := d.fld Reg.CFG_FLASH_INFO.if_mode != 0

/-! ### Slot checks (Table 3-8) -/

abbrev SlotCause.magic : Nat := 1
abbrev SlotCause.version : Nat := 2
abbrev SlotCause.headerCrc : Nat := 3
abbrev SlotCause.commit : Nat := 4
abbrev SlotCause.length : Nat := 5
abbrev SlotCause.directory : Nat := 6
abbrev SlotCause.sectionCrc : Nat := 7
abbrev SlotCause.content : Nat := 8
abbrev SlotCause.ident : Nat := 9
abbrev SlotCause.readErr : Nat := 10

/-- The 548 bytes that hold the longest header. -/
def Dev.slotHeader (d : Dev) (slot : Nat) : List Byte := d.flashBytes (slotBase slot) 548

/-- The sequence number in a header. -/
def headerSeq (h : List Byte) : Nat := leAt h 8 4

/-- Are the header's lengths, its CRC and its reserved fields right (R50)? -/
def headerSound (h : List Byte) : Bool :=
  let len := leAt h 6 2
  let n := leAt h 16 2
  Nat.ble 1 n && Nat.ble n 32 && len == 36 + 16 * n && crc32c (h.take (len - 4)) == leAt h (len - 4) 4 &&
  leAt h 18 2 == 0 && leAt h 24 8 == 0

/-- The checks of codes 0xA and 0x1 to 0x3; 0 when they pass. -/
def Dev.headerCause (d : Dev) (slot : Nat) : Nat :=
  let h := d.slotHeader slot
  if !d.flashFound then SlotCause.readErr
  else if leAt h 0 4 ≠ 0x4D495856 then SlotCause.magic
  else if leAt h 5 1 ≠ 1 then SlotCause.version
  else if !headerSound h then SlotCause.headerCrc
  else 0

/-- A directory entry (Table 3-4): type, reserved byte, flags, offset, length, reserved word. -/
structure DirEntry where
  typ : Nat
  reserved : Nat
  flags : Nat
  offset : Nat
  length : Nat
  reserved2 : Nat
deriving DecidableEq, Repr

/-- The directory of a header. -/
def directory (h : List Byte) : List DirEntry :=
  (List.range (leAt h 16 2)).map fun k =>
    let o := 32 + 16 * k
    ⟨leAt h o 2, leAt h (o + 2) 1, leAt h (o + 3) 1, leAt h (o + 4) 4, leAt h (o + 8) 4, leAt h (o + 12) 4⟩

/-- Is a section type known (Table 3-7)? -/
def knownSection (t : Nat) : Bool := Nat.ble 1 t && Nat.ble t 0x10

/-- The DIRECTORY check (R51, Table 3-8). -/
def directoryOk (imageLen : Nat) (es : List DirEntry) : Bool :=
  es.all (fun e => Nat.ble e.flags 1 && e.reserved == 0 && e.reserved2 == 0 && Nat.ble 0x1000 e.offset &&
    Nat.ble (e.offset + e.length) imageLen && e.offset % 8 == 0 && (knownSection e.typ || e.flags == 1)) &&
  allPairs (fun a b => a.typ != b.typ && apart (a.offset, a.length) (b.offset, b.length)) es &&
  requiredSections.all fun t => es.any (·.typ == t)

/-- The SECTION_CRC check of a record of a directory entry (R52). -/
def recordOk (e : DirEntry) (bs : List Byte) : Bool :=
  let n := leAt bs 4 4
  leAt bs 0 2 == e.typ && leAt bs 2 2 == 1 && n % 8 == 0 && e.length == n + 12 && crc32c (bs.take (n + 8)) == leAt bs (n + 8) 4

/-- The sections of a slot that the device knows, in directory order. -/
def Dev.slotSections (d : Dev) (slot : Nat) : List ImgSection :=
  ((directory (d.slotHeader slot)).filter fun e => knownSection e.typ).map fun e =>
    let bs := d.flashBytes (slotBase slot + e.offset) e.length
    let n := leAt bs 4 4
    ⟨e.typ, bs, itemsOf (n + 1) ((bs.drop 8).take n)⟩

/-- The checks of Table 3-8 on a slot in their order: the first failure's cause, or 0 (R57). -/
def Dev.slotCause (d : Dev) (slot : Nat) : Nat :=
  let h := d.slotHeader slot
  let commit := d.flashBytes (slotBase slot + 0xFFFFF8) 8
  let len := leAt h 12 4
  let es := directory h
  let ss := d.slotSections slot
  if d.headerCause slot ≠ 0 then d.headerCause slot
  else if leAt commit 0 4 ≠ 0xC0DE0001 ∨ leAt commit 4 4 ≠ 0xFFFFFFFF - headerSeq h then SlotCause.commit
  else if 0xFFFFF8 < len ∨ (d.fld Reg.CFG_FLASH_INFO.if_mode = 2 ∧ 0x400000 < len) then SlotCause.length
  else if !directoryOk len es then SlotCause.directory
  else if !((es.filter fun e => knownSection e.typ).all fun e => recordOk e (d.flashBytes (slotBase slot + e.offset) e.length)) then
    SlotCause.sectionCrc
  else if !d.contentOk ss then SlotCause.content
  else if !identOk ss then SlotCause.ident
  else 0

/-- The outcome of a slot's checks recorded: CFG_SLOT_STAT and the slot's sequence register. -/
def Dev.slotRecord (slot cause : Nat) (d : Dev) : Dev :=
  let seq := if d.headerCause slot = 0 then headerSeq (d.slotHeader slot) else 0
  if slot = 0 then
    ((d.setFlag Reg.CFG_SLOT_STAT.a_checked true).setFld Reg.CFG_SLOT_STAT.a_cause cause).setFld Reg.CFG_SLOT_A_SEQ.sequence seq
  else
    ((d.setFlag Reg.CFG_SLOT_STAT.b_checked true).setFld Reg.CFG_SLOT_STAT.b_cause cause).setFld Reg.CFG_SLOT_B_SEQ.sequence seq

/-! ### Flash commands (R65) -/

abbrev FlashOp.read : Nat := 1
abbrev FlashOp.program : Nat := 2
abbrev FlashOp.erase : Nat := 3
abbrev FlashOp.check : Nat := 4
abbrev FlashRes.done : Nat := 1
abbrev FlashRes.liveSlot : Nat := 2
abbrev FlashRes.align : Nat := 3
abbrev FlashRes.busy : Nat := 4
abbrev FlashRes.abandoned : Nat := 5
abbrev FlashRes.flashErr : Nat := 6
abbrev FlashRes.illegal : Nat := 7

/-- Does a byte of the range lie in the loaded slot? -/
def Dev.liveSlotHas (d : Dev) (a n : Nat) : Bool :=
  d.flag Reg.CFG_IMAGE_STAT.valid && !apart (a, n) (slotBase (d.fld Reg.CFG_IMAGE_STAT.slot), slotSize)

/-- A CFG_FLASH_CMD write (R65): discarded with BUSY while another is busy or during LOAD, else started; the result it will
complete with is DONE unless it is refused. -/
def Dev.flashCommand (op len : Nat) (refused : Dev → Nat → Nat) (d : Dev) : Dev :=
  if !d.bar0 then d
  else if d.mode = Mode.load ∨ d.cfg.cmd.isSome then d.setFld Reg.CFG_FLASH_STAT.result FlashRes.busy
  else
    let a := (d.reg Reg.CFG_FLASH_ADDR.addr).toNat
    (d.modCfg fun c => { c with cmd := some ⟨op, a, len, refused d a⟩ }).setFlag Reg.CFG_FLASH_STAT.busy true

/-- FLASH_READ. -/
def Dev.flashRead (lenM1 : Nat) (d : Dev) : Dev := d.flashCommand FlashOp.read (lenM1 % 65536 + 1) (fun _ _ => FlashRes.done)

/-- FLASH_PROGRAM. -/
def Dev.flashProgram (lenM1 : Nat) (d : Dev) : Dev :=
  d.flashCommand FlashOp.program (lenM1 % 65536 + 1) fun d a =>
    if d.liveSlotHas a (lenM1 % 65536 + 1) then FlashRes.liveSlot else FlashRes.done

/-- FLASH_ERASE_64K. -/
def Dev.flashErase (d : Dev) : Dev :=
  d.flashCommand FlashOp.erase 65536 fun d a =>
    if a % 65536 ≠ 0 then FlashRes.align else if d.liveSlotHas a 65536 then FlashRes.liveSlot else FlashRes.done

/-- FLASH_CHECK_SLOT. -/
def Dev.flashCheckSlot (d : Dev) : Dev :=
  d.flashCommand FlashOp.check 0 fun _ a => if 2 * slotSize ≤ a then FlashRes.align else FlashRes.done

/-- A command with an op that Table 3-10 does not list. -/
def Dev.flashIllegal (op : Nat) (d : Dev) : Dev := d.flashCommand op 0 fun _ _ => FlashRes.illegal

/-- `n` free bytes, from the counter of free values on. -/
def freeBytes (seed n : Nat) : List Byte := (List.range n).map fun i => Config.freeByte (seed + i)

/-- What a command leaves in the flash or the buffer: its effect when it is done, free values where it failed or was abandoned. -/
def Dev.flashEffect (c : FlashCmd) (ok : Bool) (d : Dev) : Dev :=
  let seed := d.freshSeed
  let open_ := fun (n : Nat) => freeBytes seed n
  if c.op = FlashOp.read then
    let bs := if ok then d.flashBytes c.addr c.len else open_ c.len
    (d.modCfg fun g => { g with buf := bufWrite g.buf 0 bs }).useFree (if ok then 0 else c.len)
  else if c.op = FlashOp.program then
    let bs := if ok then (List.range c.len).map fun i => Tab.get d.cfg.buf 0#8 i else open_ c.len
    (d.modCfg fun g => { g with flash := flashWrite g.flash c.addr bs }).useFree (if ok then 0 else c.len)
  else if c.op = FlashOp.erase then
    if ok then d.modCfg fun g => { g with flash := g.flash.filter fun e => Nat.blt e.1 c.addr || Nat.ble (c.addr + 65536) e.1 }
    else (d.modCfg fun g => { g with flash := flashWrite g.flash c.addr (open_ 65536) }).useFree 65536
  else if c.op = FlashOp.check && ok then d.slotRecord (c.addr / slotSize) (d.slotCause (c.addr / slotSize))
  else d

/-- A command ends with a result: CFG_FLASH_STAT and EV_CFG_FLASH_DONE (R65). -/
def Dev.flashEnd (c : FlashCmd) (result : Nat) (d : Dev) : Dev :=
  let d := (d.modCfg fun g => { g with cmd := none }).setFlag Reg.CFG_FLASH_STAT.busy false
  ((d.setFld Reg.CFG_FLASH_STAT.result result).addFld Reg.CFG_FLASH_STAT.cmd_count 1).raiseTo (some 0) 0x0204 Sev.info 0x10
    (result * 256 + c.op) c.addr

/-- FLASH_CMD_DONE (R65): the command in progress completes; `failed`: the flash reported an error. -/
def Dev.flashCmdDone (failed : Bool) (d : Dev) : Dev :=
  match d.cfg.cmd with
  | none => d
  | some c =>
    if c.result ≠ FlashRes.done then d.flashEnd c c.result
    else (d.flashEffect c (!failed)).flashEnd c (if failed then FlashRes.flashErr else FlashRes.done)

/-- LOAD is entered (R66): the flash is reset and a busy command ends with ABANDONED. -/
def Dev.flashAbandon (d : Dev) : Dev :=
  match d.cfg.cmd with
  | none => d
  | some c => ((if c.result = FlashRes.done then d.flashEffect c false else d).flashEnd c FlashRes.abandoned)

/-! ### A slot loaded -/

/-- Is slot X newer than slot Y by serial-number arithmetic (R58)? -/
def seqNewer (x y : Nat) : Bool := Nat.ble 1 ((x + 2 ^ 32 - y) % 2 ^ 32) && Nat.ble ((x + 2 ^ 32 - y) % 2 ^ 32) 0x7FFFFFFF

/-- Do the sequence numbers tie (R58)? -/
def seqTie (x y : Nat) : Bool := (x + 2 ^ 32 - y) % 2 ^ 32 == 0 || (x + 2 ^ 32 - y) % 2 ^ 32 == 0x80000000

/-- The trims and qualities that CALIB holds (R277). -/
def Dev.calibLoad (ss : List ImgSection) (d : Dev) : Dev :=
  let t := Tab.get d.cfg.tables [] 0x0C01
  let word := fun (i mask : Nat) => BitVec.ofNat 32 (Nat.land (Tab.get t 0 i) mask)
  let d := (List.range 8).foldl (fun d m =>
    ((d.setReg (Reg.MSR_CH_TRIM_A.addr m) (word (4 * m) 0x03FF03FF)).setReg (Reg.MSR_CH_TRIM_B.addr m) (word (4 * m + 1) 0x03FF00FF)).setReg
      (Reg.MSR_CH_QUAL.addr m) (word (4 * m + 2) 0x8000FFFF)) d
  let d := (List.range 32).foldl (fun d k => d.setReg (Reg.MSR_VSET_TRIM.addr k) (word (32 + k) 0x03FF00FF)) d
  d.setFlag Reg.MSR_CAL_STAT.cal_valid (ss.any (·.typ == Sec.calib))

/-- The initial defect table taken (R169, R173). -/
def Dev.defectsLoad (d : Dev) : Dev :=
  let t := if (Tab.get d.cfg.tables [] 0x0704).isEmpty then DefTab.empty else defectOf d.initialDefects
  (d.modDcr fun x => { x with versions := Tab.set [] DefTab.empty 0 t, nextVersion := 1, active := 0, pending := none, sync := none }).defectTake 0

/-- Retirement as the image sets it up (R309): the entries in force and the spare lines left. -/
def Dev.retireLoad (d : Dev) : Dev :=
  let es := d.retireEntries
  let of := fun (k : Nat) => (es.filter fun e => e / 2 ^ 62 == k).map (· % 2 ^ 24)
  let d := d.modMig fun g => { g with frames := of 1, banks := of 2, retiredOwed := !es.isEmpty }
  let d := (d.setFld Reg.MIG_RETIRE_STAT.frames (of 1).length).setFld Reg.MIG_RETIRE_STAT.banks (of 2).length
  let d := d.setFld Reg.MIG_SPARE_FREE.frames ((d.spareLines - d.spareTaken) / 1024)
  d.setFlag Reg.FLT_STAT.frames_retired (!es.isEmpty)

/-- The memory controller's view of the image (R279, R283). -/
def Dev.memLoad (d : Dev) : Dev :=
  let n := d.channels
  let d := (d.setFld Reg.MEM_STAT.ch_present (2 ^ n - 1)).setFlag Reg.MEM_STAT.margin d.marginImage
  (List.range 8).foldl (fun d c => d.setFlag (Reg.MEM_CH_STAT.present c) (Nat.blt c n)) d

/-- The counters' set-up of the image (R416, R417). -/
def Dev.pmuLoad (d : Dev) : Dev :=
  let seed := d.fld Reg.PMU_TAG_SEED.seed
  d.modPmu fun p => { p with
    l := if seed = 0 then 1 else seed, nextTag := 0, followed := [], down := d.fld Reg.PMU_SAMP_CFG.period_m1 + 1, sample := none }

/-- The boot job of BOOTJOB (R53, R62): its MEMCOPY data staged, its START address. -/
def Dev.bootLoad (ss : List ImgSection) (d : Dev) : Dev :=
  let is := (ss.filter (·.typ == Sec.bootjob)).flatMap fun s => s.items.getD []
  let copies := (is.filter (·.kind == 3)).map fun i => (leAt i.data 0 8, i.data.drop 8)
  let start := (is.filter (·.kind == 4)).head?.map fun i => leAt i.data 0 8
  let d := d.modCfg fun c => { c with staged := copies, bootLoaded := start.isSome, bootPending := false, bootRunning := false }
  (d.setPair Reg.CFG_BOOT_ADDR_LO.addr (start.getD 0)).setFld Reg.CFG_BOOT_STAT.state 0

/-- The image of a valid slot applied (R56): registers, tables, and what follows from them; EV_CFG_LOADED (R60). -/
def Dev.imageLoad (slot : Nat) (d : Dev) : Dev :=
  let h := d.slotHeader slot
  let ss := d.slotSections slot
  let crc := leAt h (leAt h 6 2 - 4) 4
  let d := d.imageOn false ss
  let d := d.fanApply (((writtenRegs ss).filter fun e => fanReg e.1).map fun e => (e.1, BitVec.ofNat 32 e.2)) (Tab.get d.cfg.tables [] 0x1402)
  let d := (d.setFlag Reg.CFG_IMAGE_STAT.valid true).setFld Reg.CFG_IMAGE_STAT.slot slot
  let d := (d.setFld Reg.CFG_IMAGE_STAT.fmt_major 1).setFld Reg.CFG_IMAGE_STAT.fmt_minor (leAt h 4 1)
  let d := (d.setFld Reg.CFG_IMAGE_SEQ.sequence (headerSeq h)).setFld Reg.CFG_IMAGE_CRC.header_crc crc
  let d := (d.setFlag Reg.GLB_STATUS.image_valid true).setFld Reg.GLB_STATUS.image_slot slot
  let d := ((((d.calibLoad ss).defectsLoad).retireLoad).memLoad).pmuLoad
  let d := (d.axesLoad.bootLoad ss).setFld Reg.PAIR_MATCH.value (d.pairMatchOf ss)
  d.raiseTo none 0x0202 Sev.info 0x10 (slot * 2 ^ 32 + headerSeq h) crc

/-- A slot found invalid: recorded and reported (R60). -/
def Dev.slotInvalid (slot cause : Nat) (d : Dev) : Dev := (d.slotRecord slot cause).raiseTo none 0x0201 Sev.warn 0x10 slot cause

/-- The slots to be checked, newer first (R59): those whose header passes. -/
def Dev.slotOrder (d : Dev) : List Nat :=
  let a := d.headerCause 0 == 0
  let b := d.headerCause 1 == 0
  let bNewer := seqNewer (headerSeq (d.slotHeader 1)) (headerSeq (d.slotHeader 0))
  if a && b then (if bNewer then [1, 0] else [0, 1]) else if a then [0] else if b then [1] else []

/-- The slots checked in turn until one is valid (R59). -/
def Dev.slotSelect : List Nat → Dev → Option Nat × Dev
  | [], d => (none, d)
  | s :: rest, d =>
    let c := d.slotCause s
    if c = 0 then (some s, d.slotRecord s 0) else (d.slotInvalid s c).slotSelect rest

/-- Both headers are read (R59): the sequence numbers of those that pass (Table 3-17). -/
def Dev.slotSeqs (d : Dev) : Dev :=
  let seq := fun (s : Nat) => if d.headerCause s = 0 then headerSeq (d.slotHeader s) else 0
  (d.setFld Reg.CFG_SLOT_A_SEQ.sequence (seq 0)).setFld Reg.CFG_SLOT_B_SEQ.sequence (seq 1)

/-- The loader's work in LOAD (R59): the slot it loads, or none. -/
def Dev.loader (d : Dev) : Option Nat × Dev :=
  let order := d.slotOrder
  let tie := order.length == 2 && seqTie (headerSeq (d.slotHeader 1)) (headerSeq (d.slotHeader 0))
  let d := [0, 1].foldl (fun d s => if d.headerCause s = 0 then d else d.slotInvalid s (d.headerCause s)) d
  let d := d.when tie fun d => d.raiseOpen none 0x0203 Sev.warn 0x10
  d.slotSeqs.slotSelect order

end Sys2Proof.Machine
end

