-- ==== Sys2Proof/Machine/Crc.lean ====
section
/-! DEFINITION. Machine/Crc.lean: the check-value units (chapter 18). -/

namespace Sys2Proof.Machine

/-- Check-value unit `u`. -/
def Dev.crcUnit (d : Dev) (u : Nat) : CrcUnit := Tab.get d.crc CrcUnit.rest u
/-- Check-value unit `u` changed. -/
def Dev.modCrcUnit (u : Nat) (f : CrcUnit → CrcUnit) (d : Dev) : Dev := d.modCrc fun t => Tab.upd t CrcUnit.rest u f

/-- The width of a polynomial (Table 18-1). -/
def crcWidth (poly : Nat) : Nat := if poly = 2 then 16 else if poly = 3 then 64 else 32
/-- Init of a polynomial. -/
def crcInit (poly : Nat) : Nat := if poly = 2 then 0xFFFF else if poly = 3 then 0 else 0xFFFFFFFF
/-- The final XOR of a polynomial. -/
def crcFinal (poly r : Nat) : Nat := if poly = 0 ∨ poly = 1 then Nat.xor r 0xFFFFFFFF else r
/-- The CRC register after bytes (R359). -/
def crcRun (poly r : Nat) (bs : List Byte) : Nat :=
  if poly = 0 then crcLsb 0xEDB88320 r bs
  else if poly = 1 then crcLsb 0x82F63B78 r bs
  else if poly = 2 then crcMsb 16 0x1021 r bs
  else crcMsb 64 0x42F0E1EBA9EA3693 r bs

/-- The greatest address a scan of a space may reach (Table 18-2). -/
def Dev.crcLimit (d : Dev) (space : Nat) : Nat :=
  if space = 0 then d.fitted else if space = 1 then 0x04000000 else 2 ^ d.fld Reg.CFG_FLASH_INFO.density_log2

/-- The results of CRC_STAT (Table 18-8). -/
abbrev CrcRes.match_ : Nat := 1
abbrev CrcRes.mismatch : Nat := 2
abbrev CrcRes.done : Nat := 3
abbrev CrcRes.mem : Nat := 4
abbrev CrcRes.flashErr : Nat := 5
abbrev CrcRes.cancelled : Nat := 6
abbrev CrcRes.abandoned : Nat := 7
abbrev CrcRes.illegal : Nat := 8
abbrev CrcRes.busy : Nat := 9

/-- The modes in which the units run (R366). -/
def Dev.crcModes (d : Dev) : Bool := Nat.ble 3 d.mode && d.mode != Mode.sleep

/-- CRC_START (R360, R361): `w` is the word written to CRC_CTL with op 1. -/
def Dev.crcStart (u w : Nat) (d : Dev) : Dev :=
  let c := d.crcUnit u
  let space := w / 2 ^ 4 % 4
  let poly := w / 2 ^ 8 % 4
  let addr := d.pair (Reg.CRC_ADDR_LO.addr u) % 2 ^ 40
  let len := d.pair (Reg.CRC_LEN_LO.addr u) % 2 ^ 40
  let cont := w.testBit 13
  if !d.crcModes || Nat.ble 8 u then d
  else if c.running then d.setFld (Reg.CRC_STAT.result u) CrcRes.busy
  else if len = 0 ∨ space = 3 ∨ d.crcLimit space < addr + len ∨ (space = 2 ∧ d.fld Reg.CFG_FLASH_INFO.if_mode = 0) ∨
      (cont = true ∧ c.cont ≠ some poly) then
    d.setFld (Reg.CRC_STAT.result u) CrcRes.illegal
  else
    let d := d.modCrcUnit u fun c => { c with
      running := true, space := space, poly := poly, addr := addr, len := len
      expect := d.pair (Reg.CRC_EXP_LO.addr u) % 2 ^ crcWidth poly
      cmp := w.testBit 12, evt := w.testBit 14
      start := if cont then c.left else crcInit poly
      failAt := none }
    let d := (d.setFlag (Reg.CRC_STAT.busy u) true).setFld (Reg.CRC_STAT.result u) 0
    ((d.setFld (Reg.CRC_STAT.space u) space).setFld (Reg.CRC_STAT.poly u) poly).setBit Reg.CRC_BUSY.busy u true

/-- A scan ends with a result, its position and whether it may be continued (R362, R367). -/
def Dev.crcEnd (u result pos : Nat) (cont : Option Nat) (d : Dev) : Dev :=
  let d := d.modCrcUnit u fun c => { c with running := false, cont := cont, failAt := none }
  let d := (d.setFlag (Reg.CRC_STAT.busy u) false).setBit Reg.CRC_BUSY.busy u false
  ((d.setFld (Reg.CRC_STAT.result u) result).addFld (Reg.CRC_STAT.count u) 1).setPair (Reg.CRC_POS_LO.addr u) pos

/-- A check-value event (Table 18-3). -/
def Dev.crcEvent (u code sev result arg1 : Nat) (d : Dev) : Dev := d.raiseTo none code sev (0x88 + u) (result * 256 + u) arg1

/-- The bytes of a scan: device memory, the flash, or the Millpond, whose contents by offset the spec does not give. -/
def Dev.crcBytes (d : Dev) (c : CrcUnit) : List Byte :=
  if c.space = 0 then d.mem.readBytes c.addr c.len
  else if c.space = 2 then (List.range c.len).map fun i => Tab.get d.cfg.flash 0xFF#8 (c.addr + i)
  else (List.range c.len).map fun i => Config.freeByte (d.freshSeed + i)

/-- The address at which a scan of device memory fails: the first byte of the scan in its first line that could not be read or is poisoned (R364). -/
def Dev.crcMemFail (d : Dev) (c : CrcUnit) : Option Nat :=
  if c.space ≠ 0 then none
  else match c.failAt with
    | some a => some a
    | none => ((linesOf c.addr c.len).find? fun l => (d.lineMeta l).poison).map fun l => max c.addr (64 * l)

/-- The natural end of a scan (R359 to R364, R367). `fail` is the address at which the Millpond or the flash could not be read. A flash
scan waits while a PROGRAM or ERASE_64K is busy (R366), a scan of device memory while panic is in force or its line is being recovered
(R360, R364). -/
def Dev.crcScanEnd (u : Nat) (fail : Option Nat) (d : Dev) : Dev :=
  let c := d.crcUnit u
  let held := (c.space == 2 && (match d.cfg.cmd with | some f => f.op == 2 || f.op == 3 | none => false)) ||
    (c.space == 0 && (d.flag Reg.MEM_STAT.panic || d.waitsRefetch (.other (0x88 + u))))
  let inRange := fun (a : Nat) => Nat.ble c.addr a && Nat.blt a (c.addr + c.len)
  let bad := match d.crcMemFail c with
    | some a => some (CrcRes.mem, a)
    | none => match fail with
      | some a => if c.space = 0 ∨ !(inRange a) then none else some (if c.space = 1 then CrcRes.mem else CrcRes.flashErr, a)
      | none => none
  if !c.running || held then d
  else match bad with
    | some (r, a) =>
      let d := d.when (c.space == 0 && c.failAt.isNone) fun d => d.foundPoison (a / 64) (0x88 + u)
      let d := d.count 0xF3 ((a - c.addr) / 64)
      (d.crcEnd u r a none).crcEvent u 0x1103 Sev.warn r a
    | none =>
      let left := crcRun c.poly c.start (d.crcBytes c)
      let v := crcFinal c.poly left
      let r := if c.cmp then (if v = c.expect then CrcRes.match_ else CrcRes.mismatch) else CrcRes.done
      let d := d.when (c.space == 0) fun d => d.countRead c.addr c.len
      let d := d.when (c.space == 1) fun d => d.useFree c.len
      let d := (d.modCrcUnit u fun c => { c with left := left }).count 0xF3 (c.len / 64)
      let d := (d.setPair (Reg.CRC_RESULT_LO.addr u) v).crcEnd u r c.len (some c.poly)
      if r = CrcRes.mismatch then
        (d.crcEvent u 0x1102 Sev.warn r v).when (d.flag Reg.CRC_CFG.irq_en) fun d => d.msixCause (d.fld Reg.CRC_CFG.irq_vector)
      else d.when c.evt fun d => d.crcEvent u 0x1101 Sev.info r v

/-- CRC_CANCEL (R365, R367): a running scan ends after its current line, `scanned` bytes in; an idle unit is unchanged. -/
def Dev.crcCancel (u scanned : Nat) (d : Dev) : Dev :=
  let c := d.crcUnit u
  if !d.crcModes || !c.running then d
  else
    let n := min scanned c.len
    let seed := d.freshSeed
    let v := Config.freeNat seed % 2 ^ crcWidth c.poly
    let d := (d.count 0xF3 (n / 64)).crcEnd u CrcRes.cancelled n none
    d.when c.evt fun d => (d.useFree 1).crcEvent u 0x1101 Sev.info CrcRes.cancelled v

/-- Entry to LOAD, SLEEP or RESET ends every running scan with ABANDONED, without an event (R366); how far it had come is a free value. -/
def Dev.crcAbandon (d : Dev) : Dev :=
  (List.range 8).foldl (fun d u => d.when (d.crcUnit u).running fun d =>
    (d.crcEnd u CrcRes.abandoned (Config.freeNat d.freshSeed % ((d.crcUnit u).len + 1)) none).useFree 1) d

end Sys2Proof.Machine
end

