-- ==== Sys2Proof/Machine/HeadLink.lean ====
section
/-! DEFINITION. Machine/HeadLink.lean: the head ports (chapter 12): bring-up (R250), loss (R257), LINE frames (R241 to R243, R247),
FIRE blocks (R244, R245, R248; in a pair R344, R345, R353), return records (R249, R254 to R256). -/

namespace Sys2Proof.Machine

/-- States of Table 12-12. -/
abbrev PortState.off : Nat := 0
abbrev PortState.train : Nat := 1
abbrev PortState.cap : Nat := 2
abbrev PortState.shape : Nat := 3
abbrev PortState.delay : Nat := 4
abbrev PortState.up : Nat := 5
abbrev PortState.fault : Nat := 6

/-- The state of a port. -/
def Dev.portState (d : Dev) (k : Nat) : Nat := d.fld (Reg.HLK_PORT_STAT.state k)

/-- A port enters a state; HLK_UP, the active flag and its lane's IDLE blocks follow. -/
def Dev.setPortState (k s : Nat) (d : Dev) : Dev :=
  (((d.setFld (Reg.HLK_PORT_STAT.state k) s).setBit Reg.HLK_UP.up k (s == PortState.up)).setFlag (Reg.HLK_PORT_STAT.active k)
    (s == PortState.up && d.laneActive)).idleShow k

/-! ### Blank lines of ports that are not UP -/

/-- The reporter of a blank cause. -/
def repOf (cause : Nat) : Nat :=
  if cause = Blank.overspeed then Rep.pac else if cause = Blank.nak then Rep.hlk else if cause = Blank.dispute then Rep.pair else Rep.asm

/-- The open runs of a port that a line of reporter `keep` ends (R194). -/
def Dev.runsEnd (k keep : Nat) (d : Dev) : Dev :=
  [Rep.asm, Rep.pac, Rep.pair, Rep.cover].foldl (fun d r => if r = keep then d else d.runClose r k) d

/-- A line blank with its cause: counted, reported, and out of the buffers. -/
def Dev.shotBlank (k : Nat) (s : Shot) (d : Dev) : Dev :=
  (((d.lineGone k s.page s.line).runsEnd k (repOf s.cause)).blankLine (repOf s.cause) k s.page s.line s.cause s.detail)

/-! ### Bring-up (R250) -/

/-- Bring-up starts in TRAIN; a port whose return lane holds character lock goes on to CAP at once. -/
def Dev.bringupStart (k : Nat) (d : Dev) : Dev :=
  if !(d.portEnabled k) then d
  else
    let d := d.modPort k fun h => { h with seq := 0, expect := [], syncs := [], rtts := [], rxErrs := [], charErrs := [] }
    if (d.hport k).locked then (d.setPortState k PortState.cap).sendCtrl k 1 [BitVec.ofNat 8 k] else d.setPortState k PortState.train

/-- A failed bring-up: its cause and the head_id known, or 0. -/
def Dev.bringupFail (k cause head : Nat) (d : Dev) : Dev :=
  let d := (d.setPortState k PortState.fault).setFld (Reg.HLK_PORT_STAT.cause k) cause
  (d.satFld (Reg.HLK_PORT_STAT.retries k) 1).raise 0x0B03 Sev.warn (k * 256 + cause) head

/-- The head_id known in the present bring-up. -/
def Dev.headKnown (d : Dev) (k : Nat) : Nat :=
  if PortState.shape ≤ d.portState k then d.fld (Reg.HLK_PORT_CAP0.head_id k) else 0

/-- An UP port is lost or retrained (R257): posted with its cause; the lines whose FIRE block has not been sent are blank with
LINK_DOWN, in a pair once their FIRE instant decides who fires them (R345). -/
def Dev.portDown (k cause : Nat) (d : Dev) : Dev :=
  let d := (d.setPortState k PortState.fault).setFld (Reg.HLK_PORT_STAT.cause k) cause
  let d := d.raise 0x0B02 Sev.degraded (k * 256 + cause) (d.fld (Reg.HLK_PORT_HSTAT.status k))
  let due := (d.hport k).due
  let d := d.modPort k fun h => { h with frames := [], void := [], ends := [], expect := [], due := [] }
  let down := fun (s : Shot) => if s.cause = 0 then { s with cause := Blank.nak, detail := 0x11, framed := false } else { s with framed := false }
  let d := if d.pairLines then d.modPort k fun h => { h with due := due.map down }
    else due.foldl (fun d s => (d.shotBlank k (down s)).settle s.page true) d
  if d.spitting k then d.spitPort k false else d

/-- RETRAIN (R257): bring-up starts again; an UP port goes down first with cause 11. -/
def Dev.retrain (k : Nat) (v : Word) (d : Dev) : Dev :=
  if !(d.responds (Reg.HLK_PORT_CTL.addr k)) || !(v.getLsbD 0) || !(d.portEnabled k) || d.portState k == PortState.off then d
  else (if d.portUp k then d.portDown k 11 else d).bringupStart k

/-- BRINGUP_RETRY (R250): retry_ms after a failure or a loss. -/
def Dev.bringupRetry (k : Nat) (d : Dev) : Dev := if d.portState k = PortState.fault then d.bringupStart k else d

/-- BRINGUP_TIMEOUT (R250): a state of bring-up has lasted 1 ms. -/
def Dev.bringupTimeout (k : Nat) (d : Dev) : Dev :=
  let s := d.portState k
  if s = PortState.train then d.bringupFail k 1 0
  else if s = PortState.cap ∨ s = PortState.shape ∨ s = PortState.delay then d.bringupFail k 2 (d.headKnown k)
  else d

/-- CHAR_LOCK (R239): comma alignment and `valid` consecutive valid characters, 32 of which give character lock; TRAIN ends with
CAP_REQ. -/
def Dev.charLock (k valid : Nat) (d : Dev) : Dev :=
  if !(d.portEnabled k) || Nat.blt valid 32 then d
  else
    let d := d.modPort k fun h => { h with locked := true, charErrs := [] }
    if d.portState k = PortState.train then (d.setPortState k PortState.cap).sendCtrl k 1 [BitVec.ofNat 8 k] else d

/-- The errors of the last 1,024 characters of 6.4 ns on a return lane, `n` more now (R239). -/
def Dev.charErrors (k n : Nat) (d : Dev) : Dev :=
  let now := d.tb2ns
  (d.satFld (Reg.HLK_PORT_RXERR.chars k) n).when (n != 0) fun d => d.modPort k fun h => { h with
    charErrs := (h.charErrs.filter fun e => Nat.blt now (e.1 + 6554)) ++ [(now, n)] }

/-- Do the errors of the last 1,024 characters end character lock: 16 of them (R239)? -/
def Dev.lockBroken (d : Dev) (k : Nat) : Bool := Nat.ble 16 ((d.hport k).charErrs.map (·.2)).sum

/-- Character lock is lost; an UP port with it (R257). -/
def Dev.lockLost (k : Nat) (d : Dev) : Dev :=
  let d := d.modPort k fun h => { h with locked := false, charErrs := [] }
  if d.portUp k then d.portDown k 1 else d

/-- CHAR_LOCK_LOSS (R239, R257): `errors` more code or disparity errors, of which 16 within 1,024 characters end character lock, or
`silent` ns without a valid character, 10 µs of which do; an UP port is lost. -/
def Dev.charLockLoss (k errors silent : Nat) (d : Dev) : Dev :=
  if !(d.portEnabled k) then d
  else
    let d := d.charErrors k errors
    if d.lockBroken k || Nat.ble 10000 silent then d.lockLost k else d

/-- Does a CAP record's data pass Table 12-11? -/
def Dev.capPasses (d : Dev) (k : Nat) (b : List Byte) : Bool :=
  let at_ := fun i n => ofLe ((b.drop i).take n)
  let mask := d.fld Reg.HLK_HEAD_MASK.value
  let groups := at_ 19 1
  at_ 0 1 == 1 && Nat.land (at_ 1 4) mask == Nat.land (d.fld Reg.HLK_HEAD_ID.value) mask &&
  Nat.ble (d.portElems k) ((at_ 9 1 + 1) * 64) && Nat.ble 2 (at_ 10 1) && Nat.ble (at_ 10 1) 16 &&
  (at_ 11 1 == 2 || (at_ 11 1 == 1 && !d.paired)) && Nat.ble 1 (at_ 12 1) && Nat.ble (at_ 12 1) 4 &&
  Nat.ble 50 (at_ 13 2) && Nat.ble 102 (at_ 15 2) && Nat.ble (at_ 17 2) 10000 && Nat.ble 1 groups && Nat.ble groups 64 &&
  Nat.blt ((groups - 1) * at_ 20 1 * 10) (d.fld Reg.PAC_RECOVERY.rec_ns)

/-- A CAP record's data in the port's registers (Table 12-24). -/
def Dev.capStore (k : Nat) (b : List Byte) (d : Dev) : Dev :=
  let at_ := fun i n => ofLe ((b.drop i).take n)
  let d := (d.setFld (Reg.HLK_PORT_CAP0.head_id k) (at_ 1 4)).setFld (Reg.HLK_PORT_CAP1.serial k) (at_ 5 4)
  let d := ((d.setFld (Reg.HLK_PORT_CAP2.version k) (at_ 0 1)).setFld (Reg.HLK_PORT_CAP2.elems_m1 k) (at_ 9 1)).setFld
    (Reg.HLK_PORT_CAP2.buf_lines k) (at_ 10 1)
  let d := (d.setFld (Reg.HLK_PORT_CAP2.inputs k) (at_ 11 1)).setFld (Reg.HLK_PORT_CAP2.sensors k) (at_ 12 1)
  let d := (d.setFld (Reg.HLK_PORT_CAP3.lat_ns k) (at_ 13 2)).setFld (Reg.HLK_PORT_CAP3.turn_ns k) (at_ 15 2)
  ((d.setFld (Reg.HLK_PORT_CAP4.chk_ns k) (at_ 17 2)).setFld (Reg.HLK_PORT_CAP4.groups k) (at_ 19 1)).setFld
    (Reg.HLK_PORT_CAP4.spacing k) (at_ 20 1)

/-- The SHAPE payload of a port: its 16 shapes (Table 12-4). -/
def Dev.shapePayload (d : Dev) (k : Nat) : List Byte :=
  (List.range 16).flatMap fun c => leBytes 8 (Tab.get (Tab.get d.cfg.tables [] 0x0902) 0 (k * 16 + c))

/-- CAP (R250): the 21 data bytes of a CAP record are checked; the SHAPE frame goes out. -/
def Dev.capRecord (k : Nat) (b : List Byte) (d : Dev) : Dev :=
  if d.portState k ≠ PortState.cap then d
  else if !(d.capPasses k b) then d.bringupFail k 3 (ofLe ((b.drop 1).take 4))
  else
    let n := (d.hport k).seq
    let d := ((d.capStore k b).setPortState k PortState.shape).sendFrame k 2 15 (d.shapePayload k)
    d.modPort k fun h => { h with expect := h.expect ++ [(n, 1, 0)] }

/-- BRINGUP_SYNC_SEND (R250, R242): a SYNC frame with the TB2 time of its START block. -/
def Dev.syncSend (k : Nat) (d : Dev) : Dev :=
  let h := d.hport k
  if d.portState k ≠ PortState.delay ∨ 16 ≤ h.syncs.length + h.rtts.length then d
  else (d.sendFrame k 4 0 (leBytes 6 d.tb2ns ++ leBytes 2 0)).modPort k fun g => { g with syncs := g.syncs ++ [h.seq] }

/-- d_out of port `k` in ps (R244), from sixteen round trips in units of 0.64 ns. -/
def Dev.dOut (d : Dev) (k : Nat) : Int :=
  (((d.hport k).rtts.sum * 40 : Nat) - (d.fld (Reg.HLK_PORT_CAP3.turn_ns k) * 1000 : Nat) : Int) / 2 + d.sfld (Reg.HLK_PORT_CFG.skew_ps k)

/-- Does port `k` satisfy R246, and in a pair R336? -/
def Dev.latencyFits (d : Dev) (k : Nat) : Bool :=
  let budget : Int := ((d.fld Reg.PAC_FIRE_DLY.fire_dly_ns : Nat) : Int) - (d.fld Reg.PAC_FIRE_DLY.interp_cap_ns : Nat) - 400
  let need : Int := ((d.fld (Reg.HLK_PORT_CAP3.lat_ns k) * 1000 : Nat) : Int) + d.dOut k
  decide (need + (if d.paired then (d.fld Reg.PAIR_CFG.commit_lead * 100000 : Nat) else 0) ≤ budget * 1000)

/-- Port `k` becomes UP: posted, and TEMP_CFG goes out. -/
def Dev.portReady (k : Nat) (d : Dev) : Dev :=
  let d := (d.setPortState k PortState.up).raise 0x0B01 Sev.info k (d.fld (Reg.HLK_PORT_CAP0.head_id k))
  let a := d.pac.starts
  (d.modPort k fun h => { h with upAt := a, frames := [], void := [], ends := [] }).sendCtrl k 2 [BitVec.ofNat 8 (d.fld Reg.HLK_TIMING.temp_100us)]

/-- ECHO (R244, R246): the round trip of SYNC frame `seq` (its low 8 bits) in units of 0.64 ns; the sixteenth decides. -/
def Dev.echoRecord (k seq rtt : Nat) (d : Dev) : Dev :=
  if d.portState k ≠ PortState.delay then d
  else match (d.hport k).syncs.find? (fun n => n % 256 == seq) with
    | none => d
    | some n =>
      let d := d.modPort k fun h => { h with syncs := h.syncs.erase n, rtts := h.rtts ++ [rtt] }
      let rs := (d.hport k).rtts
      if rs.length < 16 then d
      else
        let spread := rs.foldl max 0 - rs.foldl min rtt
        let d := (d.setFld (Reg.HLK_PORT_DELAY.spread k) (min 255 (spread * 64 / 10))).setFld (Reg.HLK_PORT_DELAY.d_out_ps k)
          (unsigned 24 (d.dOut k))
        if 2000 < spread * 640 then d.bringupFail k 5 (d.headKnown k)
        else if !(d.latencyFits k) then d.bringupFail k 6 (d.headKnown k)
        else d.portReady k

/-! ### LINE frames -/

/-- May LINE frames and FIRE blocks be sent: in the print modes and in MIRROR (Table 12-13)? -/
def Dev.framesRun (d : Dev) : Bool := Mode.isPrint d.mode || d.isMirror

/-- The partner's LSTAT of a port line, if it has arrived. -/
def Dev.theirLstat (d : Dev) (k line : Nat) : Option (Bool × Nat) :=
  (d.duo.lstats.find? (fun e => e.1 == k && e.2.1 == line)).map (·.2.2)

/-- The active flag of a LINE frame (Table 12-13): 1 in the print modes; in MIRROR 0 once the ACTIVE is known to have committed the
line. -/
def Dev.lineActive (d : Dev) (k line : Nat) : Bool :=
  if d.isMirror then (match d.theirLstat k line with | some (ready, _) => !ready | none => true) else d.laneActive

/-- Must a LINE frame wait for the end of an abandoned sweep: for the DISCONNECTs to be sent, and for their ACKs or 10 µs (R268)? -/
def Dev.senseHeld (d : Dev) : Bool :=
  d.msr.sweeps.any (fun s => s.started && s.cut) || d.msr.discon.any fun e => Nat.blt d.tb2ns (e.2.2 + 10000)

/-- LINE_FRAME_SEND (R241 to R243, R247): the first line of port `k`'s buffer that is not decided blank leaves in a frame, while fewer
than buf_lines frames are unfired; its END block ends now. `sent` gives the classes as they went out when they are not those of the line: the transmit digest
then differs, the END block carries void, and the line is blank for memory, detail 3 (R193). -/
def Dev.lineFrameSend (k : Nat) (sent : Option (List Nat)) (d : Dev) : Dev :=
  let h := d.hport k
  let blank := fun (l : PortLine) => l.mem.isSome || h.due.any fun s => s.page == l.page && s.line == l.line && s.cause != 0
  match (d.lookLines k).find? fun l => !(blank l) with
  | none => d
  | some l =>
    if !d.framesRun || d.senseHeld || !(d.portServes k l.start) || Nat.ble (d.fld (Reg.HLK_PORT_CAP2.buf_lines k)) h.frames.length then d
    else
      let now := d.tbRead 2
      let classes := sent.getD l.classes
      let void := lineDigest classes != l.digest
      let bs := linkFrame 1 (d.pseq l.page) k (d.geom.row k) l.line (d.portElems k / 64 - 1) (d.lineActive k l.line) void (packDoses classes)
      let d := d.headSend (.frame k bs)
      let d := d.modAsm fun a => { a with look := Tab.set a.look [] k ((Tab.get a.look [] k).erase l) }
      let d := d.modPort k fun h => { h with
        frames := h.frames ++ [l], ends := h.ends ++ [(l.page, l.line, now)], void := if void then h.void ++ [(l.page, l.line)] else h.void
        due := h.due.map fun s => if s.page = l.page ∧ s.line = l.line then
          { s with framed := true, cause := if void then Blank.memory else s.cause, detail := if void then 3 else s.detail } else s }
      d.asmCounts

/-! ### The commit point (R344) -/

/-- The dispute of a port line that is not settled, or was left without a majority. -/
def Dev.disputed (d : Dev) (k page line : Nat) : Bool :=
  d.duo.disputes.any (fun x => x.port == k && x.page == page && x.line == line) || d.duo.unresolved.contains (k, line)

/-- Why a line cannot be fired at its commit point: its blank cause and detail, or none. -/
def Dev.commitCause (d : Dev) (k : Nat) (s : Shot) : Nat × Nat :=
  if s.cause ≠ 0 then (s.cause, s.detail)
  else if d.disputed k s.page s.line then (Blank.dispute, 0)
  else if !s.framed then (Blank.late, 0)
  else if d.flt.safeReq.isSome && !d.isShadow then (Blank.memory, 4)
  else (0, 0)

/-- Does the SHADOW's digest of a line equal the ACTIVE's, or has none of the ACTIVE's arrived (R344)? -/
def Dev.digestAgrees (d : Dev) (k page line : Nat) : Bool :=
  match d.theirDigest k page line, d.duo.mine.find? (fun e => e.1 == k && e.2.1 == page && e.2.2.1 == line) with
  | some t, some e => t % 2 ^ 32 == e.2.2.2 % 2 ^ 32
  | _, _ => true

/-- A line due on port `k` passes its commit point (R344): committed, or ready on the SHADOW, and told in LSTAT. -/
def Dev.commitShot (k : Nat) (s : Shot) (d : Dev) : Shot × Dev :=
  let c := d.commitCause k s
  let c := if c.1 = 0 ∧ d.isShadow ∧ !(d.digestAgrees k s.page s.line) then (Blank.dispute, 0) else c
  let ready := c.1 == 0
  let d := d.pairSend (.lstat k s.line ready c.1)
  let unchecked := ready && !d.isShadow && (d.theirDigest k s.page s.line).isNone
  ({ s with cause := c.1, detail := c.2, ready := some ready }, d.when unchecked fun d => d.addFld Reg.PAIR_UNCHECKED.count 1)

/-- LINE_COMMIT_POINT (R344): the first line due on port `k` that has not passed its commit point does. -/
def Dev.lineCommitPoint (k : Nat) (d : Dev) : Dev :=
  if !d.pairLines then d
  else match (d.hport k).due.find? (fun s => s.ready.isNone) with
    | none => d
    | some s =>
      let r := d.commitShot k s
      r.2.modPort k fun h => { h with due := h.due.map fun x => if x = s then r.1 else x }

/-! ### FIRE blocks -/

/-- Units of 2^-16 / 1000 ns in 10 ps. -/
abbrev tenPs : Nat := 655360
/-- A block, 10.56 ns, in 10 ps. -/
abbrev blockTime : Nat := 1056

/-- t_tx of a shot (R245) in units of 2^-16 / 1000 ns. -/
def Dev.txTime (d : Dev) (k : Nat) (s : Shot) : Int :=
  ((s.time * 1000 : Nat) : Int) - (d.fld (Reg.HLK_PORT_CAP3.lat_ns k) * 65536000 : Nat) - d.dOut k * 65536

/-- The block boundary (10 ps) and sub-position of R245, when the port's boundaries lie `phase` 10 ps after the multiples of 10.56 ns. -/
def firePlace (phase : Nat) (tx : Int) : Int × Nat :=
  let b : Int := (phase : Int) + ((tx - (phase * tenPs : Nat)) / (blockTime * tenPs : Nat)) * blockTime
  let s : Int := ((tx - b * tenPs) * 64 + (blockTime * tenPs : Nat)) / (2 * (blockTime * tenPs : Nat))
  if s = 32 then (b + blockTime, 0) else (b, s.toNat)

/-- The active and blank flags of a FIRE block (Table 17-2; Table 12-13 for a device alone). After a failover the new ACTIVE leaves the
lines it holds a commit of to its old partner (R347). -/
def Dev.fireFlags (d : Dev) (k : Nat) (s : Shot) : Bool × Bool :=
  let theirs := match d.theirLstat k s.line with | some (r, _) => r | none => false
  if d.isShadow then (if theirs then (false, false) else if s.cause = 0 then (true, false) else (false, true))
  else if d.pairServes then (if s.cause = 0 then (true, false) else if theirs then (false, true) else (true, true))
  else if d.flag Reg.PAIR_STAT.partner_lost && theirs then (false, false)
  else (true, s.cause != 0)

/-- A line of a pair accounted for at its FIRE instant (R353): on the ACTIVE it fires, is covered or is blank; a line the SHADOW cannot
make ready is counted there. -/
def Dev.fireCount (k : Nat) (s : Shot) (flags : Bool × Bool) (d : Dev) : Dev :=
  if !flags.2 then d.runsEnd k 9
  else if d.isShadow then d.addFld Reg.PAIR_SHADOW_BLANK.count 1
  else if flags.1 then d.shotBlank k s
  else ((d.addFld Reg.PAIR_COVER.count 1).count 0xE8 1).runsEnd k Rep.cover |>.runLine Rep.cover k s.page s.line s.cause s.detail

/-- The lines of a port line's page that a SHADOW settles as blank: those the ACTIVE reported not ready while it could not fire them
either (R353). -/
def Dev.pairBlank (d : Dev) (k : Nat) (s : Shot) (flags : Bool × Bool) : Bool :=
  if d.isShadow then flags.2 && (match d.theirLstat k s.line with | some (r, _) => !r | none => false) else flags.1 && flags.2

/-- How long before its FIRE block's boundary a LINE frame ends, at least, in ns: chk_ns (R247), in a pair no less than commit_lead (R343). -/
def Dev.frameLead (d : Dev) (k : Nat) : Nat :=
  let chk := d.fld (Reg.HLK_PORT_CAP4.chk_ns k)
  if d.pairLines then max chk (100 * d.fld Reg.PAIR_CFG.commit_lead) else chk

/-- Has a line's frame been sent, its END block ending in time before boundary `b` (R247, R343)? -/
def Dev.frameInTime (d : Dev) (k : Nat) (s : Shot) (b : Int) : Bool :=
  s.framed && (match (d.hport k).ends.find? (fun e => e.1 == s.page && e.2.1 == s.line) with
    | some e => decide ((((e.2.2 + d.frameLead k * 65536) * 1000 : Nat) : Int) ≤ b * tenPs)
    | none => false)

/-- FIRE_BLOCK_SEND (R245, R247, R248, R345): the next line due on port `k`. Its blocks' boundaries lie `phase` 10 ps after the multiples of
10.56 ns. A line whose frame has not been sent in time is late data. A blank block gives way to its neighbours by one boundary. A port
that is not UP sends nothing, and a LINK_DOWN line has no FIRE block (R254); in sub-state REJOIN nothing is sent to the heads (R45). -/
def Dev.fireBlockSend (k phase : Nat) (d : Dev) : Dev :=
  match (d.hport k).due with
  | [] => d
  | s0 :: rest =>
    let s0 := if s0.cause = 0 ∧ !(d.frameInTime k s0 (firePlace (phase % blockTime) (d.txTime k s0)).1) then { s0 with cause := Blank.late, detail := 0 } else s0
    let r := if d.pairLines ∧ s0.ready.isNone then d.commitShot k s0 else (s0, d)
    let s := r.1
    let d := r.2
    let flags := d.fireFlags k s
    let blank := flags.2
    let d := d.modPort k fun h => { h with due := rest, void := h.void.filter (· != (s.page, s.line)) }
    let d := d.fireCount k s flags
    let q := d.pseq s.page
    let settled := d.pairBlank k s flags
    if !(d.portUp k) || !d.framesRun || (s.cause == Blank.nak && s.detail == 0x11) then ((d.lineGone k s.page s.line).digestForget k s.page s.line).settle s.page settled
    else
      let place := firePlace (phase % blockTime) (d.txTime k s)
      let next := match rest with | n :: _ => some (firePlace (phase % blockTime) (d.txTime k n)).1 | [] => none
      let last := (d.hport k).lastFire
      let b := if blank ∧ place.1 ≤ last then last + blockTime
        else if blank ∧ next = some place.1 ∧ last < place.1 - blockTime then place.1 - blockTime else place.1
      let cause := if blank then s.cause else 0
      let d := d.headSend (.fire k b (fireBytes s.line q place.2 cause flags.1 blank))
      let counted := d.isShadow || (blank && flags.1)
      let d := d.modPort k fun h => { h with lastFire := b, sent := h.sent ++ [{ s with blank := blank, counted := counted }] }
      let d := (d.setFlag (Reg.HLK_PORT_STAT.active k) flags.1).idleShow k
      let d := if blank then d else (d.addPair (Reg.HLK_PORT_LINES_LO.addr k) 1).count (0xA0 + k) 1
      let d := d.tagReachAll (fun t => t.page == s.page && t.line == s.line && t.port == k) 6 (k + (if blank then 256 else 0)) TagRec.lineArg
      let d := (d.lineGone k s.page s.line).digestForget k s.page s.line
      d.when settled fun d => d.modPage s.page fun p => { p with blanks := p.blanks + 1 }

/-! ### Return records -/

/-- A record error (R239, R249, R257): counted; its character errors may end character lock, and more than 16 records within 1 ms lose an
UP port, the lower cause first. -/
def Dev.recordError (k chars : Nat) (d : Dev) : Dev :=
  let now := d.tb2ns
  let d := (d.satFld (Reg.HLK_PORT_RXERR.records k) 1).charErrors k chars
  let d := d.modPort k fun h => { h with rxErrs := (h.rxErrs.filter fun t => Nat.blt now (t + 1000000)) ++ [now] }
  if d.lockBroken k then d.lockLost k
  else if d.portUp k ∧ 16 < (d.hport k).rxErrs.length then d.portDown k 7 else d

/-- RETURN_RECORD_ERROR (R249): a record arrives with `chars` code or disparity errors, the data characters `data` and the CRC-8 `crc`; one
that shows no error is no record error. -/
def Dev.returnRecordError (k : Nat) (r : RecordRead) (d : Dev) : Dev :=
  if d.portEnabled k && recordBad r.chars r.data r.crc then d.recordError k r.chars else d

/-- A page line settled: fired, or with its timeout; blank lines were counted in their page when they were decided. -/
def Dev.shotSettle (s : Shot) (d : Dev) : Dev := d.modPage s.page fun p => { p with settled := p.settled + 1 }

/-- A head-NAK blank (R254, R255): counted once, unless the line's blank was counted at its FIRE block or is the partner's to count. -/
def Dev.nakLine (k : Nat) (s : Shot) (detail : Nat) (d : Dev) : Dev :=
  let d := if s.counted then d else
    (d.blankLine Rep.hlk k s.page s.line Blank.nak detail).modPage s.page fun p => { p with blanks := p.blanks + 1 }
  d.shotSettle s

/-- An ACK of a line (R254, R256): the expected one settles; another is a record error. In a pair the line may have fired from the other
input (R252). -/
def Dev.ackLine (k input pseq id result : Nat) (d : Dev) : Dev :=
  match (d.hport k).sent with
  | [] => d.recordError k 0
  | s :: rest =>
    if s.line % 2 ^ 24 ≠ id ∨ d.pseq s.page ≠ pseq then d.recordError k 0
    else
      let d := d.modPort k fun h => { h with sent := rest }
      let own := !d.paired || input == d.fld (Reg.HLK_PORT_CFG.input k)
      if result = 0 ∧ s.blank ∧ own then
        let d := ((d.runClose Rep.hlk k).shotSettle s).raise 0x0B05 Sev.fault k s.line
        (if d.portUp k then d.portDown k 10 else d).bringupStart k
      else if result = 0 ∨ result = 1 then (d.runClose Rep.hlk k).shotSettle s
      else if s.blank ∧ s.counted then (d.runClose Rep.hlk k).shotSettle s
      else d.nakLine k s result

/-- The answer to a SHAPE or CTRL frame (Table 12-9). -/
def Dev.ackFrame (k kind id result : Nat) (d : Dev) : Dev :=
  let d := d.when (kind == 2) fun d => d.modMsr fun m => { m with discon := m.discon.filter fun e => !(e.1 == k && e.2.1 % 2 ^ 24 == id) }
  match (d.hport k).expect.find? (fun e => e.1 % 2 ^ 24 == id && e.2.1 == kind) with
  | none => d
  | some e =>
    let d := d.modPort k fun h => { h with expect := h.expect.erase e }
    if kind = 1 then
      if d.portState k ≠ PortState.shape then d
      else if result = 0 then d.setPortState k PortState.delay
      else d.bringupFail k 4 (d.headKnown k)
    else if e.2.2 = 3 then d.spitPort k (result == 0)
    else if e.2.2 = 4 ∧ result ≠ 0 then d.sampleRefused k e.1
    else d

/-- ACK (R254 to R256): byte 0 gives input, pseq and kind, then id and result. In a pair an ACK that names the partner's input shows
that the partner still fires (R347). -/
def Dev.ackRecord (k input pseq kind id result : Nat) (d : Dev) : Dev :=
  if !(d.portEnabled k) then d
  else
    let own := d.fld (Reg.HLK_PORT_CFG.input k)
    let now := d.tb2ns
    let d := d.when (d.paired && input != own) fun d => d.modPair fun p => { p with otherAck := some now }
    if kind = 0 then d.ackLine k input pseq id result else d.ackFrame k kind id result

/-- ACK_TIMEOUT (R254): ack_tmo_us after its fire instant the oldest expected line of port `k` has no ACK. -/
def Dev.ackTimeout (k : Nat) (d : Dev) : Dev :=
  match (d.hport k).sent with
  | [] => d
  | s :: rest =>
    let d := d.modPort k fun h => { h with sent := rest }
    if s.blank ∧ s.counted then (d.runClose Rep.hlk k).shotSettle s else d.nakLine k s 0x10

/-- TEMP (R249, R206). -/
def Dev.tempRecord (k mask : Nat) (temps : List Nat) (d : Dev) : Dev := if d.portEnabled k then d.tempReport k mask temps else d

/-- STATUS (R257): the word is kept; a fault, or the own input's lock bit clear, loses an UP port. -/
def Dev.statusRecord (k : Nat) (w : Word) (d : Dev) : Dev :=
  if !(d.portEnabled k) then d
  else
    let d := d.setFld (Reg.HLK_PORT_HSTAT.status k) w.toNat
    if !(d.portUp k) then d
    else if w.getLsbD 7 then d.portDown k 8
    else if !(w.getLsbD (2 + d.fld (Reg.HLK_PORT_CFG.input k))) then d.portDown k 9
    else d

end Sys2Proof.Machine
end

