-- ==== Sys2Proof/Machine/Time.lean ====
section
/-! DEFINITION. Machine/Time.lean: the time bases, the Ethernet ports, PTP and the trigger units (chapter 19). -/

namespace Sys2Proof.Machine

/-! ### Time bases (R374, R375) -/

/-- Base `b` changed; TIM_TB_ADJ shows its adj. -/
def Dev.modBase (b : Nat) (f : TimeBase → TimeBase) (d : Dev) : Dev :=
  let d := d.modTim fun t => { t with bases := Tab.upd t.bases ⟨0, 0, 0⟩ b f }
  d.setFld (Reg.TIM_TB_ADJ.adj b) (unsigned 32 (d.base b).adj)

/-- A base at a group boundary: V advanced by the group and by the steps that wait (R374). -/
def TimeBase.boundary (t : TimeBase) : TimeBase :=
  { t with v := unsigned 104 (t.v + t.advance + t.step * 2 ^ 24), step := 0 }

/-- Base `b` at a group boundary; a forward step may skip events of its trigger units (R382). -/
def Dev.baseBoundary (b : Nat) (d : Dev) : Dev :=
  let s := (d.base b).step
  (d.modBase b TimeBase.boundary).when (decide (0 < s)) fun d => d.trgSkipAll b

/-- Do the time bases run in the present mode (R384)? -/
def Dev.timeRuns (d : Dev) : Bool := d.mode != Mode.reset && d.mode != Mode.sleep

/-- One 625 MHz tick: every fifth is a group boundary. -/
def Dev.timTick (d : Dev) : Dev :=
  let d := d.fillRegisters
  if !d.timeRuns then d
  else if d.tim.tick < 4 then d.modTim fun t => { t with tick := t.tick + 1 }
  else (List.range 4).foldl (fun d b => d.baseBoundary b) (d.modTim fun t => { t with tick := 0 })

/-- A step of base `b` by `s` 2^-16 ns, at the next group boundary. -/
def Dev.tbStep (b : Nat) (s : Int) (d : Dev) : Dev := d.modBase b fun t => { t with step := t.step + s }

/-- The value that a host read of the register at `a` returns: the time-base registers show the base's reading (Table 19-8), and
NRG_PORT_TEMP the age of its report (R204). -/
def Dev.liveReg (d : Dev) (a : Nat) : Word :=
  match (List.range 4).find? fun b => a == Reg.TIM_TB_NS_LO.addr b || a == Reg.TIM_TB_NS_HI.addr b || a == Reg.TIM_TB_FRAC.addr b with
  | some b =>
    let v := d.tbRead b
    if a = Reg.TIM_TB_NS_LO.addr b then BitVec.ofNat 32 (v / 2 ^ 16)
    else if a = Reg.TIM_TB_NS_HI.addr b then BitVec.ofNat 32 (v / 2 ^ 48)
    else BitVec.ofNat 32 (v % 2 ^ 16)
  | none =>
    match (List.range 32).find? fun k => a == Reg.NRG_PORT_TEMP.addr k with
    | some k =>
      match Tab.find d.nrg.report k with
      | some r => (d.setFld (Reg.NRG_PORT_TEMP.age_ms k) (min 255 ((d.tb2ns - r.2) / 1000000))).reg a
      | none => d.reg a
    | none => d.reg a

/-! ### Domains: identities and the dataset comparison (R377, R378) -/

/-- An Ethernet port. -/
def Dev.ethPort (d : Dev) (p : Nat) : EthPort := Tab.get d.tim.ports EthPort.rest p
/-- An Ethernet port changed. -/
def Dev.modEth (p : Nat) (f : EthPort → EthPort) (d : Dev) : Dev := d.modTim fun t => { t with ports := Tab.upd t.ports EthPort.rest p f }
/-- Domain `i`. -/
def Dev.dom (d : Dev) (i : Nat) : Domain := Tab.get d.tim.doms Domain.rest i
/-- Domain `i` changed. -/
def Dev.modDom (i : Nat) (f : Domain → Domain) (d : Dev) : Dev := d.modTim fun t => { t with doms := Tab.upd t.doms Domain.rest i f }

/-- Is the link of an Ethernet port up, in a mode in which the ports run (R384)? -/
def Dev.ethUp (d : Dev) (p : Nat) : Bool := Nat.blt p 2 && d.timeRuns && d.flag (Reg.TIM_PORT_STAT.link_up p)

/-- The clockIdentity formed from TIM_MAC (R378): its upper and lower 24 bits around FFFE. PRESUMED: the mapping is the one IEEE 1588 uses. -/
def Dev.clockId (d : Dev) : Nat :=
  let mac := d.fld Reg.TIM_MAC_HI.mac_hi * 2 ^ 32 + d.fld Reg.TIM_MAC_LO.mac_lo
  mac / 2 ^ 24 * 2 ^ 40 + 0xFFFE * 2 ^ 24 + mac % 2 ^ 24
/-- The port identity of port `p`: the clock identity and the port number, from 1. -/
def Dev.portId (d : Dev) (p : Nat) : Nat := d.clockId * 2 ^ 16 + p + 1

/-- The device's own dataset in domain `i` (R377). PRESUMED: offsetScaledLogVariance 0xFFFF, no steps removed. -/
def Dev.ownSet (d : Dev) (i : Nat) : ClockSet :=
  ⟨d.fld (Reg.TIM_DOM_PRIO.priority1 i), d.fld (Reg.TIM_DOM_PRIO.clock_class i), d.fld (Reg.TIM_DOM_PRIO.clock_accuracy i), 0xFFFF,
   d.fld (Reg.TIM_DOM_PRIO.priority2 i), d.clockId, 0, d.portId 0⟩

/-- The first pair of numbers that differ decides; equal lists: not below. -/
def lexBelow : List (Nat × Nat) → Bool
  | [] => false
  | (a, b) :: rest => if a = b then lexBelow rest else Nat.blt a b

/-- Is dataset `a` better than `b`? PRESUMED: the comparison of IEEE 1588-2019. -/
def ClockSet.better (a b : ClockSet) : Bool :=
  if a.gm = b.gm then lexBelow [(a.steps, b.steps), (a.sender, b.sender)]
  else lexBelow [(a.prio1, b.prio1), (a.class_, b.class_), (a.accuracy, b.accuracy), (a.variance, b.variance), (a.prio2, b.prio2), (a.gm, b.gm)]

/-- The best foreign master of a domain, with its port. -/
def Domain.best (m : Domain) : Option (ClockSet × Nat) :=
  match m.foreign with
  | [] => none
  | e :: rest => some (rest.foldl (fun b x => if x.1.better b.1 then x else b) e)

/-- The states of a domain (Table 19-7). -/
abbrev DomState.listening : Nat := 1
abbrev DomState.slave : Nat := 2
abbrev DomState.master : Nat := 3
abbrev DomState.holdover : Nat := 4

/-- The state of domain `i`. -/
def Dev.domState (d : Dev) (i : Nat) : Nat := d.fld (Reg.TIM_DOM_STAT.state i)

/-- A domain enters a state (R385). -/
def Dev.domEnter (i state : Nat) (d : Dev) : Dev :=
  if d.domState i = state then d
  else
    let d := d.setFld (Reg.TIM_DOM_STAT.state i) state
    let d := d.modDom i fun m => { m with sync := none, req := none, good := 0 }
    d.raise 0x1202 Sev.info (i * 256 + state) (d.pair (Reg.TIM_PARENT_LO.addr i))

/-- The dataset comparison of domain `i` over the Announce messages received (R377, R378). A master that hears a better dataset listens at
once; the next Announce makes it slave. -/
def Dev.domDecide (i : Nat) (d : Dev) : Dev :=
  match (d.dom i).best with
  | none => d
  | some (b, p) =>
    let own := d.flag (Reg.TIM_DOM_CFG.master_ok i) && (d.ownSet i).better b
    if own then (d.setPair (Reg.TIM_PARENT_LO.addr i) d.clockId).domEnter i DomState.master
    else if d.domState i = DomState.master then d.domEnter i DomState.listening
    else
      let d := d.setPair (Reg.TIM_PARENT_LO.addr i) (b.sender / 2 ^ 16)
      (d.setFld (Reg.TIM_DOM_STAT.slave_port i) p).domEnter i DomState.slave

/-- The enabled domains of a domainNumber. -/
def Dev.domsOf (d : Dev) (number : Nat) : List Nat :=
  (List.range 2).filter fun i => d.flag (Reg.TIM_DOM_CFG.en i) && d.fld (Reg.TIM_DOM_CFG.domain i) == number

/-- Is a message from the parent of slave domain `i`, on its slave port? -/
def Dev.fromParent (d : Dev) (i p : Nat) (m : Ptp) : Bool :=
  d.domState i == DomState.slave && d.fld (Reg.TIM_DOM_STAT.slave_port i) == p &&
    (match (d.dom i).best with | some (b, _) => b.sender == m.source | none => false)

/-! ### The servo (R379, R380) -/

/-- The delayAsymmetry of a port, in 2^-16 ns. -/
def Dev.asym (d : Dev) (p : Nat) : Int := d.sfld (Reg.TIM_PORT_CFG.asym_ns p) * 2 ^ 16

/-- The mean of a list, 0 when it is empty. -/
def meanInt (xs : List Int) : Int := if xs.isEmpty then 0 else xs.sum / xs.length

/-- The path measurements of domain `i`: its own (E2E) or its slave port's (P2P). -/
def Dev.pathList (d : Dev) (i : Nat) : List Int :=
  if d.flag (Reg.TIM_DOM_CFG.delay i) then (d.ethPort (d.fld (Reg.TIM_DOM_STAT.slave_port i))).delays else (d.dom i).paths

/-- TIM_PATH of domain `i`. -/
def Dev.pathShow (i : Nat) (d : Dev) : Dev := d.setFld (Reg.TIM_PATH.path i) (unsigned 32 (meanInt (d.pathList i) / 2 ^ 16))

/-- The rate limit a_max: adj_max × 4 ppm × 2^40, rounded down. -/
def Dev.adjMax (d : Dev) (i : Nat) : Int := ((d.fld (Reg.TIM_SERVO_LIM.adj_max i) * 4 * 2 ^ 40 / 1000000 : Nat) : Int)

/-- The lock decision of a sample of offset `o` (2^-16 ns) (R380). -/
def Dev.lockSample (i : Nat) (o : Int) (d : Dev) : Dev :=
  let lock : Int := d.fld (Reg.TIM_SERVO_LIM.lock_ns i) * 65536
  let a : Int := o.natAbs
  let good := if a < lock then (d.dom i).good + 1 else 0
  let d := d.modDom i fun m => { m with good := min good 8 }
  let ns := unsigned 64 (o / 65536)
  if d.flag (Reg.TIM_DOM_STAT.locked i) then
    if 4 * lock ≤ a then (d.setFlag (Reg.TIM_DOM_STAT.locked i) false).raise 0x1204 Sev.warn (i * 256 + 1) ns else d
  else if 8 ≤ good then (d.setFlag (Reg.TIM_DOM_STAT.locked i) true).raise 0x1203 Sev.info i ns
  else d

/-- A servo sample (R379): ingress `t2` on the base, originTimestamp `t1`, and the correction fields, in 2^-16 ns. -/
def Dev.servo (i : Nat) (t2 t1 corr : Int) (d : Dev) : Dev :=
  let raw := t2 - t1 - corr
  let o := raw - meanInt (d.pathList i)
  let fl := o / 65536
  let d := d.setFld (Reg.TIM_OFFSET.offset i) (unsigned 32 (clampInt (-2147483648) 2147483647 fl))
  let d :=
    if (d.fld (Reg.TIM_SERVO_LIM.step_ns i) * 65536 : Int) ≤ o.natAbs then
      let d := (d.tbStep i (-o)).modDom i fun m => { m with integral := 0, changes := m.changes + 1, last := none, req := none }
      d.raise 0x1205 Sev.warn i (unsigned 64 (-o))
    else
      let a := d.adjMax i
      let n := clampInt (-a) a ((d.dom i).integral + d.fld (Reg.TIM_SERVO.ki i) * fl)
      let adj := clampInt (-a) a (-(d.fld (Reg.TIM_SERVO.kp i) * fl + n))
      let same := adj == (d.base i).adj
      let d := d.modDom i fun m => { m with
        integral := n, last := some raw, changes := if same then m.changes else m.changes + 1 }
      d.modBase i fun t => { t with adj := adj }
  d.lockSample i o

/-! ### Frames (R368 to R372) -/

/-- An own frame queued on a port. -/
def Dev.ownQueue (p : Nat) (f : OwnFrame) (d : Dev) : Dev := d.modEth p fun e => { e with own := e.own ++ [f] }

/-- Is a PTP message an event message, whose residence time the device corrects? -/
def Ptp.isEvent (m : Ptp) : Bool := match m.body with
  | .sync _ _ => true
  | .delayReq => true
  | .pdelayReq => true
  | .pdelayResp _ _ _ => true
  | _ => false

/-- Is it a peer-delay message, which is never forwarded (R373)? -/
def Ptp.isPeer (m : Ptp) : Bool := match m.body with
  | .pdelayReq => true
  | .pdelayResp _ _ _ => true
  | .pdelayFollowUp _ _ => true
  | _ => false

/-- A forwarded event message corrected (R372), from ingress port `p`: the residence scaled by its domain's rate, in P2P a Sync's peer
delay, and the ports' delayAsymmetry. PRESUMED: the asymmetry is added to a Sync at its ingress and taken from a Delay_Req at its
egress, as IEEE 1588-2019 has it. -/
def Dev.corrected (d : Dev) (p res : Nat) (m : Ptp) : Ptp :=
  let scaled : Int := match d.domsOf m.domain with
    | i :: _ => (res : Int) * (2 ^ 40 + (d.base i).adj) / 2 ^ 40
    | [] => res
  let isSync : Bool := match m.body with | .sync _ _ => true | _ => false
  let isReq : Bool := match m.body with | .delayReq => true | _ => false
  let peer : Int := if isSync && d.fld Reg.TIM_ETH_CFG.tc_mode == 2 then meanInt (d.ethPort p).delays else 0
  let asym : Int := if isSync then d.asym p else if isReq then -(d.asym (1 - p)) else 0
  { m with corr := m.corr + scaled + peer + asym }

/-- A frame leaves port `1 - p` unless its link is down or its FIFO is full (R369, R370). -/
def Dev.ethForward (p res : Nat) (fifoFull : Bool) (f : EthFrame) (d : Dev) : Dev :=
  let q := 1 - p
  if !d.flag Reg.TIM_ETH_CFG.fwd_en || !d.ethUp q then d
  else if fifoFull then d.satFld (Reg.TIM_PORT_DROP.fifo q) 1
  else
    let fix : Bool := match f.ptp with | some m => m.isEvent && d.fld Reg.TIM_ETH_CFG.tc_mode != 0 | none => false
    let g := if fix then { f with ptp := f.ptp.map (d.corrected p res) } else f
    let d := (d.addFld (Reg.TIM_PORT_FWD.frames q) 1).when fix fun d => d.count 0xF0 1
    d.modTim fun t => { t with out := t.out ++ [.forwarded q g] }

/-- ETH_FRAME_RECEIVE (R368, R369): a frame on port `p`, counted and dropped when it is too long, counted and discarded when it is for the
device and neither PTP nor a beacon; `res` is its residence (2^-16 ns on TB2) if it is forwarded, `fifoFull` tells that
the egress FIFO overflows. The consumption of PTP messages and beacons is their own commands' effect. -/
def Dev.ethReceive (p res : Nat) (fifoFull : Bool) (f : EthFrame) (d : Dev) : Dev :=
  if !d.ethUp p then d
  else
    let d := d.when f.fcsBad fun d => d.satFld (Reg.TIM_PORT_DROP.fcs p) 1
    let peer : Bool := match f.ptp with | some m => m.isPeer | none => false
    if 1522 < f.len then d.modEth p fun e => { e with tooLong := e.tooLong + 1 }
    else if f.len < 64 ∨ 1 < f.tags ∨ peer then d
    else match f.dst with
      | .own => d.when (f.ptp.isNone && !f.beacon) fun d => d.modEth p fun e => { e with discarded := e.discarded + 1 }
      | .peerDelay => d
      | .reserved => d
      | .ptpMulticast => d.ethForward p res fifoFull f
      | .other => d.ethForward p res fifoFull f

/-- ETH_LINK_CHANGE (R385): the link of port `p` goes up or down. -/
def Dev.ethLink (p : Nat) (up : Bool) (d : Dev) : Dev :=
  if Nat.ble 2 p || !d.timeRuns || d.flag (Reg.TIM_PORT_STAT.link_up p) == up || (up && d.fld Reg.TIM_ETH_CFG.speed == 2) then d
  else
    let d := (d.setFlag (Reg.TIM_PORT_STAT.link_up p) up).when (!up) fun d => d.modEth p fun e => { e with drops := e.drops + 1 }
    d.raise 0x1201 Sev.info (p * 256 + if up then 1 else 0) (d.ethPort p).drops

/-- The device's IPv6 source address (R370): the link-local address of the modified EUI-64 of TIM_MAC. -/
def Dev.linkLocal (d : Dev) : Nat := 0xFE80 * 2 ^ 112 + Nat.xor d.clockId (2 ^ 57)

/-- The carrier of the own messages of domain `i`: its transport and source address (R370, R377). -/
def Dev.carrier (d : Dev) (i : Nat) : Carrier :=
  match d.fld (Reg.TIM_DOM_CFG.transport i) with
  | 1 => .udp4 (d.fld Reg.TIM_IP4.ip4)
  | 2 => .udp6 d.linkLocal
  | _ => .layer2

/-- An own PTP message of a domain, on that domain's carrier. PRESUMED: peer delay takes domain 0's, as it takes that domain's interval
(R373). -/
def Dev.ptpFrame (d : Dev) (dom : Option Nat) (m : Ptp) : OwnFrame := .ptp dom (d.carrier (dom.getD 0)) m

/-- An own message as it passes its egress timestamp point (R371, R373, R378): Sync takes its originTimestamp, Delay_Req and Pdelay_Req
their t3 and t1, Pdelay_Resp its turnaround. -/
def Dev.ownEgress (p : Nat) (dom : Option Nat) (m : Ptp) (d : Dev) : Ptp × Dev :=
  match m.body with
  | .sync two _ =>
    let r := d.tbRead (dom.getD 0)
    ({ m with corr := m.corr + (r % 65536 : Nat), body := .sync two (r / 65536 * 65536) }, d)
  | .delayReq =>
    let i := dom.getD 0
    ({ m with corr := m.corr - d.asym p }, d.modDom i fun x => { x with req := some (m.seq, d.tbRead i) })
  | .pdelayReq => ({ m with corr := m.corr - d.asym p }, d.modEth p fun e => { e with req := some (m.seq, d.tbRead 2), resp := none })
  | .pdelayResp two t2 requester =>
    ({ m with corr := m.corr + ((d.tbRead 2 : Int) - t2), body := .pdelayResp two 0 requester }, d)
  | _ => (m, d)

/-- OWN_FRAME_SEND (R370): the next own frame of port `p` leaves it; with the link down it is dropped. -/
def Dev.ownFrameSend (p : Nat) (d : Dev) : Dev :=
  match (d.ethPort p).own with
  | [] => d
  | f :: rest =>
    let e := d.modEth p fun e => { e with own := rest }
    if !d.ethUp p then e
    else match f with
      | .ptp dom c m =>
        let r := e.ownEgress p dom m
        r.2.modTim fun t => { t with out := t.out ++ [.sent p (.ptp dom c r.1)] }
      | f => e.modTim fun t => { t with out := t.out ++ [.sent p f] }

/-! ### PTP messages received (R373, R377 to R379) -/

/-- PTP_SYNC_RECEIVE (R379): a Sync reaches the domains that follow its sender; a two-step Sync waits for its Follow_Up. -/
def Dev.ptpSync (p : Nat) (m : Ptp) (d : Dev) : Dev :=
  match m.body with
  | .sync two origin =>
    if !d.ethUp p then d
    else (d.domsOf m.domain).foldl (fun d i =>
      if !d.fromParent i p m then d
      else
        let corr := m.corr + d.asym p
        if two then d.modDom i fun x => { x with sync := some (m.seq, m.source, p, d.tbRead i, corr, x.changes) }
        else d.servo i (d.tbRead i) origin corr) d
  | _ => d

/-- PTP_FOLLOW_UP_RECEIVE (R379): the Follow_Up of the Sync that waits; a sample whose ingress came before the latest step or rate change of
the base is discarded (R376). -/
def Dev.ptpFollowUp (p : Nat) (m : Ptp) (d : Dev) : Dev :=
  match m.body with
  | .followUp origin =>
    if !d.ethUp p then d
    else (d.domsOf m.domain).foldl (fun d i =>
      match (d.dom i).sync with
      | some (seq, src, q, t2, corr, changes) =>
        if seq ≠ m.seq ∨ src ≠ m.source ∨ q ≠ p ∨ !d.fromParent i p m then d
        else
          let ok := changes == (d.dom i).changes
          let d := d.modDom i fun x => { x with sync := none }
          if ok then d.servo i t2 origin (corr + m.corr) else d
      | none => d) d
  | _ => d

/-- PTP_DELAY_REQ_RECEIVE (R378): a master domain answers with Delay_Resp. PRESUMED: the fraction of t4 is taken from the correction. -/
def Dev.ptpDelayReq (p : Nat) (m : Ptp) (d : Dev) : Dev :=
  if m.body ≠ .delayReq || !d.ethUp p then d
  else (d.domsOf m.domain).foldl (fun d i =>
    if d.domState i ≠ DomState.master then d
    else
      let t4 := d.tbRead i
      d.ownQueue p (d.ptpFrame (some i) ⟨m.domain, m.seq, m.corr - (t4 % 65536 : Nat), d.portId p, .delayResp (t4 / 65536 * 65536) m.source⟩)) d

/-- PTP_DELAY_RESP_RECEIVE (R379): the answer to a slave domain's Delay_Req gives a path measurement. -/
def Dev.ptpDelayResp (p : Nat) (m : Ptp) (d : Dev) : Dev :=
  match m.body with
  | .delayResp t4 requester =>
    if !d.ethUp p then d
    else (d.domsOf m.domain).foldl (fun d i =>
      match (d.dom i).req, (d.dom i).last with
      | some (seq, t3), some last =>
        if seq ≠ m.seq ∨ requester ≠ d.portId p ∨ !d.fromParent i p m then d
        else
          let x := (last + ((t4 : Int) - t3 - m.corr)) / 2
          (d.modDom i fun e => { e with req := none, paths := (x :: e.paths).take 8 }).pathShow i
      | _, _ => d) d
  | _ => d

/-- PTP_PDELAY_REQ_RECEIVE (R373): answered with a one-step Pdelay_Resp. -/
def Dev.ptpPdelayReq (p : Nat) (m : Ptp) (d : Dev) : Dev :=
  if m.body ≠ .pdelayReq || !d.ethUp p then d
  else d.ownQueue p (d.ptpFrame none ⟨m.domain, m.seq, m.corr, d.portId p, .pdelayResp false (d.tbRead 2) m.source⟩)

/-- A peer delay measured on port `p` (2^-16 ns): the mean of the last 8 is reported (R373). -/
def Dev.peerDelay (p : Nat) (x : Int) (d : Dev) : Dev :=
  let d := d.modEth p fun e => { e with req := none, resp := none, delays := (x :: e.delays).take 8 }
  let d := d.setFld (Reg.TIM_PORT_PDELAY.pdelay p) (unsigned 32 (meanInt (d.ethPort p).delays / 2 ^ 16))
  (List.range 2).foldl (fun d i =>
    d.when (d.flag (Reg.TIM_DOM_CFG.delay i) && d.fld (Reg.TIM_DOM_STAT.slave_port i) == p) fun d => d.pathShow i) d

/-- PTP_PDELAY_RESP_RECEIVE (R373): a Pdelay_Resp, or the Pdelay_Resp_Follow_Up of one, answers the port's Pdelay_Req. -/
def Dev.ptpPdelayResp (p : Nat) (m : Ptp) (d : Dev) : Dev :=
  if !d.ethUp p then d
  else match m.body, (d.ethPort p).req with
    | .pdelayResp two receipt requester, some (seq, t1) =>
      if seq ≠ m.seq ∨ requester ≠ d.portId p then d
      else
        let x := (d.tbRead 2 : Int) - t1 - m.corr - d.asym p
        if two then d.modEth p fun e => { e with resp := some (seq, x, receipt) } else d.peerDelay p (x / 2)
    | .pdelayFollowUp origin requester, some _ =>
      match (d.ethPort p).resp with
      | some (seq, x, receipt) =>
        if seq ≠ m.seq ∨ requester ≠ d.portId p then d
        else d.peerDelay p ((x - ((origin : Int) - receipt) - m.corr) / 2)
      | none => d
    | _, _ => d

/-- PTP_ANNOUNCE_RECEIVE (R377): the sender's dataset is noted, and the comparison runs again. -/
def Dev.ptpAnnounce (p : Nat) (m : Ptp) (d : Dev) : Dev :=
  match m.body with
  | .announce set =>
    if !d.ethUp p then d
    else (d.domsOf m.domain).foldl (fun d i =>
      let s := { set with sender := m.source }
      (d.modDom i fun x => { x with
        foreign := x.foreign.filter (fun e => !(e.1.sender == s.sender && e.2 == p)) ++ [(s, p)] }).domDecide i) d
  | _ => d

/-! ### Timers (R373, R377 to R379) -/

/-- PTP_SYNC_TIMER (R378): a master domain sends Sync on both ports. -/
def Dev.ptpSyncTimer (i : Nat) (d : Dev) : Dev :=
  if !d.timeRuns || Nat.ble 2 i || d.domState i != DomState.master then d
  else
    let m := fun (p : Nat) => d.ptpFrame (some i) ⟨d.fld (Reg.TIM_DOM_CFG.domain i), (d.dom i).syncSeq, 0, d.portId p, .sync false 0⟩
    ((d.ownQueue 0 (m 0)).ownQueue 1 (m 1)).modDom i fun x => { x with syncSeq := (x.syncSeq + 1) % 2 ^ 16 }

/-- PTP_ANNOUNCE_TIMER (R378): a master domain sends Announce on both ports. -/
def Dev.ptpAnnounceTimer (i : Nat) (d : Dev) : Dev :=
  if !d.timeRuns || Nat.ble 2 i || d.domState i != DomState.master then d
  else
    let m := fun (p : Nat) => d.ptpFrame (some i)
      ⟨d.fld (Reg.TIM_DOM_CFG.domain i), (d.dom i).annSeq, 0, d.portId p, .announce { d.ownSet i with sender := d.portId p }⟩
    ((d.ownQueue 0 (m 0)).ownQueue 1 (m 1)).modDom i fun x => { x with annSeq := (x.annSeq + 1) % 2 ^ 16 }

/-- PTP_PDELAY_TIMER (R373): a port whose link is up sends Pdelay_Req. -/
def Dev.ptpPdelayTimer (p : Nat) (d : Dev) : Dev :=
  if !d.ethUp p then d
  else
    let m : Ptp := ⟨d.fld (Reg.TIM_DOM_CFG.domain 0), (d.ethPort p).seqs, 0, d.portId p, .pdelayReq⟩
    (d.ownQueue p (d.ptpFrame none m)).modEth p fun e => { e with seqs := (e.seqs + 1) % 2 ^ 16 }

/-- PTP_DELAY_REQ_TIMER (R379): an E2E slave domain sends Delay_Req on its slave port. -/
def Dev.ptpDelayReqTimer (i : Nat) (d : Dev) : Dev :=
  if !d.timeRuns || Nat.ble 2 i || d.domState i != DomState.slave || d.flag (Reg.TIM_DOM_CFG.delay i) then d
  else
    let p := d.fld (Reg.TIM_DOM_STAT.slave_port i)
    let m : Ptp := ⟨d.fld (Reg.TIM_DOM_CFG.domain i), (d.dom i).reqSeq, 0, d.portId p, .delayReq⟩
    (d.ownQueue p (d.ptpFrame (some i) m)).modDom i fun x => { x with reqSeq := (x.reqSeq + 1) % 2 ^ 16 }

/-- PTP_ANNOUNCE_TIMEOUT (R377, R380): no Announce of the best foreign master for announce_tmo intervals: its entry is cleared. A slave with no
other goes to holdover; a domain that hears nobody takes state master if it may. -/
def Dev.ptpAnnounceTimeout (i : Nat) (d : Dev) : Dev :=
  if !d.timeRuns || Nat.ble 2 i || !d.flag (Reg.TIM_DOM_CFG.en i) || d.domState i == DomState.master then d
  else
    let slave := d.domState i == DomState.slave
    let d := match (d.dom i).best with
      | some b => d.modDom i fun x => { x with foreign := x.foreign.filter (fun e => e != b) }
      | none => d
    if !((d.dom i).foreign.isEmpty) then d.domDecide i
    else if slave then
      let d := d.when (d.flag (Reg.TIM_DOM_STAT.locked i)) fun d =>
        (d.setFlag (Reg.TIM_DOM_STAT.locked i) false).raise 0x1204 Sev.warn (i * 256 + 2)
          (unsigned 64 (d.sfld (Reg.TIM_OFFSET.offset i)))
      d.domEnter i DomState.holdover
    else if d.flag (Reg.TIM_DOM_CFG.master_ok i) then
      (d.setPair (Reg.TIM_PARENT_LO.addr i) d.clockId).domEnter i DomState.master
    else d

/-- The domains at the end of a LOAD (R375, R377): an enabled one listens, a disabled one leaves its base at adj 0. -/
def Dev.timLoad (d : Dev) : Dev :=
  (List.range 2).foldl (fun d i =>
    let d := d.modTim fun t => { t with doms := Tab.upd t.doms Domain.rest i fun x => { Domain.rest with changes := x.changes } }
    let d := (d.setFlag (Reg.TIM_DOM_STAT.locked i) false).setFld (Reg.TIM_DOM_STAT.state i) 0
    if d.flag (Reg.TIM_DOM_CFG.en i) then d.domEnter i DomState.listening
    else d.modBase i fun t => { t with adj := 0 }) d

/-! ### Trigger events (R381 to R384) -/

/-- The base of line times: TB3 in a pair, else TB2 (R218, R336). -/
def Dev.lineBase (d : Dev) : Nat := if d.paired then 3 else 2

/-- The scheduled time of an event of base `b` on the base of line times. -/
def Dev.onLineBase (d : Dev) (b t : Nat) : Nat :=
  if b = d.lineBase then t else d.tbRead d.lineBase - (d.tbRead b - t)

/-- TRIGGER_EVENT (R381 to R384): the next event of unit `n`, once its base has reached it, drives the unit's target. `sense` is MOT_VM_SENSE
in mV for a motion cycle, `uvs` the analogue inputs in µV for a Fantail sample. -/
def Dev.triggerEvent (n sense : Nat) (uvs : List Nat) (d : Dev) : Dev :=
  let t := d.trg n
  let b := d.fld (Reg.TIM_TRG_CFG.tb n)
  let at_ := d.trgNext n
  if Nat.ble 16 n || !d.timeRuns || !t.armed || Nat.blt (d.tbRead b) at_ then d
  else
    let d := (d.modTrg n fun t => { t with k := t.k + 1, raised := t.raised + 1 }).count 0xF1 1
    let d := d.addFld (Reg.TIM_TRG_STAT.events n) 1
    let d := d.when (d.fld (Reg.TIM_TRG_COUNT.count n) != 0 && Nat.ble (d.fld (Reg.TIM_TRG_COUNT.count n)) (t.raised + 1)) fun d =>
      d.trgDisarm n
    let target := d.fld (Reg.TIM_TRG_CFG.target n)
    if target = 1 then d.slotsDue
    else if target = 2 then d.motionCycle (d.trgPeriod n) sense
    else if target = 3 then d.fanTriggerSample uvs
    else if target = 4 then (if d.fld Reg.PAC_CFG.trg = n then d.triggerLine (d.onLineBase b at_) else d)
    else if target = 5 then
      (if d.mode = Mode.safe then d
       else d.modTim fun t => { t with pulses := t.pulses ++ [(d.fld (Reg.TIM_TRG_CFG.gpio n), d.fld (Reg.TIM_TRG_CFG.width n))] })
    else if target = 6 then d.pmuSnap 2
    else d

end Sys2Proof.Machine
end

