-- ==== Sys2Proof/Machine/Waits.lean ====
section
/-! DEFINITION. Machine/Waits.lean: the WAIT commands (R105, Table 5-6) and what ends a wait. -/

namespace Sys2Proof.Machine

/-- What a waiting context's condition comes to: not yet, it holds, or the context ends with a detail code. -/
inductive WaitState where
  | notYet
  | holds
  | fails (detail : Nat)
deriving DecidableEq, Repr

/-- The state of a wait on a tile by its ID: of the definition that the directory gives the ID now. -/
def Dev.waitTile (d : Dev) (tile : Nat) : WaitState :=
  match Tab.find d.run.dir tile with
  | none => .fails 0x08
  | some n => if (d.tileDef n).failed.isSome then .fails 0x09 else if d.cached n then .holds else .notYet

/-- The decode of the tile that context `k` waits for, asked for (R128). -/
def Dev.waitDecode (k tile : Nat) (d : Dev) : Dev :=
  match Tab.find d.run.dir tile with
  | none => d
  | some n => d.requestDecode k n

/-- The state of a wait for the PAGE record of page index `n` of a job: RANGE when the job has ended with fewer pages recorded. -/
def Dev.waitPage (d : Dev) (js n : Nat) : WaitState :=
  let j := d.job js
  if d.seq.pages.any (fun e => e.2.job == js && e.2.index == n && e.2.recorded) then .holds
  else if j.closed && Nat.ble j.pages n then .fails Detail.range
  else .notYet

/-- The condition of a wait of context `k` (Table 5-6, R258). -/
def Dev.waitState (d : Dev) (k : Nat) : Waiting → WaitState
  | .nothing => .holds
  | .time t => if Nat.ble t d.tb2ns then .holds else .notYet
  | .sync c v => if Nat.blt ((d.fld (Reg.SEQ_SYNC.count c) + 2 ^ 32 - v) % 2 ^ 32) (2 ^ 31) then .holds else .notYet
  | .axis mask faulted =>
    if faulted ≠ 0 then .fails Detail.axisState
    else if (List.range 6).all (fun a => !(mask.testBit a) || d.axisRests a) then .holds else .notYet
  | .msr => if d.measureIdle k then .holds else .notYet
  | .tile n => d.waitTile n
  | .page (some js) n => d.waitPage js n
  | .page none _ => .notYet
  | .spit => if d.hlk.spits.any (·.ctx == some k) then .notYet else .holds

/-- A WAIT's effect: it goes on at once when its condition holds. -/
def Dev.waitBody (k : Nat) (w : Waiting) (d : Dev) : SeqOut :=
  match d.waitState k w with
  | .holds => .done d
  | .notYet => .waits w d
  | .fails c => .fail c d

/-- A WAIT of a kind: its 52 low bits, the operand bits the kind uses, its condition. -/
def Dev.cmdWait (k kind w mask : Nat) (body : Dev → SeqOut) (d : Dev) : Dev :=
  d.cmdExec k (word0 0x21 (kind * 2 ^ 52 + w % 2 ^ 52)) 0 1 (fun _ => [(reservedBad (w % 2 ^ 52) mask, Detail.reserved)]) body

/-- WAIT TIME: µs on TB2. -/
def Dev.waitTime (k w : Nat) (d : Dev) : Dev :=
  d.cmdWait k 0 w 0xFFFFFFFF fun d => d.waitBody k (.time (d.tb2ns + w % 2 ^ 32 * 1000))
/-- WAIT SYNC. -/
def Dev.waitSync (k w : Nat) (d : Dev) : Dev :=
  d.cmdWait k 1 w 0x1FFFFFFFFF fun d => d.waitBody k (.sync (w / 2 ^ 32 % 32) (w % 2 ^ 32))
/-- WAIT AXIS. -/
def Dev.waitAxis (k w : Nat) (d : Dev) : Dev := d.cmdWait k 2 w 0x3F fun d => d.waitBody k (.axis (w % 64) 0)
/-- WAIT MSR. -/
def Dev.waitMsr (k w : Nat) (d : Dev) : Dev := d.cmdWait k 3 w 0 fun d => d.waitBody k .msr
/-- WAIT TILE: the decode is asked for (R128); an undefined tile ends the context with TILE_UNDEF. -/
def Dev.waitTileCmd (k w : Nat) (d : Dev) : Dev :=
  d.cmdWait k 4 w 0xFFFFFF fun d => (d.waitDecode k (w % 2 ^ 24)).waitBody k (.tile (w % 2 ^ 24))
/-- WAIT PAGE: of the job open on context 0, or of the next one it opens. -/
def Dev.waitPageCmd (k w : Nat) (d : Dev) : Dev :=
  d.cmdWait k 5 w 0xFFFFFFFF fun d => d.waitBody k (.page (d.openJob 0) (w % 2 ^ 32))

/-- A measurement request that context `k` holds while an earlier one of its kind is pending, tried again (R265). -/
def Dev.measureRetry (k : Nat) (h : Held) (d : Dev) : Dev :=
  let v := h.w0 % 2 ^ 48
  let p := h.w0 / 2 ^ 48 % 256
  if !(d.requestLegal (p != 0x64)) then (SeqOut.fail Detail.ctxIllegal d).resume k h 1
  else if p = 0x63 then (d.sweepBody k v).resume k h 1
  else if p = 0x64 then (d.sampleBody k v).resume k h 1
  else (d.vsetBody k v).resume k h 1

/-- WAIT_SATISFIED (R105): the condition of waiting context `k` is tested again; it goes on, or ends with a detail code. A tile whose ID
has been bound anew has the new definition's decode asked for. -/
def Dev.waitSatisfied (k : Nat) (d : Dev) : Dev :=
  if d.ctxState k ≠ CtxState.waiting || !d.seqGoes then d
  else match (d.ctx k).held with
    | some h => d.measureRetry k h
    | none =>
      match d.waitState k (d.ctx k).wait with
      | .notYet => (match (d.ctx k).wait with | .tile t => d.waitDecode k t | _ => d)
      | .holds => ((d.modCtx k fun c => { c with wait := .nothing }).setCtxState k CtxState.running).seqHold k
      | .fails c => d.ctxFail k c

end Sys2Proof.Machine
end

