-- ==== Sys2Proof/Machine/PairLink.lean ====
section
/-! DEFINITION. Machine/PairLink.lean: the pair link (chapter 17): the link, its timers and beacons (R332 to R335), the messages of Table
17-1 (R336 to R342), failover (R346 to R349), disputes (R350 to R352), losing the link (R354). -/

namespace Sys2Proof.Machine

abbrev Role.active : Nat := 1
abbrev Role.shadow : Nat := 2

/-- The role that BEATs report: 0 none, 1 ACTIVE, 2 SHADOW. -/
def Dev.role (d : Dev) : Nat := if d.isActive then Role.active else if d.isShadow then Role.shadow else 0

/-- The ACTIVE role taken or given up: PAIR_STAT.active, GLB_STATUS.pair_active, PAIR_ACT_OUT (R330). -/
def Dev.roleSet (on : Bool) (d : Dev) : Dev := (d.setFlag Reg.PAIR_STAT.active on).setFlag Reg.GLB_STATUS.pair_active on

/-- The source ID of the pair's events. -/
abbrev pairSrc : Nat := 0x80

/-- The sub-states of GLB_SHADOW_OF. -/
abbrev SubState.mirror : Nat := 1
abbrev SubState.rejoin : Nat := 2

/-- The role given up (R346, R348): enable is cleared on every ring, without writing to it. -/
def Dev.roleLose (d : Dev) : Dev :=
  if !d.isActive then d
  else
    let d := (List.range 64).foldl (fun d n =>
      let d := (d.setFld (Reg.HDMA_RING_CTL.enable n) 0).setFld (Reg.HDMA_RING_STAT.state n) RingState.disabled
      let d := d.modRing n Ring.cleared
      if Nat.ble 56 n then d.backlogMark (n - 56) else d) d
    (d.roleSet false).modPair fun p => { p with held := [], dones := [] }

/-! ### What a SHADOW holds of its partner's job -/

/-- The partner's job dropped: the device is back in REJOIN and starts from nothing (R354, R356). Retirements, fault counts, ports and
the device's own requests of the host stand. -/
def Dev.shadowClear (d : Dev) : Dev :=
  let r := Dev.reset
  let d := { d with regs := d.regs.filter fun e => !(snapReg e.1 && e.1 / 0x100000 != 0xA) }
  let d := { d with
    seq := r.seq, dcr := r.dcr, asm := r.asm, nrg := { r.nrg with report := d.nrg.report }
    run := { r.run with decFaults := d.run.decFaults, encFaults := d.run.encFaults }
    cmp := { r.cmp with faults := d.cmp.faults }
    hdma := { d.hdma with rings := [], abort := none, orphans := [] }
    msr := { d.msr with sweeps := [], samples := [], vsets := [] } }
  let d := d.modHlk fun h => { h with
    spits := [], ports := h.ports.map fun e => (e.1, { e.2 with due := [], sent := [], frames := [], void := [] }) }
  let d := d.modPac fun p => { p with grid := false, datums := [], passes := [], pass := none, feed := none, feedReq := false }
  d.modPair fun p => { p with
    starts := [], mine := [], theirs := [], lstats := [], disputes := [], unresolved := [], bands := [], finished := [], announced := []
    records := [], ckpts := [] }

/-- A SHADOW returns to sub-state REJOIN (R45, R340, R354), and drops what it held of the partner's job. -/
def Dev.enterRejoin (d : Dev) : Dev :=
  ((d.when d.shadowServes Dev.shadowClear).setFld Reg.GLB_SHADOW_OF.sub_state SubState.rejoin).setFld Reg.PAIR_REJOIN_STAT.phase 0

/-! ### Disputes (R351, R352) -/

/-- The outcome of Table 17-4: 1 the ACTIVE in the minority, 2 the SHADOW, 3 no majority. -/
def disputeOutcome (activeDigest shadowDigest : Nat) (own other : Option Nat) : Nat :=
  match own, other with
  | some a, some b => if a ≠ b then 3 else if a = activeDigest then 2 else if a = shadowDigest then 1 else 3
  | _, _ => 3

/-- Is a port line still to be fired? -/
def Dev.lineStands (d : Dev) (k line : Nat) : Bool :=
  (d.hport k).due.any (·.line == line) || (d.hport k).frames.any (·.line == line) || (d.lookLines k).any (·.line == line) ||
  (d.storeLines k).any (·.line == line)

/-- A dispute with both recomputations known is settled (R351). -/
def Dev.disputeSettle (x : Dispute) (own other : Option Nat) (d : Dev) : Dev :=
  let shadow := d.isShadow
  let o := disputeOutcome (if shadow then x.theirs else x.mine) (if shadow then x.mine else x.theirs) own other
  let where_ := x.port * 2 ^ 32 + x.line
  let d := d.modPair fun p => { p with disputes := p.disputes.filter fun y => y != x }
  let d := d.addFld (if o = 3 then Reg.PAIR_DISPUTE.no_majority else Reg.PAIR_DISPUTE.resolved) 1
  let d := d.raiseTo (some (d.evtRing 0)) 0x1005 Sev.warn pairSrc where_ o
  if o = 3 then d.when (d.lineStands x.port x.line) fun d => d.modPair fun p => { p with unresolved := p.unresolved ++ [(x.port, x.line)] }
  else if (o = 1) = (shadow = false) then d.raiseTo none 0x1007 Sev.fault pairSrc where_ (own.getD 0)
  else if shadow then d.modPair fun p => { p with theirs := p.theirs.filter fun e => !(e.1 == x.port && e.2.1 == x.line) }
  else d

/-- A dispute settled once both recomputations are known. -/
def Dev.disputeCheck (port line : Nat) (d : Dev) : Dev :=
  match d.duo.disputes.find? (fun x => x.port == port && x.line == line) with
  | some x => match x.own, x.other with
    | some a, some b => d.disputeSettle x a b
    | _, _ => d
  | none => d

/-- A dispute of a port line changed. -/
def Dev.modDispute (port line : Nat) (f : Dispute → Dispute) (d : Dev) : Dev :=
  d.modPair fun p => { p with disputes := p.disputes.map fun x => if x.port = port ∧ x.line = line then f x else x }

/-- Line `l`, plane `q` of a committed band recomposed from its record, or decoded again from its segment (R350): the doses by column. -/
def Dev.bandAgain (d : Dev) (c : Checkpoint) (l q : Nat) : Option (Nat → Nat) :=
  let g := d.geom
  let cells : Option (Tab Nat) :=
    if c.copy then (d.decodeSegment c.lines c.band (l / 16)).map fun bs => cellsFrom g (l / 16 * 16) bs []
    else if c.overflow then none
    else (List.range ((g.cols + 127) / 128)).foldl (fun t i => t.bind fun t =>
      match d.recompose c.band c.lines l q (128 * i) (fun _ => none) c.entries (fun _ => 0) [] with
      | .values u => some (d.putRegion l q (128 * i) u t)
      | _ => none) (some [])
  cells.map fun t col => Tab.get t 0 (g.index l q col)

/-- Plane `q` of band lines 0 to `l` corrected from the checkpoint (R350): what line `l` comes to, by column. -/
def Dev.correctAgain (c : Checkpoint) (q : Nat) : Nat → Dev → Option (List Nat × Dev)
  | 0, d => (d.bandAgain c 0 q).map fun dose => d.correctPlane q (64 * c.band) dose
  | l + 1, d =>
    match d.correctAgain c q l with
    | some (_, d) => (d.bandAgain c (l + 1) q).map fun dose => d.correctPlane q (64 * c.band + l + 1) dose
    | none => none

/-- A disputed port line recomputed (R350): recomposed, corrected from the carry checkpoint, stitched, classed with the histories that the
store's lines give, and digested; none when a step fails. The device itself is left as it is. -/
def Dev.lineAgain (d : Dev) (k page line : Nat) : Option Nat :=
  match d.lineReady k page line, d.duo.ckpts.find? (fun c => c.page == page && c.band == line / 64) with
  | some l, some c =>
    let p := d.page page
    let carry := if c.band = 0 ∧ d.carryResets p then [] else c.carry
    match (d.modDcr fun x => { x with active := l.version, carry := carry }).correctAgain c (d.geom.plane k) (line % 64) with
    | none => none
    | some (out, _) =>
      match d.storeFetchAll k l.before with
      | (none, _) => none
      | (some ls, d) =>
        let doses := d.portLineBytes k line (d.passMasks p line) (fun col => out.getD col 0)
        let d := d.histRebuild k 0 (d.portElems k) ls
        some (lineDigest (d.classLine k (d.thermalBand page c.band k) false (d.deadElement k l.version) (unpackDoses doses)).1)
  | _, _ => none

/-- DISPUTE_RECOMPUTE_DONE (R350): the recomputation of the oldest dispute has given a digest, or failed; `fault` is what a computation
fault made of it. -/
def Dev.disputeRecomputed (fault : Option (Option Nat)) (d : Dev) : Dev :=
  match d.duo.disputes.find? (fun x => x.own.isNone) with
  | none => d
  | some x =>
    let result := fault.getD (d.lineAgain x.port x.page x.line)
    ((d.pairSend (.recomp x.port x.line result)).modDispute x.port x.line fun y => { y with own := some result }).disputeCheck x.port x.line

/-- RECOMP (R351): the partner's result. -/
def Dev.recompArrive (port line : Nat) (result : Option Nat) (d : Dev) : Dev :=
  (d.modDispute port line fun y => { y with other := some result }).disputeCheck port line

/-- The partner is gone: its recomputations fail. -/
def Dev.disputesAlone (d : Dev) : Dev :=
  d.duo.disputes.foldl (fun d x => d.disputeSettle x (x.own.getD none) none) d

/-! ### The link (R332, R333, R354) -/

/-- The ACTIVE goes on alone (R340, R354): the completions it held for the partner are written. -/
def Dev.activeAlone (d : Dev) : Dev :=
  let held := d.duo.held
  let d := (d.modPair fun p => { p with held := [], dones := [] }).disputesAlone
  held.foldl (fun d c => d.completionPost c) d

/-- The lanes the link runs on, of those that hold lock: the largest of 8, 4 and 2, or none (R332). -/
def lanesUsed (lanes : Nat) : Nat :=
  let n := popCount (lanes % 256) 8
  if 8 ≤ n then 8 else if 4 ≤ n then 4 else if 2 ≤ n then 2 else 0

/-- PAIR_LINK_UP (R331, R332): the lanes that hold lock (mask), two at least, the measured one-way delay and the partner's match value. -/
def Dev.pairLinkUp (lanes latency peerMatch : Nat) (d : Dev) : Dev :=
  if !d.paired || !d.timeRuns || d.flag Reg.PAIR_STAT.link_up || lanesUsed lanes == 0 then d
  else
    let d := (d.setFlag Reg.PAIR_STAT.link_up true).setFlag Reg.GLB_STATUS.pair_link_up true
    let d := (d.setFld Reg.PAIR_STAT.lanes lanes).setFld Reg.PAIR_STAT.latency_ns latency
    let d := d.setReg Reg.PAIR_MATCH_PEER.addr (BitVec.ofNat 32 peerMatch)
    let d := d.setFlag Reg.PAIR_STAT.match_ok (d.reg Reg.PAIR_MATCH.addr == BitVec.ofNat 32 peerMatch)
    d.raiseTo none 0x1001 Sev.info pairSrc (lanesUsed lanes) (latency % 65536)

/-- PAIR_LINK_DOWN (R332, R354): a lane loses lock; `lanes` still hold it. -/
def Dev.pairLinkDown (lanes : Nat) (d : Dev) : Dev :=
  if !d.pairUp then d
  else
    let d := (d.setFlag Reg.PAIR_STAT.link_up false).setFlag Reg.GLB_STATUS.pair_link_up false
    let d := ((d.setFld Reg.PAIR_STAT.lanes lanes).setFlag Reg.GLB_SHADOW_OF.valid false).setFlag Reg.PAIR_STAT.match_ok false
    if d.isActive then
      (d.activeAlone).raiseTo none 0x1002 Sev.degraded pairSrc (popCount (lanes % 256) 8) (d.fld Reg.PAIR_STAT.beacon)
    else d

/-- PAIR_REPLAY_TIMEOUT (R333): the message of a link sequence number is sent again. -/
def Dev.pairReplay (seq : Nat) (d : Dev) : Dev :=
  if !d.pairUp then d
  else match d.duo.out.reverse.find? (fun e => e.1 == seq % 2 ^ 16) with
    | some m => d.modPair fun p => { p with out := p.out ++ [m] }
    | none => d

/-- BEAT_TIMER (R334). -/
def Dev.beatTimer (d : Dev) : Dev := d.pairSend (.beat d.role d.mode d.isMirror (d.tbRead 3))

/-- TIME_TIMER (R334). -/
def Dev.timeTimer (d : Dev) : Dev := d.when d.isActive fun d => d.pairSend (.time (d.tbRead 3))

/-- BEACON_TIMER (R335): a beacon frame to the partner's MAC address, Ethertype 0x88B5, waits at both Ethernet ports. -/
def Dev.beaconTimer (d : Dev) : Dev :=
  if !d.paired || !d.timeRuns then d
  else
    let f := OwnFrame.beacon (d.fld Reg.PAIR_PEER_MAC_HI.mac_hi * 2 ^ 32 + d.fld Reg.PAIR_PEER_MAC_LO.mac_lo) d.role d.mode d.isMirror (d.tbRead 3) (d.duo.beacons % 2 ^ 32)
    ((d.modPair fun p => { p with beacons := p.beacons + 1 }).ownQueue 0 f).ownQueue 1 f

/-! ### Failover (R346 to R349) -/

/-- The Z, at its job, of a line start. -/
def Dev.zAt (d : Dev) (a : Nat) : Nat := match d.startJob a with | some e => a - e.2.start | none => 0

/-- The first Z whose lines the survivor claims: of the lines due whose commit it does not hold, else of the next line start. -/
def Dev.firstClaimed (d : Dev) : Nat :=
  let open_ := d.enabledPorts.flatMap fun k =>
    ((d.hport k).due.filter fun s => match d.theirLstat k s.line with | some (r, _) => !r | none => true).map (·.start)
  d.zAt (open_.foldl min d.nextStart)

/-- The bands committed whose BAND message never came are the survivor's to decide (R347). -/
def Dev.bandsDecide (d : Dev) : Dev :=
  (d.seq.pages.filter (fun e => !e.2.recorded)).foldl (fun d e =>
    (rangeFrom (d.nextDecision e.1) e.2.bands).foldl (fun d b => d.thermalDecide e.1 b) d) d

/-- FAILOVER (R347): a SHADOW takes the ACTIVE role for a trigger of Table 17-7: its mode becomes the partner's print mode `m`, or
STANDBY. -/
def Dev.failover (trigger cause m : Nat) (d : Dev) : Dev :=
  if !d.isShadow || d.flt.safeReq.isSome then d
  else
    let first := d.firstClaimed
    let d := d.disputesAlone
    let d := d.modPair fun p => { p with starts := [], disputes := [], dones := [], held := [] }
    let d := (d.setFld Reg.GLB_SHADOW_OF.sub_state 0).setFld Reg.PAIR_REJOIN_STAT.phase 0
    let d := (d.modeChange (if Mode.isPrint m then m else Mode.standby) 5).roleSet true
    let d := ((d.setFlag Reg.PAIR_STAT.partner_lost true).addFld Reg.PAIR_FAILOVER.count 1).bandsDecide
    let d := d.raiseTo (some 0) 0x1003 Sev.degraded pairSrc trigger (cause * 2 ^ 32 + first)
    let d := d.when (!(Mode.isPrint m)) fun d => d.govSet false (d.reg Reg.PAC_PERIOD.addr).toNat
    (d.measureResume).pacShow

/-- The partner's mode as last reported. -/
def Dev.peerMode (d : Dev) : Nat := match d.duo.peer with | some p => p.mode | none => 0

/-- The modes of a partner that cannot fire (R347). -/
def Mode.gone (m : Nat) : Bool := m == Mode.safe || m == Mode.reset || m == Mode.load || m == Mode.sleep

/-- A report of the partner, from a BEAT or a beacon, that makes a SHADOW take the role. -/
def Dev.takeoverCheck (was mode : Nat) (d : Dev) : Dev :=
  d.when (d.isShadow && Mode.gone mode) fun d => d.failover 2 0 was

/-- RELEASE (R346, R347). -/
def Dev.releaseArrive (cause : Nat) (d : Dev) : Dev := d.failover 1 cause d.peerMode

/-- PAIR_SILENCE_TIMEOUT (R347, R354): for pair_tmo_us no pair-link message has come. With no beacon current, and while printing no ACK
that names the partner's input, the SHADOW takes the role; else, with the link down, it returns to REJOIN. -/
def Dev.pairSilence (d : Dev) : Dev :=
  if !d.isShadow then d
  else
    let heads : Bool := match d.duo.otherAck with
      | some t => Mode.isPrint d.peerMode && Nat.ble d.tb2ns (t + d.fld Reg.PAIR_CFG.pair_tmo_us * 1000)
      | none => false
    if !d.flag Reg.PAIR_STAT.beacon && !heads then d.failover 3 0 d.peerMode
    else if d.pairUp then d
    else d.enterRejoin

/-- A completion that the old ACTIVE announced is written unless the slot shows it is done or reposted (R341, R348). -/
def Dev.serveAnnounced (reads : List SlotRead) (c : Completion) (d : Dev) : Dev :=
  match reads.find? (fun r => r.1 == c.ring && r.2.1 == c.index) with
  | some r => if Nat.ble 128 (leAt r.2.2 31 1) && r.2.2.take 24 == c.raw.take 24 then d.completionWrite c else d
  | none => d

/-- A completion that was not announced is written, with its D2H data, its event and its interrupt (R348). -/
def Dev.serveFinished (c : Completion) (d : Dev) : Dev :=
  let d := c.data.foldl (fun d w => d.toHost (.write w.1 w.2)) d
  let d := d.completionWrite c
  let d := d.when (c.flags.testBit 2) fun d =>
    d.raiseTo (some (d.fld (Reg.HDMA_RING_CFG.evr c.ring))) 0x0304 Sev.info 0x18 (c.ring * 2 ^ 24 + c.status * 2 ^ 16 + c.index) c.arg1
  d.when (c.flags.testBit 1) fun d => d.ringMsix c.ring

/-- An event record announced to the survivor whose reading the host has not confirmed is written again (R348). -/
def Dev.serveRecord (r : Nat × Nat × List Byte) (d : Dev) : Dev :=
  let n := r.1
  let back := d.ringDiff n (d.ringHead n) r.2.1
  if !d.ringEnabled n || back == 0 || Nat.blt (d.ringDiff n (d.ringHead n) (d.ringTail n)) back then d
  else
    let a := d.slotAddr n r.2.1
    d.recordWrite a r.2.2

/-- FAILOVER_RING_SERVE (R348): the survivor, having read the announced slots, completes what is owed and serves the rings. -/
def Dev.failoverServe (reads : List SlotRead) (d : Dev) : Dev :=
  if !(d.flag Reg.PAIR_STAT.partner_lost) || !d.isActive then d
  else
    let d := d.duo.announced.foldl (fun d c => d.serveAnnounced reads c) d
    let d := d.duo.finished.foldl (fun d c => d.serveFinished c) d
    let d := d.duo.records.foldl (fun d r => d.serveRecord r) d
    let d := d.modPair fun p => { p with announced := [], finished := [], records := [] }
    (List.range 56).foldl (fun d n => d.ringKick n) d

/-- SUPPLY_TRIP (R349). -/
def Dev.supplyTrip (d : Dev) : Dev := if d.timeRuns then d.raiseOpen none 0x0113 Sev.fatal 0x08 else d

/-! ### Messages received -/

/-- BEAT (R334, R347): the partner's role, mode and sub-state. -/
def Dev.beatArrive (role mode : Nat) (mirror : Bool) (d : Dev) : Dev :=
  if !d.pairUp then d
  else
    let was := d.peerMode
    let served := d.pairServes
    let d := d.modPair fun p => { p with peer := some ⟨role, mode, mirror⟩ }
    let d := (d.setFlag Reg.GLB_SHADOW_OF.valid true).setFld Reg.GLB_SHADOW_OF.partner_mode mode
    let d := d.when (served && !d.pairServes) Dev.activeAlone
    let d := d.when (d.isShadow && Mode.isPrint was && !(Mode.isPrint mode)) fun d => d.modPac fun p => { p with grid := false }
    d.takeoverCheck was mode

/-- BEACON_RECEIVE (R335, R347): a beacon frame of the partner. -/
def Dev.beaconArrive (mode : Nat) (d : Dev) : Dev :=
  if !d.paired || !d.timeRuns then d else (d.setFlag Reg.PAIR_STAT.beacon true).takeoverCheck d.peerMode mode

/-- BEACON_NOT_CURRENT (R335). -/
def Dev.beaconLost (d : Dev) : Dev := d.setFlag Reg.PAIR_STAT.beacon false

/-- TIME (R336): the SHADOW steers TB3 to the ACTIVE's, which it holds within 0.5 ns; how is not stated, so the deviation and the rate
it takes are free values, the rate within the limit of R379. -/
def Dev.timeArrive (tb3 : Nat) (d : Dev) : Dev :=
  if !d.isShadow || !d.pairUp then d
  else
    let n := d.freshSeed
    let off : Int := (Config.freeNat n % (2 ^ 40 + 1) : Nat) - 2 ^ 39
    let adj : Int := (Config.freeNat (n + 1) % 1099511628 : Nat) - 549755814
    let v : Int := (tb3 * 2 ^ 24 + d.fld Reg.PAIR_STAT.latency_ns * 2 ^ 40 : Nat) + off
    (d.useFree 2).modBase 3 fun t => { t with v := v.toNat % 2 ^ 104, adj := adj }

/-- LINESTART (R336): the t_ls and the overspeed mask of the ACTIVE's line start of Z: kept until the device's own line start, or
applied to the lines of that line start that are due. -/
def Dev.lineStartArrive (z t mask : Nat) (d : Dev) : Dev :=
  if !d.shadowServes then d
  else
    let job := d.startJob d.pac.starts
    let a := match job with | some e => e.2.start + z | none => 0
    if job.isNone || Nat.blt d.pac.starts a then d.modPair fun p => { p with starts := p.starts ++ [(z, t, mask)] }
    else (List.range 32).foldl (fun d k => d.modPort k fun h => { h with due := h.due.map fun s =>
      if s.start ≠ a then s
      else { s with
        time := t + d.fld Reg.PAC_FIRE_DLY.fire_dly_ns * 65536
        cause := if s.cause = 0 ∧ mask.testBit k then Blank.overspeed else s.cause } }) d

/-- The line starts of a SHADOW are numbered from 1 again, with the ACTIVE's entry to its print mode (R219, R336): jobs that it has
opened ahead keep their place behind the lines made. -/
def Dev.shadowSession (d : Dev) : Dev :=
  let n := d.pac.starts
  let live := fun (js : Nat) (j : Job) => !j.closed || d.seq.pages.any (fun e => e.2.job == js && !e.2.recorded)
  let d := d.modSeq fun q => { q with
    jobs := q.jobs.map (fun e => (e.1, if live e.1 e.2 then { e.2 with start := e.2.start - n } else { e.2 with start := 0, cursor := 0 }))
    pages := q.pages.map (fun e => (e.1, if e.2.recorded then { e.2 with segs := [] } else e.2)) }
  let d := d.modPac fun a => { a with starts := 0, lastTime := none, slow := 0, lastFire := [], excursion := 0 }
  d.modHlk fun h => { h with ports := h.ports.map (fun e => (e.1, { e.2 with upAt := e.2.upAt - n })) }

/-- DATUM (R336): P0 at the entry to the print mode (kind 0), a sheet's (1), a pass's (2). -/
def Dev.datumArrive (kind : Nat) (position : Nat) (d : Dev) : Dev :=
  if !d.shadowServes then d
  else if kind = 0 then ((d.shadowSession).gridAt (position : Int) 1).pacShow
  else if kind = 1 then
    if d.isSheet then d.datumAdd (d.firstStartAt position (d.fld Reg.PAC_TOS_OFS.offset)) else d
  else if d.isScan then d.passBegin position
  else d

/-- LSTAT (R344, R345): kept while the line is still to be fired on its port. -/
def Dev.lstatArrive (port line : Nat) (ready : Bool) (cause : Nat) (d : Dev) : Dev :=
  if d.pairLines && d.lineStands port line then d.modPair fun p => { p with lstats := p.lstats ++ [(port, line, ready, cause)] } else d

/-- BAND (R337): the ACTIVE's bands of a page band. -/
def Dev.bandArrive (page band v : Nat) (d : Dev) : Dev :=
  if !d.shadowServes then d
  else
    let d := d.modPair fun p => { p with bands := p.bands ++ [(page, band, v)] }
    (d.seq.pages.filter (fun e => !e.2.recorded && e.2.index == page)).foldl (fun d e => d.thermalTake e.1 (e.2.bands + 1)) d

/-- A relayed register write applied as the host's (R339). -/
def Dev.relayedWrite (a : Nat) (v : Word) (d : Dev) : Dev :=
  let n := (a - 0x301000) / 0x40
  let ring := Nat.ble 0x301000 a && Nat.blt n 64
  if ring && a == Reg.HDMA_RING_BASE_LO.addr n then d.loWriteStage a v
  else if ring && a == Reg.HDMA_RING_BASE_LO.addr n + 4 then d.hiWriteCommit a v
  else if ring && a == Reg.HDMA_RING_CTL.addr n then (if v.getLsbD 0 then d.ringEnable n v else d.ringDisable n v)
  else if ring && a == Reg.HDMA_RING_DB.addr n then
    (if n < 56 then d.ringDoorbell n (v.toNat % 65536) else d.eventRingConsume n (v.toNat % 65536))
  else if a = Reg.HDMA_ABORT.addr then
    (if v.getLsbD 16 then d.abortScope (v.toNat / 2 ^ 24 % 64) (v.toNat % 65536) else d.abortOne (v.toNat / 2 ^ 24 % 64) (v.toNat % 65536))
  else if a = Reg.HDMA_WIN_BASE.addr then d.registerWrite a v
  else if a = Reg.SEQ_SYNC_INC.addr then d.syncInc v
  else match (List.range 8).find? (fun k => a == Reg.SEQ_CTX_DB.addr k) with
    | some k => d.ctxDoorbell k
    | none => d

/-- Is a register write one that the ACTIVE relays (R339)? -/
def relayed (a : Nat) : Bool :=
  let n := (a - 0x301000) / 0x40
  (Nat.ble 0x301000 a && Nat.blt n 64 && (a == Reg.HDMA_RING_BASE_LO.addr n || a == Reg.HDMA_RING_BASE_LO.addr n + 4 ||
    a == Reg.HDMA_RING_CTL.addr n || a == Reg.HDMA_RING_DB.addr n)) ||
  a == Reg.HDMA_ABORT.addr || a == Reg.HDMA_WIN_BASE.addr || a == Reg.SEQ_SYNC_INC.addr ||
  (List.range 8).any fun k => a == Reg.SEQ_CTX_DB.addr k

/-- HOST (R339). -/
def Dev.hostArrive (w : HostWrite) (d : Dev) : Dev :=
  if !d.shadowServes then d
  else match w with
    | .reg a v => d.relayedWrite a (BitVec.ofNat 32 v)
    | .bar2 o bs => d.bar2Write 0x82 o bs

/-- DONE (R340): on the ACTIVE the completion it held is written, its own DONE before it; on the SHADOW it announces the completion, and
one that differs leaves the SHADOW out of step. -/
def Dev.doneArrive (ring index status result : Nat) (d : Dev) : Dev :=
  let here := fun (c : Completion) => c.ring == ring && c.index == index
  if d.pairServes then
    match d.duo.held.find? here with
    | some c => ((d.modPair fun p => { p with held := p.held.filter fun x => !(here x) }).pairSend c.done).completionPost c
    | none => d.modPair fun p => { p with dones := p.dones ++ [(ring, index, status, result)] }
  else if d.shadowServes then
    match d.duo.finished.find? here with
    | none => d
    | some c =>
      if c.status = status ∧ c.result = result then
        d.modPair fun p => { p with
          finished := p.finished.filter fun x => !(here x), announced := p.announced.filter (fun x => !(here x)) ++ [c] }
      else
        (d.raiseTo none 0x1008 Sev.warn pairSrc (ring * 2 ^ 16 + index) (status * 2 ^ 8 + c.status)).enterRejoin
  else d

/-- The ring that a chapter names for an event of severity WARN or above, by its code and arg0 (R317). -/
def Dev.chapterRing (d : Dev) (code arg0 : Nat) : Option Nat :=
  if code = 0x0401 then some (d.evtRing (arg0 / 2 ^ 56 % 8))
  else if code = 0x0501 then some (d.evtRing (arg0 / 2 ^ 40 % 256))
  else if [0x0403, 0x0502, 0x0605, 0x0606, 0x0702, 0x0703, 0x0801, 0x0901, 0x0A03, 0x0A06, 0x0B04, 0x1004, 0x1005, 0x1006].contains code then
    some (d.evtRing 0)
  else if code = 0x1003 then some 0
  else none

/-- EVENT (R342): on the ACTIVE the SHADOW's event, posted with flag PARTNER; on the SHADOW a record that the ACTIVE is about to write,
which tracks the ring. -/
def Dev.eventArrive (ring slot : Nat) (bs : List Byte) (d : Dev) : Dev :=
  if d.isActive then
    let code := leAt bs 8 2
    let arg0 := leAt bs 16 8
    d.eventRoute ⟨leAt bs 0 8, leAt bs 11 1, leAt bs 10 1 % 16, code, arg0, leAt bs 24 8, d.chapterRing code arg0, false, true, false⟩
  else if d.shadowServes && Nat.ble 56 ring && Nat.blt ring 64 then
    let seq := leAt bs 12 4
    let d := d.modPair fun p => { p with records := p.records.filter (fun r => !(r.1 == ring && r.2.1 == slot)) ++ [(ring, slot, bs)] }
    let d := (d.setFld (Reg.HDMA_RING_PTR.head ring) ((slot + 1) % d.ringSlots ring)).setFld (Reg.HDMA_RING_SEQ.seq ring) seq
    d.modFlt fun f => { f with rings := Tab.upd f.rings EvRing.empty (ring - 56) fun q => { q with nextSeq := seqNext seq } }
  else d

/-- A completion of an external request that the ACTIVE reports: 0 sweep, 1 sample, 2 setpoints, 3 spit, of a context (R338). -/
def Dev.requestReported (r : Nat) (d : Dev) : Dev :=
  let k := r / 16
  match r % 16 with
  | 0 => d.modMsr fun m => { m with sweeps := m.sweeps.filter (·.ctx != k) }
  | 1 => d.modMsr fun m => { m with samples := m.samples.filter (·.ctx != k) }
  | 2 => d.modMsr fun m => { m with vsets := m.vsets.filter (·.ctx != k) }
  | _ => d.modHlk fun h => { h with spits := h.spits.filter (·.ctx != some k) }

/-- STATE (R338, R397): the ACTIVE's VSET codes and axes, but for the levels of the own switches, the lines its requests wrote (source 0x81), then their completions. -/
def Dev.stateArrive (vset : List (Nat × Nat)) (axes : List (Nat × Nat × Axis)) (done : List Nat) (lines : List (Nat × List Byte))
    (d : Dev) : Dev :=
  if !d.isShadow then d
  else
    let d := d.vsetDrive vset
    let d := axes.foldl (fun d e =>
      (d.modMot fun m => { m with told := Tab.set m.told 0 e.1 e.2.1 }).modAxis e.1 fun x => { e.2.2 with home := x.home, lim := x.lim }) d
    let d := lines.foldl (fun d l => d.memWrite 0x81 l.1 l.2) d
    done.foldl (fun d r => d.requestReported r) d

end Sys2Proof.Machine
end

