-- ==== Sys2Proof/Machine/Rejoin.lean ====
section
/-! DEFINITION. Machine/Rejoin.lean: entering SHADOW (R331) and the rejoin (R355, R356). -/

namespace Sys2Proof.Machine

/-- SHADOW_ENTRY (R331, Table 2-2): in STANDBY, with the link up and the partner reporting ACTIVE: a device named SHADOW enters SHADOW when
the match values agree, else posts EV_PAIR_IMAGE_MISMATCH; a device named ACTIVE that does not hold the role posts
EV_PAIR_ROLE_CONFLICT. -/
def Dev.shadowEntry (d : Dev) : Dev :=
  let there : Bool := match d.duo.peer with | some p => p.role == Role.active | none => false
  if d.mode ≠ Mode.standby ∨ !d.pairUp ∨ !there ∨ d.isActive ∨ d.flt.safeReq.isSome ∨ d.glb.sleepTrigger.isSome then d
  else if d.fld Reg.PAIR_CFG.role = 0 then d.raiseTo none 0x100D Sev.warn pairSrc 0 d.peerMode
  else if !(d.flag Reg.PAIR_STAT.match_ok) then
    d.raiseTo none 0x100C Sev.warn pairSrc (d.reg Reg.PAIR_MATCH.addr).toNat (d.reg Reg.PAIR_MATCH_PEER.addr).toNat
  else ((d.modeChange Mode.shadow 5).setFld Reg.GLB_SHADOW_OF.sub_state SubState.rejoin).setFld Reg.PAIR_REJOIN_STAT.phase 0

/-- The 64 KiB frames of the pair's regions. -/
def Dev.regionFrames (d : Dev) : List Nat := d.pairRegions.flatMap fun r => (List.range r.2.1).map (r.1 + ·)

/-- Rejoin bytes counted. -/
def Dev.rejoinBytes (n : Nat) (d : Dev) : Dev := d.addPair Reg.PAIR_REJOIN_BYTES_LO.addr n

/-- Does a frame lie in a region that goes through the rejoin stream? -/
def Dev.frameCompressed (d : Dev) (n : Nat) : Bool := d.pairRegions.any fun r => !r.2.2 && Nat.ble r.1 n && Nat.blt n (r.1 + r.2.1)

/-- One frame sent to the SHADOW; a compressed region's goes through the stream (R355). -/
def Dev.frameSend (n : Nat) (d : Dev) : Dev :=
  let bs := d.mem.readBytes (65536 * n) 65536
  let d := d.when (d.frameCompressed n) fun d => d.modRun fun r => { r with
    rejoin := r.rejoin.map fun x => { x with input := x.input ++ bs, frames := x.frames ++ [n] } }
  (d.pairSend (.frame n bs)).rejoinBytes 65536

/-- Frames sent to the SHADOW. -/
def Dev.framesSend (fs : List Nat) (d : Dev) : Dev := fs.foldl (fun d n => d.frameSend n) d

/-- The frames recorded as written since they were sent, that lie in a region, sent again; the record is empty again. -/
def Dev.dirtySend (d : Dev) : Dev :=
  let fs := d.duo.dirty.filter fun n => d.regionFrames.contains n
  (d.modPair fun p => { p with dirty := [] }).framesSend fs

/-- The rejoin stream gives its encoder back (R138). -/
def Dev.rejoinEncoderFree (d : Dev) : Dev :=
  let m := d.fld Reg.RUN_ENC_STAT.rejoin
  let d := (List.range 4).foldl (fun d e => if m.testBit e then d.encBusy e false else d) d
  ((d.setFld Reg.RUN_ENC_STAT.rejoin 0).modRun fun r => { r with rejoin := none }).segAssign

/-- The present time in ms of TB2, for a rejoin's duration. -/
def Dev.nowMs (d : Dev) : Nat := d.tb2ns / 1000000

/-- REJOIN_START (R355, R138): the ACTIVE's partner reports REJOIN, and the match values agree: phase 1 sends every frame of every region;
a compressed region takes an encoder, and STATE tells the VSET codes that the SHADOW drives from now on (Table 13-5). -/
def Dev.rejoinStart (d : Dev) : Dev :=
  let there : Bool := match d.duo.peer with | some p => p.role == Role.shadow && !p.mirror | none => false
  if !d.isActive || !d.pairUp || !there || !d.flag Reg.PAIR_STAT.match_ok || (d.rejoinPhase != 0 && d.rejoinPhase != 6) then d
  else
    let fs := d.regionFrames
    let d := d.modPair fun p => { p with dirty := [], snap := none, startMs := d.nowMs, rejoinMode := d.mode }
    let d := ((d.setFld Reg.PAIR_REJOIN_STAT.phase 1).setFld Reg.PAIR_REJOIN_STAT.round 0).setFld Reg.PAIR_REJOIN_STAT.pct 0
    let d := d.when (d.pairRegions.any fun r => !r.2.2) fun d => (d.modRun fun r => { r with rejoin := some ⟨[], [], false⟩ }).segAssign
    let codes := (List.range 32).map fun k => (k, d.fld (Reg.MSR_VSET_NOW.code k))
    ((d.raiseTo none 0x1009 Sev.info pairSrc fs.length 0).pairSend (.state codes [] [] [])).framesSend fs

/-- A dirty round (R355, phase 2). -/
def Dev.rejoinRound (n : Nat) (d : Dev) : Dev :=
  ((d.setFld Reg.PAIR_REJOIN_STAT.phase 2).setFld Reg.PAIR_REJOIN_STAT.round n).dirtySend

/-- The pause is over (R355, phases 3 and 4): the recorded frames, then the snapshot; its length is not stated and is a free value. -/
def Dev.rejoinState (d : Dev) : Dev :=
  let d := d.when d.pageIsOpen.not Dev.rejoinCapture
  match d.duo.snap with
  | none => d
  | some s =>
    let d := ((d.setFld Reg.PAIR_REJOIN_STAT.phase 4).dirtySend).pairSend (.snapshot s)
    ((d.rejoinBytes (Config.freeNat d.freshSeed)).useFree 1).modPair fun p => { p with snap := none }

/-- A rejoin is complete. -/
def Dev.rejoinFinish (d : Dev) : Dev :=
  let ms := (d.nowMs - d.duo.startMs) % 2 ^ 32
  (d.setFld Reg.PAIR_REJOIN_STAT.phase 6).setReg Reg.PAIR_REJOIN_MS.addr (BitVec.ofNat 32 ms)

/-- The SHADOW's contexts go on with the snapshot's commands, and its rings fetch descriptors (R355, phase 4). -/
def Dev.shadowResume (d : Dev) : Dev :=
  ((List.range 56).foldl (fun d n => d.ringKick n) d).stageNext

/-- MIRROR (R45, R355, phase 5): frames go out from the first line of each port whose deadline lies ahead. -/
def Dev.mirrorEnter (d : Dev) : Dev :=
  let d := d.modHlk fun h => { h with ports := h.ports.map fun e => (e.1, { e.2 with upAt := d.pac.starts }) }
  (d.setFld Reg.GLB_SHADOW_OF.sub_state SubState.mirror).rejoinFinish

/-- Does dose correction stand at a band boundary: no committed band, or one of which no line or every line is corrected? -/
def Dev.bandBoundary (d : Dev) : Bool :=
  match d.cmp.committed with
  | some c => c.next == 0 || c.next == c.lines
  | none => true

/-- REJOIN_PHASE_END (R355, Table 17-5): the phase that runs has met its end condition. -/
def Dev.rejoinPhaseEnd (d : Dev) : Dev :=
  if !d.pairUp then d
  else if d.isActive then
    match d.rejoinPhase with
    | 1 => (d.setFld Reg.PAIR_REJOIN_STAT.pct 100).rejoinRound 1
    | 2 =>
      let n := d.fld Reg.PAIR_REJOIN_STAT.round
      if d.duo.dirty.length ≤ 256 ∨ 8 ≤ n then d.setFld Reg.PAIR_REJOIN_STAT.phase 3 else d.rejoinRound (n + 1)
    | 3 => d.rejoinState
    | 4 => d.setFld Reg.PAIR_REJOIN_STAT.phase 5
    | 5 =>
      let d := (d.rejoinEncoderFree).rejoinFinish
      d.raiseTo none 0x100A Sev.info pairSrc (d.reg Reg.PAIR_REJOIN_MS.addr).toNat (d.pair Reg.PAIR_REJOIN_BYTES_LO.addr)
    | _ => d
  else if d.isShadow then
    match d.rejoinPhase with
    | 4 => (d.setFld Reg.PAIR_REJOIN_STAT.phase 5).shadowResume
    | 5 => if d.bandBoundary then d.mirrorEnter else d
    | _ => d
  else d

/-- REJOIN_ABANDON (R356): reason 1 the link is down, 2 a region reaches the SHADOW's F, 3 the ACTIVE has left its mode. -/
def Dev.rejoinAbandon (reason : Nat) (d : Dev) : Dev :=
  let phase := d.rejoinPhase
  let now := if d.isShadow then d.peerMode else d.mode
  let holds := if reason = 1 then !d.pairUp else if reason = 2 then d.duo.beyond else reason == 3 && now != d.duo.rejoinMode
  if !holds || phase == 0 || phase == 6 then d
  else
    let served := d.pairServes
    let d := d.when d.isShadow Dev.enterRejoin
    let d := (d.setFld Reg.PAIR_REJOIN_STAT.phase 0).modPair fun p => { p with dirty := [], snap := none, beyond := false }
    let d := (d.when d.isActive Dev.rejoinEncoderFree).when (served && !d.pairServes) Dev.activeAlone
    d.raiseTo none 0x100B Sev.warn pairSrc reason phase

/-- REJOIN, a region frame (R355): written with source 0x80 by a SHADOW in REJOIN. One at or beyond F shows that the rejoin is to be
abandoned (R356). -/
def Dev.frameArrive (n : Nat) (bytes : List Byte) (d : Dev) : Dev :=
  if !d.isShadow || d.isMirror then d
  else if !(d.inFitted (65536 * n) 65536) then d.modPair fun p => { p with beyond := true }
  else
    let d := if d.rejoinPhase = 0 ∨ d.rejoinPhase = 6 then
        (d.setFld Reg.PAIR_REJOIN_STAT.phase 1).modPair fun p => { p with startMs := d.nowMs, rejoinMode := d.peerMode, beyond := false }
      else d
    (d.memWrite 0x80 (65536 * n) (bytes.take 65536)).rejoinBytes 65536

/-- The pages of a snapshot: the lines corrected before the band are the ACTIVE's to settle. -/
def Dev.snapPage (d : Dev) (p : Page) : Page := { p with settled := d.pageExpected { p with length := p.corrected } }

/-- REJOIN, the snapshot (R355, phase 4): the sequencer, the directory with its tiles to be decoded again, the band to be corrected from
its first line, the carries, the histories, the grid, the rings. -/
def Dev.snapshotArrive (s : Snap) (d : Dev) : Dev :=
  if !d.isShadow || d.isMirror then d
  else
    let d := { d with regs := d.regs.filter fun e => !(snapReg e.1) }
    let d := s.regs.foldl (fun d e => d.setReg e.1 e.2) d
    let defs : Tab TileDef := s.run.defs.map fun (e : Nat × TileDef) => (e.1, { e.2 with busy := e.2.refs != 0 })
    let decodes : List Decode := (defs.filter fun (e : Nat × TileDef) => e.2.refs != 0).map fun (e : Nat × TileDef) => ⟨.tile e.1, none, none, none⟩
    let pages : Tab Page := s.seq.pages.map fun (e : Nat × Page) => (e.1, d.snapPage e.2)
    let rings : Tab Ring := s.rings.map fun (e : Nat × Ring) => (e.1, { e.2 with copy := none })
    let d := { d with
      seq := { s.seq with pages := pages }
      run := { s.run with
        defs := defs, cache := [], decFaults := d.run.decFaults, encFaults := d.run.encFaults, segments := [], export_ := none, rejoin := none
        decodes := decodes }
      cmp := { s.cmp with faults := d.cmp.faults }
      dcr := s.dcr, asm := Dev.reset.asm
      nrg := { d.nrg with hist := s.hist, recent := s.recent, lastClass := s.lastClass }
      hdma := { d.hdma with rings := rings }
      msr := { d.msr with sweeps := s.msr.sweeps, samples := s.msr.samples, vsets := s.msr.vsets } }
    let d := d.modPac fun p => { s.pac with enc := p.enc, lastMove := p.lastMove, outs := p.outs, balls := p.balls, govOut := p.govOut, feedReq := false }
    let d := d.modPair fun p => { p with ckpts := s.ckpts }
    let d := (d.modHlk fun h => { h with spits := s.spits }).modMot fun m => { m with asked := s.asked }
    ((d.rejoinBytes (Config.freeNat d.freshSeed)).useFree 1).setFld Reg.PAIR_REJOIN_STAT.phase 4

/-- REJOIN (R355). -/
def Dev.rejoinArrive (part : RejoinPart) (d : Dev) : Dev :=
  match part with
  | .frame n bytes => d.frameArrive n bytes
  | .snapshot s => d.snapshotArrive s

end Sys2Proof.Machine
end

