-- ==== Sys2Proof/Machine/Modes.lean ====
section
/-! DEFINITION. Machine/Modes.lean: the operating modes (chapter 2, R34 to R47; R440, R441), start-up (R62), FILL (R143, R285, R286) and the
voltage loop (R17, R19). -/

namespace Sys2Proof.Machine

/-! ### RESET and SLEEP -/

/-- The power of everything but the Fantail goes: every register outside the FAN block is back at its reset value, all state of the
device is lost but the flash, and what has been sent stays sent. A flash command under way is cut off. -/
def Dev.powerLoss (d : Dev) : Dev :=
  let d := d.lanesDark
  let flash := d.flashAbandon
  let r := Dev.reset
  let d' : Dev := { r with
    regs := d.regs.filter fun e => fanReg e.1
    freeCtr := flash.freeCtr
    cfg := { r.cfg with flash := flash.cfg.flash }
    hdma := { r.hdma with out := d.hdma.out }
    hlk := { r.hlk with out := d.hlk.out }
    tim := { r.tim with out := d.tim.out, pulses := d.tim.pulses }
    duo := { r.duo with out := d.duo.out }
    pac := { r.pac with outs := d.pac.outs.map fun (e : Nat × EncOut) => (e.1, { EncOut.rest with sent := e.2.sent, idx := e.2.idx }) }
    glb := { r.glb with avsOut := d.glb.avsOut }
    fan := d.fan }
  d'.setFlag Reg.GLB_STATUS.aon_ok d.aonOk

/-- RESET (R36, R46): entered at once from any mode; the change is written to the retained log, with trigger 4 when a Fantail wake
led to it, else 0. -/
def Dev.enterReset (d : Dev) : Dev :=
  let trigger := if d.mode = Mode.sleep ∧ d.fan.wakeOwed.isSome then 4 else 0
  let d := d.modFan fun f => { f with keepwet := f.keepwet && (trigger == 4 || d.mode == Mode.reset) }
  (d.when (d.mode != Mode.reset) fun d => d.fanLog FanLog.mode (d.mode * 16 + Mode.reset) 0x0101 trigger).powerLoss

/-- SLEEP_ENTRY_COMPLETE (R42, R46, R406): every context having ended its chain, the device reports SLEEP reached. -/
def Dev.sleepComplete (d : Dev) : Dev :=
  match d.glb.sleepTrigger with
  | none => d
  | some t =>
    if d.mode ≠ Mode.standby ∨ d.flt.safeReq.isSome ∨ (List.range 8).any (fun k => d.ctxState k != CtxState.idle) then d
    else
      let d := d.fanLog FanLog.mode (Mode.standby * 16 + Mode.sleep) 0x0101 t
      ((d.sweepLeave.powerLoss.setFld Reg.GLB_MODE.mode Mode.sleep).setFld Reg.GLB_MODE.prev_mode Mode.standby).fanSleep

/-- RESET_TO_LOAD (R35, R62): the clocks are there and the PLLs have locked; the flash's SFDP says how it is read. -/
def Dev.resetToLoad (ifMode density major minor : Nat) (d : Dev) : Dev :=
  if d.mode ≠ Mode.reset then d
  else
    let d := (d.setFlag Reg.GLB_STATUS.refclk_ok true).setFlag Reg.GLB_STATUS.pll_serdes true
    let d := (d.setFlag Reg.GLB_STATUS.pll_time true).setFld Reg.CFG_FLASH_INFO.if_mode ifMode
    let d := (d.setFld Reg.CFG_FLASH_INFO.density_log2 density).setFld Reg.CFG_FLASH_INFO.sfdp_major major
    let d := (d.setFld Reg.CFG_FLASH_INFO.sfdp_minor minor).setFld Reg.HDMA_PCI_STAT.mrrs 2
    d.modeChange Mode.load 0

/-! ### LOAD (R42, R66, R440) -/

/-- Is a register one that shows what the entry to LOAD ends or loses: SEQ_STAT to SEQ_PAGE and the sync counters; the cache, the
directory, the page cache and the export stream; CMP_STAGE_STAT; ASM's log pointer and port states; the thermal reports; passes; the ports' UP mask and bursts;
calibration with its trims and qualities (R277) and samples; the memory controller's and MIG's states; the rejoin; the slack? Counters since RESET are none of them. -/
def loadReg (a : Nat) : Bool :=
  (Nat.ble 0x400000 a && Nat.ble a 0x400008) || (Nat.ble 0x400100 a && Nat.blt a 0x400180) ||
  (Nat.ble 0x500010 a && Nat.ble a 0x500018) || (List.range 32).any (fun k =>
    a == Reg.ASM_PORT_STAT.addr k || a == Reg.NRG_PORT_TEMP.addr k || a == Reg.MSR_HSAMP.addr k || a == Reg.MSR_VSET_NOW.addr k ||
      a == Reg.MSR_VSET_TRIM.addr k) ||
  (List.range 8).any (fun m => a == Reg.MSR_CH_TRIM_A.addr m || a == Reg.MSR_CH_TRIM_B.addr m || a == Reg.MSR_CH_QUAL.addr m) ||
  [Reg.RUN_PCACHE_STAT.addr, Reg.RUN_PCACHE_USED.addr, Reg.RUN_XP_STAT.addr, Reg.RUN_XP_OUT.addr, Reg.CMP_STAGE_STAT.addr,
   Reg.ASM_DLOG_PTR.addr, Reg.ASM_STAT.addr, Reg.PAC_PASS_STAT.addr, Reg.HLK_UP.addr, Reg.HLK_SPIT_BUSY.addr,
   Reg.MSR_CAL_STAT.addr, Reg.MEM_STAT.addr, Reg.MEM_MARGIN_STAT.addr, Reg.MIG_LOG_PTR.addr, Reg.MIG_SCRUB_STAT.addr,
   Reg.PAIR_REJOIN_STAT.addr, Reg.GLB_SLACK_NOW.addr].contains a

/-- A copy descriptor in progress completes ABORTED in its own slot with the bytes moved (R440). -/
def Dev.copyCut (n : Nat) (d : Dev) : Dev := (d.copyEnd n Stat.aborted).copyComplete n

/-- The head ports' state is gone, their lanes are at electrical idle. -/
def Dev.portsOff (d : Dev) : Dev :=
  (List.range 32).foldl (fun d k => (d.setFld (Reg.HLK_PORT_STAT.state k) 0).setFlag (Reg.HLK_PORT_STAT.active k) false)
    (d.lanesDark.modHlk fun h => { h with ports := [], spits := [] })

/-- LOAD is entered from STANDBY or SAFE (R42, R66, R440): chains end and copies complete in their slots, the rings are reset, the
flash is reset, and with device memory all that the print path, measurement and memory held is lost. Retirements, fault counts, positions,
counters, logs of events and the time stay. -/
def Dev.enterLoad (trigger : Nat) (d : Dev) : Dev :=
  let d := d.sweepLeave
  let d := (List.range 8).foldl (fun d k => d.ctxStop false k) d
  let d := (List.range 48).foldl (fun d n => d.copyCut n) d
  let d := d.ringsReset.windowReset
  let d := (List.range 64).foldl (fun d n =>
    (d.setPair (Reg.HDMA_RING_BASE_LO.addr n) 0).setReg (Reg.HDMA_RING_CTL.addr n) 0#32) d
  let d := d.roleLose.flashAbandon.crcAbandon
  let d := (d.govSet false (d.reg Reg.PAC_PERIOD.addr).toNat).portsOff
  let r := Dev.reset
  let d := { d with
    regs := d.regs.filter fun e => !(loadReg e.1)
    mem := r.mem, memc := r.memc, seq := r.seq, dcr := r.dcr, asm := r.asm, nrg := r.nrg, msr := r.msr
    mig := { r.mig with nextRequest := d.mig.nextRequest }
    run := { r.run with decFaults := d.run.decFaults, encFaults := d.run.encFaults }
    cmp := { r.cmp with faults := d.cmp.faults }
    pac := { r.pac with
      enc := d.pac.enc, lastMove := d.pac.lastMove, outs := d.pac.outs, lastFire := d.pac.lastFire, balls := d.pac.balls
      excursion := d.pac.excursion, govOut := d.pac.govOut }
    mot := { d.mot with asked := [], told := [] }
    pmu := { d.pmu with followed := [], sample := none }
    duo := { r.duo with out := d.duo.out, seq := d.duo.seq, peer := d.duo.peer, beacons := d.duo.beacons, otherAck := d.duo.otherAck }
    cfg := { d.cfg with staged := [], bootLoaded := false, bootPending := false, bootRunning := false }
    fan := { d.fan with keepwet := false } }
  let d := (d.tagCount.setFld Reg.RUN_ENC_STAT.busy 0).setFld Reg.RUN_ENC_STAT.rejoin 0
  let d := ((d.setFld Reg.PAC_STAT.state 0).setFlag Reg.PAC_STAT.armed false).setFld Reg.PAC_DET_STAT.pending 0
  let d := (d.setFld Reg.MIG_REFETCH_STAT.pending 0).setFld Reg.GLB_SHADOW_OF.sub_state 0
  let d := (List.range 8).foldl (fun d c =>
    ((d.setFlag (Reg.MEM_CH_STAT.failed c) false).setFlag (Reg.MEM_CH_STAT.hot c) false).setFld (Reg.MEM_CH_STAT.wq c) 0) d
  let d := d.modGlb fun g => { g with
    request := none, leavingService := none, sleepTrigger := none, keepwet := false, keepwetCancelled := false }
  d.modeChange Mode.load trigger

/-! ### SAFE (R38, R43, R44, R327) -/

/-- An event written to the retained log (Table 21-4, kind 6). -/
def Dev.fanEvent (sev code arg0 : Nat) (d : Dev) : Dev := d.fanLog FanLog.event sev code (arg0 % 2 ^ 16)

/-- On a device that no partner covers, the lines lost in the store are blank, detail 1 (R192), and the lines whose frames are sent and whose
FIRE blocks are not, detail 4 (R44). -/
def Dev.safeLines (alone : Bool) (d : Dev) : Dev :=
  let d := d.when alone fun d => (List.range 32).foldl (fun d k =>
    ((d.lookLines k).filter (·.classes.isEmpty)).foldl (fun d l =>
      (d.blankLine Rep.asm k l.page l.line Blank.memory 1).settle l.page true) d) d
  let d := d.when alone fun d => (List.range 32).foldl (fun d k =>
    (d.hport k).frames.foldl (fun d l => (d.blankLine Rep.asm k l.page l.line Blank.memory 4).settle l.page true) d) d
  d.modHlk fun h => { h with ports := h.ports.map fun (e : Nat × HPort) => (e.1, { e.2 with due := [], frames := [], void := [] }) }

/-- Every page without its record gets it at entry, spoiled and aborted (R44). -/
def Dev.safePages (d : Dev) : Dev :=
  let open_ := (d.seq.pages.filter fun e => !e.2.recorded).map (·.1)
  open_.foldl (fun d n => (d.modPage n fun p => { p with spoiled := true, aborted := true, closed := true }).pageRecord n) d

/-- The pending GLB_MODE_REQ is over with a result (Table 2-9). -/
def Dev.requestOver (result : Nat) (d : Dev) : Dev :=
  match d.glb.request with
  | none => d
  | some _ => (d.setFld Reg.GLB_MODE_REQ_STAT.result result).modGlb fun g => { g with request := none }

abbrev ReqRes.pending : Nat := 1
abbrev ReqRes.done : Nat := 2
abbrev ReqRes.illegal : Nat := 3
abbrev ReqRes.busy : Nat := 4
abbrev ReqRes.badKey : Nat := 5
abbrev ReqRes.superseded : Nat := 6

/-- Does a committed line still wait for its FIRE block (R346)? -/
def Dev.committedWaits (d : Dev) : Bool :=
  d.isActive && d.hlk.ports.any fun e => e.2.due.any fun s => s.ready == some true

/-- The outputs of Table 2-4. -/
def Dev.safeOutputs (d : Dev) : Dev :=
  let d := d.vsetDrive ((List.range 32).map fun k => (k, d.fld (Reg.MSR_VSET_CFG.vset_safe k)))
  let d := (List.range 32).foldl (fun d k => d.setFlag (Reg.MSR_VSET_NOW.held k) false) d
  let d := (d.axesSafe.govSet true (d.reg Reg.PAC_PERIOD.addr).toNat)
  let d := d.modPac fun p => { p with
    grid := false, datums := [], passes := [], pass := none, feed := none, feedReq := false }
  (((d.setFld Reg.PAC_STAT.state 0).setFlag Reg.PAC_STAT.armed false).setFld Reg.PAC_DET_STAT.pending 0).setFld Reg.PAC_PASS_STAT.feed 0

/-- SAFE_ENTRY (R38, R43, R44, R323, R346, R441): the device enters SAFE for the cause that waits. An ACTIVE first sends the FIRE blocks of
its committed lines, and RELEASE, and gives up its role. -/
def Dev.safeEntry (d : Dev) : Dev :=
  match d.flt.safeReq with
  | none => d
  | some r =>
    if d.mode = Mode.reset ∨ d.mode = Mode.sleep ∨ d.committedWaits then d
    else
      let d := d.modFlt fun f => { f with safeReq := none }
      let alone := !(d.pairServes || d.isShadow)
      let d := (d.when d.isActive fun d => d.pairSend (.release r.cause)).when (d.mode == Mode.calibrate) fun d => d.calAbandon 3
      let d := d.modMsr fun m => { m with step := none, trims := [], quals := [] }
      let d := ((d.setFlag Reg.MSR_CAL_STAT.busy false).safeLines alone).safePages
      let d := (List.range 8).foldl (fun d k => d.ctxStop true k) d.roleLose
      let d := (d.setFlag Reg.SEQ_BAND.valid false).modSeq fun q => { q with openPage := none }
      let d := d.requestOver (if d.glb.request = some Mode.safe then ReqRes.done else ReqRes.superseded)
      let d := d.modGlb fun g => { g with leavingService := none, sleepTrigger := none, keepwet := false }
      let d := ((d.pcacheDrop.modAsm fun x => { x with store := [], look := [], repairs := [] }).modCmp fun x => { x with
        committed := none, failed := [] }).asmShow
      let d := (d.setFld Reg.GLB_SHADOW_OF.sub_state 0).setFld Reg.PAIR_REJOIN_STAT.phase 0
      let d := (d.setReg Reg.GLB_SLACK_NOW.addr 0#32).safeOutputs
      let d := (d.setFld Reg.GLB_SAFE_CAUSE.cause r.cause).setFld Reg.GLB_SAFE_CAUSE.source_id r.src
      let d := ((d.setFld Reg.GLB_SAFE_CAUSE.event_code r.code).modeChange Mode.safe 6).pmuSnap 3
      let d := d.raiseRec ⟨d.tb2ns, 0x08, Sev.fault, 0x0102, r.cause, r.code, none, false, false, d.aonOk⟩
      let d := d.fanEvent Sev.fault 0x0102 r.cause
      d.when (r.code != 0) fun d => d.fanEvent r.sev r.code r.arg0

/-- SAFE entered for a cause of the start-up itself (R59, R286), or for a lower one that waits (R38). -/
def Dev.startFails (r : SafeReq) (d : Dev) : Dev := (d.safeCause r).safeEntry

/-! ### The end of LOAD and of FILL -/

/-- LOAD_COMPLETE (R56 to R60): the newer valid slot is applied and FILL entered, or SAFE with LOAD_FAIL. -/
def Dev.loadComplete (ms100 : Nat) (d : Dev) : Dev :=
  if d.mode ≠ Mode.load ∨ d.flt.safeReq.isSome then d
  else
    let d := d.setFld Reg.CFG_LOAD_TIME.load_100us (min ms100 65535)
    match d.loader with
    | (some slot, d) =>
      let d := (((d.imageLoad slot).timLoad).govDrive.outLoad 0).outLoad 1
      let d := d.setFlag Reg.PAIR_STAT.match_ok (d.pairUp && d.reg Reg.PAIR_MATCH.addr == d.reg Reg.PAIR_MATCH_PEER.addr)
      (d.setFld Reg.MEM_STAT.fill 1).modeChange Mode.fill 1
    | (none, d) => d.startFails ⟨Cause.loadFail, 0, 0, 0, 0⟩

/-- The units that failed their self-test are retired (R143, R162): masks of decoders, encoders and lanes. -/
def Dev.selfTests (decoders encoders lanes : Nat) (d : Dev) : Dev :=
  let d := (List.range 26).foldl (fun d u => d.when (decoders.testBit u) fun d => d.decoderRetire u) d
  let d := (List.range 4).foldl (fun d e => d.when (encoders.testBit e) fun d => d.encoderRetire e) d
  (List.range 9).foldl (fun d u => d.when (lanes.testBit u) fun d => d.laneRetire u) d

/-- A line whose MEMCOPY write failed holds free bytes and is handled under its region's class (R64, R300): refetched from the host, or
poisoned and reported. -/
def Dev.copyLost (line : Nat) (d : Dev) : Dev :=
  let seed := d.freshSeed
  let d := { d.useFree 64 with mem := d.mem.forget (64 * line) 64 seed }
  let data := d.mem.readBytes (64 * line) 64
  let k := d.regionClass (64 * line)
  if k = Cls.refetch then d.refetchStart line (.other 0x10) 0 data
  else (d.poisonLine line data).unrecoverable d.tb2ns line 0x10 1 k 0

/-- The staged MEMCOPY data written with source ID 0x10 (R62, R64); `bad`: the address of a write that failed. -/
def Dev.memCopy (bad : Option Nat) (d : Dev) : Dev :=
  let d := d.cfg.staged.foldl (fun d c => d.memWrite 0x10 c.1 c.2) d
  let d := match bad with
    | some a => d.copyLost (a / 64)
    | none => d
  let state := if !d.cfg.bootLoaded then 0 else if bad.isSome then 3 else 1
  let run := d.cfg.bootLoaded && bad.isNone && !d.marginImage
  (d.modCfg fun c => { c with staged := [], bootPending := run }).setFld Reg.CFG_BOOT_STAT.state state

/-- The role a device takes at start (R329, R331): an image that names it ACTIVE, unless the partner holds the role. -/
def Dev.roleStart (d : Dev) : Dev :=
  if !d.paired || d.fld Reg.PAIR_CFG.role != 0 then d
  else if d.pairUp && (match d.duo.peer with | some p => p.role == Role.active | none => false) then
    d.raiseTo none 0x100D Sev.warn pairSrc 0 d.peerMode
  else d.roleSet true

/-- FILL done: STANDBY for the first time since LOAD (R62, R63, R175, R209, R250, R272, R309, R412). -/
def Dev.firstStandby (d : Dev) : Dev :=
  let d := (d.setFld Reg.MEM_STAT.fill 3).setFlag Reg.GLB_STATUS.fill_done true
  let d := (d.shadowWrite 0 0xC0000).shadowWrite 0xC0000 0x40000
  let d := (d.modeChange Mode.standby 1).vsetDrive ((List.range 32).map fun k => (k, d.fld (Reg.MSR_VSET_CFG.vset_init k)))
  let d := (List.range 32).foldl (fun d k => d.bringupStart k) d
  let d := (d.when d.mig.retiredOwed fun d => d.raise 0x0E06 Sev.info d.mig.frames.length d.mig.banks.length).modMig fun g => { g with retiredOwed := false }
  let d := d.modGlb fun g => { g with keepwet := d.fan.keepwet, keepwetFired := false, keepwetSpat := 0 }
  let d := d.modFan fun f => { f with keepwet := false }
  d.roleStart.fanServe.bootStart

/-- Does a device address lie in a retired frame? -/
def Dev.frameRetired (d : Dev) (a : Nat) : Bool := d.retireEntries.any fun e => entryFrameHas e a

/-- Why a channel fails fill (R286): 1 its SPD gives another capacity than MEM_CFG, or no answer (`spd` holds the answers by channel); 2 more
than 1/64 of its samples, one for each MiB, failed outside retired frames. -/
def Dev.fillFault (d : Dev) (spd : Tab Nat) (samples : List (Nat × Nat)) (c : Nat) : Option Nat :=
  if !d.flag Reg.MEM_CFG.soldered && Tab.find spd c != some d.channelGib then some 1
  else if Nat.blt (1024 * d.channelGib) (64 * (samples.filter fun s => s.2 == c && !(d.frameRetired s.1)).length) then some 2
  else none

/-- FILL_COMPLETE (R62, R64, R143, R162, R283, R285, R286): its duration in ms, the capacities in GiB that the modules' SPDs gave, by
channel, the read-back samples that failed (address, channel), the masks of decoders, encoders and lanes that failed their tests, and the
address of a MEMCOPY write that failed. -/
def Dev.fillComplete (ms : Nat) (spd : Tab Nat) (samples : List (Nat × Nat)) (decoders encoders lanes : Nat) (bad : Option Nat) (d : Dev) : Dev :=
  if d.mode ≠ Mode.fill ∨ d.flt.safeReq.isSome then d
  else
    let d := d.fillRegisters.setFld Reg.CFG_LOAD_TIME.fill_ms (min ms 65535)
    let d := samples.foldl (fun d s => d.raise 0x0D01 Sev.warn s.1 s.2) d.fillLines
    let d := (List.range d.channels).foldl (fun d c => match d.fillFault spd samples c with | some r => d.chanFail c r | none => d) d
    if d.flt.safeReq.isSome then d.safeEntry
    else ((d.selfTests decoders encoders lanes).memCopy bad).firstStandby

/-! ### Requests of the host (R37, R38, R39) -/

/-- Is a transition in Table 2-2 with a GLB_MODE_REQ trigger from the current mode; SLEEP only with the Fantail there (R439)? While the
device leaves SERVICE or enters SLEEP only SAFE is. -/
def Dev.requestable (d : Dev) (target : Nat) : Bool :=
  let still := d.glb.leavingService.isNone && d.glb.sleepTrigger.isNone && d.flt.safeReq.isNone
  if target = Mode.safe then true
  else if target = Mode.standby then d.mode == Mode.service && still
  else if target = Mode.load then (d.mode == Mode.standby || d.mode == Mode.safe) && still
  else if target = Mode.sleep then d.mode == Mode.standby && d.aonOk && still
  else (target == Mode.calibrate || target == Mode.service) && d.mode == Mode.standby && still

/-- CALIBRATE is entered (R274, R275). -/
def Dev.calEnter (d : Dev) : Dev :=
  let d := (d.modeChange Mode.calibrate 3).setFld Reg.MSR_CAL_STAT.done 0
  let d := d.setFlag Reg.MSR_SWEEP_STAT.stale true
  (List.range 32).foldl (fun d k => (d.setFlag (Reg.MSR_HSAMP.stale k) true).setFlag (Reg.MSR_VSET_NOW.held k) true) d

/-- An accepted request begins its transition; it is done at once where nothing has to be waited for. -/
def Dev.requestStart (target : Nat) (d : Dev) : Dev :=
  if target = Mode.safe then
    if d.mode = Mode.safe then d.requestOver ReqRes.done else (d.setFlag Reg.GLB_MODE.transit true).safeCause ⟨Cause.host, 0, 0, 0, 0⟩
  else if target = Mode.standby then
    let d := (List.range 6).foldl (fun d k => d.axisStop k) d
    let d := d.modMsr fun m => { m with sweeps := m.sweeps.map fun s => { s with cut := s.cut || s.started } }
    (d.setFlag Reg.GLB_MODE.transit true).modGlb fun g => { g with leavingService := some 3 }
  else if target = Mode.sleep then
    (d.setFlag Reg.GLB_MODE.transit true).modGlb fun g => { g with sleepTrigger := some 3 }
  else if target = Mode.load then (d.requestOver ReqRes.done).enterLoad 3
  else if target = Mode.calibrate then d.calEnter.requestOver ReqRes.done
  else ((d.modeChange Mode.service 3).requestOver ReqRes.done).measureResume

/-- A write of GLB_MODE_REQ (R37): key and target. -/
def Dev.modeReq (key target : Nat) (d : Dev) : Dev :=
  if !(d.responds Reg.GLB_MODE_REQ.addr) then d
  else
    let d := (d.modGlb fun g => { g with keepwetCancelled := true }).setFld Reg.GLB_MODE_REQ_STAT.last_target target
    let refuse := fun (r : Nat) => d.setFld Reg.GLB_MODE_REQ_STAT.result r
    if key ≠ 0xC3 then refuse ReqRes.badKey
    else if d.glb.request.isSome then refuse ReqRes.busy
    else if !(d.requestable target) then refuse ReqRes.illegal
    else
      let d := ((refuse ReqRes.pending).addFld Reg.GLB_MODE_REQ_STAT.req_count 1).modGlb fun g => { g with request := some target }
      d.requestStart target

/-- CONTEXT_STOP (R441): context `k` ends its chain for the SAFE or SLEEP that is being entered. -/
def Dev.contextStop (k : Nat) (d : Dev) : Dev :=
  if 8 ≤ k then d
  else if d.flt.safeReq.isSome then d.ctxStop true k
  else if d.glb.sleepTrigger.isSome then d.ctxStop false k
  else d

/-! ### Leaving the print mode and SERVICE (R35, R40, R41) -/

/-- PRINT_MODE_EXIT (R35): the job's last line has fired on every port, and no further JOB_BEGIN has executed. -/
def Dev.printExit (d : Dev) : Dev :=
  if !(d.exitDue) || d.flt.safeReq.isSome then d
  else
    let d := d.modPac fun p => { p with grid := false }
    let d := (d.govSet false (d.reg Reg.PAC_PERIOD.addr).toNat).setReg Reg.GLB_SLACK_NOW.addr 0#32
    ((d.setFld Reg.PAC_STAT.state 0).modeChange Mode.standby 2).measureResume

/-- Do all axes stand still, and is no spit burst under way? -/
def Dev.serviceQuiet (d : Dev) : Bool := (List.range 6).all (fun k => d.axisStill k) && d.hlk.spits.isEmpty

/-- SERVICE_EXIT (R40). -/
def Dev.serviceExit (d : Dev) : Dev :=
  match d.glb.leavingService with
  | none => d
  | some t =>
    if d.mode ≠ Mode.service ∨ !d.serviceQuiet ∨ d.flt.safeReq.isSome then d
    else
      let d := (d.modeChange Mode.standby t).modGlb fun g => { g with leavingService := none, keepwet := false }
      (d.requestOver ReqRes.done).measureResume

/-- KEEPWET_SERVICE_ENTRY (R41, R258): once a boot job has ended, SERVICE is entered and every UP port spits. -/
def Dev.keepwetEntry (d : Dev) : Dev :=
  if d.mode ≠ Mode.standby ∨ !d.glb.keepwet ∨ d.glb.keepwetFired ∨ d.cfg.bootPending ∨ d.cfg.bootRunning ∨ d.flt.safeReq.isSome ∨
      d.glb.sleepTrigger.isSome then d
  else
    let d := (d.modeChange Mode.service 4).modGlb fun g => { g with keepwetFired := true }
    let count := d.fld Reg.HLK_KEEPWET.count
    let up := (((List.range 32).filter d.portUp).map (2 ^ ·)).sum
    (d.when (count != 0) fun d => d.spitStart none up count (d.fld Reg.HLK_KEEPWET.period_us) (d.fld Reg.HLK_KEEPWET.class_)).measureResume

/-- KEEPWET_RETURN (R41, R408, R409): the spit is done, every axis stands still and no measurement request is pending; the device returns to
STANDBY, logs the cycle, and begins to enter SLEEP unless a doorbell, a mode request or a JOB_BEGIN has cancelled the return. -/
def Dev.keepwetReturn (d : Dev) : Dev :=
  if d.mode ≠ Mode.service ∨ !d.glb.keepwet ∨ !d.glb.keepwetFired ∨ !d.serviceQuiet ∨ d.flt.safeReq.isSome ∨
      d.glb.leavingService.isSome ∨ !((List.range 8).all d.measureIdle) then d
  else
    let cancelled := d.glb.keepwetCancelled
    let d := d.modeChange Mode.standby 4
    let d := d.fanLog FanLog.keepwetDone d.glb.keepwetSpat 0 (d.fld Reg.HLK_KEEPWET.count)
    let d := d.modGlb fun g => { g with keepwet := false, sleepTrigger := if cancelled then none else some 4 }
    if cancelled then d.measureResume else d.setFlag Reg.GLB_MODE.transit true

/-! ### The voltage loop (R17, R19) -/

/-- The voltage last commanded: avs_idle_mv before the first command. -/
def Dev.avsVolts (d : Dev) : Nat :=
  if d.fld Reg.GLB_AVS_VOUT.cmd_mv = 0 then d.fld Reg.GLB_AVS_IDLE.avs_idle_mv else d.fld Reg.GLB_AVS_VOUT.cmd_mv

/-- The minimum of S over the interval: of the line starts in it, else S as it stands, else none yet. -/
def Dev.avsSlack (d : Dev) : Nat :=
  if d.glb.minSlack ≠ 0xFFFF then d.glb.minSlack
  else if d.flag Reg.GLB_SLACK_NOW.valid then d.fld Reg.GLB_SLACK_NOW.slack else 0xFFFF

/-- The loop wants more than avs_vmax_mv (R19). -/
def Dev.avsTop (d : Dev) : Dev :=
  (d.setFlag Reg.GLB_AVS_STAT.vmax_hit true).when (!d.glb.vmaxPosted) fun d =>
    (d.modGlb fun g => { g with vmaxPosted := true }).raiseOpen none 0x0112 Sev.warn 0x08

/-- AVS_INTERVAL (R17): one pass of the loop, while no transaction is under way. -/
def Dev.avsInterval (d : Dev) : Dev :=
  if !(d.flag Reg.GLB_AVS_CFG.avs_en) || !(d.flag Reg.GLB_STATUS.fill_done) || !d.timeRuns || d.glb.avsBusy.isSome then d
  else
    let v := d.avsVolts
    let step := d.fld Reg.GLB_AVS_CFG.avs_step_mv
    let top := d.fld Reg.GLB_AVS_LIMITS.avs_vmax_mv
    let target := d.fld Reg.GLB_SLACK_CFG.slack_target
    let m := d.avsSlack
    let calm := d.glb.calm + 1
    let full := Nat.ble (d.fld Reg.GLB_AVS_CFG.avs_calm) calm
    let (want, calm, d) :=
      if !(Mode.isPrint d.mode) then (d.fld Reg.GLB_AVS_IDLE.avs_idle_mv, 0, d)
      else if m < target then (min (v + step) top, 0, d.when (Nat.ble top v) Dev.avsTop)
      else if target + d.fld Reg.GLB_SLACK_CFG.slack_hyst ≤ m then
        if full then (max (v - step) (d.fld Reg.GLB_AVS_LIMITS.avs_vmin_mv), 0, d) else (v, calm, d)
      else (v, 0, d)
    let d := d.modGlb fun g => { g with calm := calm, minSlack := 0xFFFF }
    if want = v then d
    else (d.modGlb fun g => { g with
      avsBusy := some want, avsOut := g.avsOut ++ [(d.fld Reg.GLB_AVS_CFG.avs_rail, want)] }).count 0x01 1

/-- AVS_TRANSACTION_DONE (R17, R19): without error the voltage is taken, with the value read back; else bus_err. -/
def Dev.avsDone (ok : Bool) (readback : Nat) (d : Dev) : Dev :=
  match d.glb.avsBusy with
  | none => d
  | some v =>
    let failed := d.glb.avsFailed
    let d := d.modGlb fun g => { g with avsBusy := none, avsFailed := !ok }
    if ok then (d.setFld Reg.GLB_AVS_VOUT.cmd_mv v).setFld Reg.GLB_AVS_VOUT.readback_mv readback
    else (d.setFlag Reg.GLB_AVS_STAT.bus_err true).when (!failed) fun d => d.raiseOpen none 0x0111 Sev.warn 0x08

end Sys2Proof.Machine
end

