-- ==== Sys2Proof/Machine/Reads.lean ====
section
/-! DEFINITION. Machine/Reads.lean: what comes back from the DRAM for a reader (R296 to R302, Table 15-4), the answer and the time limit of a
refetch, and the failures of Millpond lines (R308). -/

namespace Sys2Proof.Machine

/-- The address of a device-memory line. -/
def lineAddr (line : Nat) : Nat := 64 * line

/-- The generation that a reader expects: the store's only (R296, Table 15-2). -/
def Requester.expects : Requester → Option Nat
  | .store _ z => some (z / 8192 % 2 ^ 16)
  | _ => Option.none

/-- Is a read that brings back generation `gen` gated, so that a copy ring or BAR2 gets NOT_READY (R299): a page-cache line while no entry
is committed, or of another generation than the entry's? -/
def Dev.readGated (d : Dev) (req : Requester) (line gen : Nat) : Bool :=
  let gates := d.pcacheLine line &&
    (!(d.flag Reg.RUN_PCACHE_STAT.committed) || gen != d.fld Reg.RUN_PCACHE_STAT.generation)
  match req with
  | .copy _ => gates
  | .bar2 _ _ => gates
  | _ => false

/-- A reader that waits for a refetch is held: its ring (R83), or its context (R116). A context that waits or holds a command for another
reason stays in that state, and is held once it would run (`seqHold`). -/
def Dev.readHeld (req : Requester) (d : Dev) : Dev :=
  match req with
  | .copy n => d.setFld (Reg.HDMA_RING_STAT.state n) RingState.held
  | .seqBlock k =>
    let tail := d.ctxState k == CtxState.tail
    d.when (d.ctxState k == CtxState.running || tail) fun d =>
      (d.setCtxState k CtxState.refetch).modCtx k fun c => { c with tailHeld := tail }
  | _ => d

/-- A reader whose wait for a refetch is over goes on, a context in the state it was held in. -/
def Dev.readGoesOn (req : Requester) (d : Dev) : Dev :=
  match req with
  | .copy n => d.when (d.ringState n == RingState.held && !(d.waitsRefetch (.copy n))) fun d =>
      (d.setFld (Reg.HDMA_RING_STAT.state n) RingState.running).copyAdvance n
  | .seqBlock k => d.when (d.ctxState k == CtxState.refetch && !(d.waitsRefetch (.seqBlock k))) fun d =>
      (d.setCtxState k (if (d.ctx k).tailHeld then CtxState.tail else CtxState.running)).modCtx k fun c => { c with tailHeld := false }
  | _ => d

/-- Is a line the next that a copy reads? -/
def Dev.copyWants (d : Dev) (n line : Nat) : Bool :=
  match (Tab.get d.hdma.rings Ring.idle n).copy with
  | some c => !c.toDevice && (c.devAddr + c.moved) / 64 == line
  | none => false

/-- Good data of a line reaches its reader: a copy's next line is sent to the host, a BAR2 read completes; every other reader reads the
memory itself. The data is what device memory holds, the last write to each byte (R31): a copy of the line that passes its check is
that data. -/
def Dev.readGood (req : Requester) (line : Nat) (d : Dev) : Dev :=
  match req with
  | .copy n => if d.copyWants n line then d.copyDeliver n (d.mem.readBytes (lineAddr line) 64) else d
  | .bar2 a n => d.bar2Serve a n
  | .shadow nrg a0 a1 => d.repairEnd nrg a0 a1
  | _ => d

/-- A copy ring or BAR2 reads a line that is not ready (R74, R83). -/
def Dev.readNotReady (req : Requester) (d : Dev) : Dev :=
  match req with
  | .copy n => d.copyEnd n Stat.notReady
  | .bar2 a _ => (d.toHost .completerAbort).winErr 1 false a
  | _ => d

/-- A row-delay store slot has failed its check: STORE_READ recomputes it from parity (R192). -/
def Dev.slotFailed (k z : Nat) (d : Dev) : Dev :=
  d.modAsm fun x => { x with bad := if x.bad.contains (k, z % 8192) then x.bad else x.bad ++ [(k, z % 8192)] }

/-- Can the owner of a store slot that fails recompute it: a port's slot, whose parity and other members do not fail (R192)? -/
def Dev.slotRepairs (d : Dev) (k z : Nat) : Bool :=
  match (d.storeLines k).find? (·.z == z) with
  | some l => match d.storeRecompute k z l.line with | .ok _ => true | .error _ => false
  | none => false

/-- The result of an unrecoverable read for its reader (Table 15-4). -/
def Dev.readLost (req : Requester) (line : Nat) (d : Dev) : Dev :=
  match req with
  | .copy n => d.copyEnd n Stat.memErr
  | .bar2 a _ => (d.toHost .completerAbort).winErr 0 false a
  | .seqBlock k => if d.ctxState k = CtxState.idle then d else d.ctxMemErr k
  | .defectSync => d.modDcr fun x => { x with sync := x.sync.map fun (s : Nat × Nat × Bool) => (s.1, s.2.1, true) }
  | .exportContext => d.exportEnd 2
  | .exportSource => d.modRun fun r => { r with export_ := r.export_.map fun x => { x with memFail := true } }
  | .store k z => d.slotFailed k z
  | .shadow nrg a0 a1 => d.repairLost nrg a0 a1
  | .other s =>
    let u := s - 0x88
    if 0x88 ≤ s ∧ u < 8 ∧ (d.crcUnit u).running ∧ (d.crcUnit u).failAt.isNone then
      d.modCrcUnit u fun c => { c with failAt := some (max c.addr (lineAddr line)) }
    else d
  | _ => d

/-- A line that cannot be recovered is poisoned, reported and answered with its reader's result (R300, R306). -/
def Dev.readFails (line : Nat) (req : Requester) (reason k rereads : Nat) (data : List Byte) (d : Dev) : Dev :=
  let d := (d.pcacheLineLost line).poisonLine line data
  (d.reportUnrecoverable d.tb2ns line req reason k rereads).readLost req line

/-- MEM_READ_COMPLETE (R296, R299 to R301): a reader's read of a line comes back as `first`, and its rereads, if it needs any, as `again`.
A read of a line that is being recovered waits (R302); a subchannel stopped by an alert answers no read until it clears (R288). -/
def Dev.memReadComplete (line : Nat) (req : Requester) (first : ReadLine) (again : List ReadLine) (d : Dev) : Dev :=
  if !d.timeRuns || d.mode == Mode.load || d.mode == Mode.fill || !(d.inFitted (lineAddr line) 64) || d.lineStopped line then d
  else if !(d.flag Reg.RUN_PCACHE_STAT.committed) && d.readGated req line 0 then d.readNotReady req
  else
    let d := d.countRead (lineAddr line) 64
    if (d.refetchOf line).isSome then (d.refetchStart line req 0 first.data).readHeld req
    else
      let k := d.recoveryClass line first
      let good := fun (gen : Nat) (d : Dev) => if d.readGated req line gen then d.readNotReady req else d.readGood req line
      match d.readOutcome line req.expects first again with
      | .clean r => good r.gen d
      | .reread g n => good g.gen ((d.writeBack line g).reportRecovered d.tb2ns line req 1 k n (laneMask first g))
      | .poisoned n => (d.reportUnrecoverable d.tb2ns line req 2 k n).readLost req line
      | .refetch n => (d.refetchStart line req n first.data).readHeld req
      | .recompute n =>
        match req with
        | .store j z =>
          let d := d.slotFailed j z
          if d.slotRepairs j z then d.reportRecovered d.tb2ns line req 3 k n 0 else d.readFails line req 1 k n first.data
        | _ => d.readFails line req 1 k n first.data
      | .failed n => d.readFails line req 1 k n first.data

/-- The refetch of a line is over. -/
def Dev.refetchDrop (line : Nat) (d : Dev) : Dev :=
  (d.modMig fun g => { g with refetches := g.refetches.filter fun r => r.line != line }).refetchPost

/-- REFETCH_ANSWER (R301, R302): a full-line write to the line has landed. The waiting reads reread it, each in its turn. -/
def Dev.refetchAnswer (line : Nat) (d : Dev) : Dev :=
  match d.refetchOf line with
  | none => d
  | some r =>
    if !r.written then d
    else
      let d := d.refetchDrop line
      let data := d.mem.readBytes (lineAddr line) 64
      let k := (d.lineMeta line).cls
      let lanes := laneMask ⟨r.readData, 0, false⟩ ⟨data, 0, false⟩
      let d := r.waiting.foldl (fun d w =>
        let d := (d.reportRecovered r.since line w.1 2 k w.2 lanes).when (w.1 == .scrub) fun d =>
          d.modScrub fun s => { s with refetched := s.refetched + 1 }
        (d.readGoesOn w.1).readGood w.1 line) d
      d.bar2Resume d.hdma.bar2Held.length

/-- REFETCH_TIMEOUT (R302, R304): refetch_tmo_ms have passed since the request was posted: the line is poisoned, unless a write to it has
come since (R306), and every waiting read is unrecoverable. -/
def Dev.refetchTimeout (line : Nat) (d : Dev) : Dev :=
  match d.refetchOf line with
  | none => d
  | some r =>
    if !r.posted then d
    else
      let d := (d.refetchDrop line).addFld Reg.MIG_REFETCH_STAT.timeouts 1
      let k := (d.lineMeta line).cls
      let d := d.when (!r.touched) fun d => d.poisonLine line r.readData
      let d := r.waiting.foldl (fun d w =>
        if w.1 = .scrub then d.when (!r.touched) fun d => d.scrubPoison r.since line k w.2 r.readData
        else ((d.reportUnrecoverable r.since line w.1 3 k w.2).readLost w.1 line).readGoesOn w.1) d
      d.bar2Resume d.hdma.bar2Held.length

/-! ### Millpond (R308) -/

/-- A cached tile's granule fails: the entry goes, and the tile is decoded again from its frame (R128). -/
def Dev.tileGranuleLost (tile : Nat) (d : Dev) : Dev :=
  match Tab.find d.run.dir tile with
  | none => d
  | some n =>
    if !(d.cached n) then d
    else
      let d := d.modRun fun r => { r with cache := Tab.del r.cache n }
      (d.requestDecode (d.tileDef n).ctx n).runCounts

/-- A decoder's window fails: its work restarts from the frame start on another decoder. -/
def Dev.decoderRestart (u : Nat) (d : Dev) : Dev :=
  let mine := (d.run.decodes.filter fun q => q.decoder == some u).map fun q => { q with decoder := none, avoid := some u }
  d.modRun fun r => { r with decodes := mine ++ r.decodes.filter fun q => q.decoder != some u }

/-- A line of a band buffer fails and waits for recomposition (R158). -/
def Dev.bandLineFails (staging : Bool) (line plane column : Nat) (d : Dev) : Dev :=
  let there : Bool := if staging then d.cmp.staging.isSome else d.cmp.committed.isSome
  let f := (if staging then 1 else 0, line, plane, column / 128 * 128)
  if !there || d.cmp.failed.contains f then d
  else (d.modCmp fun m => { m with failed := m.failed ++ [f] }).recompFlag

/-- MILLPOND_CHECK_FAIL (R308, Table 15-8): a Millpond line fails its CRC-16; a prefetched block, a segment's window and staged data are
read or encoded again. A transfer-parity failure without a recovery class posts EV_FLT_PARITY (R25, Table 16-8). -/
def Dev.millpondFail (u : MillpondUse) (d : Dev) : Dev :=
  match u with
  | .tile t => d.tileGranuleLost t
  | .band staging line plane column => d.bandLineFails staging line plane column
  | .dcrTable offset line => d.repairHold false (2 * 2 ^ 56 + offset) line
  | .carry offset line lost => d.carryRepair offset line lost
  | .nrgTable kind offset port line => d.repairHold true (kind * 2 ^ 56 + offset) (port * 2 ^ 32 + line)
  | .history offset port line block => d.historyRepair offset port line block
  | .lookahead port line => d.modAsm fun x => { x with look := Tab.upd x.look [] port fun ls => ls.map fun l =>
      if l.line = line ∧ l.mem.isNone then { l with mem := some 2 } else l }
  | .prefetch k => d.countRead (blockOf (d.ctxPc k)) 4096
  | .decoderWindow v => d.decoderRestart v
  | .segmentWindow e => d.segAgain e
  | .exportWindow => d.exportEnd 2
  | .rejoinWindow => if d.isActive && Nat.ble 1 d.rejoinPhase && Nat.ble d.rejoinPhase 5 then
      (d.modRun fun r => { r with rejoin := r.rejoin.map fun _ => ⟨[], [], false⟩ }).framesSend d.regionFrames
    else d
  | .staging n => d.copyRestage n
  | .transfer src => d.raise 0x0F06 Sev.fatal src 0

end Sys2Proof.Machine
end

