-- ==== Sys2Proof/Machine/HostRegs.lean ====
section
/-! DEFINITION. Machine/HostRegs.lean: what the host reads of a register (R8 to R10), and the host's writes as the pair takes them: relayed by
the ACTIVE, discarded by the SHADOW that runs as one with it (R339). -/

namespace Sys2Proof.Machine

/-! ### Reads -/

/-- DCR_PROBE_DATA (Table 8-15): the element named by DCR_PROBE_SEL in the active and the pending version, and its curve. -/
def Dev.dcrProbe (d : Dev) : Word :=
  let e := d.fld Reg.DCR_PROBE_SEL.element
  let now := isDefect (d.defTab d.dcr.active).bits e
  let next := match d.dcr.pending with | some n => isDefect (d.defTab n).bits e | none => false
  BitVec.ofNat 32 ((if now then 2 ^ 31 else 0) + (if next then 2 ^ 30 else 0) + d.curveIndex e)

/-- NRG_PROBE_DATA (Table 10-17): the element named by NRG_PROBE_SEL: whether it exists, its last class, its bitmap. -/
def Dev.nrgProbe (d : Dev) : Word :=
  let k := d.fld Reg.NRG_PROBE_SEL.port
  let n := d.fld Reg.NRG_PROBE_SEL.element
  let here := d.portEnabled k && Nat.blt n (d.portElems k)
  BitVec.ofNat 32 ((if here then 2 ^ 31 else 0) + Tab.get d.nrg.lastClass 0 (histKey k n) % 16 * 16 + Tab.get d.nrg.hist 0 (histKey k n) % 16)

/-- Is a register TIM_TB_FRAC of a base: which? -/
def fracOf (a : Nat) : Option Nat := (List.range 4).find? fun b => a == Reg.TIM_TB_FRAC.addr b

/-- The word at BAR0 offset `a` of a window of bytes that has no registers: the flash buffer (0 while a command runs), the Fantail's log
and its saved log (CFG_FLASH_BUF, FAN_LOG, FAN_SAVED). -/
def Dev.windowWord (d : Dev) (a : Nat) : Option Word :=
  let e := a % 0x400 / 16
  if inFlashBuf a then
    some (BitVec.ofNat 32 (if d.cfg.cmd.isSome then 0 else ofLe ((List.range 4).map fun i => Tab.get d.cfg.buf 0#8 (a - 0x210000 + i))))
  else if Nat.ble 0x1400400 a && Nat.blt a 0x1400800 then some (BitVec.ofNat 32 (leAt (Tab.get d.fan.log [] e) (a % 16) 4))
  else if Nat.ble 0x1400800 a && Nat.blt a 0x1400C00 then some (BitVec.ofNat 32 (Tab.get d.fan.saved 0 e / 2 ^ (8 * (a % 16))))
  else none

/-- Is a mode change under way (GLB_MODE.transit): a requested one, the exit from the print mode from the job's last fire on (R35), or
the entry to SAFE from its cause on? -/
def Dev.transitNow (d : Dev) : Bool :=
  d.flag Reg.GLB_MODE.transit || d.exitDue || (d.flt.safeReq.isSome && d.mode != Mode.reset && d.mode != Mode.sleep)

/-- MEM_CH_STAT with the alerts of the last second as they are now (R288). -/
def Dev.chanWord (d : Dev) (c : Nat) : Word :=
  (d.setFld (Reg.MEM_CH_STAT.alerts c) (min (d.recentAlerts c).length 15)).reg (Reg.MEM_CH_STAT.addr c)

/-- FLT_STAT (R322, Table 16-10): the degradation as it is now. Decoders 24 and 25 and lane 8 are the spares. -/
def Dev.degradation (d : Dev) : Word :=
  let dec := d.fld Reg.RUN_DEC_STAT.active
  let lanes := d.fld Reg.CMP_LANE_STAT.active
  let d := (d.setFlag Reg.FLT_STAT.dec_spared (dec / 2 ^ 24 != 0)).setFlag Reg.FLT_STAT.dec_short (Nat.blt (popCount dec 26) 24)
  let d := d.setFlag Reg.FLT_STAT.enc_retired (d.fld Reg.RUN_ENC_STAT.retired != 0)
  let d := (d.setFlag Reg.FLT_STAT.lane_spared (lanes.testBit 8)).setFlag Reg.FLT_STAT.lane_doubled (Nat.blt (popCount lanes 9) 8)
  (d.setFlag Reg.FLT_STAT.port_down (d.enabledPorts.any fun k => !(d.portUp k))).reg Reg.FLT_STAT.addr

/-- What a read of the register at `a` returns: the latch for the upper half of a pair and for TIM_TB_FRAC (R9), what is live for the
rest. A block that does not respond reads 0 (R5, R47). -/
def Dev.readReg (d : Dev) (a : Nat) : Word :=
  let high := match regRow a with | some r => r.half == 2 | none => false
  if !(d.responds a) then 0#32
  else if high then Tab.get d.latches (regReset a) (a - 4)
  else if (fracOf a).isSome then Tab.get d.latches (regReset a) a
  else if a = Reg.GLB_MODE.addr then (d.setFlag Reg.GLB_MODE.transit d.transitNow).liveReg a
  else if a = Reg.DCR_PROBE_DATA.addr then d.dcrProbe
  else if a = Reg.NRG_PROBE_DATA.addr then d.nrgProbe
  else if a = Reg.FLT_STAT.addr then d.degradation
  else match (List.range 8).find? fun c => a == Reg.MEM_CH_STAT.addr c with
    | some c => d.chanWord c
    | none =>
      match d.windowWord a with
      | some w => w
      | none => d.liveReg a

/-- LO_READ_LATCH (R9): the live lower half is returned and the live upper half goes to the pair's latch; a time base's fraction is latched
with it. -/
def Dev.loReadLatch (a : Nat) (d : Dev) : Dev :=
  match regRow a with
  | some r =>
    if r.half = 1 ∧ d.responds a then
      let l := Tab.set d.latches (regReset (a + 4)) a (d.liveReg (a + 4))
      let l := match (fracOf (a + 8)) with
        | some _ => Tab.set l (regReset (a + 8)) (a + 8) (d.liveReg (a + 8))
        | none => l
      { d.toHost (.completion (leBytes 4 (d.readReg a).toNat)) with latches := l }
    else d
  | none => d

/-! ### Writes -/

/-- A host write of a register of R339: the SHADOW discards it, the ACTIVE tells it to the SHADOW. -/
def Dev.pairWrite (a v : Nat) (f : Dev → Dev) (d : Dev) : Dev :=
  if relayed a && d.shadowServes then d
  else f (d.when (relayed a && d.pairServes && d.responds a) fun d => d.pairSend (.host (.reg a v)))

/-- Is a register one that a busy check-value unit protects (R360): CRC_ADDR, CRC_LEN, CRC_EXP? -/
def Dev.crcLocked (d : Dev) (a : Nat) : Bool :=
  let u := (a - 0x1101000) / 0x40
  Nat.ble 0x1101000 a && Nat.blt u 8 && Nat.blt ((a - 0x1101000) % 0x40) 0x18 && (d.crcUnit u).running

/-- Is `op` of MEM_MARGIN_CTL one of Table 14's operations? -/
def marginOp (v : Word) : Bool := Nat.ble 1 (v.toNat / 2 ^ 16 % 16) && Nat.ble (v.toNat / 2 ^ 16 % 16) 3

/-- REGISTER_WRITE (R8, R65, R283, R339): a host write of a register with no row of its own, or of a doorbell with an operation that has none:
CFG_FLASH_CMD ends with ILLEGAL, and MEM_MARGIN_SEL and MEM_MARGIN_CTL are refused where they have no effect. -/
def Dev.hostWrite (a : Nat) (v : Word) (d : Dev) : Dev :=
  let op := v.toNat / 2 ^ 16 % 16
  if a = Reg.CFG_FLASH_CMD.addr then (if (op = 0 ∨ 4 < op) ∧ d.responds a then d.flashIllegal op else d)
  else if a = Reg.MEM_MARGIN_CTL.addr then (if !(marginOp v) ∧ d.responds a ∧ !d.marginOpen then d.marginRefuse else d)
  else if a = Reg.MEM_MARGIN_SEL.addr ∧ !d.marginOpen then (if d.responds a then d.marginRefuse else d)
  else if d.crcLocked a then d
  else d.pairWrite a v.toNat fun d => d.registerWrite a v

/-- LO_WRITE_STAGE (R9, R339, R360). -/
def Dev.hostWriteLo (a : Nat) (v : Word) (d : Dev) : Dev :=
  if d.crcLocked a then d else d.pairWrite a v.toNat fun d => d.loWriteStage a v

/-- HI_WRITE_COMMIT (R9, R339, R360). -/
def Dev.hostWriteHi (a : Nat) (v : Word) (d : Dev) : Dev :=
  if d.crcLocked a then d else d.pairWrite a v.toNat fun d => d.hiWriteCommit a v

/-- RING_ENABLE by the host (R76, R339): the word written, its enable bit 1. -/
def Dev.hostRingEnable (n : Nat) (v : Word) (d : Dev) : Dev :=
  d.pairWrite (Reg.HDMA_RING_CTL.addr n) (Nat.lor v.toNat 1) fun d => d.ringEnable n v

/-- RING_DISABLE by the host: the word written, its enable bit 0. -/
def Dev.hostRingDisable (n : Nat) (v : Word) (d : Dev) : Dev :=
  d.pairWrite (Reg.HDMA_RING_CTL.addr n) (v.toNat / 2 * 2) fun d => d.ringDisable n v

/-- RING_DOORBELL by the host. -/
def Dev.hostDoorbell (n idx : Nat) (d : Dev) : Dev :=
  d.pairWrite (Reg.HDMA_RING_DB.addr n) idx fun d => d.ringDoorbell n idx

/-- EVENT_RING_CONSUME by the host. -/
def Dev.hostConsume (n idx : Nat) (d : Dev) : Dev :=
  d.pairWrite (Reg.HDMA_RING_DB.addr n) idx fun d => d.eventRingConsume n idx

/-- ABORT_ONE by the host. -/
def Dev.hostAbortOne (n idx : Nat) (d : Dev) : Dev :=
  d.pairWrite Reg.HDMA_ABORT.addr (n % 64 * 2 ^ 24 + idx % 65536) fun d => d.abortOne n idx

/-- ABORT_SCOPE by the host. -/
def Dev.hostAbortScope (n idx : Nat) (d : Dev) : Dev :=
  d.pairWrite Reg.HDMA_ABORT.addr (n % 64 * 2 ^ 24 + 2 ^ 16 + idx % 65536) fun d => d.abortScope n idx

/-- SEQ_CTX_DB by the host. -/
def Dev.hostNudge (k : Nat) (d : Dev) : Dev := d.pairWrite (Reg.SEQ_CTX_DB.addr k) 1 fun d => d.ctxDoorbell k

/-- SEQ_SYNC_INC by the host. -/
def Dev.hostSync (v : Word) (d : Dev) : Dev := d.pairWrite Reg.SEQ_SYNC_INC.addr v.toNat fun d => d.syncInc v

/-- BAR2_WRITE by the host (R74, R339); a write whose ECRC is bad is discarded and logged in AER where the function checks it (R71). -/
def Dev.hostBar2 (o : Nat) (p : Posted) (d : Dev) : Dev :=
  if p.badEcrc && d.badEcrc then d.when d.bar0 fun d => d.toHost .aerError
  else if d.shadowServes then d
  else (d.when d.pairServes fun d => d.pairSend (.host (.bar2 o p.bytes))).bar2Write 0x1C o p.bytes

end Sys2Proof.Machine
end

