-- ==== Sys2Proof/Machine/CommandRows.lean ====
section
/-! DEFINITION. Machine/CommandRows.lean: the commands of a context: every opcode, SET parameter and WAIT kind of chapter 5. -/

namespace Sys2Proof.Machine

/-- NOP (R101): The NOP command has no effect. -/
def execNop (ctx : Nat) (word : BitVec 56) (s : State) : Host.Outcome State Fault Refusal :=
  s.did fun d => d.cmdNop ctx word.toNat

/-- JOB_BEGIN (R219): JOB_BEGIN opens a job, writes its JOB record and, on context 0 in STANDBY, enters the print mode and takes a grid
datum. -/
def execJobBegin (ctx : Nat) (word : BitVec 56) (s : State) : Host.Outcome State Fault Refusal :=
  s.did fun d => d.cmdJobBegin ctx word.toNat

/-- JOB_END (R118): JOB_END closes the job and writes its JOB_END record; waiting sheet datums are discarded. -/
def execJobEnd (ctx : Nat) (word : BitVec 56) (s : State) : Host.Outcome State Fault Refusal :=
  s.did fun d => d.cmdJobEnd ctx word.toNat

/-- PAGE_BEGIN (R113): PAGE_BEGIN opens the next page at band 0, and with cache = 1 starts a new page-cache entry. -/
def execPageBegin (ctx : Nat) (word : BitVec 56) (s : State) : Host.Outcome State Fault Refusal :=
  s.did fun d => d.cmdPageBegin ctx word.toNat

/-- PAGE_END (R108): PAGE_END confirms the page's last band; in PRINT_SCAN a page not covered by its passes ends the context with
PASS_SHORT. -/
def execPageEnd (ctx : Nat) (word : BitVec 56) (s : State) : Host.Outcome State Fault Refusal :=
  s.did fun d => d.cmdPageEnd ctx word.toNat

/-- SKIP_LINES (R221): SKIP_LINES places count gap line starts between pages. -/
def execSkipLines (ctx : Nat) (word : BitVec 56) (s : State) : Host.Outcome State Fault Refusal :=
  s.did fun d => d.cmdSkipLines ctx word.toNat

/-- COPIES (R114): COPIES prints count pages from the committed page-cache entry, without composing. -/
def execCopies (ctx : Nat) (word : BitVec 56) (s : State) : Host.Outcome State Fault Refusal :=
  s.did fun d => d.cmdCopies ctx word.toNat

/-- TILE_DEF (R103): TILE_DEF binds a tile ID to a frame, replacing any earlier definition, and requests a decode when pin or dict is set.
-/
def execTileDef (ctx : Nat) (word : BitVec 56) (word1 : BitVec 64) (s : State) : Host.Outcome State Fault Refusal :=
  s.did fun d => d.cmdTileDef ctx word.toNat word1.toNat

/-- TILE_DROP (R133): TILE_DROP removes a tile definition; its cache entry is freed once earlier placements are composed. -/
def execTileDrop (ctx : Nat) (word : BitVec 56) (s : State) : Host.Outcome State Fault Refusal :=
  s.did fun d => d.cmdTileDrop ctx word.toNat

/-- SET_LOG_BASE (R104): SET LOG_BASE sets the job log address. -/
def execSetLogBase (ctx : Nat) (value : BitVec 48) (s : State) : Host.Outcome State Fault Refusal :=
  s.did fun d => d.setLogBase ctx value.toNat

/-- SET_LOG_LEN (R104): SET LOG_LEN sets the job log length in records. -/
def execSetLogLen (ctx : Nat) (value : BitVec 48) (s : State) : Host.Outcome State Fault Refusal :=
  s.did fun d => d.setLogLen ctx value.toNat

/-- SET_PCACHE_BASE (R104): SET PCACHE_BASE sets the page-cache address. -/
def execSetPcacheBase (ctx : Nat) (value : BitVec 48) (s : State) : Host.Outcome State Fault Refusal :=
  s.did fun d => d.setPcacheBase ctx value.toNat

/-- SET_PCACHE_LEN (R104): SET PCACHE_LEN sets the page-cache length. -/
def execSetPcacheLen (ctx : Nat) (value : BitVec 48) (s : State) : Host.Outcome State Fault Refusal :=
  s.did fun d => d.setPcacheLen ctx value.toNat

/-- SET_EVT_RING (R104): SET EVT_RING sets the event ring for the context's sequencer events. -/
def execSetEvtRing (ctx : Nat) (value : BitVec 48) (s : State) : Host.Outcome State Fault Refusal :=
  s.did fun d => d.setEvtRing ctx value.toNat

/-- SET_PARAM_UNDEFINED (R104): A SET with an undefined param, or outside its allowed place, ends the context with PARAM. -/
def execSetParamUndefined (ctx : Nat) (param : BitVec 8) (value : BitVec 48) (s : State) : Host.Outcome State Fault Refusal :=
  s.did fun d => d.setUndefined ctx param.toNat value.toNat

/-- MOVE_ABS (R396): SET MOVE_ABS sets an axis target to an absolute position. -/
def execMoveAbs (ctx : Nat) (value : BitVec 48) (s : State) : Host.Outcome State Fault Refusal :=
  s.did fun d => d.moveAbs ctx value.toNat

/-- MOVE_REL (R396): SET MOVE_REL adds a signed delta to an axis target and clears a fault. -/
def execMoveRel (ctx : Nat) (value : BitVec 48) (s : State) : Host.Outcome State Fault Refusal :=
  s.did fun d => d.moveRel ctx value.toNat

/-- SET_VMAX (R396): SET VMAX sets an axis's maximum speed. -/
def execSetVmax (ctx : Nat) (value : BitVec 48) (s : State) : Host.Outcome State Fault Refusal :=
  s.did fun d => d.setVmax ctx value.toNat

/-- SET_ACCEL (R396): SET ACCEL sets an axis's acceleration. -/
def execSetAccel (ctx : Nat) (value : BitVec 48) (s : State) : Host.Outcome State Fault Refusal :=
  s.did fun d => d.setAccel ctx value.toNat

/-- SET_DECEL (R396): SET DECEL sets an axis's deceleration. -/
def execSetDecel (ctx : Nat) (value : BitVec 48) (s : State) : Host.Outcome State Fault Refusal :=
  s.did fun d => d.setDecel ctx value.toNat

/-- SET_JERK (R396): SET JERK sets an axis's jerk limit. -/
def execSetJerk (ctx : Nat) (value : BitVec 48) (s : State) : Host.Outcome State Fault Refusal :=
  s.did fun d => d.setJerk ctx value.toNat

/-- HOME (R398): SET HOME starts the homing sequence of an axis and clears a fault. -/
def execHome (ctx : Nat) (value : BitVec 48) (s : State) : Host.Outcome State Fault Refusal :=
  s.did fun d => d.setHome ctx value.toNat

/-- STOP (R390): SET STOP sets an axis target where braking at DECEL ends, and abandons homing. -/
def execStop (ctx : Nat) (value : BitVec 48) (s : State) : Host.Outcome State Fault Refusal :=
  s.did fun d => d.setStop ctx value.toNat

/-- SET_POS (R396): SET SET_POS assigns a position to a still axis and makes it valid. -/
def execSetPos (ctx : Nat) (value : BitVec 48) (s : State) : Host.Outcome State Fault Refusal :=
  s.did fun d => d.setPos ctx value.toNat

/-- POWER (R395): SET POWER switches the drive of a still axis on or off. -/
def execPower (ctx : Nat) (value : BitVec 48) (s : State) : Host.Outcome State Fault Refusal :=
  s.did fun d => d.setPower ctx value.toNat

/-- TABLE (R396): SET TABLE selects the microstep table of a still axis. -/
def execTable (ctx : Nat) (value : BitVec 48) (s : State) : Host.Outcome State Fault Refusal :=
  s.did fun d => d.setTable ctx value.toNat

/-- RESULT_BASE (R265): SET RESULT_BASE sets the address of the sweep result array. -/
def execResultBase (ctx : Nat) (value : BitVec 48) (s : State) : Host.Outcome State Fault Refusal :=
  s.did fun d => d.setResultBase ctx value.toNat

/-- DEFECT_OUT (R265): SET DEFECT_OUT sets the address of the defect table a sweep writes. -/
def execDefectOut (ctx : Nat) (value : BitVec 48) (s : State) : Host.Outcome State Fault Refusal :=
  s.did fun d => d.setDefectOut ctx value.toNat

/-- DEFECT_VER (R265): SET DEFECT_VER sets the version and the enable of a sweep's defect output. -/
def execDefectVer (ctx : Nat) (value : BitVec 48) (s : State) : Host.Outcome State Fault Refusal :=
  s.did fun d => d.setDefectVer ctx value.toNat

/-- SWEEP (R265): SET SWEEP requests a resistance sweep of the ports in the mask. -/
def execSweep (ctx : Nat) (value : BitVec 48) (s : State) : Host.Outcome State Fault Refusal :=
  s.did fun d => d.setSweepCmd ctx value.toNat

/-- SAMPLE (R270): SET SAMPLE sends SENSE READ to the UP ports of the mask to collect head samples. -/
def execSample (ctx : Nat) (value : BitVec 48) (s : State) : Host.Outcome State Fault Refusal :=
  s.did fun d => d.setSample ctx value.toNat

/-- VSET_CODE (R265): SET VSET_CODE sets the context's setpoint code. -/
def execVsetCode (ctx : Nat) (value : BitVec 48) (s : State) : Host.Outcome State Fault Refusal :=
  s.did fun d => d.setVsetCode ctx value.toNat

/-- VSET_APPLY (R273): SET VSET_APPLY writes the context's VSET_CODE to the setpoint outputs of the ports in the mask. -/
def execVsetApply (ctx : Nat) (value : BitVec 48) (s : State) : Host.Outcome State Fault Refusal :=
  s.did fun d => d.setVsetApply ctx value.toNat

/-- SPIT_CFG (R258): SET SPIT_CFG sets the count, period and class of spit bursts. -/
def execSpitCfg (ctx : Nat) (value : BitVec 48) (s : State) : Host.Outcome State Fault Refusal :=
  s.did fun d => d.setSpitCfg ctx value.toNat

/-- SPIT_GO (R258): SET SPIT_GO sends CTRL SPIT to the ports in the mask and holds the context until every burst is acknowledged or times
out. -/
def execSpitGo (ctx : Nat) (value : BitVec 48) (s : State) : Host.Outcome State Fault Refusal :=
  s.did fun d => d.setSpitGo ctx value.toNat

/-- WAIT_TIME (R105): WAIT kind TIME holds the context until a time on TB2 has passed. -/
def execWaitTime (ctx : Nat) (value : BitVec 52) (s : State) : Host.Outcome State Fault Refusal :=
  s.did fun d => d.waitTime ctx value.toNat

/-- WAIT_SYNC (R105): WAIT kind SYNC holds the context until a sync counter reaches a value. -/
def execWaitSync (ctx : Nat) (value : BitVec 52) (s : State) : Host.Outcome State Fault Refusal :=
  s.did fun d => d.waitSync ctx value.toNat

/-- WAIT_AXIS (R105): WAIT kind AXIS holds the context until every axis in the mask stands still. -/
def execWaitAxis (ctx : Nat) (value : BitVec 52) (s : State) : Host.Outcome State Fault Refusal :=
  s.did fun d => d.waitAxis ctx value.toNat

/-- WAIT_MSR (R105): WAIT kind MSR holds the context until its measurement requests are no longer pending. -/
def execWaitMsr (ctx : Nat) (value : BitVec 52) (s : State) : Host.Outcome State Fault Refusal :=
  s.did fun d => d.waitMsr ctx value.toNat

/-- WAIT_TILE (R105): WAIT kind TILE requests a decode and holds the context until the tile is in the cache. -/
def execWaitTile (ctx : Nat) (value : BitVec 52) (s : State) : Host.Outcome State Fault Refusal :=
  s.did fun d => d.waitTileCmd ctx value.toNat

/-- WAIT_PAGE (R105): WAIT kind PAGE holds the context until a PAGE record of the reference job is written. -/
def execWaitPage (ctx : Nat) (value : BitVec 52) (s : State) : Host.Outcome State Fault Refusal :=
  s.did fun d => d.waitPageCmd ctx value.toNat

/-- WAIT_SATISFIED (R105): The condition of a held WAIT comes to hold, or fails, and the context continues or ends. -/
def execWaitSatisfied (ctx : Nat) (s : State) : Host.Outcome State Fault Refusal :=
  s.did fun d => d.waitSatisfied ctx

/-- SIGNAL (R93): SIGNAL increments a sync counter and posts EV_SEQ_SIGNAL as asked. -/
def execSignal (ctx : Nat) (word : BitVec 56) (s : State) : Host.Outcome State Fault Refusal :=
  s.did fun d => d.cmdSignal ctx word.toNat

/-- MARK (R118): MARK writes a MARK record to the job log. -/
def execMark (ctx : Nat) (word : BitVec 56) (s : State) : Host.Outcome State Fault Refusal :=
  s.did fun d => d.cmdMark ctx word.toNat

/-- BARRIER (R93): BARRIER holds the context until its earlier writes are visible and its earlier drops have freed their entries. -/
def execBarrier (ctx : Nat) (word : BitVec 56) (s : State) : Host.Outcome State Fault Refusal :=
  s.did fun d => d.cmdBarrier ctx word.toNat

/-- BARRIER_DONE (R93): The conditions of a held BARRIER come to hold and the context continues. -/
def execBarrierDone (ctx : Nat) (s : State) : Host.Outcome State Fault Refusal :=
  s.did fun d => d.barrierDone ctx

/-- CALL (R115): CALL pushes the return address and frame generation and enters a subprogram. -/
def execCall (ctx : Nat) (word : BitVec 56) (s : State) : Host.Outcome State Fault Refusal :=
  s.did fun d => d.cmdCall ctx word.toNat

/-- RETURN (R115): RETURN pops the call stack, or ends the context with RETURN_EMPTY. -/
def execReturn (ctx : Nat) (word : BitVec 56) (s : State) : Host.Outcome State Fault Refusal :=
  s.did fun d => d.cmdReturn ctx word.toNat

/-- PASS (R230): PASS queues a scan pass taking the next page lines. -/
def execPass (ctx : Nat) (word : BitVec 56) (s : State) : Host.Outcome State Fault Refusal :=
  s.did fun d => d.cmdPass ctx word.toNat

/-- FEED (R230): FEED marks the most recently queued pass for a substrate feed. -/
def execFeed (ctx : Nat) (word : BitVec 56) (s : State) : Host.Outcome State Fault Refusal :=
  s.did fun d => d.cmdFeed ctx word.toNat

/-- DEFECT_SYNC (R172): DEFECT_SYNC reads a defect table into the pending table and holds context 0 while it is checked. -/
def execDefectSync (ctx : Nat) (word : BitVec 56) (s : State) : Host.Outcome State Fault Refusal :=
  s.did fun d => d.cmdDefectSync ctx word.toNat

/-- DEFECT_TABLE_CHECK_DONE (R172): The defect table check completes: the table becomes pending, or the context ends with DEFECT_BAD or
MEM_ERR. -/
def execDefectTableCheckDone (s : State) : Host.Outcome State Fault Refusal :=
  s.did fun d => d.defectCheckDone

/-- PLACE (R106): PLACE places an oriented tile into the bands of the open page with a blend. -/
def execPlace (ctx : Nat) (word : BitVec 56) (word1 : BitVec 64) (s : State) : Host.Outcome State Fault Refusal :=
  s.did fun d => d.cmdPlace ctx word.toNat word1.toNat

/-- FILL (R151): FILL covers a rectangle of the open page with a constant dose. -/
def execFill (ctx : Nat) (word : BitVec 56) (word1 : BitVec 64) (s : State) : Host.Outcome State Fault Refusal :=
  s.did fun d => d.cmdFill ctx word.toNat word1.toNat

/-- MASK (R152): MASK clears elements of the open page by comparing a tile with a threshold. -/
def execMask (ctx : Nat) (word : BitVec 56) (word1 : BitVec 64) (s : State) : Host.Outcome State Fault Refusal :=
  s.did fun d => d.cmdMask ctx word.toNat word1.toNat

/-- REPEAT (R111): REPEAT replays the last n placements k times at offsets. -/
def execRepeat (ctx : Nat) (word : BitVec 56) (word1 : BitVec 64) (s : State) : Host.Outcome State Fault Refusal :=
  s.did fun d => d.cmdRepeat ctx word.toNat word1.toNat

/-- BAD_OPCODE (R101): An undefined opcode ends the context with BAD_OPCODE. -/
def execBadOpcode (ctx : Nat) (word : BitVec 64) (s : State) : Host.Outcome State Fault Refusal :=
  s.did fun d => d.cmdBadOpcode ctx word.toNat

end Sys2Proof.Machine
end

