-- ==== Sys2Proof/Machine/CrcRows.lean ====
section
/-! DEFINITION. Machine/CrcRows.lean: the check-value units (chapter 18). -/

namespace Sys2Proof.Machine

/-- CRC_START (R360): CRC_CTL op START begins a scan of a range in a space, or is refused. -/
def execCrcStart (unit : Nat) (word : Word) (s : State) : Host.Outcome State Fault Refusal :=
  s.did fun d => d.crcStart unit word.toNat

/-- CRC_CANCEL (R365): CRC_CTL op CANCEL ends a running scan after its current line. -/
def execCrcCancel (unit : Nat) (scanned : Nat) (s : State) : Host.Outcome State Fault Refusal :=
  s.did fun d => d.crcCancel unit scanned

/-- CRC_SCAN_END (R367): A scan ends; its result is compared and events posted. -/
def execCrcScanEnd (unit : Nat) (fail : Option Nat) (s : State) : Host.Outcome State Fault Refusal :=
  s.did fun d => d.crcScanEnd unit fail

end Sys2Proof.Machine
end

