-- ==== Sys2Proof/Machine/EventRows.lean ====
section
/-! DEFINITION. Machine/EventRows.lean: events and the conditions FLT watches (chapter 16). -/

namespace Sys2Proof.Machine

/-- EVENT_RAISE (R315): A source raises an event into its queue to FLT, or drops it when the queue is full. -/
def execEventRaise (ring : Option Nat) (code : Nat) (sev : Nat) (src : Nat) (arg0 : Nat) (arg1 : Nat) (s : State) : Host.Outcome State Fault Refusal :=
  s.did fun d => d.raiseTo ring code sev src arg0 arg1

/-- EVENT_ACCEPT (R317): FLT accepts a raised event, counts it and routes it to an event ring or suppresses it. -/
def execEventAccept (src : Nat) (s : State) : Host.Outcome State Fault Refusal :=
  s.did fun d => d.eventAccept src

/-- FLT_DROPPED_POST (R315): Once a source queue has room after drops, FLT posts EV_FLT_DROPPED. -/
def execFltDroppedPost (s : State) : Host.Outcome State Fault Refusal :=
  s.did fun d => d.fltDroppedPost

/-- WATCHDOG_PROBE (R326): Every wd_ms FLT probes each block's handshake; a block that does not answer raises EV_FLT_STALL. -/
def execWatchdogProbe (silent : List Nat) (s : State) : Host.Outcome State Fault Refusal :=
  s.did fun d => d.watchdogProbe silent

/-- JUNCTION_TEMP (R325): The junction crosses 105 °C or 110 °C and EV_FLT_THERMAL_WARN or EV_FLT_THERMAL is raised. -/
def execJunctionTemp (quarters : Nat) (s : State) : Host.Outcome State Fault Refusal :=
  s.did fun d => d.junctionTemp quarters

/-- CLOCK_LOSS (R325): A reference clock is lost or an island PLL unlocks and EV_FLT_CLOCK_LOSS is raised. -/
def execClockLoss (bits : Nat) (island : Nat) (s : State) : Host.Outcome State Fault Refusal :=
  s.did fun d => d.clockLoss bits island

/-- SUPPLY_TRIP (R349): An on-die supply monitor trips and EV_GLB_SUPPLY is raised. -/
def execSupplyTrip (s : State) : Host.Outcome State Fault Refusal :=
  s.did fun d => d.supplyTrip

end Sys2Proof.Machine
end

