-- ==== Sys2Proof/Machine/FieldRows.lean ====
section
/-! DEFINITION. Machine/FieldRows.lean: axis timers and switches, the Fantail, the performance monitor, and the PCIe link and other rows at the end of the table (chapters 20 to 22). -/

namespace Sys2Proof.Machine

/-- AXIS_IDLE_TIMER (R392): idle_ms after an axis stops, its current drops to i_hold_ma. -/
def execAxisIdleTimer (axis : Nat) (s : State) : Host.Outcome State Fault Refusal :=
  s.did fun d => d.axisIdle axis

/-- AXIS_POWER_DOWN (R395): off_ms after an axis stops it is powered down and its hold mode decides its position. -/
def execAxisPowerDown (axis : Nat) (s : State) : Host.Outcome State Fault Refusal :=
  s.did fun d => d.axisPowerDown axis

/-- SWITCH_EDGE (R399): A qualified edge of a home or limit switch is counted, latches a homing point or reports chatter. -/
def execSwitchEdge (axis : Nat) (which : Nat) (high : Bool) (s : State) : Host.Outcome State Fault Refusal :=
  s.did fun d => d.switchEdge axis which high

/-- AON_POWER_UP (R401): VDD_AON comes up; the Fantail resets, logs AON_UP and raises PWR_EN[3:0]. -/
def execAonPowerUp (s : State) : Host.Outcome State Fault Refusal :=
  s.did fun d => d.aonPowerUp

/-- FAN_AIN_SAMPLE (R403): An analogue input is sampled and filtered and its rules evaluated. -/
def execFanAinSample (input : Nat) (microvolts : Nat) (s : State) : Host.Outcome State Fault Refusal :=
  s.did fun d => d.fanAinSample input microvolts

/-- FAN_DIN_SAMPLE (R402): The digital inputs and WAKE_N are sampled every 1 ms and their rules evaluated. -/
def execFanDinSample (levels : Nat) (wakeN : Bool) (s : State) : Host.Outcome State Fault Refusal :=
  s.did fun d => d.fanDinSample levels wakeN

/-- FAN_ENCODER_EDGE (R407): In SLEEP an encoder step edge is counted and enc_cnt edges within enc_win_ms wake the device. -/
def execFanEncoderEdge (s : State) : Host.Outcome State Fault Refusal :=
  s.did fun d => d.fanEncoderEdge

/-- KEEPWET_TIMER (R408): The keep-wet timer expires in SLEEP and wakes the device with cause KEEPWET. -/
def execKeepwetTimer (s : State) : Host.Outcome State Fault Refusal :=
  s.did fun d => d.keepwetTimer

/-- FANTAIL_WAKE (R406): A wake starts: causes are recorded and PWR_EN[0] to PWR_EN[3] are raised in order. -/
def execFantailWake (s : State) : Host.Outcome State Fault Refusal :=
  s.did fun d => d.fantailWake

/-- PWR_EN_STEP (R406): pwr_step_ms passes and the next PWR_EN output is raised or released. -/
def execPwrEnStep (s : State) : Host.Outcome State Fault Refusal :=
  s.did fun d => d.pwrEnStep

/-- PMU_CLEAR (R414): PMU_CTL clear sets every counter to 0 at the cut. -/
def execPmuClear (s : State) : Host.Outcome State Fault Refusal :=
  s.did fun d => d.pmuClear

/-- PMU_SNAP (R415): PMU_CTL snap copies all counters to the shadow bank at the cut. -/
def execPmuSnap (s : State) : Host.Outcome State Fault Refusal :=
  s.did fun d => d.pmuSnapWrite

/-- PMU_FREEZE (R414): PMU_CTL freeze stops every counter at the cut. -/
def execPmuFreeze (s : State) : Host.Outcome State Fault Refusal :=
  s.did fun d => d.pmuFreeze

/-- PMU_UNFREEZE (R414): PMU_CTL unfreeze restarts every counter at the cut. -/
def execPmuUnfreeze (s : State) : Host.Outcome State Fault Refusal :=
  s.did fun d => d.pmuUnfreeze

/-- PCIE_LINK_UP (R68): The PCIe link trains back to L0 after a link-down, PERST# or hot reset, setting link_up and pcie_up so that
backlogged records can be written again once rings are enabled. -/
def execPcieLinkUp (width : Nat) (speed : Nat) (s : State) : Host.Outcome State Fault Refusal :=
  s.did fun d => d.pcieLinkUp width speed

/-- PCIE_CONFIG_WRITE (R68): A host write to the function's configuration space sets max payload, max read request, ECRC generation and
checking, or the MSI-X Enable bit, changing how later requests and errors are handled. -/
def execPcieConfigWrite (mps : Nat) (mrrs : Nat) (ecrcGen : Bool) (ecrcChk : Bool) (msix : Bool × Bool) (pci : Pci) (s : State) : Host.Outcome State Fault Refusal :=
  s.did fun d => d.pcieConfigWrite mps mrrs ecrcGen ecrcChk msix.1 msix.2 pci

/-- FEED_DONE_INACTIVE (R232): The filtered FEED_DONE input returns to its inactive level, ending the wait of PAC_PASS_STAT feed state 2 and
letting a held feed request be asserted. -/
def execFeedDoneInactive (s : State) : Host.Outcome State Fault Refusal :=
  s.did fun d => d.feedDoneInactive

/-- ALERT_N_CLEAR (R288): An RDIMM's ALERT_n command parity alert clears, after which the controller reissues the unacknowledged commands in
order and releases the held requests. -/
def execAlertNClear (channel : Nat) (sub : Nat) (s : State) : Host.Outcome State Fault Refusal :=
  s.did fun d => d.alertNClear channel sub

/-- BEACON_NOT_CURRENT (R335): No beacon has been received from the partner for pair_tmo_us, so the beacon stops being current and
PAIR_STAT.beacon falls. -/
def execBeaconNotCurrent (s : State) : Host.Outcome State Fault Refusal :=
  s.did fun d => d.beaconLost

end Sys2Proof.Machine
end

