-- ==== Sys2Proof/Machine/HeadRows.lean ====
section
/-! DEFINITION. Machine/HeadRows.lean: the head link: frames, bring-up and return records (chapter 12). -/

namespace Sys2Proof.Machine

/-- LINE_FRAME_SEND (R247): A LINE frame is sent on a port once its line is in the lookahead buffer, in line order and within buf_lines. -/
def execLineFrameSend (port : Nat) (sent : Option (List Nat)) (s : State) : Host.Outcome State Fault Refusal :=
  s.did fun d => d.lineFrameSend port sent

/-- FIRE_BLOCK_SEND (R245): A FIRE block is sent at its computed boundary and sub-position, fired or blank. -/
def execFireBlockSend (port : Nat) (phase : Nat) (s : State) : Host.Outcome State Fault Refusal :=
  s.did fun d => d.fireBlockSend port phase

/-- BRINGUP_RETRY (R250): retry_ms after a failure or loss, a port restarts bring-up. -/
def execBringupRetry (port : Nat) (s : State) : Host.Outcome State Fault Refusal :=
  s.did fun d => d.bringupRetry port

/-- BRINGUP_TIMEOUT (R250): A bring-up state fails after 1 ms without its expected record. -/
def execBringupTimeout (port : Nat) (s : State) : Host.Outcome State Fault Refusal :=
  s.did fun d => d.bringupTimeout port

/-- BRINGUP_SYNC_SEND (R250): In state DELAY a SYNC frame is sent every 20 µs. -/
def execBringupSyncSend (port : Nat) (s : State) : Host.Outcome State Fault Refusal :=
  s.did fun d => d.syncSend port

/-- CHAR_LOCK (R239): Character lock on a return lane is gained, moving a port from TRAIN to CAP. -/
def execCharLock (run : Nat × Nat) (s : State) : Host.Outcome State Fault Refusal :=
  s.did fun d => d.charLock run.1 run.2

/-- CHAR_LOCK_LOSS (R257): Character lock on a return lane is lost by errors or 10 µs of silence, and an UP port is lost. -/
def execCharLockLoss (port : Nat) (loss : Nat × Nat) (s : State) : Host.Outcome State Fault Refusal :=
  s.did fun d => d.charLockLoss port loss.1 loss.2

/-- ACK (R254): An ACK record arrives and settles the expected line, SHAPE or CTRL frame. -/
def execAck (port : Nat) (input : Nat) (pseq : Nat) (kind : Nat) (id : Nat) (result : Nat) (s : State) : Host.Outcome State Fault Refusal :=
  s.did fun d => d.ackRecord port input pseq kind id result

/-- TEMP (R249): A TEMP record arrives with the head's sensor temperatures. -/
def execTemp (port : Nat) (mask : Nat) (temps : List Nat) (s : State) : Host.Outcome State Fault Refusal :=
  s.did fun d => d.tempRecord port mask temps

/-- STATUS (R257): A STATUS record arrives; a fault or clear lock bit loses the port. -/
def execStatus (port : Nat) (word : Word) (s : State) : Host.Outcome State Fault Refusal :=
  s.did fun d => d.statusRecord port word

/-- CAP (R250): A CAP record arrives and is checked against Table 12-11. -/
def execCap (port : Nat) (bytes : List Byte) (s : State) : Host.Outcome State Fault Refusal :=
  s.did fun d => d.capRecord port bytes

/-- ECHO (R244): An ECHO record arrives and an RTT of the outbound delay measurement is taken. -/
def execEcho (port : Nat) (seq : Nat) (rtt : Nat) (s : State) : Host.Outcome State Fault Refusal :=
  s.did fun d => d.echoRecord port seq rtt

/-- SAMPLE_RECORD (R263): A SAMPLE record arrives and is taken by its pending request, or discarded. -/
def execSampleRecord (port : Nat) (value : Nat) (tag : Nat) (s : State) : Host.Outcome State Fault Refusal :=
  s.did fun d => d.sampleRecord port value tag

/-- RETURN_RECORD_ERROR (R249): A return record with a code or CRC error is discarded and counted; more than 16 in 1 ms loses the port. -/
def execReturnRecordError (port : Nat) (record : RecordRead) (s : State) : Host.Outcome State Fault Refusal :=
  s.did fun d => d.returnRecordError port record

/-- ACK_TIMEOUT (R254): No ACK arrives ack_tmo_us after a line's fire instant and the line is blank with NO_ACK. -/
def execAckTimeout (port : Nat) (s : State) : Host.Outcome State Fault Refusal :=
  s.did fun d => d.ackTimeout port

/-- RETRAIN (R257): HLK_PORT_CTL retrain restarts a port's bring-up. -/
def execRetrain (port : Nat) (value : Word) (s : State) : Host.Outcome State Fault Refusal :=
  s.did fun d => d.retrain port value

/-- SPIT_TIMEOUT (R258): count × period + 1 ms passes after SPIT_GO and unacknowledged ports are set in HLK_SPIT_FAIL. -/
def execSpitTimeout (ctx : Option Nat) (s : State) : Host.Outcome State Fault Refusal :=
  s.did fun d => d.spitTimeout ctx

end Sys2Proof.Machine
end

