-- ==== Sys2Proof/Machine/HostRows.lean ====
section
/-! DEFINITION. Machine/HostRows.lean: the commands of host register access, one definition for each (R8 to R10, R70). -/

namespace Sys2Proof.Machine

/-- REGISTER_WRITE (R8): An aligned 32-bit host write to a register that has no row of its own; fields of access IM and RO, and reserved
fields, are discarded. -/
def execRegisterWrite (addr : Nat) (value : Word) (s : State) : Host.Outcome State Fault Refusal :=
  s.did fun d => d.hostWrite addr value

/-- LO_READ_LATCH (R9): A read of the _LO half of a 64-bit register pair returns the live lower half and copies the live upper half into the
pair's latch. -/
def execLoReadLatch (addr : Nat) (s : State) : Host.Outcome State Fault Refusal :=
  s.did fun d => d.loReadLatch addr

/-- HI_WRITE_COMMIT (R9): A write of the _HI half of a writable pair commits the new upper half together with the staged _LO value, at one
instant. -/
def execHiWriteCommit (addr : Nat) (value : Word) (s : State) : Host.Outcome State Fault Refusal :=
  s.did fun d => d.hostWriteHi addr value

/-- LO_WRITE_STAGE (R9): A write of the _LO half of a writable pair goes only to the pair's staging register. -/
def execLoWriteStage (addr : Nat) (value : Word) (s : State) : Host.Outcome State Fault Refusal :=
  s.did fun d => d.hostWriteLo addr value

/-- RC_READ (R10): A read of a read-clear field returns its value and clears it. -/
def execRcRead (addr : Nat) (s : State) : Host.Outcome State Fault Refusal :=
  s.did fun d => d.rcRead addr

/-- W1C_WRITE (R10): A write to a write-1-to-clear field clears each bit written as 1. -/
def execW1cWrite (addr : Nat) (value : Word) (s : State) : Host.Outcome State Fault Refusal :=
  s.did fun d => d.w1cWrite addr value

/-- BAR0_BAD_REQUEST (R70): A BAR0 request that is not a single aligned DWORD with all byte enables set: a read completes with Unsupported
Request, a write is discarded, and EV_HDMA_HOST_ERR is posted. -/
def execBar0BadRequest (bad : BadRequest) (addr : Nat) (s : State) : Host.Outcome State Fault Refusal :=
  s.did fun d => d.bar0BadRequest bad addr

end Sys2Proof.Machine
end

