-- ==== Sys2Proof/Machine/MeasureRows.lean ====
section
/-! DEFINITION. Machine/MeasureRows.lean: measurement and calibration (chapter 13). -/

namespace Sys2Proof.Machine

/-- SWEEP_SLOT (R266): One element slot of a sweep: CONNECT, integrate, compute r and write the result entry. -/
def execSweepSlot (channel : Nat) (connected : Bool) (convs : List Nat) (s : State) : Host.Outcome State Fault Refusal :=
  s.did fun d => d.sweepSlot channel connected convs

/-- SWEEP_ABANDON (R268): A sweep is abandoned at the end of the current slot on a mode change, with remaining entries ABANDONED. -/
def execSweepAbandon (s : State) : Host.Outcome State Fault Refusal :=
  s.did fun d => d.sweepAbandon

/-- SAMPLE_TIMEOUT (R265): count × 100 µs + 1 ms passes and a SAMPLE request completes with what has arrived. -/
def execSampleTimeout (ctx : Nat) (s : State) : Host.Outcome State Fault Refusal :=
  s.did fun d => d.sampleTimeout ctx

/-- VSET_SETTLED (R273): 50 µs after VSET_APPLY the outputs have settled and the request completes. -/
def execVsetSettled (ctx : Nat) (s : State) : Host.Outcome State Fault Refusal :=
  s.did fun d => d.vsetSettled ctx

/-- ZERO (R274): MSR_CAL_CTL op ZERO sets the ADC offset candidates. -/
def execZero (s : State) : Host.Outcome State Fault Refusal :=
  s.did fun d => d.calStart 1

/-- VREF (R274): MSR_CAL_CTL op VREF sets the ADC gain and VSET trim candidates against CALREF. -/
def execVref (s : State) : Host.Outcome State Fault Refusal :=
  s.did fun d => d.calStart 2

/-- RREF (R274): MSR_CAL_CTL op RREF sets the current-source candidates against the reference resistor. -/
def execRref (s : State) : Host.Outcome State Fault Refusal :=
  s.did fun d => d.calStart 3

/-- APPLY (R276): MSR_CAL_CTL op APPLY loads the candidate trims, releases the VSET holds and enters STANDBY. -/
def execApply (s : State) : Host.Outcome State Fault Refusal :=
  s.did fun d => d.calApply

/-- ABANDON (R274): MSR_CAL_CTL op ABANDON discards the candidates and returns to STANDBY. -/
def execAbandon (s : State) : Host.Outcome State Fault Refusal :=
  s.did fun d => d.calAbandonOp

/-- CAL_STEP_DONE (R274): A calibration step completes and its result and EV_MSR_CAL_STEP are posted. -/
def execCalStepDone (readings : List Nat) (trims : List Int) (again : List Nat) (s : State) : Host.Outcome State Fault Refusal :=
  s.did fun d => d.calStepDone readings trims again

/-- CAL_TIMEOUT (R275): cal_tmo_s passes in CALIBRATE and calibration is abandoned. -/
def execCalTimeout (s : State) : Host.Outcome State Fault Refusal :=
  s.did fun d => d.calTimeout

end Sys2Proof.Machine
end

