-- ==== Sys2Proof/Machine/MemoryRows.lean ====
section
/-! DEFINITION. Machine/MemoryRows.lean: device memory and its integrity (chapters 14 and 15). -/

namespace Sys2Proof.Machine

/-- MEM_WRITE_ACCEPT (R290): A write enters a channel's write queue, is acknowledged and becomes visible; partial lines are merged. -/
def execMemWriteAccept (src : Nat) (gen : Nat) (addr : Nat) (bytes : List Byte) (s : State) : Host.Outcome State Fault Refusal :=
  s.did fun d => d.memWriteAccept src gen addr bytes

/-- MEM_READ_COMPLETE (R296): A device-memory read completes and its line check word is checked. -/
def execMemReadComplete (line : Nat) (req : Requester) (first : ReadLine) (again : List ReadLine) (s : State) : Host.Outcome State Fault Refusal :=
  s.did fun d => d.memReadComplete line req first again

/-- REFETCH_ANSWER (R302): A full-line write to a line awaiting refetch ends the wait and the waiting reads reread it. -/
def execRefetchAnswer (line : Nat) (s : State) : Host.Outcome State Fault Refusal :=
  s.did fun d => d.refetchAnswer line

/-- REFETCH_TIMEOUT (R302): refetch_tmo_ms passes on a pending refetch and the line is unrecoverable with TIMEOUT. -/
def execRefetchTimeout (line : Nat) (s : State) : Host.Outcome State Fault Refusal :=
  s.did fun d => d.refetchTimeout line

/-- BATCH_BOUNDARY (R293): A channel's column-command batch completes and the next batch is formed under panic or normal priority. -/
def execBatchBoundary (channel : Nat) (rtQueued : Nat) (rdQueued : Nat) (ports : List Nat) (s : State) : Host.Outcome State Fault Refusal :=
  s.did fun d => d.batchBoundary channel rtQueued rdQueued ports

/-- CA_PARITY_ALERT (R288): An RDIMM command parity alert stops a subchannel until it clears and commands are reissued. -/
def execCaParityAlert (channel : Nat) (sub : Nat) (issued : Nat) (known : Nat) (s : State) : Host.Outcome State Fault Refusal :=
  s.did fun d => d.caParityAlert channel sub (issued - known)

/-- DRAM_TEMP_POLL (R287): Every 100 ms the module thermal sensors are read and refresh rate or channel failure decided. -/
def execDramTempPoll (channel : Nat) (reading : Option Int) (s : State) : Host.Outcome State Fault Refusal :=
  s.did fun d => d.dramTempPoll channel reading

/-- DRAM_REFRESH (R287): A refresh interval tREFI expires and a refresh is issued from the PHY's own timer. -/
def execDramRefresh (channel : Nat) (s : State) : Host.Outcome State Fault Refusal :=
  s.did fun d => d.dramRefresh channel

/-- ZQ_CALIBRATION (R282): Every 128 ms the controller runs DRAM ZQ calibration. -/
def execZqCalibration (s : State) : Host.Outcome State Fault Refusal :=
  s.did fun d => d.zqCalibration

/-- MARGIN_APPLY (R284): MEM_MARGIN_CTL op APPLY adds a signed offset to a timing field. -/
def execMarginApply (s : State) : Host.Outcome State Fault Refusal :=
  s.did fun d => d.marginApply

/-- MARGIN_RUN (R284): MEM_MARGIN_CTL op RUN writes and reads back a PRBS pattern and reports failing lanes. -/
def execMarginRun (lines : Nat) (s : State) : Host.Outcome State Fault Refusal :=
  s.did fun d => d.marginRun lines

/-- MARGIN_CLEAR (R284): MEM_MARGIN_CTL op CLEAR removes all margin offsets. -/
def execMarginClear (s : State) : Host.Outcome State Fault Refusal :=
  s.did fun d => d.marginClear

/-- MARGIN_RUN_DONE (R284): A margin RUN completes and its result is set in MEM_MARGIN_STAT. -/
def execMarginRunDone (lanes : Nat) (errors : Nat) (s : State) : Host.Outcome State Fault Refusal :=
  s.did fun d => d.marginRunDone lanes errors

/-- SCRUB_START (R303): MIG_SCRUB_CTL op START begins a scrub pass, or is refused. -/
def execScrubStart (passId : Nat) (s : State) : Host.Outcome State Fault Refusal :=
  s.did fun d => d.scrubStart passId

/-- SCRUB_CANCEL (R305): MIG_SCRUB_CTL op CANCEL ends a scrub pass after its current line. -/
def execScrubCancel (s : State) : Host.Outcome State Fault Refusal :=
  s.did fun d => d.scrubCancel

/-- SCRUB_READ (R304): The scrubber reads one line at its paced rate and recovers or poisons it by class. -/
def execScrubRead (first : ReadLine) (again : List ReadLine) (s : State) : Host.Outcome State Fault Refusal :=
  s.did fun d => d.scrubRead first again

/-- SCRUB_END (R305): A scrub pass ends, writes its summary record and posts EV_MIG_SCRUB_DONE. -/
def execScrubEnd (s : State) : Host.Outcome State Fault Refusal :=
  s.did fun d => d.scrubEnd

/-- MILLPOND_CHECK_FAIL (R308): A Millpond line fails its CRC-16 and its owner recomputes it from its source. -/
def execMillpondCheckFail (use : MillpondUse) (s : State) : Host.Outcome State Fault Refusal :=
  s.did fun d => d.millpondFail use

end Sys2Proof.Machine
end

