-- ==== Sys2Proof/Machine/ModeRows.lean ====
section
/-! DEFINITION. Machine/ModeRows.lean: the commands that change the operating mode, and those of the configuration flash (chapters 1 to 3). -/

namespace Sys2Proof.Machine

/-- POWER_ON (R36): Power-on puts the device in RESET. -/
def execPowerOn (s : State) : Host.Outcome State Fault Refusal :=
  s.did fun d => d.enterReset

/-- SYS_RST_ASSERT (R424): SYS_RST_N held low for 1 µs or more puts the device in RESET. -/
def execSysRstAssert (s : State) : Host.Outcome State Fault Refusal :=
  s.did fun d => d.enterReset

/-- RESET_TO_LOAD (R35): Once SYS_RST_N is high, REFCLK25 is present and every island PLL has locked, the device leaves RESET for LOAD: it
pulses FLASH_RST_N, reads SFDP, selects and applies a slot, and trains PCIe. -/
def execResetToLoad (ifMode : Nat) (density : Nat) (major : Nat) (minor : Nat) (s : State) : Host.Outcome State Fault Refusal :=
  s.did fun d => d.resetToLoad ifMode density major minor

/-- LOAD_COMPLETE (R59): The end of the slot checks in LOAD: the device applies the newer valid slot and enters FILL, or enters SAFE with
cause LOAD_FAIL when neither slot is valid. -/
def execLoadComplete (ms100 : Nat) (s : State) : Host.Outcome State Fault Refusal :=
  s.did fun d => d.loadComplete ms100

/-- FILL_COMPLETE (R285): Memory fill ends: the self-tests have run, the MEMCOPY data has been written and the device enters STANDBY and
starts the boot job, or a channel failure sends it to SAFE with cause FILL_FAIL. -/
def execFillComplete (ms : Nat) (spd : List (Nat × Nat)) (samples : List (Nat × Nat)) (decoders : Nat) (encoders : Nat) (lanes : Nat) (bad : Option Nat) (s : State) : Host.Outcome State Fault Refusal :=
  s.did fun d => d.fillComplete ms spd samples decoders encoders lanes bad

/-- MODE_REQ_CALIBRATE (R37): A GLB_MODE_REQ write with target CALIBRATE is checked and, if legal, moves the device from STANDBY to
CALIBRATE. -/
def execModeReqCalibrate (key : Nat) (s : State) : Host.Outcome State Fault Refusal :=
  s.did fun d => d.modeReq key Mode.calibrate

/-- MODE_REQ_SAFE (R37): A GLB_MODE_REQ write with target SAFE is accepted from every mode except RESET and SLEEP and raises SAFE cause
HOST. -/
def execModeReqSafe (key : Nat) (s : State) : Host.Outcome State Fault Refusal :=
  s.did fun d => d.modeReq key Mode.safe

/-- MODE_REQ_SLEEP (R37): A GLB_MODE_REQ write with target SLEEP starts entry to SLEEP from STANDBY; it is illegal while GLB_STATUS.aon_ok
is 0. -/
def execModeReqSleep (key : Nat) (s : State) : Host.Outcome State Fault Refusal :=
  s.did fun d => d.modeReq key Mode.sleep

/-- MODE_REQ_STANDBY (R37): A GLB_MODE_REQ write with target STANDBY starts the change from SERVICE to STANDBY. -/
def execModeReqStandby (key : Nat) (s : State) : Host.Outcome State Fault Refusal :=
  s.did fun d => d.modeReq key Mode.standby

/-- MODE_REQ_SERVICE (R37): A GLB_MODE_REQ write with target SERVICE moves the device from STANDBY to SERVICE. -/
def execModeReqService (key : Nat) (s : State) : Host.Outcome State Fault Refusal :=
  s.did fun d => d.modeReq key Mode.service

/-- MODE_REQ_LOAD (R440): A GLB_MODE_REQ write with target LOAD starts a RELOAD from STANDBY or SAFE: chains are ended, ring state is reset
and LOAD is entered. -/
def execModeReqLoad (key : Nat) (s : State) : Host.Outcome State Fault Refusal :=
  s.did fun d => d.modeReq key Mode.load

/-- MODE_REQ_ILLEGAL (R37): A GLB_MODE_REQ write with a bad key, while busy, or naming an illegal transition is discarded and its result
recorded. -/
def execModeReqIllegal (key : Nat) (target : Nat) (s : State) : Host.Outcome State Fault Refusal :=
  s.did fun d => d.modeReq key target

/-- PRINT_MODE_EXIT (R35): After JOB_END, once the job's last line has fired on every port and no further JOB_BEGIN has executed, the device
returns to STANDBY. -/
def execPrintModeExit (s : State) : Host.Outcome State Fault Refusal :=
  s.did fun d => d.printExit

/-- HELD_JOB_BEGIN (R39): A JOB_BEGIN held on context 0 executes when the device next reaches STANDBY, and the device enters the print mode.
-/
def execHeldJobBegin (s : State) : Host.Outcome State Fault Refusal :=
  s.did fun d => d.heldJobBegin

/-- SERVICE_EXIT (R40): Leaving SERVICE: sweeps are abandoned, moving axes decelerate, and the mode changes once every axis stands still and
any spit burst has ended. -/
def execServiceExit (s : State) : Host.Outcome State Fault Refusal :=
  s.did fun d => d.serviceExit

/-- KEEPWET_SERVICE_ENTRY (R41): After a keep-wet wake, once any boot job has ended, the device enters SERVICE to spit. -/
def execKeepwetServiceEntry (s : State) : Host.Outcome State Fault Refusal :=
  s.did fun d => d.keepwetEntry

/-- KEEPWET_RETURN (R41): After a keep-wet spit, with every axis still and no measurement request pending, the device returns to SLEEP
unless a doorbell, mode request or JOB_BEGIN cancelled the return. -/
def execKeepwetReturn (s : State) : Host.Outcome State Fault Refusal :=
  s.did fun d => d.keepwetReturn

/-- SLEEP_ENTRY_COMPLETE (R406): The device reports SLEEP reached and the Fantail releases PWR_EN[3:0], or starts a latched wake at once. -/
def execSleepEntryComplete (s : State) : Host.Outcome State Fault Refusal :=
  s.did fun d => d.sleepComplete

/-- SHADOW_ENTRY (R331): With its PAIR section naming it SHADOW, the link up, the partner ACTIVE and the match values equal, the device
enters SHADOW in sub-state REJOIN. -/
def execShadowEntry (s : State) : Host.Outcome State Fault Refusal :=
  s.did fun d => d.shadowEntry

/-- SAFE_ENTRY (R44): The device enters SAFE within 10 µs of an accepted cause: it drives outputs as Table 2-4 gives, ends chains, blanks
unfired lines and records the cause. -/
def execSafeEntry (s : State) : Host.Outcome State Fault Refusal :=
  s.did fun d => d.safeEntry

/-- CONTEXT_STOP (R441): On entry to SAFE, or before a RELOAD or SLEEP leaves STANDBY, each context stops at its next command boundary and
ends its chain as ABORTED. -/
def execContextStop (ctx : Nat) (s : State) : Host.Outcome State Fault Refusal :=
  s.did fun d => d.contextStop ctx

/-- PCIE_RESET (R72): PERST#, a hot reset or link down resets the PCIe island and HDMA ring state, while the mode and any print continue. -/
def execPcieReset (s : State) : Host.Outcome State Fault Refusal :=
  s.did fun d => d.pcieReset

/-- AVS_INTERVAL (R17): Expiry of the AVSBus loop interval: the loop computes the target voltage from the minimum slack and commands
VoltageRail when it changes. -/
def execAvsInterval (s : State) : Host.Outcome State Fault Refusal :=
  s.did fun d => d.avsInterval

/-- AVS_TRANSACTION_DONE (R17): An AVSBus VoltageRail transaction completes; on success the commanded voltage is taken, on failure bus_err
is set and EV_GLB_AVS_ERROR is posted for the first failure of a run. -/
def execAvsTransactionDone (ok : Bool) (readback : Nat) (s : State) : Host.Outcome State Fault Refusal :=
  s.did fun d => d.avsDone ok readback

/-- FLASH_READ (R65): CFG_FLASH_CMD op READ copies len bytes from CFG_FLASH_ADDR into CFG_FLASH_BUF. -/
def execFlashRead (lenM1 : Nat) (s : State) : Host.Outcome State Fault Refusal :=
  s.did fun d => d.flashRead lenM1

/-- FLASH_PROGRAM (R65): CFG_FLASH_CMD op PROGRAM writes len bytes from CFG_FLASH_BUF to the flash; it is refused with LIVE_SLOT if any byte
lies in the loaded slot. -/
def execFlashProgram (lenM1 : Nat) (s : State) : Host.Outcome State Fault Refusal :=
  s.did fun d => d.flashProgram lenM1

/-- FLASH_ERASE_64K (R65): CFG_FLASH_CMD op ERASE_64K erases one 64 KiB sector; it is refused with ALIGN or LIVE_SLOT. -/
def execFlashErase64k (s : State) : Host.Outcome State Fault Refusal :=
  s.did fun d => d.flashErase

/-- FLASH_CHECK_SLOT (R65): CFG_FLASH_CMD op CHECK_SLOT applies the slot checks to a slot and updates CFG_SLOT_STAT without loading
anything. -/
def execFlashCheckSlot (s : State) : Host.Outcome State Fault Refusal :=
  s.did fun d => d.flashCheckSlot

/-- FLASH_CMD_DONE (R65): A flash command completes: its result is set in CFG_FLASH_STAT and EV_CFG_FLASH_DONE is posted. -/
def execFlashCmdDone (failed : Bool) (s : State) : Host.Outcome State Fault Refusal :=
  s.did fun d => d.flashCmdDone failed

end Sys2Proof.Machine
end

