-- ==== Sys2Proof/Machine/PacingRows.lean ====
section
/-! DEFINITION. Machine/PacingRows.lean: encoders, datums, passes and feeds (chapter 11). -/

namespace Sys2Proof.Machine

/-- ENCODER_COUNT (R212): A qualified count on an encoder channel updates the position, high-water mark and direction state. -/
def execEncoderCount (channel : Nat) (step : Bool) (dir : Bool) (ns : Nat) (frac : Nat) (s : State) : Host.Outcome State Fault Refusal :=
  s.did fun d => d.encoderCount channel step dir (ns * 65536 + frac)

/-- INDEX_EDGE (R223): An index edge of the line-source channel is checked against idx_nominal. -/
def execIndexEdge (ball : Nat × Bool) (s : State) : Host.Outcome State Fault Refusal :=
  s.did fun d => d.indexEdge ball.1 ball.2

/-- TOS_EDGE (R227): An active TOS_IN edge records a sheet datum, or is ignored or rejected. -/
def execTosEdge (level : Bool) (s : State) : Host.Outcome State Fault Refusal :=
  s.did fun d => d.tosEdge level

/-- SOS_EDGE (R231): An active SOS_IN edge fixes the datum of an armed pass, or is counted as ignored. -/
def execSosEdge (level : Bool) (s : State) : Host.Outcome State Fault Refusal :=
  s.did fun d => d.sosEdge level

/-- FEED_START (R232): fire_dly_ns + rec_ns after a pass's last line start the device requests the feed by handshake or axis move. -/
def execFeedStart (s : State) : Host.Outcome State Fault Refusal :=
  s.did fun d => d.feedStart

/-- FEED_DONE_EDGE (R232): An active FEED_DONE edge completes a handshake feed and releases FEED_REQ. -/
def execFeedDoneEdge (level : Bool) (s : State) : Host.Outcome State Fault Refusal :=
  s.did fun d => d.feedDoneEdge level

/-- ENC_OUT_STEP (R234): A waiting forwarded step is sent on an encoder output, or dropped beyond 65,535. -/
def execEncOutStep (output : Nat) (s : State) : Host.Outcome State Fault Refusal :=
  s.did fun d => d.encOutStep output

end Sys2Proof.Machine
end

