-- ==== Sys2Proof/Machine/PairRows.lean ====
section
/-! DEFINITION. Machine/PairRows.lean: the pair link and its messages, takeover, disputes and the rejoin (chapter 17). -/

namespace Sys2Proof.Machine

/-- PAIR_LINK_UP (R332): Every lane of the pair link holds lock and alignment and the link comes up. -/
def execPairLinkUp (lanes : Nat) (latency : Nat) (peerMatch : Nat) (s : State) : Host.Outcome State Fault Refusal :=
  s.did fun d => d.pairLinkUp lanes latency peerMatch

/-- PAIR_LINK_DOWN (R354): A lane loses lock, the pair link goes down and retrains; the devices act as R354 gives. -/
def execPairLinkDown (lanes : Nat) (s : State) : Host.Outcome State Fault Refusal :=
  s.did fun d => d.pairLinkDown lanes

/-- PAIR_REPLAY_TIMEOUT (R333): A pair-link message not acknowledged within 1 µs is sent again from the replay buffer. -/
def execPairReplayTimeout (seq : Nat) (s : State) : Host.Outcome State Fault Refusal :=
  s.did fun d => d.pairReplay seq

/-- BEAT_TIMER (R334): Every 1 µs each device sends a BEAT message. -/
def execBeatTimer (s : State) : Host.Outcome State Fault Refusal :=
  s.did fun d => d.beatTimer

/-- TIME_TIMER (R334): Every 10 µs the ACTIVE sends a TIME message. -/
def execTimeTimer (s : State) : Host.Outcome State Fault Refusal :=
  s.did fun d => d.timeTimer

/-- BEACON_TIMER (R335): Every 20 µs a paired device sends a beacon frame on both Ethernet ports. -/
def execBeaconTimer (s : State) : Host.Outcome State Fault Refusal :=
  s.did fun d => d.beaconTimer

/-- BEACON_RECEIVE (R335): A beacon frame from the partner arrives and the beacon becomes current. -/
def execBeaconReceive (mode : Nat) (s : State) : Host.Outcome State Fault Refusal :=
  s.did fun d => d.beaconArrive mode

/-- BEAT (R347): A BEAT message arrives with the partner's role and mode; a partner in SAFE, RESET, LOAD or SLEEP triggers takeover. -/
def execBeat (role : Nat) (mode : Nat) (mirror : Bool) (s : State) : Host.Outcome State Fault Refusal :=
  s.did fun d => d.beatArrive role mode mirror

/-- TIME (R336): A TIME message arrives and the SHADOW steers its TB3. -/
def execTime (tb3 : Nat) (s : State) : Host.Outcome State Fault Refusal :=
  s.did fun d => d.timeArrive tb3

/-- LINESTART (R336): A LINESTART message arrives with Z, t_ls and overspeed decisions for the SHADOW. -/
def execLineStart (z : Nat) (t : Nat) (mask : Nat) (s : State) : Host.Outcome State Fault Refusal :=
  s.did fun d => d.lineStartArrive z t mask

/-- DATUM (R336): A DATUM message gives the SHADOW a grid, sheet or pass datum. -/
def execDatum (kind : Nat) (position : Nat) (s : State) : Host.Outcome State Fault Refusal :=
  s.did fun d => d.datumArrive kind position

/-- DIGEST (R350): A DIGEST message arrives and is compared with the own digest, opening a dispute on mismatch. -/
def execDigest (port : Nat) (line : Nat) (pseq : Nat) (value : Nat) (s : State) : Host.Outcome State Fault Refusal :=
  s.did fun d => d.digestArrive port line pseq value

/-- LSTAT (R345): An LSTAT message arrives with a line's commit or ready state and blank cause. -/
def execLstat (port : Nat) (line : Nat) (ready : Bool) (cause : Nat) (s : State) : Host.Outcome State Fault Refusal :=
  s.did fun d => d.lstatArrive port line ready cause

/-- RELEASE (R347): A RELEASE message arrives and the SHADOW takes the ACTIVE role. -/
def execRelease (cause : Nat) (s : State) : Host.Outcome State Fault Refusal :=
  s.did fun d => d.releaseArrive cause

/-- RECOMP (R351): A RECOMP message arrives with the partner's recomputed digest. -/
def execRecomp (port : Nat) (line : Nat) (result : Option Nat) (s : State) : Host.Outcome State Fault Refusal :=
  s.did fun d => d.recompArrive port line result

/-- BAND (R337): A BAND message arrives with the ACTIVE's thermal bands for a page band. -/
def execBand (page : Nat) (band : Nat) (classes : Nat) (s : State) : Host.Outcome State Fault Refusal :=
  s.did fun d => d.bandArrive page band classes

/-- HOST (R339): A HOST message arrives and the SHADOW applies the relayed host write. -/
def execHost (write : HostWrite) (s : State) : Host.Outcome State Fault Refusal :=
  s.did fun d => d.hostArrive write

/-- DONE (R340): A DONE message arrives; the ACTIVE may then write the completion, and differing DONEs send the SHADOW back to REJOIN. -/
def execDone (ring : Nat) (index : Nat) (status : Nat) (result : Nat) (s : State) : Host.Outcome State Fault Refusal :=
  s.did fun d => d.doneArrive ring index status result

/-- EVENT (R342): An EVENT message arrives and the record is posted with flag PARTNER or tracked. -/
def execEvent (ring : Nat) (slot : Nat) (bytes : List Byte) (s : State) : Host.Outcome State Fault Refusal :=
  s.did fun d => d.eventArrive ring slot bytes

/-- STATE (R338): A STATE message arrives with VSET codes, axis states, request completions and the lines they wrote. -/
def execState (vset : List (Nat × Nat)) (axes : List (Nat × Nat × Axis)) (done : List Nat) (lines : List (Nat × List Byte)) (s : State) : Host.Outcome State Fault Refusal :=
  s.did fun d => d.stateArrive vset axes done lines

/-- REJOIN (R355): A REJOIN message arrives with region frames or the snapshot, which the SHADOW writes. -/
def execRejoin (part : RejoinPart) (s : State) : Host.Outcome State Fault Refusal :=
  s.did fun d => d.rejoinArrive part

/-- LINE_COMMIT_POINT (R344): At a line's commit point each device decides commit or ready and sends LSTAT. -/
def execLineCommitPoint (port : Nat) (s : State) : Host.Outcome State Fault Refusal :=
  s.did fun d => d.lineCommitPoint port

/-- PAIR_SILENCE_TIMEOUT (R347): pair_tmo_us passes with no pair-link message or beacon and the SHADOW takes the ACTIVE role. -/
def execPairSilenceTimeout (s : State) : Host.Outcome State Fault Refusal :=
  s.did fun d => d.pairSilence

/-- FAILOVER_RING_SERVE (R348): The survivor completes announced work, rewrites unconfirmed records and serves the rings within 250 µs. -/
def execFailoverRingServe (reads : List SlotRead) (s : State) : Host.Outcome State Fault Refusal :=
  s.did fun d => d.failoverServe reads

/-- DISPUTE_RECOMPUTE_DONE (R350): A device's recomputation of a disputed line completes and is sent in RECOMP. -/
def execDisputeRecomputeDone (fault : Option (Option Nat)) (s : State) : Host.Outcome State Fault Refusal :=
  s.did fun d => d.disputeRecomputed fault

/-- REJOIN_START (R355): The ACTIVE starts a rejoin when its partner reports REJOIN with equal match values. -/
def execRejoinStart (s : State) : Host.Outcome State Fault Refusal :=
  s.did fun d => d.rejoinStart

/-- REJOIN_PHASE_END (R355): A rejoin phase meets its end condition and the next phase starts, ending in MIRROR. -/
def execRejoinPhaseEnd (s : State) : Host.Outcome State Fault Refusal :=
  s.did fun d => d.rejoinPhaseEnd

/-- REJOIN_ABANDON (R356): A rejoin is abandoned on link loss, a mode change or a region beyond F. -/
def execRejoinAbandon (reason : Nat) (s : State) : Host.Outcome State Fault Refusal :=
  s.did fun d => d.rejoinAbandon reason

end Sys2Proof.Machine
end

