-- ==== Sys2Proof/Machine/RingRows.lean ====
section
/-! DEFINITION. Machine/RingRows.lean: the commands of BAR2, the rings, aborts and interrupts (chapter 4). -/

namespace Sys2Proof.Machine

/-- BAR2_READ (R74): A host read through the BAR2 window of device memory, with its range, readiness and check outcomes. -/
def execBar2Read (offset : Nat) (len : Nat) (s : State) : Host.Outcome State Fault Refusal :=
  s.did fun d => d.bar2Read offset len

/-- BAR2_WRITE (R74): A host write through the BAR2 window, with partial lines merged under the line check. -/
def execBar2Write (offset : Nat) (posted : Posted) (s : State) : Host.Outcome State Fault Refusal :=
  s.did fun d => d.hostBar2 offset posted

/-- RING_ENABLE (R76): Setting HDMA_RING_CTL.enable from 0 to 1 enables a ring and sets both indices to 0. -/
def execRingEnable (ring : Nat) (value : Word) (s : State) : Host.Outcome State Fault Refusal :=
  s.did fun d => d.hostRingEnable ring value

/-- RING_DISABLE (R76): Writing HDMA_RING_CTL.enable to 0 disables an idle, stopped or event ring; otherwise the write is ignored and
disable_refused is set. -/
def execRingDisable (ring : Nat) (value : Word) (s : State) : Host.Outcome State Fault Refusal :=
  s.did fun d => d.hostRingDisable ring value

/-- RING_DOORBELL (R77): A write of a new tail to HDMA_RING_DB posts slots on a copy or job ring, or is discarded with db_overrun. -/
def execRingDoorbell (ring : Nat) (tail : Nat) (s : State) : Host.Outcome State Fault Refusal :=
  s.did fun d => d.hostDoorbell ring tail

/-- EVENT_RING_CONSUME (R86): A write of a consumer index to an event ring's HDMA_RING_DB frees slots, or is discarded with db_overrun. -/
def execEventRingConsume (ring : Nat) (index : Nat) (s : State) : Host.Outcome State Fault Refusal :=
  s.did fun d => d.hostConsume ring index

/-- DESCRIPTOR_FETCH (R79): A descriptor read from host memory completes; a slot with own = 0 or a fetch ending in HOST_ERR stops the ring.
-/
def execDescriptorFetch (ring : Nat) (slot : Fetched) (s : State) : Host.Outcome State Fault Refusal :=
  s.did fun d => d.descriptorFetch ring slot

/-- HOST_READ_COMPLETION (R71): Completion data for a device read of host memory arrives and is funnelled into device memory, or an ECRC,
UR, CA or timeout error is handled. -/
def execHostReadCompletion (ring : Nat) (offset : Nat) (data : Option (List Byte)) (error : Bool) (s : State) : Host.Outcome State Fault Refusal :=
  s.did fun d => d.hostReadCompletion ring offset data error

/-- COPY_COMPLETE (R28): Once every byte of a copy descriptor is in its destination, the device writes its completion in two posted writes
and posts EV_HDMA_COMPLETE when asked. -/
def execCopyComplete (ring : Nat) (s : State) : Host.Outcome State Fault Refusal :=
  s.did fun d => d.copyComplete ring

/-- JOB_DESCRIPTOR_TAKE (R85): A job descriptor is taken when its context is free to start a new chain, and the chain is entered or the
descriptor completes with RANGE. -/
def execJobDescriptorTake (ctx : Nat) (s : State) : Host.Outcome State Fault Refusal :=
  s.did fun d => d.jobDescriptorTake ctx

/-- EVENT_RECORD_WRITE (R86): A waiting event record is written to its event ring once space, enable and link allow, taking the next
sequence number. -/
def execEventRecordWrite (ring : Nat) (s : State) : Host.Outcome State Fault Refusal :=
  s.did fun d => d.eventRecordWrite ring

/-- MSIX_HOLDOFF_EXPIRY (R88): The end of a ring's holdoff sends one message for the causes that arose during it. -/
def execMsixHoldoffExpiry (ring : Nat) (s : State) : Host.Outcome State Fault Refusal :=
  s.did fun d => d.msixHoldoffExpiry ring

/-- MSIX_UNMASK (R88): Unmasking a vector or the function sends the messages whose pending bits are set. -/
def execMsixUnmask (vector : Option Nat) (s : State) : Host.Outcome State Fault Refusal :=
  s.did fun d => d.msixUnmask vector

/-- ABORT_ONE (R89): An HDMA_ABORT write with scope 0 aborts one descriptor of a ring. -/
def execAbortOne (ring : Nat) (index : Nat) (s : State) : Host.Outcome State Fault Refusal :=
  s.did fun d => d.hostAbortOne ring index

/-- ABORT_SCOPE (R89): An HDMA_ABORT write with scope 1 aborts a descriptor and every later one posted at the time of the write. -/
def execAbortScope (ring : Nat) (index : Nat) (s : State) : Host.Outcome State Fault Refusal :=
  s.did fun d => d.hostAbortScope ring index

/-- ABORT_RESOLVE (R90): An abort resolves at the ring's completion writer and its outcome is recorded in HDMA_ABORT_STAT. -/
def execAbortResolve (s : State) : Host.Outcome State Fault Refusal :=
  s.did fun d => d.abortResolve

end Sys2Proof.Machine
end

