-- ==== Sys2Proof/Machine/SequencerRows.lean ====
section
/-! DEFINITION. Machine/SequencerRows.lean: what moves a context, a band and a page on beside its commands (chapters 5 and 7). -/

namespace Sys2Proof.Machine

/-- LINK_WORD (R97): At word 511 the context reads the link word and enters the next block, releases the chain, enters WAIT_TAIL or ends
with an error. -/
def execLinkWord (ctx : Nat) (s : State) : Host.Outcome State Fault Refusal :=
  s.did fun d => d.linkStep ctx

/-- SEQ_CTX_DB (R99): A SEQ_CTX_DB write requests a link-word re-read once earlier BAR2 writes are visible. -/
def execSeqCtxDb (ctx : Nat) (s : State) : Host.Outcome State Fault Refusal :=
  s.did fun d => d.hostNudge ctx

/-- SEQ_SYNC_INC (R93): A host write to SEQ_SYNC_INC adds an amount to a sync counter. -/
def execSeqSyncInc (value : Word) (s : State) : Host.Outcome State Fault Refusal :=
  s.did fun d => d.hostSync value

/-- WAIT_TAIL_REREAD (R100): In WAIT_TAIL the context re-reads the tail's link word after a doorbell and handles it as at word 511. -/
def execWaitTailReread (ctx : Nat) (s : State) : Host.Outcome State Fault Refusal :=
  s.did fun d => d.tailReread ctx

/-- WAIT_TAIL_POLL (R100): Expiry of the 10 µs WAIT_TAIL poll interval causes a re-read of the tail's link word. -/
def execWaitTailPoll (ctx : Nat) (s : State) : Host.Outcome State Fault Refusal :=
  s.did fun d => d.tailPoll ctx

/-- CONTEXT_ABORT (R117): A job abort reaches the context at its arbitration point and ends or releases the chain. -/
def execContextAbort (ctx : Nat) (s : State) : Host.Outcome State Fault Refusal :=
  s.did fun d => d.contextAbort ctx

/-- BAND_CLEAR_DONE (R155): The clear of the staging band completes and composing may begin. -/
def execBandClearDone (s : State) : Host.Outcome State Fault Refusal :=
  s.did fun d => d.bandClearDone

/-- BAND_COMMIT (R108): A confirmed band commits once dose correction has finished the committed band, and the buffers exchange roles. -/
def execBandCommit (s : State) : Host.Outcome State Fault Refusal :=
  s.did fun d => d.bandCommit

/-- PAGE_RECORD_WRITE (R118): Once a page's last line has fired on every port, with every ACK received or timed out, its PAGE record is
written and EV_SEQ_PAGE_DONE posted when asked. -/
def execPageRecordWrite (s : State) : Host.Outcome State Fault Refusal :=
  s.did fun d => d.pageRecordWrite

end Sys2Proof.Machine
end

