-- ==== Sys2Proof/Machine/TileRows.lean ====
section
/-! DEFINITION. Machine/TileRows.lean: decoding, the page cache, the export stream, composing, correction and the store (chapters 6 to 9). -/

namespace Sys2Proof.Machine

/-- DECODE_START (R128): A requested decode starts on a free active decoder once granules are available, evicting unpinned entries. -/
def execDecodeStart (unit : Nat) (s : State) : Host.Outcome State Fault Refusal :=
  s.did fun d => d.decodeStart unit

/-- DECODE_HEADER_CHECKED (R112): The frame header of a tile definition passes or fails checks 0x1 to 0x4, releasing or ending a placement
held for it. -/
def execDecodeHeaderChecked (tile : Nat) (s : State) : Host.Outcome State Fault Refusal :=
  s.did fun d => d.headerChecked tile

/-- DECODE_COMPLETE (R126): A decode ends: the tile enters the cache on OK, or the failure is retried once on another decoder, or stands. -/
def execDecodeComplete (unit : Nat) (fault : Option Nat) (s : State) : Host.Outcome State Fault Refusal :=
  s.did fun d => d.decodeComplete unit fault

/-- PCACHE_SEGMENT_DONE (R140): An encoder finishes writing a page-cache segment; after the last band the entry header is rewritten
committed. -/
def execPcacheSegmentDone (unit : Nat) (s : State) : Host.Outcome State Fault Refusal :=
  s.did fun d => d.pcacheSegmentDone unit

/-- START (R142): RUN_XP_CMD op START opens the export stream. -/
def execStart (depthM1 : Nat) (dyn : Bool) (s : State) : Host.Outcome State Fault Refusal :=
  s.did fun d => d.exportStart depthM1 dyn

/-- CONTINUE (R136): RUN_XP_CMD op CONTINUE gives the export stream its next output area after OUT_FULL. -/
def execContinue (s : State) : Host.Outcome State Fault Refusal :=
  s.did fun d => d.exportContinue

/-- CANCEL (R142): RUN_XP_CMD op CANCEL ends the export stream with CANCELLED. -/
def execCancel (s : State) : Host.Outcome State Fault Refusal :=
  s.did fun d => d.exportCancel

/-- OUT_FULL (R136): An encoder fills its output area, keeps its pending bits and waits; EV_RUN_OUT_FULL is posted. -/
def execOutFull (consumed : Nat) (s : State) : Host.Outcome State Fault Refusal :=
  s.did fun d => d.exportOutFull consumed

/-- EXPORT_DONE (R142): The export stream ends and EV_RUN_EXPORT_DONE is posted. -/
def execExportDone (s : State) : Host.Outcome State Fault Refusal :=
  s.did fun d => d.exportDone

/-- EXPORT_SUSPEND (R138): A waiting page-cache segment suspends the export stream at its next block boundary, saving its context record. -/
def execExportSuspend (blocks : Nat) (s : State) : Host.Outcome State Fault Refusal :=
  s.did fun d => d.exportSuspend blocks

/-- EXPORT_RESUME (R138): The export stream is restored from its record when an encoder falls idle. -/
def execExportResume (s : State) : Host.Outcome State Fault Refusal :=
  s.did fun d => d.exportResume

/-- TOKEN_APPLY (R154): A physical lane reads, blends and writes one token of 32 elements. -/
def execTokenApply (lane : Nat) (parity : Option Nat) (s : State) : Host.Outcome State Fault Refusal :=
  s.did fun d => d.tokenApply lane parity

/-- LANE_TOKEN_TIMEOUT (R161): A lane fails to acknowledge a token within 10 µs; its tokens are reissued and the fault counted. -/
def execLaneTokenTimeout (lane : Nat) (more : Nat) (s : State) : Host.Outcome State Fault Refusal :=
  s.did fun d => d.laneTimeout lane more

/-- BAND_LINE_RECOMPOSE (R158): A band-buffer line that fails its CRC-16 is recomposed from the placement record, or fails under R159. -/
def execBandLineRecompose (deadline : Bool) (s : State) : Host.Outcome State Fault Refusal :=
  s.did fun d => d.bandRecompose deadline

/-- LINE_CORRECT (R166): Dose correction maps, hides and requantises one page line and writes its port lines to the row-delay store. -/
def execLineCorrect (s : State) : Host.Outcome State Fault Refusal :=
  s.did fun d => d.lineCorrect

/-- STORE_READ (R188): A port line is read from the store in firing order, classed by energy control, digested and placed in the lookahead
buffer. -/
def execStoreRead (port : Nat) (s : State) : Host.Outcome State Fault Refusal :=
  s.did fun d => d.storeRead port

end Sys2Proof.Machine
end

