-- ==== Sys2Proof/Machine/TimeRows.lean ====
section
/-! DEFINITION. Machine/TimeRows.lean: Ethernet, the domains and the trigger units (chapter 19). -/

namespace Sys2Proof.Machine

/-- ETH_FRAME_RECEIVE (R369): An Ethernet frame arrives and is forwarded, consumed or dropped, with residence correction of PTP event
messages. -/
def execEthFrameReceive (port : Nat) (residence : Nat) (fifoFull : Bool) (frame : EthFrame) (s : State) : Host.Outcome State Fault Refusal :=
  s.did fun d => d.ethReceive port residence fifoFull frame

/-- ETH_LINK_CHANGE (R385): An Ethernet port's link goes up or down and EV_TIM_LINK is posted. -/
def execEthLinkChange (port : Nat) (up : Bool) (s : State) : Host.Outcome State Fault Refusal :=
  s.did fun d => d.ethLink port up

/-- OWN_FRAME_SEND (R370): An own frame leaves a port between forwarded frames. -/
def execOwnFrameSend (port : Nat) (s : State) : Host.Outcome State Fault Refusal :=
  s.did fun d => d.ownFrameSend port

/-- PTP_SYNC_RECEIVE (R379): A Sync (with its Follow_Up) reaches a slave domain and the servo steps or adjusts the base. -/
def execPtpSyncReceive (port : Nat) (msg : Ptp) (s : State) : Host.Outcome State Fault Refusal :=
  s.did fun d => d.ptpSync port msg

/-- PTP_FOLLOW_UP_RECEIVE (R379): A Follow_Up arrives and completes a two-step Sync sample. -/
def execPtpFollowUpReceive (port : Nat) (msg : Ptp) (s : State) : Host.Outcome State Fault Refusal :=
  s.did fun d => d.ptpFollowUp port msg

/-- PTP_DELAY_REQ_RECEIVE (R378): A Delay_Req reaches a master domain and is answered with Delay_Resp. -/
def execPtpDelayReqReceive (port : Nat) (msg : Ptp) (s : State) : Host.Outcome State Fault Refusal :=
  s.did fun d => d.ptpDelayReq port msg

/-- PTP_DELAY_RESP_RECEIVE (R379): A Delay_Resp reaches a slave domain and a path measurement is taken. -/
def execPtpDelayRespReceive (port : Nat) (msg : Ptp) (s : State) : Host.Outcome State Fault Refusal :=
  s.did fun d => d.ptpDelayResp port msg

/-- PTP_PDELAY_REQ_RECEIVE (R373): A Pdelay_Req arrives and is answered with a one-step Pdelay_Resp. -/
def execPtpPdelayReqReceive (port : Nat) (msg : Ptp) (s : State) : Host.Outcome State Fault Refusal :=
  s.did fun d => d.ptpPdelayReq port msg

/-- PTP_PDELAY_RESP_RECEIVE (R373): A Pdelay_Resp or its Follow_Up arrives and the port's peer delay is updated. -/
def execPtpPdelayRespReceive (port : Nat) (msg : Ptp) (s : State) : Host.Outcome State Fault Refusal :=
  s.did fun d => d.ptpPdelayResp port msg

/-- PTP_ANNOUNCE_RECEIVE (R377): An Announce arrives and the domain reruns the dataset comparison. -/
def execPtpAnnounceReceive (port : Nat) (msg : Ptp) (s : State) : Host.Outcome State Fault Refusal :=
  s.did fun d => d.ptpAnnounce port msg

/-- PTP_SYNC_TIMER (R378): A master domain sends one-step Sync every 2^log_sync s. -/
def execPtpSyncTimer (domain : Nat) (s : State) : Host.Outcome State Fault Refusal :=
  s.did fun d => d.ptpSyncTimer domain

/-- PTP_ANNOUNCE_TIMER (R378): A master domain sends Announce every 2^log_announce s. -/
def execPtpAnnounceTimer (domain : Nat) (s : State) : Host.Outcome State Fault Refusal :=
  s.did fun d => d.ptpAnnounceTimer domain

/-- PTP_PDELAY_TIMER (R373): Every 2^log_mdr s a port sends Pdelay_Req to measure peer delay. -/
def execPtpPdelayTimer (port : Nat) (s : State) : Host.Outcome State Fault Refusal :=
  s.did fun d => d.ptpPdelayTimer port

/-- PTP_DELAY_REQ_TIMER (R379): A slave domain sends Delay_Req to measure path delay. -/
def execPtpDelayReqTimer (domain : Nat) (s : State) : Host.Outcome State Fault Refusal :=
  s.did fun d => d.ptpDelayReqTimer domain

/-- PTP_ANNOUNCE_TIMEOUT (R377): The parent's Announce is missing for announce_tmo intervals; its entry is cleared and the domain may enter
holdover. -/
def execPtpAnnounceTimeout (domain : Nat) (s : State) : Host.Outcome State Fault Refusal :=
  s.did fun d => d.ptpAnnounceTimeout domain

/-- TRIGGER_EVENT (R381): A trigger unit reaches its next event time and drives its target. -/
def execTriggerEvent (unit : Nat) (sense : Nat) (uvs : List Nat) (s : State) : Host.Outcome State Fault Refusal :=
  s.did fun d => d.triggerEvent unit sense uvs

/-- TRIGGER_ARM (R381): A TIM_TRG_CTL arm bit, or entry to STANDBY with arm_std, arms a trigger unit. -/
def execTriggerArm (word : Word) (s : State) : Host.Outcome State Fault Refusal :=
  s.did fun d => d.trgCtlArm word.toNat

/-- TRIGGER_DISARM (R381): A TIM_TRG_CTL disarm bit disarms a trigger unit. -/
def execTriggerDisarm (word : Word) (s : State) : Host.Outcome State Fault Refusal :=
  s.did fun d => d.trgCtlDisarm word.toNat

end Sys2Proof.Machine
end

