-- ==== Sys2Proof/Machine/Dispatch.lean ====
section
/-! DEFINITION. Machine/Dispatch.lean: the meaning of every command, one arm each. -/

namespace Sys2Proof.Machine

/-- The command's effect on everything but the queue. -/
def exec (i : Instr) (s : State) : Host.Outcome State Fault Refusal :=
  match i with
  | .registerWrite addr value => Sys2Proof.Machine.execRegisterWrite addr value s
  | .loReadLatch addr => Sys2Proof.Machine.execLoReadLatch addr s
  | .hiWriteCommit addr value => Sys2Proof.Machine.execHiWriteCommit addr value s
  | .loWriteStage addr value => Sys2Proof.Machine.execLoWriteStage addr value s
  | .rcRead addr => Sys2Proof.Machine.execRcRead addr s
  | .w1cWrite addr value => Sys2Proof.Machine.execW1cWrite addr value s
  | .bar0BadRequest bad addr => Sys2Proof.Machine.execBar0BadRequest bad addr s
  | .powerOn => Sys2Proof.Machine.execPowerOn s
  | .sysRstAssert => Sys2Proof.Machine.execSysRstAssert s
  | .resetToLoad ifMode density major minor => Sys2Proof.Machine.execResetToLoad ifMode density major minor s
  | .loadComplete ms100 => Sys2Proof.Machine.execLoadComplete ms100 s
  | .fillComplete ms spd samples decoders encoders lanes bad => Sys2Proof.Machine.execFillComplete ms spd samples decoders encoders lanes bad s
  | .modeReqCalibrate key => Sys2Proof.Machine.execModeReqCalibrate key s
  | .modeReqSafe key => Sys2Proof.Machine.execModeReqSafe key s
  | .modeReqSleep key => Sys2Proof.Machine.execModeReqSleep key s
  | .modeReqStandby key => Sys2Proof.Machine.execModeReqStandby key s
  | .modeReqService key => Sys2Proof.Machine.execModeReqService key s
  | .modeReqLoad key => Sys2Proof.Machine.execModeReqLoad key s
  | .modeReqIllegal key target => Sys2Proof.Machine.execModeReqIllegal key target s
  | .printModeExit => Sys2Proof.Machine.execPrintModeExit s
  | .heldJobBegin => Sys2Proof.Machine.execHeldJobBegin s
  | .serviceExit => Sys2Proof.Machine.execServiceExit s
  | .keepwetServiceEntry => Sys2Proof.Machine.execKeepwetServiceEntry s
  | .keepwetReturn => Sys2Proof.Machine.execKeepwetReturn s
  | .sleepEntryComplete => Sys2Proof.Machine.execSleepEntryComplete s
  | .shadowEntry => Sys2Proof.Machine.execShadowEntry s
  | .safeEntry => Sys2Proof.Machine.execSafeEntry s
  | .contextStop ctx => Sys2Proof.Machine.execContextStop ctx s
  | .pcieReset => Sys2Proof.Machine.execPcieReset s
  | .avsInterval => Sys2Proof.Machine.execAvsInterval s
  | .avsTransactionDone ok readback => Sys2Proof.Machine.execAvsTransactionDone ok readback s
  | .flashRead lenM1 => Sys2Proof.Machine.execFlashRead lenM1 s
  | .flashProgram lenM1 => Sys2Proof.Machine.execFlashProgram lenM1 s
  | .flashErase64k => Sys2Proof.Machine.execFlashErase64k s
  | .flashCheckSlot => Sys2Proof.Machine.execFlashCheckSlot s
  | .flashCmdDone failed => Sys2Proof.Machine.execFlashCmdDone failed s
  | .bar2Read offset len => Sys2Proof.Machine.execBar2Read offset len s
  | .bar2Write offset posted => Sys2Proof.Machine.execBar2Write offset posted s
  | .ringEnable ring value => Sys2Proof.Machine.execRingEnable ring value s
  | .ringDisable ring value => Sys2Proof.Machine.execRingDisable ring value s
  | .ringDoorbell ring tail => Sys2Proof.Machine.execRingDoorbell ring tail s
  | .eventRingConsume ring index => Sys2Proof.Machine.execEventRingConsume ring index s
  | .descriptorFetch ring slot => Sys2Proof.Machine.execDescriptorFetch ring slot s
  | .hostReadCompletion ring offset data error => Sys2Proof.Machine.execHostReadCompletion ring offset data error s
  | .copyComplete ring => Sys2Proof.Machine.execCopyComplete ring s
  | .jobDescriptorTake ctx => Sys2Proof.Machine.execJobDescriptorTake ctx s
  | .eventRecordWrite ring => Sys2Proof.Machine.execEventRecordWrite ring s
  | .msixHoldoffExpiry ring => Sys2Proof.Machine.execMsixHoldoffExpiry ring s
  | .msixUnmask vector => Sys2Proof.Machine.execMsixUnmask vector s
  | .abortOne ring index => Sys2Proof.Machine.execAbortOne ring index s
  | .abortScope ring index => Sys2Proof.Machine.execAbortScope ring index s
  | .abortResolve => Sys2Proof.Machine.execAbortResolve s
  | .nop ctx word => Sys2Proof.Machine.execNop ctx word s
  | .jobBegin ctx word => Sys2Proof.Machine.execJobBegin ctx word s
  | .jobEnd ctx word => Sys2Proof.Machine.execJobEnd ctx word s
  | .pageBegin ctx word => Sys2Proof.Machine.execPageBegin ctx word s
  | .pageEnd ctx word => Sys2Proof.Machine.execPageEnd ctx word s
  | .skipLines ctx word => Sys2Proof.Machine.execSkipLines ctx word s
  | .copies ctx word => Sys2Proof.Machine.execCopies ctx word s
  | .tileDef ctx word word1 => Sys2Proof.Machine.execTileDef ctx word word1 s
  | .tileDrop ctx word => Sys2Proof.Machine.execTileDrop ctx word s
  | .setLogBase ctx value => Sys2Proof.Machine.execSetLogBase ctx value s
  | .setLogLen ctx value => Sys2Proof.Machine.execSetLogLen ctx value s
  | .setPcacheBase ctx value => Sys2Proof.Machine.execSetPcacheBase ctx value s
  | .setPcacheLen ctx value => Sys2Proof.Machine.execSetPcacheLen ctx value s
  | .setEvtRing ctx value => Sys2Proof.Machine.execSetEvtRing ctx value s
  | .setParamUndefined ctx param value => Sys2Proof.Machine.execSetParamUndefined ctx param value s
  | .moveAbs ctx value => Sys2Proof.Machine.execMoveAbs ctx value s
  | .moveRel ctx value => Sys2Proof.Machine.execMoveRel ctx value s
  | .setVmax ctx value => Sys2Proof.Machine.execSetVmax ctx value s
  | .setAccel ctx value => Sys2Proof.Machine.execSetAccel ctx value s
  | .setDecel ctx value => Sys2Proof.Machine.execSetDecel ctx value s
  | .setJerk ctx value => Sys2Proof.Machine.execSetJerk ctx value s
  | .home ctx value => Sys2Proof.Machine.execHome ctx value s
  | .stop ctx value => Sys2Proof.Machine.execStop ctx value s
  | .setPos ctx value => Sys2Proof.Machine.execSetPos ctx value s
  | .power ctx value => Sys2Proof.Machine.execPower ctx value s
  | .table ctx value => Sys2Proof.Machine.execTable ctx value s
  | .resultBase ctx value => Sys2Proof.Machine.execResultBase ctx value s
  | .defectOut ctx value => Sys2Proof.Machine.execDefectOut ctx value s
  | .defectVer ctx value => Sys2Proof.Machine.execDefectVer ctx value s
  | .sweep ctx value => Sys2Proof.Machine.execSweep ctx value s
  | .sample ctx value => Sys2Proof.Machine.execSample ctx value s
  | .vsetCode ctx value => Sys2Proof.Machine.execVsetCode ctx value s
  | .vsetApply ctx value => Sys2Proof.Machine.execVsetApply ctx value s
  | .spitCfg ctx value => Sys2Proof.Machine.execSpitCfg ctx value s
  | .spitGo ctx value => Sys2Proof.Machine.execSpitGo ctx value s
  | .waitTime ctx value => Sys2Proof.Machine.execWaitTime ctx value s
  | .waitSync ctx value => Sys2Proof.Machine.execWaitSync ctx value s
  | .waitAxis ctx value => Sys2Proof.Machine.execWaitAxis ctx value s
  | .waitMsr ctx value => Sys2Proof.Machine.execWaitMsr ctx value s
  | .waitTile ctx value => Sys2Proof.Machine.execWaitTile ctx value s
  | .waitPage ctx value => Sys2Proof.Machine.execWaitPage ctx value s
  | .waitSatisfied ctx => Sys2Proof.Machine.execWaitSatisfied ctx s
  | .signal ctx word => Sys2Proof.Machine.execSignal ctx word s
  | .mark ctx word => Sys2Proof.Machine.execMark ctx word s
  | .barrier ctx word => Sys2Proof.Machine.execBarrier ctx word s
  | .barrierDone ctx => Sys2Proof.Machine.execBarrierDone ctx s
  | .call ctx word => Sys2Proof.Machine.execCall ctx word s
  | .return_ ctx word => Sys2Proof.Machine.execReturn ctx word s
  | .pass ctx word => Sys2Proof.Machine.execPass ctx word s
  | .feed ctx word => Sys2Proof.Machine.execFeed ctx word s
  | .defectSync ctx word => Sys2Proof.Machine.execDefectSync ctx word s
  | .defectTableCheckDone => Sys2Proof.Machine.execDefectTableCheckDone s
  | .place ctx word word1 => Sys2Proof.Machine.execPlace ctx word word1 s
  | .fill ctx word word1 => Sys2Proof.Machine.execFill ctx word word1 s
  | .mask ctx word word1 => Sys2Proof.Machine.execMask ctx word word1 s
  | .repeat_ ctx word word1 => Sys2Proof.Machine.execRepeat ctx word word1 s
  | .badOpcode ctx word => Sys2Proof.Machine.execBadOpcode ctx word s
  | .linkWord ctx => Sys2Proof.Machine.execLinkWord ctx s
  | .seqCtxDb ctx => Sys2Proof.Machine.execSeqCtxDb ctx s
  | .seqSyncInc value => Sys2Proof.Machine.execSeqSyncInc value s
  | .waitTailReread ctx => Sys2Proof.Machine.execWaitTailReread ctx s
  | .waitTailPoll ctx => Sys2Proof.Machine.execWaitTailPoll ctx s
  | .contextAbort ctx => Sys2Proof.Machine.execContextAbort ctx s
  | .bandClearDone => Sys2Proof.Machine.execBandClearDone s
  | .bandCommit => Sys2Proof.Machine.execBandCommit s
  | .pageRecordWrite => Sys2Proof.Machine.execPageRecordWrite s
  | .decodeStart unit => Sys2Proof.Machine.execDecodeStart unit s
  | .decodeHeaderChecked tile => Sys2Proof.Machine.execDecodeHeaderChecked tile s
  | .decodeComplete unit fault => Sys2Proof.Machine.execDecodeComplete unit fault s
  | .pcacheSegmentDone unit => Sys2Proof.Machine.execPcacheSegmentDone unit s
  | .start depthM1 dyn => Sys2Proof.Machine.execStart depthM1 dyn s
  | .continue_ => Sys2Proof.Machine.execContinue s
  | .cancel => Sys2Proof.Machine.execCancel s
  | .outFull consumed => Sys2Proof.Machine.execOutFull consumed s
  | .exportDone => Sys2Proof.Machine.execExportDone s
  | .exportSuspend blocks => Sys2Proof.Machine.execExportSuspend blocks s
  | .exportResume => Sys2Proof.Machine.execExportResume s
  | .tokenApply lane parity => Sys2Proof.Machine.execTokenApply lane parity s
  | .laneTokenTimeout lane more => Sys2Proof.Machine.execLaneTokenTimeout lane more s
  | .bandLineRecompose deadline => Sys2Proof.Machine.execBandLineRecompose deadline s
  | .lineCorrect => Sys2Proof.Machine.execLineCorrect s
  | .storeRead port => Sys2Proof.Machine.execStoreRead port s
  | .encoderCount channel step dir ns frac => Sys2Proof.Machine.execEncoderCount channel step dir ns frac s
  | .indexEdge ball => Sys2Proof.Machine.execIndexEdge ball s
  | .tosEdge level => Sys2Proof.Machine.execTosEdge level s
  | .sosEdge level => Sys2Proof.Machine.execSosEdge level s
  | .feedStart => Sys2Proof.Machine.execFeedStart s
  | .feedDoneEdge level => Sys2Proof.Machine.execFeedDoneEdge level s
  | .encOutStep output => Sys2Proof.Machine.execEncOutStep output s
  | .lineFrameSend port sent => Sys2Proof.Machine.execLineFrameSend port sent s
  | .fireBlockSend port phase => Sys2Proof.Machine.execFireBlockSend port phase s
  | .bringupRetry port => Sys2Proof.Machine.execBringupRetry port s
  | .bringupTimeout port => Sys2Proof.Machine.execBringupTimeout port s
  | .bringupSyncSend port => Sys2Proof.Machine.execBringupSyncSend port s
  | .charLock run => Sys2Proof.Machine.execCharLock run s
  | .charLockLoss port loss => Sys2Proof.Machine.execCharLockLoss port loss s
  | .ack port input pseq kind id result => Sys2Proof.Machine.execAck port input pseq kind id result s
  | .temp port mask temps => Sys2Proof.Machine.execTemp port mask temps s
  | .status port word => Sys2Proof.Machine.execStatus port word s
  | .cap port bytes => Sys2Proof.Machine.execCap port bytes s
  | .echo port seq rtt => Sys2Proof.Machine.execEcho port seq rtt s
  | .sampleRecord port value tag => Sys2Proof.Machine.execSampleRecord port value tag s
  | .returnRecordError port record => Sys2Proof.Machine.execReturnRecordError port record s
  | .ackTimeout port => Sys2Proof.Machine.execAckTimeout port s
  | .retrain port value => Sys2Proof.Machine.execRetrain port value s
  | .spitTimeout ctx => Sys2Proof.Machine.execSpitTimeout ctx s
  | .sweepSlot channel connected convs => Sys2Proof.Machine.execSweepSlot channel connected convs s
  | .sweepAbandon => Sys2Proof.Machine.execSweepAbandon s
  | .sampleTimeout ctx => Sys2Proof.Machine.execSampleTimeout ctx s
  | .vsetSettled ctx => Sys2Proof.Machine.execVsetSettled ctx s
  | .zero => Sys2Proof.Machine.execZero s
  | .vref => Sys2Proof.Machine.execVref s
  | .rref => Sys2Proof.Machine.execRref s
  | .apply => Sys2Proof.Machine.execApply s
  | .abandon => Sys2Proof.Machine.execAbandon s
  | .calStepDone readings trims again => Sys2Proof.Machine.execCalStepDone readings trims again s
  | .calTimeout => Sys2Proof.Machine.execCalTimeout s
  | .memWriteAccept src gen addr bytes => Sys2Proof.Machine.execMemWriteAccept src gen addr bytes s
  | .memReadComplete line req first again => Sys2Proof.Machine.execMemReadComplete line req first again s
  | .refetchAnswer line => Sys2Proof.Machine.execRefetchAnswer line s
  | .refetchTimeout line => Sys2Proof.Machine.execRefetchTimeout line s
  | .batchBoundary channel rtQueued rdQueued ports => Sys2Proof.Machine.execBatchBoundary channel rtQueued rdQueued ports s
  | .caParityAlert channel sub issued known => Sys2Proof.Machine.execCaParityAlert channel sub issued known s
  | .dramTempPoll channel reading => Sys2Proof.Machine.execDramTempPoll channel reading s
  | .dramRefresh channel => Sys2Proof.Machine.execDramRefresh channel s
  | .zqCalibration => Sys2Proof.Machine.execZqCalibration s
  | .marginApply => Sys2Proof.Machine.execMarginApply s
  | .marginRun lines => Sys2Proof.Machine.execMarginRun lines s
  | .marginClear => Sys2Proof.Machine.execMarginClear s
  | .marginRunDone lanes errors => Sys2Proof.Machine.execMarginRunDone lanes errors s
  | .scrubStart passId => Sys2Proof.Machine.execScrubStart passId s
  | .scrubCancel => Sys2Proof.Machine.execScrubCancel s
  | .scrubRead first again => Sys2Proof.Machine.execScrubRead first again s
  | .scrubEnd => Sys2Proof.Machine.execScrubEnd s
  | .millpondCheckFail use => Sys2Proof.Machine.execMillpondCheckFail use s
  | .eventRaise ring code sev src arg0 arg1 => Sys2Proof.Machine.execEventRaise ring code sev src arg0 arg1 s
  | .eventAccept src => Sys2Proof.Machine.execEventAccept src s
  | .fltDroppedPost => Sys2Proof.Machine.execFltDroppedPost s
  | .watchdogProbe silent => Sys2Proof.Machine.execWatchdogProbe silent s
  | .junctionTemp quarters => Sys2Proof.Machine.execJunctionTemp quarters s
  | .clockLoss bits island => Sys2Proof.Machine.execClockLoss bits island s
  | .supplyTrip => Sys2Proof.Machine.execSupplyTrip s
  | .pairLinkUp lanes latency peerMatch => Sys2Proof.Machine.execPairLinkUp lanes latency peerMatch s
  | .pairLinkDown lanes => Sys2Proof.Machine.execPairLinkDown lanes s
  | .pairReplayTimeout seq => Sys2Proof.Machine.execPairReplayTimeout seq s
  | .beatTimer => Sys2Proof.Machine.execBeatTimer s
  | .timeTimer => Sys2Proof.Machine.execTimeTimer s
  | .beaconTimer => Sys2Proof.Machine.execBeaconTimer s
  | .beaconReceive mode => Sys2Proof.Machine.execBeaconReceive mode s
  | .beat role mode mirror => Sys2Proof.Machine.execBeat role mode mirror s
  | .time tb3 => Sys2Proof.Machine.execTime tb3 s
  | .lineStart z t mask => Sys2Proof.Machine.execLineStart z t mask s
  | .datum kind position => Sys2Proof.Machine.execDatum kind position s
  | .digest port line pseq value => Sys2Proof.Machine.execDigest port line pseq value s
  | .lstat port line ready cause => Sys2Proof.Machine.execLstat port line ready cause s
  | .release cause => Sys2Proof.Machine.execRelease cause s
  | .recomp port line result => Sys2Proof.Machine.execRecomp port line result s
  | .band page band classes => Sys2Proof.Machine.execBand page band classes s
  | .host write => Sys2Proof.Machine.execHost write s
  | .done ring index status result => Sys2Proof.Machine.execDone ring index status result s
  | .event ring slot bytes => Sys2Proof.Machine.execEvent ring slot bytes s
  | .state vset axes done lines => Sys2Proof.Machine.execState vset axes done lines s
  | .rejoin part => Sys2Proof.Machine.execRejoin part s
  | .lineCommitPoint port => Sys2Proof.Machine.execLineCommitPoint port s
  | .pairSilenceTimeout => Sys2Proof.Machine.execPairSilenceTimeout s
  | .failoverRingServe reads => Sys2Proof.Machine.execFailoverRingServe reads s
  | .disputeRecomputeDone fault => Sys2Proof.Machine.execDisputeRecomputeDone fault s
  | .rejoinStart => Sys2Proof.Machine.execRejoinStart s
  | .rejoinPhaseEnd => Sys2Proof.Machine.execRejoinPhaseEnd s
  | .rejoinAbandon reason => Sys2Proof.Machine.execRejoinAbandon reason s
  | .crcStart unit word => Sys2Proof.Machine.execCrcStart unit word s
  | .crcCancel unit scanned => Sys2Proof.Machine.execCrcCancel unit scanned s
  | .crcScanEnd unit fail => Sys2Proof.Machine.execCrcScanEnd unit fail s
  | .ethFrameReceive port residence fifoFull frame => Sys2Proof.Machine.execEthFrameReceive port residence fifoFull frame s
  | .ethLinkChange port up => Sys2Proof.Machine.execEthLinkChange port up s
  | .ownFrameSend port => Sys2Proof.Machine.execOwnFrameSend port s
  | .ptpSyncReceive port msg => Sys2Proof.Machine.execPtpSyncReceive port msg s
  | .ptpFollowUpReceive port msg => Sys2Proof.Machine.execPtpFollowUpReceive port msg s
  | .ptpDelayReqReceive port msg => Sys2Proof.Machine.execPtpDelayReqReceive port msg s
  | .ptpDelayRespReceive port msg => Sys2Proof.Machine.execPtpDelayRespReceive port msg s
  | .ptpPdelayReqReceive port msg => Sys2Proof.Machine.execPtpPdelayReqReceive port msg s
  | .ptpPdelayRespReceive port msg => Sys2Proof.Machine.execPtpPdelayRespReceive port msg s
  | .ptpAnnounceReceive port msg => Sys2Proof.Machine.execPtpAnnounceReceive port msg s
  | .ptpSyncTimer domain => Sys2Proof.Machine.execPtpSyncTimer domain s
  | .ptpAnnounceTimer domain => Sys2Proof.Machine.execPtpAnnounceTimer domain s
  | .ptpPdelayTimer port => Sys2Proof.Machine.execPtpPdelayTimer port s
  | .ptpDelayReqTimer domain => Sys2Proof.Machine.execPtpDelayReqTimer domain s
  | .ptpAnnounceTimeout domain => Sys2Proof.Machine.execPtpAnnounceTimeout domain s
  | .triggerEvent unit sense uvs => Sys2Proof.Machine.execTriggerEvent unit sense uvs s
  | .triggerArm word => Sys2Proof.Machine.execTriggerArm word s
  | .triggerDisarm word => Sys2Proof.Machine.execTriggerDisarm word s
  | .axisIdleTimer axis => Sys2Proof.Machine.execAxisIdleTimer axis s
  | .axisPowerDown axis => Sys2Proof.Machine.execAxisPowerDown axis s
  | .switchEdge axis which high => Sys2Proof.Machine.execSwitchEdge axis which high s
  | .aonPowerUp => Sys2Proof.Machine.execAonPowerUp s
  | .fanAinSample input microvolts => Sys2Proof.Machine.execFanAinSample input microvolts s
  | .fanDinSample levels wakeN => Sys2Proof.Machine.execFanDinSample levels wakeN s
  | .fanEncoderEdge => Sys2Proof.Machine.execFanEncoderEdge s
  | .keepwetTimer => Sys2Proof.Machine.execKeepwetTimer s
  | .fantailWake => Sys2Proof.Machine.execFantailWake s
  | .pwrEnStep => Sys2Proof.Machine.execPwrEnStep s
  | .pmuClear => Sys2Proof.Machine.execPmuClear s
  | .pmuSnap => Sys2Proof.Machine.execPmuSnap s
  | .pmuFreeze => Sys2Proof.Machine.execPmuFreeze s
  | .pmuUnfreeze => Sys2Proof.Machine.execPmuUnfreeze s
  | .pcieLinkUp width speed => Sys2Proof.Machine.execPcieLinkUp width speed s
  | .pcieConfigWrite mps mrrs ecrcGen ecrcChk msix pci => Sys2Proof.Machine.execPcieConfigWrite mps mrrs ecrcGen ecrcChk msix pci s
  | .feedDoneInactive => Sys2Proof.Machine.execFeedDoneInactive s
  | .alertNClear channel sub => Sys2Proof.Machine.execAlertNClear channel sub s
  | .beaconNotCurrent => Sys2Proof.Machine.execBeaconNotCurrent s

end Sys2Proof.Machine
end

