-- ==== Sys2Proof/WellFormed.lean ====
section
/-! DEFINITION. WellFormed.lean: which commands can be given: the numbers of contexts, rings, ports and units that exist, aligned register
offsets, records of the right length. -/

namespace Sys2Proof

open Machine

/-- One of the eight contexts (R91). -/
def ctxOk (k : Nat) : Bool := Nat.blt k 8
/-- One of the 32 head ports (chapter 12). -/
def portOk (k : Nat) : Bool := Nat.blt k 32
/-- One of the 64 rings (R75). -/
def ringOk (n : Nat) : Bool := Nat.blt n 64
/-- One of the eight event rings (R75). -/
def eventRingOk (j : Nat) : Bool := Nat.blt j 8
/-- An aligned offset in BAR0 (R8). -/
def regOk (a : Nat) : Bool := a % 4 == 0 && Nat.blt a 0x2000000
/-- A ring index as HDMA_RING_DB and HDMA_ABORT hold it (R77, R89). -/
def indexOk (i : Nat) : Bool := Nat.blt i 65536
/-- The 32 bytes of a descriptor or an event record (R79, R86). -/
def slotOk (bs : (List Byte)) : Bool := bs.length == 32
/-- What a descriptor fetch brings: 32 bytes, if any (R79). -/
def fetchedOk (f : Fetched) : Bool := match f with | .slot bs => slotOk bs | _ => true
/-- One of the 26 decoders (R143). -/
def decoderOk (u : Nat) : Bool := Nat.blt u 26
/-- One of the four encoders (R143). -/
def encoderOk (e : Nat) : Bool := Nat.blt e 4
/-- One of the eight logical lanes (R154). -/
def laneOk (k : Nat) : Bool := Nat.blt k 8
/-- One of the eight memory channels (R279). -/
def channelOk (c : Nat) : Bool := Nat.blt c 8
/-- One of a channel's two subchannels. -/
def subOk (s : Nat) : Bool := Nat.blt s 2
/-- One of the six axes (R386). -/
def axisOk (k : Nat) : Bool := Nat.blt k 6
/-- One of the two encoder channels (R212). -/
def encChannelOk (c : Nat) : Bool := Nat.blt c 2
/-- One of the two encoder outputs (R233). -/
def outputOk (n : Nat) : Bool := Nat.blt n 2
/-- One of the two Ethernet ports (R369). -/
def ethPortOk (p : Nat) : Bool := Nat.blt p 2
/-- One of the two domains (R377). -/
def domainOk (i : Nat) : Bool := Nat.blt i 2
/-- One of the sixteen trigger units (R381). -/
def triggerOk (n : Nat) : Bool := Nat.blt n 16
/-- One of the eight check-value units (R360). -/
def crcUnitOk (u : Nat) : Bool := Nat.blt u 8
/-- One of the eight analogue inputs (R402). -/
def inputOk (i : Nat) : Bool := Nat.blt i 8
/-- The home or the limit switch (R399). -/
def switchOk (w : Nat) : Bool := Nat.blt w 2
/-- A 64-byte line of the 40-bit device address space. -/
def lineOk (l : Nat) : Bool := Nat.blt l (2 ^ 34)
/-- A line as the DRAM gives it: 64 bytes and a 128-bit check word. -/
def readOk (r : ReadLine) : Bool := r.data.length == 64 && Nat.blt r.check (2 ^ 128)
/-- At most two rereads, each a line (R296). -/
def readsOk (rs : (List ReadLine)) : Bool := Nat.ble rs.length 2 && rs.all readOk
/-- An event's code, severity and source ID (R311 to R314). -/
def eventOk (code sev src : Nat) : Bool := Nat.blt code 65536 && Nat.ble sev 5 && Nat.blt src 256
/-- A 64-bit argument of an event record. -/
def argOk (a : Nat) : Bool := Nat.blt a (2 ^ 64)
/-- len_m1 of CFG_FLASH_CMD. -/
def lenOk (n : Nat) : Bool := Nat.blt n 65536
/-- A word that no command of Table 5-3 and no kind of Table 5-6 gives its meaning. -/
def opcodeBad (w : (BitVec 64)) : Bool := !(opcodeDefined (w.extractLsb' 56 8)) || (w.extractLsb' 56 8 == 0x21 && Nat.ble 6 (w.extractLsb' 52 4).toNat)
/-- A parameter that no table lists. -/
def paramBad (p : (BitVec 8)) : Bool := !(paramListed p)

/-- Can the command be given? -/
def Instr.wf (i : Instr) : Bool :=
  match i with
  | .registerWrite addr _ => regOk addr
  | .loReadLatch addr => regOk addr
  | .hiWriteCommit addr _ => regOk addr
  | .loWriteStage addr _ => regOk addr
  | .rcRead addr => regOk addr
  | .w1cWrite addr _ => regOk addr
  | .bar0BadRequest _ _ => true
  | .powerOn => true
  | .sysRstAssert => true
  | .resetToLoad _ _ _ _ => true
  | .loadComplete _ => true
  | .fillComplete _ _ _ _ _ _ _ => true
  | .modeReqCalibrate _ => true
  | .modeReqSafe _ => true
  | .modeReqSleep _ => true
  | .modeReqStandby _ => true
  | .modeReqService _ => true
  | .modeReqLoad _ => true
  | .modeReqIllegal _ _ => true
  | .printModeExit => true
  | .heldJobBegin => true
  | .serviceExit => true
  | .keepwetServiceEntry => true
  | .keepwetReturn => true
  | .sleepEntryComplete => true
  | .shadowEntry => true
  | .safeEntry => true
  | .contextStop ctx => ctxOk ctx
  | .pcieReset => true
  | .avsInterval => true
  | .avsTransactionDone _ _ => true
  | .flashRead lenM1 => lenOk lenM1
  | .flashProgram lenM1 => lenOk lenM1
  | .flashErase64k => true
  | .flashCheckSlot => true
  | .flashCmdDone _ => true
  | .bar2Read _ _ => true
  | .bar2Write _ _ => true
  | .ringEnable ring _ => ringOk ring
  | .ringDisable ring _ => ringOk ring
  | .ringDoorbell ring tail => ringOk ring && indexOk tail
  | .eventRingConsume ring index => ringOk ring && indexOk index
  | .descriptorFetch ring slot => ringOk ring && fetchedOk slot
  | .hostReadCompletion ring _ _ _ => ringOk ring
  | .copyComplete ring => ringOk ring
  | .jobDescriptorTake ctx => ctxOk ctx
  | .eventRecordWrite ring => eventRingOk ring
  | .msixHoldoffExpiry ring => ringOk ring
  | .msixUnmask _ => true
  | .abortOne ring index => ringOk ring && indexOk index
  | .abortScope ring index => ringOk ring && indexOk index
  | .abortResolve => true
  | .nop ctx _ => ctxOk ctx
  | .jobBegin ctx _ => ctxOk ctx
  | .jobEnd ctx _ => ctxOk ctx
  | .pageBegin ctx _ => ctxOk ctx
  | .pageEnd ctx _ => ctxOk ctx
  | .skipLines ctx _ => ctxOk ctx
  | .copies ctx _ => ctxOk ctx
  | .tileDef ctx _ _ => ctxOk ctx
  | .tileDrop ctx _ => ctxOk ctx
  | .setLogBase ctx _ => ctxOk ctx
  | .setLogLen ctx _ => ctxOk ctx
  | .setPcacheBase ctx _ => ctxOk ctx
  | .setPcacheLen ctx _ => ctxOk ctx
  | .setEvtRing ctx _ => ctxOk ctx
  | .setParamUndefined ctx param _ => ctxOk ctx && paramBad param
  | .moveAbs ctx _ => ctxOk ctx
  | .moveRel ctx _ => ctxOk ctx
  | .setVmax ctx _ => ctxOk ctx
  | .setAccel ctx _ => ctxOk ctx
  | .setDecel ctx _ => ctxOk ctx
  | .setJerk ctx _ => ctxOk ctx
  | .home ctx _ => ctxOk ctx
  | .stop ctx _ => ctxOk ctx
  | .setPos ctx _ => ctxOk ctx
  | .power ctx _ => ctxOk ctx
  | .table ctx _ => ctxOk ctx
  | .resultBase ctx _ => ctxOk ctx
  | .defectOut ctx _ => ctxOk ctx
  | .defectVer ctx _ => ctxOk ctx
  | .sweep ctx _ => ctxOk ctx
  | .sample ctx _ => ctxOk ctx
  | .vsetCode ctx _ => ctxOk ctx
  | .vsetApply ctx _ => ctxOk ctx
  | .spitCfg ctx _ => ctxOk ctx
  | .spitGo ctx _ => ctxOk ctx
  | .waitTime ctx _ => ctxOk ctx
  | .waitSync ctx _ => ctxOk ctx
  | .waitAxis ctx _ => ctxOk ctx
  | .waitMsr ctx _ => ctxOk ctx
  | .waitTile ctx _ => ctxOk ctx
  | .waitPage ctx _ => ctxOk ctx
  | .waitSatisfied ctx => ctxOk ctx
  | .signal ctx _ => ctxOk ctx
  | .mark ctx _ => ctxOk ctx
  | .barrier ctx _ => ctxOk ctx
  | .barrierDone ctx => ctxOk ctx
  | .call ctx _ => ctxOk ctx
  | .return_ ctx _ => ctxOk ctx
  | .pass ctx _ => ctxOk ctx
  | .feed ctx _ => ctxOk ctx
  | .defectSync ctx _ => ctxOk ctx
  | .defectTableCheckDone => true
  | .place ctx _ _ => ctxOk ctx
  | .fill ctx _ _ => ctxOk ctx
  | .mask ctx _ _ => ctxOk ctx
  | .repeat_ ctx _ _ => ctxOk ctx
  | .badOpcode ctx word => ctxOk ctx && opcodeBad word
  | .linkWord ctx => ctxOk ctx
  | .seqCtxDb ctx => ctxOk ctx
  | .seqSyncInc _ => true
  | .waitTailReread ctx => ctxOk ctx
  | .waitTailPoll ctx => ctxOk ctx
  | .contextAbort ctx => ctxOk ctx
  | .bandClearDone => true
  | .bandCommit => true
  | .pageRecordWrite => true
  | .decodeStart unit => decoderOk unit
  | .decodeHeaderChecked _ => true
  | .decodeComplete unit _ => decoderOk unit
  | .pcacheSegmentDone unit => encoderOk unit
  | .start _ _ => true
  | .continue_ => true
  | .cancel => true
  | .outFull _ => true
  | .exportDone => true
  | .exportSuspend _ => true
  | .exportResume => true
  | .tokenApply lane _ => laneOk lane
  | .laneTokenTimeout lane _ => laneOk lane
  | .bandLineRecompose _ => true
  | .lineCorrect => true
  | .storeRead port => portOk port
  | .encoderCount channel _ _ _ _ => encChannelOk channel
  | .indexEdge ball => encChannelOk ball.1
  | .tosEdge _ => true
  | .sosEdge _ => true
  | .feedStart => true
  | .feedDoneEdge _ => true
  | .encOutStep output => outputOk output
  | .lineFrameSend port _ => portOk port
  | .fireBlockSend port _ => portOk port
  | .bringupRetry port => portOk port
  | .bringupTimeout port => portOk port
  | .bringupSyncSend port => portOk port
  | .charLock run => portOk run.1
  | .charLockLoss port _ => portOk port
  | .ack port _ _ _ _ _ => portOk port
  | .temp port _ _ => portOk port
  | .status port _ => portOk port
  | .cap port _ => portOk port
  | .echo port _ _ => portOk port
  | .sampleRecord port _ _ => portOk port
  | .returnRecordError port _ => portOk port
  | .ackTimeout port => portOk port
  | .retrain port _ => portOk port
  | .spitTimeout ctx => ctx.all ctxOk
  | .sweepSlot channel _ _ => channelOk channel
  | .sweepAbandon => true
  | .sampleTimeout ctx => ctxOk ctx
  | .vsetSettled ctx => ctxOk ctx
  | .zero => true
  | .vref => true
  | .rref => true
  | .apply => true
  | .abandon => true
  | .calStepDone _ _ _ => true
  | .calTimeout => true
  | .memWriteAccept _ _ _ _ => true
  | .memReadComplete line _ first again => lineOk line && readOk first && readsOk again
  | .refetchAnswer line => lineOk line
  | .refetchTimeout line => lineOk line
  | .batchBoundary channel _ _ _ => channelOk channel
  | .caParityAlert channel sub _ _ => channelOk channel && subOk sub
  | .dramTempPoll channel _ => channelOk channel
  | .dramRefresh channel => channelOk channel
  | .zqCalibration => true
  | .marginApply => true
  | .marginRun _ => true
  | .marginClear => true
  | .marginRunDone _ _ => true
  | .scrubStart _ => true
  | .scrubCancel => true
  | .scrubRead first again => readOk first && readsOk again
  | .scrubEnd => true
  | .millpondCheckFail _ => true
  | .eventRaise ring code sev src arg0 arg1 => ring.all eventRingOk && eventOk code sev src && argOk arg0 && argOk arg1
  | .eventAccept _ => true
  | .fltDroppedPost => true
  | .watchdogProbe _ => true
  | .junctionTemp _ => true
  | .clockLoss _ _ => true
  | .supplyTrip => true
  | .pairLinkUp _ _ _ => true
  | .pairLinkDown _ => true
  | .pairReplayTimeout _ => true
  | .beatTimer => true
  | .timeTimer => true
  | .beaconTimer => true
  | .beaconReceive _ => true
  | .beat _ _ _ => true
  | .time _ => true
  | .lineStart _ _ _ => true
  | .datum _ _ => true
  | .digest port _ _ _ => portOk port
  | .lstat port _ _ _ => portOk port
  | .release _ => true
  | .recomp port _ _ => portOk port
  | .band _ _ _ => true
  | .host _ => true
  | .done ring index _ _ => ringOk ring && indexOk index
  | .event ring _ bytes => ringOk ring && slotOk bytes
  | .state _ _ _ _ => true
  | .rejoin _ => true
  | .lineCommitPoint port => portOk port
  | .pairSilenceTimeout => true
  | .failoverRingServe _ => true
  | .disputeRecomputeDone _ => true
  | .rejoinStart => true
  | .rejoinPhaseEnd => true
  | .rejoinAbandon _ => true
  | .crcStart unit _ => crcUnitOk unit
  | .crcCancel unit _ => crcUnitOk unit
  | .crcScanEnd unit _ => crcUnitOk unit
  | .ethFrameReceive port _ _ _ => ethPortOk port
  | .ethLinkChange port _ => ethPortOk port
  | .ownFrameSend port => ethPortOk port
  | .ptpSyncReceive port _ => ethPortOk port
  | .ptpFollowUpReceive port _ => ethPortOk port
  | .ptpDelayReqReceive port _ => ethPortOk port
  | .ptpDelayRespReceive port _ => ethPortOk port
  | .ptpPdelayReqReceive port _ => ethPortOk port
  | .ptpPdelayRespReceive port _ => ethPortOk port
  | .ptpAnnounceReceive port _ => ethPortOk port
  | .ptpSyncTimer domain => domainOk domain
  | .ptpAnnounceTimer domain => domainOk domain
  | .ptpPdelayTimer port => ethPortOk port
  | .ptpDelayReqTimer domain => domainOk domain
  | .ptpAnnounceTimeout domain => domainOk domain
  | .triggerEvent unit _ _ => triggerOk unit
  | .triggerArm _ => true
  | .triggerDisarm _ => true
  | .axisIdleTimer axis => axisOk axis
  | .axisPowerDown axis => axisOk axis
  | .switchEdge axis which _ => axisOk axis && switchOk which
  | .aonPowerUp => true
  | .fanAinSample input _ => inputOk input
  | .fanDinSample _ _ => true
  | .fanEncoderEdge => true
  | .keepwetTimer => true
  | .fantailWake => true
  | .pwrEnStep => true
  | .pmuClear => true
  | .pmuSnap => true
  | .pmuFreeze => true
  | .pmuUnfreeze => true
  | .pcieLinkUp _ _ => true
  | .pcieConfigWrite _ _ _ _ _ _ => true
  | .feedDoneInactive => true
  | .alertNClear channel sub => channelOk channel && subOk sub
  | .beaconNotCurrent => true

end Sys2Proof
end

