-- ==== Sys2Proof/Safety.lean ====
section
/-! DEFINITION. Safety.lean: the terms in which claims about the block are made: a command that completes, what it leaves alone, and the
states that claims speak of. -/

namespace Sys2Proof.Machine

/-- Command `i`, given to device `d`, completes: whatever waits in the queue it answers a next state, whose queue is the same and whose
device satisfies `P`. -/
def Completes (i : Instr) (d : Dev) (P : Dev → Prop) : Prop :=
  ∀ q : List Instr, ∃ e : Dev, exec i ⟨d, q⟩ = .next ⟨e, q⟩ ∧ P e

/-- From `d` to `e` no register outside `as` changes. -/
def Dev.RegsKept (as : List Nat) (d e : Dev) : Prop := ∀ a, a ∉ as → e.reg a = d.reg a

/-- From `d` to `e` nothing changes but registers, and of those only the ones in `as`. -/
def Dev.OnlyRegs (as : List Nat) (d e : Dev) : Prop := d.RegsKept as e ∧ { e with regs := d.regs } = d

/-- Every byte of device memory reads in `e` as in `d`. -/
def Dev.MemKept (d e : Dev) : Prop := ∀ a, e.mem.readByte a = d.mem.readByte a

/-- From `d` to `e` no register below `top` outside `as` changes. (FLT's counters begin at 0xF00000, those of PMU at 0x1500000.) -/
def Dev.RegsBelow (top : Nat) (as : List Nat) (d e : Dev) : Prop := ∀ a, a < top → a ∉ as → e.reg a = d.reg a

/-- The device serves its host alone: it neither runs as one with a partner as the ACTIVE nor as the SHADOW (R339). -/
def Dev.alone (d : Dev) : Bool := !(d.shadowServes || d.pairServes)

/-- The records that wait in the queue of source `src` on their way to FLT (R315). -/
def Dev.raisedBy (d : Dev) (src : Nat) : List EvRec := (Tab.get d.flt.queues EvQueue.empty src).waiting

/-- The queue of source `src` has room for one more event below FATAL (R315). -/
def Dev.hasRoom (d : Dev) (src : Nat) : Bool := Nat.blt (d.raisedBy src).length evQueueRoom

/-- What stands between HDMA and the host for ring `n`. -/
def Dev.ring (d : Dev) (n : Nat) : Ring := Tab.get d.hdma.rings Ring.idle n

/-- From `d` to `e` exactly `os` have been sent to the host. -/
def Dev.Sent (os : List HostOut) (d e : Dev) : Prop := e.hdma.out = d.hdma.out ++ os

/-- From `d` to `e` every byte of device memory but the `n` from `a` on reads as before. -/
def Dev.MemBut (a n : Nat) (d e : Dev) : Prop := ∀ b, b < a ∨ a + n ≤ b → e.mem.readByte b = d.mem.readByte b

/-- A register write that does something of its own instead of storing: a doorbell, or a register that is locked. -/
def Dev.ownWrite (d : Dev) (a : Nat) : Bool :=
  a == Reg.CFG_FLASH_CMD.addr || a == Reg.MEM_MARGIN_CTL.addr || a == Reg.MEM_MARGIN_SEL.addr || d.crcLocked a ||
  (List.range 64).any (fun n => a == Reg.HDMA_RING_CTL.addr n)

/-- The pair link takes no part in the write of a register: it is no register of R339, or the device does not run as one with a partner. -/
def Dev.aloneFor (d : Dev) (a : Nat) : Bool := !(relayed a) || !(d.shadowServes || d.pairServes)

/-- Context `k` can execute a command of `words` words: it runs, it stands at none of the two places where a block has no room for one
(R92, R96, R101). -/
def Dev.canRun (d : Dev) (k words : Nat) : Bool := d.cmdReady k && !(words == 2 && d.ctxPc k % 4096 == 0xFF0)

/-- Context `k` has gone on behind a command of `words` words. -/
def Dev.WentOn (k words : Nat) (d e : Dev) : Prop :=
  e.ctxState k = CtxState.running ∧ e.ctxPc k = (d.ctxPc k + 8 * words) % 2 ^ 64

/-- From `d` to `e` nothing changes but the registers in `as`, and what events and counters touch: the queues of FLT, its registers and those
behind it, the performance monitor, and the count of free values. -/
def Dev.Else (as : List Nat) (d e : Dev) : Prop :=
  d.RegsBelow 0xF00000 as e ∧ { e with regs := d.regs, flt := d.flt, pmu := d.pmu, freeCtr := d.freeCtr } = d

/-- The registers that show context `k`: its state, its address, its count of commands, and SEQ_STAT. -/
def ctxRegs (k : Nat) : List Nat :=
  [Reg.SEQ_CTX_STAT.addr k, Reg.SEQ_CTX_PC_LO.addr k, Reg.SEQ_CTX_PC_LO.addr k + 4, Reg.SEQ_CTX_CMDS.addr k, Reg.SEQ_STAT.addr]

/-- Context `k` once it has executed the command with first word `w0`: the command is its last, and none is held. -/
def Dev.ranCtx (d : Dev) (k w0 : Nat) : Ctx := { d.ctx k with lastCmd := d.ctxPc k, lastWord := w0, held := none }

/-- A command of `words` words has executed and its context went on; beside the sequencer, the registers of the context and those in `as`
nothing changed. -/
def Dev.Ran (k words : Nat) (as : List Nat) (d e : Dev) : Prop :=
  d.WentOn k words e ∧ d.Else (ctxRegs k ++ as) { e with seq := d.seq }

/-- Context `k` has ended its chain with a detail code (R116). -/
def Dev.EndedWith (k detail : Nat) (e : Dev) : Prop :=
  e.ctxState k = CtxState.idle ∧ e.fld (Reg.SEQ_CTX_STAT.last_err k) = detail ∧ (e.ctx k).job = none ∧ (e.ctx k).stack = []

/-- Context `k` holds the command with words `w0` and `w1` in state `s`, with `n` of its parts done, and stands at it. -/
def Dev.HoldsAt (k s w0 w1 n : Nat) (d e : Dev) : Prop :=
  e.ctxState k = s ∧ (e.ctx k).held = some ⟨w0, w1, n⟩ ∧ e.ctxPc k = d.ctxPc k

/-- An output that only says what fills a lane from now on: an IDLE block, or electrical idle. -/
def HeadOut.fills : HeadOut → Bool
  | .idle _ _ => true
  | .dark _ => true
  | .frame _ _ => false
  | .fire _ _ _ => false

/-- From `d` to `e` exactly the frames and FIRE blocks `os` have left on the transmit lanes, beside what fills them. -/
def Dev.HeadSent (os : List HeadOut) (d e : Dev) : Prop :=
  e.hlk.out.take d.hlk.out.length = d.hlk.out ∧ (e.hlk.out.drop d.hlk.out.length).filter (fun o => !o.fills) = os

/-- The CTRL frame with number `n` and command `op` of port `k` (Table 12-5). -/
def Dev.ctrlFrame (d : Dev) (k n op : Nat) (args : List Byte) : HeadOut :=
  .frame k (linkFrame 3 0 k (d.geom.row k) n 0 d.laneActive false ((BitVec.ofNat 8 op :: args ++ List.replicate 7 0#8).take 8))

/-- Port `k` has begun bring-up (R250): in TRAIN, or past it with its CAP_REQ sent when its lane holds character lock; IDLE blocks of its
state fill the lane (R240). -/
def Dev.BroughtUp (k : Nat) (d e : Dev) : Prop :=
  e.portState k = (if (d.hport k).locked then PortState.cap else PortState.train) ∧ (e.hport k).expect = [] ∧ (e.hport k).syncs = [] ∧
  (e.hport k).rtts = [] ∧ (e.hport k).locked = (d.hport k).locked ∧ (e.hport k).idle = e.laneIdle k ∧
  d.HeadSent (if (d.hport k).locked then [d.ctrlFrame k 0 1 [BitVec.ofNat 8 k]] else []) e

/-- The bring-up of port `k` has failed with a cause (R250), and its event is on its way. -/
def Dev.BringupFailed (k cause head : Nat) (d e : Dev) : Prop :=
  e.portState k = PortState.fault ∧ e.fld (Reg.HLK_PORT_STAT.cause k) = cause ∧ (e.hport k).idle = e.laneIdle k ∧
  e.fld (Reg.HLK_PORT_STAT.retries k) = min (d.fld (Reg.HLK_PORT_STAT.retries k) + 1) 255 ∧
  (d.hasRoom 0x58 = true → e.raisedBy 0x58 = d.raisedBy 0x58 ++
    [⟨d.tb2ns, 0x58, Sev.warn, 0x0B03, k * 256 + cause, head, none, false, false, false⟩]) ∧ e.mem = d.mem

/-- Port `k`, on which no line was due, has been lost with a cause (R257), and its event is on its way. -/
def Dev.WentDown (k cause status : Nat) (d e : Dev) : Prop :=
  e.portState k = PortState.fault ∧ e.fld (Reg.HLK_PORT_STAT.cause k) = cause ∧ (e.hport k).frames = [] ∧ (e.hport k).expect = [] ∧
  (d.hasRoom 0x58 = true → e.raisedBy 0x58 = d.raisedBy 0x58 ++
    [⟨d.tb2ns, 0x58, Sev.degraded, 0x0B02, k * 256 + cause, status, none, false, false, false⟩]) ∧ e.mem = d.mem

/-- From `d` to `e` exactly the message `m` has been sent over the pair link, under the next link sequence number (R333). -/
def Dev.PairSent (m : PairMsg) (d e : Dev) : Prop := e.duo.out = d.duo.out ++ [(d.duo.seq, m)] ∧ e.duo.seq = (d.duo.seq + 1) % 2 ^ 16

/-- A SHADOW has taken the ACTIVE role (R347): its mode is the print mode `m` of its partner, or STANDBY. -/
def Dev.TookOver (m : Nat) (d e : Dev) : Prop :=
  e.isActive = true ∧ e.mode = (if Mode.isPrint m then m else Mode.standby) ∧ e.flag Reg.PAIR_STAT.partner_lost = true ∧
  e.fld Reg.PAIR_FAILOVER.count = (d.fld Reg.PAIR_FAILOVER.count + 1) % 2 ^ 16 ∧ (d.msr.sweeps = [] → e.mem = d.mem)

/-- Domain `i` has taken a servo sample of offset `o` (R379, R380): the base steps, or its rate and the integral follow the offset; samples below
the lock limit are counted. -/
def Dev.ServoTook (i : Nat) (o : Int) (d e : Dev) : Prop :=
  ((d.fld (Reg.TIM_SERVO_LIM.step_ns i) * 65536 : Int) ≤ o.natAbs →
    (e.base i).step = (d.base i).step - o ∧ (e.base i).adj = (d.base i).adj ∧ (e.dom i).integral = 0) ∧
  ((o.natAbs : Int) < d.fld (Reg.TIM_SERVO_LIM.step_ns i) * 65536 →
    (e.base i).step = (d.base i).step ∧
    (e.dom i).integral = clampInt (-(d.adjMax i)) (d.adjMax i) ((d.dom i).integral + d.fld (Reg.TIM_SERVO.ki i) * (o / 65536)) ∧
    (e.base i).adj = clampInt (-(d.adjMax i)) (d.adjMax i) (-(d.fld (Reg.TIM_SERVO.kp i) * (o / 65536) + (e.dom i).integral))) ∧
  (e.dom i).good = (if (o.natAbs : Int) < d.fld (Reg.TIM_SERVO_LIM.lock_ns i) * 65536 then min ((d.dom i).good + 1) 8 else 0) ∧
  (e.base i).v = (d.base i).v ∧ e.mem = d.mem

/-- The level of input ball `k` behind its filter once the sample `b` has been taken (R213). -/
def Dev.levelAfter (d : Dev) (k : Nat) (b : Bool) : Option Bool := ((d.ball k).next (d.ballN k) b 0).level

/-- What samples of the STEP and DIR balls of channel `c` count (R212, R213): the signs of the edges that pass their filters. -/
def Dev.counted (d : Dev) (c : Nat) (step dir : Bool) : Int :=
  countSigns (d.encCfg c) (if d.ballEdge (Ball.step c) step then some step else none) (if d.ballEdge (Ball.dir c) dir then some dir else none)
    (d.levelAfter (Ball.dir c) dir == some true)

/-- The time of that count when the samples are of time `t`: that of the first sample of the edge's run (R213). -/
def Dev.countTime (d : Dev) (c : Nat) (step dir : Bool) (t : Nat) : Nat :=
  let k := if d.ballEdge (Ball.step c) step then Ball.step c else Ball.dir c
  ((d.ball k).next (d.ballN k) (if d.ballEdge (Ball.step c) step then step else dir) t).since

/-- Device memory and the register file are in canonical form. -/
def Dev.canonical (d : Dev) : Bool := Memory.wf d.mem && Tab.wf d.regs regReset

end Sys2Proof.Machine
end

