-- ==== Sys2Proof/Certificates/Slice0/Obligations.lean ====
section
/-! DEFINITION. Certificates/Slice0/Obligations.lean: what is claimed of the block. A command's statement says that it completes from every
state that meets its hypotheses, and what its next state then holds. -/

open Sys2Proof Sys2Proof.Machine

/-! ### The queue -/

/-- STEP RUNS THE FRONT. The command at the front of the queue is executed on the device with the rest of the queue. (The queue is the
model's, log entry 1.) -/
def Obligations.StepRunsTheCommandAtTheFront : Prop :=
  ∀ (c : Instr) (d : Dev) (q : List Instr), step ⟨d, c :: q⟩ = exec c ⟨d, q⟩

/-- NO STOP. However many commands wait, and whatever the device is in, as many steps as there are commands end in a next state with an
empty queue: no command faults or is refused, and none puts a command into the queue. -/
def Obligations.EveryQueueOfCommandsIsWorkedOff : Prop :=
  ∀ s : State, ∃ t : State, Sys2Proof.core.run s.pending.length s = .next t ∧ t.pending = []

/-- THE EMPTY QUEUE TICKS (R371, R374; log entry 2). With no command waiting, in every mode but RESET, FILL and SLEEP, one tick of
625 MHz passes: within a group of five the tick goes on and nothing else changes; the fifth tick ends the group, and device memory, the
mode and the sequencer stay. In RESET and in SLEEP nothing changes. -/
def Obligations.AnEmptyQueueLetsTimePass : Prop :=
  ∀ d : Dev,
    ((d.mode = Mode.reset ∨ d.mode = Mode.sleep) → step ⟨d, []⟩ = .next ⟨d, []⟩) ∧
    (d.mode ≠ Mode.reset → d.mode ≠ Mode.sleep → d.mode ≠ Mode.fill → d.tim.tick < 4 →
      ∃ e : Dev, step ⟨d, []⟩ = .next ⟨e, []⟩ ∧ e.tim = { d.tim with tick := d.tim.tick + 1 } ∧ { e with tim := d.tim } = d) ∧
    (d.mode ≠ Mode.reset → d.mode ≠ Mode.sleep → d.mode ≠ Mode.fill → 4 ≤ d.tim.tick →
      ∃ e : Dev, step ⟨d, []⟩ = .next ⟨e, []⟩ ∧ e.tim.tick = 0 ∧ e.mem = d.mem ∧ e.mode = d.mode ∧ e.seq = d.seq)

/-- RESET (R36). State.reset is in mode RESET, with no command waiting, every register at its reset value and its tables in canonical
form. The reset values that no rule gives are the model's (log entries 3 and 4). -/
def Obligations.ResetIsInModeResetWithEveryRegisterAtRest : Prop :=
  State.reset.pending = [] ∧ State.reset.dev.mode = Mode.reset ∧ (∀ a, State.reset.dev.reg a = regReset a) ∧
    State.reset.dev.canonical = true ∧ State.reset.dev.fld Reg.GLB_SLACK_MIN.min_slack = 0xFFFF ∧
    (∀ a, State.reset.dev.mem.readByte a = 0#8)

/-! ### Command words -/

/-- DECODE OF ENCODE (Tables 5-3 to 5-6). For every well-formed command of a context, the words that the spec's tables give it are read back
as that command with the same operands. ENCODE OF DECODE. Every first word, with a second word that is 0 where the command has none, is the words of the command read
from it. -/
def Obligations.CommandWordsAndTheirCommandsAgree : Prop :=
  (∀ (i : Instr) (k : Nat) (w0 w1 : BitVec 64), i.wf = true → i.words = some (k, w0, w1) → commandOf k w0 w1 = i) ∧
  (∀ (k : Nat) (w0 w1 : BitVec 64), k < 8 →
      (∃ v1 : BitVec 64, (commandOf k w0 w1).words = some (k, w0, v1) ∧ (v1 = w1 ∨ v1 = 0)) ∧ (commandOf k w0 w1).wf = true)

/-- SOME WORDS. A few words written out from Table 5-3 and Table 5-4 are the commands they stand for. -/
def Obligations.WordsOfTheOpcodeTableAreTheirCommands : Prop :=
  commandOf 3 0x0000000000000000 0 = .nop 3 0 ∧
  commandOf 0 0x0100000000000007 0 = .jobBegin 0 7 ∧
  commandOf 0 0x0380000000000100 0 = .pageBegin 0 0x80000000000100 ∧
  commandOf 2 0x2040010000001000 0 = .moveAbs 2 0x010000001000 ∧
  commandOf 1 0x2110000500000009 0 = .waitSync 1 0x0000500000009 ∧
  commandOf 0 0x90C0000000000005 0x0000400000010000 = .tileDef 0 0xC0000000000005 0x0000400000010000 ∧
  commandOf 4 0x7700000000000000 0 = .badOpcode 4 0x7700000000000000

/-! ### Host register access -/

/-- REGISTER WRITE (R8, R10, R5). A host write of an assigned register that is no half of a pair and has no operation of its own gives each RW
bit the bit written and leaves every other bit of it, every other register and everything else alone. A write of an offset that no block
assigns changes nothing. A SHADOW that runs as one with its partner discards a write of a register that the ACTIVE relays (R339). -/
def Obligations.RegisterWriteChangesOnlyItsWritableBits : Prop :=
  ∀ (d : Dev) (a : Nat) (v : Word), d.responds a = true → a % 4 = 0 → inFlashBuf a = false → d.ownWrite a = false →
    (∀ r, regRow a = some r → r.half = 0 → d.aloneFor a = true →
      Completes (.registerWrite a v) d fun e => d.OnlyRegs [a] e ∧
        ∀ i, i < 32 → (e.reg a).getLsbD i = if r.rw.testBit i then v.getLsbD i else (d.reg a).getLsbD i) ∧
    (regRow a = none → d.aloneFor a = true → Completes (.registerWrite a v) d fun e => e = d) ∧
    (relayed a = true → d.shadowServes = true → Completes (.registerWrite a v) d fun e => e = d)

/-- PAIRS (R9). A write of the _LO half of a writable pair goes to its staging register and changes no register; a write of the _HI half
commits it with what is staged, both at once; a read of the _LO half answers the live lower half and puts the live upper half into the
pair's latch, and changes no register; a read of the _HI half is of that latch; RESET empties latches and staging. READ-CLEAR AND WRITE-1-TO-CLEAR (R10). A read of a register with read-clear bits answers its value, and those bits then read as after
reset; a write clears exactly the write-1-to-clear bits that it writes as 1. No other register changes. A request of BAR0 that is not one
aligned DWORD changes no register below FLT, is answered with Unsupported Request if it is a read, and puts EV_HDMA_HOST_ERR with arg0 1 into
its source's queue while that has room (R70, R315); a write with a bad ECRC changes no register and no memory. -/
def Obligations.PairsClearFieldsAndBadRequestsFollowTheirRules : Prop :=
  (∀ (d : Dev) (a : Nat) (v : Word) (r : RegRow), d.responds a = true → a % 4 = 0 → regRow a = some r →
      (r.half = 1 → r.rw ≠ 0 → d.crcLocked a = false → d.aloneFor a = true →
        Completes (.loWriteStage a v) d fun e => { e with staging := d.staging } = d ∧
          ∃ w, Tab.find e.staging a = some w ∧ ∀ i, i < 32 → w.getLsbD i = if r.rw.testBit i then v.getLsbD i else (d.reg a).getLsbD i) ∧
      (r.half = 2 → r.rw ≠ 0 → 4 ≤ a → d.crcLocked a = false → d.aloneFor a = true →
        Completes (.hiWriteCommit a v) d fun e =>
          e.reg (a - 4) = (Tab.find d.staging (a - 4)).getD (d.reg (a - 4)) ∧
          (∀ i, i < 32 → (e.reg a).getLsbD i = if r.rw.testBit i then v.getLsbD i else (d.reg a).getLsbD i) ∧
          Tab.find e.staging (a - 4) = none ∧ d.RegsKept [a - 4, a] e ∧ { e with regs := d.regs, staging := d.staging } = d) ∧
      (r.half = 1 → Completes (.loReadLatch a) d fun e => e.readReg (a + 4) = d.liveReg (a + 4)) ∧
      (r.half = 2 → d.readReg a = (Tab.find d.latches (a - 4)).getD (regReset a)) ∧
      (Completes .powerOn d (fun e => e.latches = [] ∧ e.staging = []) ∧ Completes .sysRstAssert d fun e => e.latches = [] ∧ e.staging = []) ∧
      (r.half = 1 → Completes (.loReadLatch a) d fun e =>
        e.hdma.out = d.hdma.out ++ [.completion (leBytes 4 (d.readReg a).toNat)] ∧ d.RegsKept [] e ∧ e.mem = d.mem)) ∧
  (∀ (d : Dev) (a : Nat) (v : Word),
      (∀ r, regRow a = some r → d.responds a = true → r.rc ≠ 0 →
        Completes (.rcRead a) d fun e => e.hdma.out = d.hdma.out ++ [.completion (leBytes 4 (d.reg a).toNat)] ∧ d.RegsKept [a] e ∧
          ∀ i, i < 32 → (e.reg a).getLsbD i = if r.rc.testBit i then (regReset a).getLsbD i else (d.reg a).getLsbD i) ∧
      (∀ r, regRow a = some r → d.responds a = true → r.w1c ≠ 0 →
        Completes (.w1cWrite a v) d fun e => d.OnlyRegs [a] e ∧
          ∀ i, i < 32 → (e.reg a).getLsbD i = ((d.reg a).getLsbD i && !(r.w1c.testBit i && v.getLsbD i))) ∧
      (d.bar0 = true → Completes (.bar0BadRequest .ecrc a) d fun e =>
        e.hdma.out = d.hdma.out ++ (if d.badEcrc then [.aerError] else []) ∧ e.regs = d.regs ∧ e.mem = d.mem) ∧
      (∀ write : Bool, d.bar0 = true → (Tab.get d.flt.queues EvQueue.empty 0x18).waiting.length < evQueueRoom →
        Completes (.bar0BadRequest (if write then .write else .read) a) d fun e =>
          e.hdma.out = d.hdma.out ++ [if write then .aerUnsupported else .unsupportedRequest] ∧ (∀ b, b < 0xF00000 → e.reg b = d.reg b) ∧
          (Tab.get e.flt.queues EvQueue.empty 0x18).waiting =
            (Tab.get d.flt.queues EvQueue.empty 0x18).waiting ++ [⟨d.tb2ns, 0x18, Sev.warn, 0x0302, 1, a, none, false, false, false⟩]))


/-! ### Operating modes -/

/-- RESET (R36, R424). POWER_ON and SYS_RST_N put the device into RESET from every mode: every register outside the FAN block but GLB_STATUS
is at its reset value, device memory and the sequencer are as after reset, no ring and no port is in use, and GLB_STATUS.aon_ok and the
Fantail's inputs, filters and rules stay. -/
def Obligations.ResetComesFromEveryModeAndSparesTheFantail : Prop :=
  ∀ (d : Dev) (i : Instr), (i = .powerOn ∨ i = .sysRstAssert) →
    Completes i d fun e => e.mode = Mode.reset ∧
      (∀ a, fanReg a = false → a ≠ Reg.GLB_STATUS.addr → e.reg a = regReset a) ∧
      e.mem = Dev.reset.mem ∧ e.seq = Dev.reset.seq ∧ e.hdma.rings = [] ∧ e.hlk.ports = [] ∧ e.aonOk = d.aonOk ∧
      e.fan.ain = d.fan.ain ∧ e.fan.din = d.fan.din ∧ e.fan.rules = d.fan.rules

/-- START-UP (R35, R42, R59, R62). RESET_TO_LOAD moves RESET to LOAD; the end of the slot checks moves LOAD to FILL when a slot passes, and
to SAFE with cause LOAD_FAIL when none does; the end of FILL moves FILL to STANDBY when every channel's SPD gives its capacity and no sample failed,
or, when the SPD of a fitted channel of RDIMMs gives another capacity and the image is no margin image, to SAFE with cause FILL_FAIL. In any
other mode the three change nothing. (In the clauses of LOAD and FILL nothing asks for SAFE already; where SAFE is entered no port has lines.) -/
def Obligations.StartUpGoesFromResetToStandbyOrToSafe : Prop :=
  ∀ (d : Dev) (f n x y ms c : Nat) (spd : List (Nat × Nat)),
    (d.mode = Mode.reset → Completes (.resetToLoad f n x y) d fun e => e.mode = Mode.load ∧ e.fld Reg.GLB_MODE.prev_mode = Mode.reset ∧
      e.fld Reg.CFG_FLASH_INFO.if_mode = f % 2 ^ Reg.CFG_FLASH_INFO.if_mode.width ∧ e.flag Reg.GLB_STATUS.refclk_ok = true) ∧
    (d.mode ≠ Mode.reset → Completes (.resetToLoad f n x y) d fun e => e = d) ∧
    (d.mode = Mode.load → d.flt.safeReq = none → ((d.setFld Reg.CFG_LOAD_TIME.load_100us (min ms 65535)).loader).1.isSome = true →
      Completes (.loadComplete ms) d fun e => e.mode = Mode.fill) ∧
    (d.mode = Mode.load → d.flt.safeReq = none → d.hlk.ports = [] →
      ((d.setFld Reg.CFG_LOAD_TIME.load_100us (min ms 65535)).loader).1 = none →
      ((d.setFld Reg.CFG_LOAD_TIME.load_100us (min ms 65535)).loader).2.mode = Mode.load →
      ((d.setFld Reg.CFG_LOAD_TIME.load_100us (min ms 65535)).loader).2.flt.safeReq = none →
      ((d.setFld Reg.CFG_LOAD_TIME.load_100us (min ms 65535)).loader).2.hlk.ports = [] →
      Completes (.loadComplete ms) d fun e => e.mode = Mode.safe ∧ e.fld Reg.GLB_SAFE_CAUSE.cause = Cause.loadFail) ∧
    (d.mode ≠ Mode.load → Completes (.loadComplete ms) d fun e => e = d) ∧
    (d.mode = Mode.fill → d.flt.safeReq = none → (d.flag Reg.MEM_CFG.soldered = true ∨ ∀ k, k < d.channels → Tab.find spd k = some d.channelGib) →
      Completes (.fillComplete ms spd [] 0 0 0 none) d fun e => e.mode = Mode.standby ∧ e.flag Reg.GLB_STATUS.fill_done = true) ∧
    (d.mode = Mode.fill → d.flt.safeReq = none → d.hlk.ports = [] → d.flag Reg.MEM_CFG.soldered = false → c < d.channels →
      Tab.find spd c ≠ some d.channelGib → d.marginImage = false → Completes (.fillComplete ms spd [] 0 0 0 none) d fun e =>
        e.mode = Mode.safe ∧ e.fld Reg.GLB_SAFE_CAUSE.cause = Cause.fillFail ∧ e.flag (Reg.MEM_CH_STAT.failed c) = true) ∧
    (d.mode ≠ Mode.fill → Completes (.fillComplete ms spd [] 0 0 0 none) d fun e => e = d)

/-- MODE REQUESTS REFUSED (R37). A GLB_MODE_REQ write with a bad key, one while another is pending, and one that names no legal transition change
nothing but the result and the target of GLB_MODE_REQ_STAT (and the mark that cancels a keep-wet return): BADKEY, BUSY, ILLEGAL. -/
def Obligations.AModeRequestIsRefusedWithItsReason : Prop :=
  ∀ (d : Dev) (key target : Nat), d.responds Reg.GLB_MODE_REQ.addr = true →
    (key ≠ 0xC3 → Completes (.modeReqIllegal key target) d fun e => e.fld Reg.GLB_MODE_REQ_STAT.result = ReqRes.badKey ∧
      e.fld Reg.GLB_MODE_REQ_STAT.last_target = target % 16 ∧ d.OnlyRegs [Reg.GLB_MODE_REQ_STAT.addr] { e with glb := d.glb } ∧
      e.glb = { d.glb with keepwetCancelled := true }) ∧
    (key = 0xC3 → d.glb.request.isSome = true → Completes (.modeReqIllegal key target) d fun e =>
      e.fld Reg.GLB_MODE_REQ_STAT.result = ReqRes.busy ∧ d.OnlyRegs [Reg.GLB_MODE_REQ_STAT.addr] { e with glb := d.glb } ∧
      e.glb = { d.glb with keepwetCancelled := true }) ∧
    (key = 0xC3 → d.glb.request = none → d.requestable target = false → Completes (.modeReqIllegal key target) d fun e =>
      e.fld Reg.GLB_MODE_REQ_STAT.result = ReqRes.illegal ∧ d.OnlyRegs [Reg.GLB_MODE_REQ_STAT.addr] { e with glb := d.glb } ∧
      e.glb = { d.glb with keepwetCancelled := true })

/-- MODE REQUESTS ACCEPTED (R37, Table 2-2). With the key C3h, no request pending and a legal transition: CALIBRATE is entered from
STANDBY; SERVICE is entered from STANDBY, with no measurement request pending; LOAD is entered from STANDBY or SAFE; SLEEP and the exit from
SERVICE begin, marked in transit; SAFE becomes the cause HOST that waits, or is done at once in SAFE. Where nothing completes at once the
result stays PENDING. -/
def Obligations.AnAcceptedModeRequestStartsItsTransition : Prop :=
  ∀ (d : Dev), d.responds Reg.GLB_MODE_REQ.addr = true → d.glb.request = none →
    (d.requestable Mode.calibrate = true → Completes (.modeReqCalibrate 0xC3) d fun e => e.mode = Mode.calibrate ∧
      e.fld Reg.GLB_MODE_REQ_STAT.result = ReqRes.done ∧ e.glb.request = none ∧ e.fld Reg.MSR_CAL_STAT.done = 0) ∧
    (d.requestable Mode.service = true → d.msr.sweeps = [] → d.msr.vsets = [] → Completes (.modeReqService 0xC3) d fun e =>
      e.mode = Mode.service ∧ e.fld Reg.GLB_MODE_REQ_STAT.result = ReqRes.done ∧ e.glb.request = none) ∧
    (d.requestable Mode.load = true → Completes (.modeReqLoad 0xC3) d fun e => e.mode = Mode.load ∧ e.mem = Dev.reset.mem ∧
      e.seq = Dev.reset.seq) ∧
    (d.requestable Mode.sleep = true → Completes (.modeReqSleep 0xC3) d fun e => e.glb.sleepTrigger = some 3 ∧
      e.glb.request = some Mode.sleep ∧ e.mode = d.mode ∧ e.flag Reg.GLB_MODE.transit = true ∧
      e.fld Reg.GLB_MODE_REQ_STAT.result = ReqRes.pending) ∧
    (d.requestable Mode.standby = true → Completes (.modeReqStandby 0xC3) d fun e => e.glb.leavingService = some 3 ∧
      e.glb.request = some Mode.standby ∧ e.flag Reg.GLB_MODE.transit = true ∧ e.mode = d.mode ∧
      e.fld Reg.GLB_MODE_REQ_STAT.result = ReqRes.pending) ∧
    (d.mode ≠ Mode.safe → d.flt.safeReq = none → Completes (.modeReqSafe 0xC3) d fun e =>
      e.flt.safeReq = some ⟨Cause.host, 0, 0, 0, 0⟩ ∧ e.mode = d.mode ∧ e.flag Reg.GLB_MODE.transit = true ∧
      e.fld Reg.GLB_MODE_REQ_STAT.result = ReqRes.pending) ∧
    (d.mode = Mode.safe → Completes (.modeReqSafe 0xC3) d fun e => e.mode = Mode.safe ∧
      e.fld Reg.GLB_MODE_REQ_STAT.result = ReqRes.done ∧ e.glb.request = none)

/-- SAFE (R38, R43, R44). With a cause waiting and no committed line still to fire, from every mode but RESET and SLEEP, SAFE_ENTRY enters
SAFE, records the cause, its source and its event code, the cause no longer waits, pacing stands at 0 and no pass and no datum is left. With
no cause waiting, and while a committed line is still to fire, it changes nothing. -/
def Obligations.SafeIsEnteredForTheCauseThatWaits : Prop :=
  ∀ (d : Dev) (r : SafeReq),
    (d.flt.safeReq = some r → d.mode ≠ Mode.reset → d.mode ≠ Mode.sleep → d.committedWaits = false →
      Completes .safeEntry d fun e => e.mode = Mode.safe ∧
        e.fld Reg.GLB_SAFE_CAUSE.cause = r.cause % 2 ^ Reg.GLB_SAFE_CAUSE.cause.width ∧
        e.fld Reg.GLB_SAFE_CAUSE.source_id = r.src % 2 ^ Reg.GLB_SAFE_CAUSE.source_id.width ∧
        e.fld Reg.GLB_SAFE_CAUSE.event_code = r.code % 2 ^ Reg.GLB_SAFE_CAUSE.event_code.width ∧ e.flt.safeReq = none ∧
        e.fld Reg.PAC_STAT.state = 0 ∧ e.pac.passes = [] ∧ e.pac.datums = []) ∧
    ((d.flt.safeReq = none ∨ d.committedWaits = true) → Completes .safeEntry d fun e => e = d)

/-- LEAVING AND ENTERING (R35, R39, R40, R41, R42, R331). The print mode is left for STANDBY, the line grid with it, once the last line of the last job has fired on every
port; SERVICE is left for STANDBY once every axis stands still and no burst is under way; SLEEP is reached once every context is idle; a
keep-wet wake enters SERVICE once no boot job waits or runs, and returns from it; a device named SHADOW whose match value agrees enters SHADOW in
REJOIN; a held JOB_BEGIN executes in STANDBY. (In these clauses no measurement request waits for the mode, and nothing asks for SAFE; in those of keep-wet, SHADOW and
JOB_BEGIN no SLEEP either, nor does a block of the context wait for a refetch; the keep-wet wake is one of no drops, HLK_KEEPWET.count 0.) -/
def Obligations.TheDeviceLeavesAndEntersModesWhenTheirConditionHolds : Prop :=
  ∀ (d : Dev) (t : Nat) (h : Held) (p : Peer), d.flt.safeReq = none → d.msr.sweeps = [] → d.msr.vsets = [] →
    (d.exitDue = true → Completes .printModeExit d fun e => e.mode = Mode.standby ∧ e.pac.grid = false ∧ e.fld Reg.PAC_STAT.state = 0) ∧
    (d.glb.leavingService = some t → d.mode = Mode.service → d.serviceQuiet = true →
      Completes .serviceExit d fun e => e.mode = Mode.standby ∧ e.glb.leavingService = none ∧ e.glb.request = none) ∧
    (d.glb.sleepTrigger = some t → d.mode = Mode.standby → (∀ k, k < 8 → d.ctxState k = CtxState.idle) →
      Completes .sleepEntryComplete d fun e => e.mode = Mode.sleep ∧ e.fld Reg.GLB_MODE.prev_mode = Mode.standby ∧
        e.fan.releasing = true ∧ e.mem = Dev.reset.mem) ∧
    (d.mode = Mode.standby → d.glb.keepwet = true → d.glb.keepwetFired = false → d.cfg.bootPending = false → d.cfg.bootRunning = false →
      d.glb.sleepTrigger = none → d.fld Reg.HLK_KEEPWET.count = 0 →
      Completes .keepwetServiceEntry d fun e => e.mode = Mode.service ∧ e.glb.keepwetFired = true) ∧
    (d.mode = Mode.service → d.glb.keepwet = true → d.glb.keepwetFired = true → d.serviceQuiet = true → d.glb.leavingService = none →
      (∀ k, k < 8 → d.measureIdle k = true) →
      Completes .keepwetReturn d fun e => e.mode = Mode.standby ∧ e.glb.keepwet = false ∧
        e.glb.sleepTrigger = if d.glb.keepwetCancelled then none else some 4) ∧
    (d.mode = Mode.standby → d.pairUp = true → d.duo.peer = some p → p.role = Role.active → d.isActive = false →
      d.fld Reg.PAIR_CFG.role ≠ 0 → d.flag Reg.PAIR_STAT.match_ok = true → d.glb.sleepTrigger = none →
      Completes .shadowEntry d fun e => e.mode = Mode.shadow ∧ e.fld Reg.GLB_SHADOW_OF.sub_state = SubState.rejoin ∧
        e.fld Reg.PAIR_REJOIN_STAT.phase = 0) ∧
    ((d.ctx 0).held = some h → d.ctxState 0 = CtxState.mode → d.mode = Mode.standby → d.glb.sleepTrigger = none → d.waitsRefetch (.seqBlock 0) = false →
      Completes .heldJobBegin d fun e => e.ctxState 0 = CtxState.running ∧ e.seq.nextJob = d.seq.nextJob + 1)

/-- CONTEXT STOP AND THE VOLTAGE LOOP (R17, R441). While SAFE or SLEEP is being entered CONTEXT_STOP ends the chain of a context that holds one:
it is idle, without a job; a context that is idle already, and any while neither is being entered, stays as it is. An interval of the enabled voltage
loop, with no transaction under way, asks rail avs_rail for avs_idle_mv outside the print modes; in them for one step more, up to the
highest, when the slack is below its target, and for one step less, down to the lowest, when it has been at the target and its hysteresis for
avs_calm intervals; it asks for nothing between the two. A transaction that ends well takes the voltage and the readback, one that fails
sets bus_err and leaves the commanded voltage. (The clauses of asking are of a voltage other than the one commanded.) -/
def Obligations.ContextsStopAndTheVoltageLoopGoesOn : Prop :=
  ∀ (d : Dev) (k v rb : Nat),
    (k < 8 → (d.flt.safeReq.isSome = true ∨ d.glb.sleepTrigger.isSome = true) → d.ctxState k ≠ CtxState.idle → Completes (.contextStop k) d fun e =>
      e.ctxState k = CtxState.idle ∧ (e.ctx k).job = none ∧ (e.ctx k).stack = []) ∧
    ((d.ctxState k = CtxState.idle ∨ (d.flt.safeReq = none ∧ d.glb.sleepTrigger = none)) → Completes (.contextStop k) d fun e => e = d) ∧
    (d.flag Reg.GLB_AVS_CFG.avs_en = true → d.flag Reg.GLB_STATUS.fill_done = true → d.timeRuns = true → d.glb.avsBusy = none →
      ∀ want, want ≠ d.avsVolts →
      (Mode.isPrint d.mode = false → want = d.fld Reg.GLB_AVS_IDLE.avs_idle_mv → Completes .avsInterval d fun e => e.glb.avsBusy = some want ∧
        e.glb.avsOut = d.glb.avsOut ++ [(d.fld Reg.GLB_AVS_CFG.avs_rail, want)] ∧ e.glb.calm = 0) ∧
      (Mode.isPrint d.mode = true → d.avsSlack < d.fld Reg.GLB_SLACK_CFG.slack_target →
        want = min (d.avsVolts + d.fld Reg.GLB_AVS_CFG.avs_step_mv) (d.fld Reg.GLB_AVS_LIMITS.avs_vmax_mv) → Completes .avsInterval d fun e =>
          e.glb.avsBusy = some want ∧ e.glb.avsOut = d.glb.avsOut ++ [(d.fld Reg.GLB_AVS_CFG.avs_rail, want)] ∧ e.glb.calm = 0) ∧
      (Mode.isPrint d.mode = true → d.fld Reg.GLB_SLACK_CFG.slack_target + d.fld Reg.GLB_SLACK_CFG.slack_hyst ≤ d.avsSlack →
        d.fld Reg.GLB_AVS_CFG.avs_calm ≤ d.glb.calm + 1 →
        want = max (d.avsVolts - d.fld Reg.GLB_AVS_CFG.avs_step_mv) (d.fld Reg.GLB_AVS_LIMITS.avs_vmin_mv) → Completes .avsInterval d fun e =>
          e.glb.avsBusy = some want ∧ e.glb.avsOut = d.glb.avsOut ++ [(d.fld Reg.GLB_AVS_CFG.avs_rail, want)])) ∧
    (Mode.isPrint d.mode = true → d.fld Reg.GLB_SLACK_CFG.slack_target ≤ d.avsSlack →
      d.avsSlack < d.fld Reg.GLB_SLACK_CFG.slack_target + d.fld Reg.GLB_SLACK_CFG.slack_hyst → Completes .avsInterval d fun e =>
        e.glb.avsBusy = d.glb.avsBusy ∧ e.glb.avsOut = d.glb.avsOut ∧ e.regs = d.regs ∧ e.mem = d.mem) ∧
    (d.glb.avsBusy = some v → Completes (.avsTransactionDone true rb) d fun e => e.glb.avsBusy = none ∧
      e.fld Reg.GLB_AVS_VOUT.cmd_mv = v % 2 ^ Reg.GLB_AVS_VOUT.cmd_mv.width ∧
      e.fld Reg.GLB_AVS_VOUT.readback_mv = rb % 2 ^ Reg.GLB_AVS_VOUT.readback_mv.width ∧ d.RegsKept [Reg.GLB_AVS_VOUT.addr] e) ∧
    (d.glb.avsBusy = some v → Completes (.avsTransactionDone false rb) d fun e => e.glb.avsBusy = none ∧
      e.flag Reg.GLB_AVS_STAT.bus_err = true ∧ e.fld Reg.GLB_AVS_VOUT.cmd_mv = d.fld Reg.GLB_AVS_VOUT.cmd_mv)

/-! ### Configuration flash -/

/-- FLASH COMMANDS START (R65). Outside LOAD, with no command busy, a CFG_FLASH_CMD write starts its command on CFG_FLASH_ADDR: it is busy; PROGRAM
and ERASE_64K of the live slot are to end with LIVE_SLOT, an ERASE_64K address that is not 64 KiB aligned and a CHECK_SLOT address outside both slots
with ALIGN (that ALIGN comes before LIVE_SLOT is the model's choice). While one is busy, and in LOAD, a further one is discarded with BUSY.
A FLASH COMMAND ENDS (R65). FLASH_CMD_DONE clears busy, gives the result and counts the command; of a command that was not refused and did not fail, a
READ has the bytes of the flash in the buffer, a PROGRAM the bytes of the buffer in the flash, an ERASE_64K FFh in every byte of its sector; a
refused command changes neither. With no command busy nothing happens. -/
def Obligations.FlashCommandsStartRunAndEnd : Prop :=
  (∀ (d : Dev) (n : Nat), d.bar0 = true →
      (d.mode ≠ Mode.load → d.cfg.cmd = none →
        Completes (.flashRead n) d (fun e => e.flag Reg.CFG_FLASH_STAT.busy = true ∧ d.RegsKept [Reg.CFG_FLASH_STAT.addr] e ∧
          e.cfg = { d.cfg with cmd := some ⟨FlashOp.read, (d.reg Reg.CFG_FLASH_ADDR.addr).toNat, n % 65536 + 1, FlashRes.done⟩ }) ∧
        Completes (.flashProgram n) d (fun e => e.flag Reg.CFG_FLASH_STAT.busy = true ∧ d.RegsKept [Reg.CFG_FLASH_STAT.addr] e ∧
          e.cfg = { d.cfg with cmd := some ⟨FlashOp.program, (d.reg Reg.CFG_FLASH_ADDR.addr).toNat, n % 65536 + 1,
            if d.liveSlotHas (d.reg Reg.CFG_FLASH_ADDR.addr).toNat (n % 65536 + 1) then FlashRes.liveSlot else FlashRes.done⟩ }) ∧
        Completes .flashErase64k d (fun e => e.flag Reg.CFG_FLASH_STAT.busy = true ∧ d.RegsKept [Reg.CFG_FLASH_STAT.addr] e ∧
          ∃ r, e.cfg = { d.cfg with cmd := some ⟨FlashOp.erase, (d.reg Reg.CFG_FLASH_ADDR.addr).toNat, 65536, r⟩ } ∧
            ((d.reg Reg.CFG_FLASH_ADDR.addr).toNat % 65536 ≠ 0 → r = FlashRes.align) ∧
            ((d.reg Reg.CFG_FLASH_ADDR.addr).toNat % 65536 = 0 →
              r = if d.liveSlotHas (d.reg Reg.CFG_FLASH_ADDR.addr).toNat 65536 then FlashRes.liveSlot else FlashRes.done)) ∧
        Completes .flashCheckSlot d (fun e => e.flag Reg.CFG_FLASH_STAT.busy = true ∧ d.RegsKept [Reg.CFG_FLASH_STAT.addr] e ∧
          e.cfg = { d.cfg with cmd := some ⟨FlashOp.check, (d.reg Reg.CFG_FLASH_ADDR.addr).toNat, 0,
            if 2 * slotSize ≤ (d.reg Reg.CFG_FLASH_ADDR.addr).toNat then FlashRes.align else FlashRes.done⟩ })) ∧
      (d.mode = Mode.load ∨ d.cfg.cmd.isSome = true → ∀ i, (i = .flashRead n ∨ i = .flashProgram n ∨ i = .flashErase64k ∨ i = .flashCheckSlot) →
        Completes i d fun e => e.fld Reg.CFG_FLASH_STAT.result = FlashRes.busy ∧ d.OnlyRegs [Reg.CFG_FLASH_STAT.addr] e)) ∧
  (∀ (d : Dev) (c : FlashCmd) (failed : Bool),
      (d.cfg.cmd = none → Completes (.flashCmdDone failed) d fun e => e = d) ∧
      (d.cfg.cmd = some c → Completes (.flashCmdDone failed) d fun e => e.cfg.cmd = none ∧ e.flag Reg.CFG_FLASH_STAT.busy = false ∧
        e.fld Reg.CFG_FLASH_STAT.result =
          (if c.result ≠ FlashRes.done then c.result else if failed then FlashRes.flashErr else FlashRes.done) % 2 ^ Reg.CFG_FLASH_STAT.result.width ∧
        e.fld Reg.CFG_FLASH_STAT.cmd_count = (d.fld Reg.CFG_FLASH_STAT.cmd_count + 1) % 2 ^ Reg.CFG_FLASH_STAT.cmd_count.width ∧
        (∀ b, b < 65536 → c.result = FlashRes.done → failed = false → c.op = FlashOp.erase → e.cfg.buf = d.cfg.buf ∧
          Tab.get e.cfg.flash 0xFF#8 (c.addr + b) = 0xFF#8) ∧
        (∀ b, c.result ≠ FlashRes.done → Tab.get e.cfg.flash 0xFF#8 b = Tab.get d.cfg.flash 0xFF#8 b ∧ Tab.get e.cfg.buf 0#8 b = Tab.get d.cfg.buf 0#8 b) ∧
        (∀ b, b < c.len → c.result = FlashRes.done → failed = false → c.op = FlashOp.read →
          Tab.get e.cfg.buf 0#8 b = (d.flashBytes c.addr c.len).getD b 0#8 ∧ e.cfg.flash = d.cfg.flash) ∧
        (∀ b, b < c.len → c.result = FlashRes.done → failed = false → c.op = FlashOp.program → e.cfg.buf = d.cfg.buf ∧
          Tab.get e.cfg.flash 0xFF#8 (c.addr + b) = Tab.get d.cfg.buf 0#8 b)))


/-! ### The host interface -/

/-- RINGS ON AND OFF (R76, R75). Writing enable 1 to a disabled ring that is not OFF (a copy or job ring only with no margin image) enables it
with both indices 0 and sequence 0, idle, an event ring with the sequence number 1 next; an OFF ring stays disabled. Writing enable 0 to an idle ring, a
stopped ring or an event ring disables it and forgets what was in progress; any other enabled ring stays enabled and sets disable_refused. -/
def Obligations.RingsAreEnabledAndDisabledOnlyWhenTheyMay : Prop :=
  ∀ (d : Dev) (n : Nat) (v : Word), n < 64 → d.alone = true → d.responds (Reg.HDMA_RING_CTL.addr n) = true →
    (d.ringEnabled n = false → d.ringOff n = false → (n < 56 → d.marginImage = false) → Completes (.ringEnable n v) d fun e =>
      e.ringEnabled n = true ∧ e.ringHead n = 0 ∧ e.ringTail n = 0 ∧ e.ringState n = RingState.idle ∧ e.fld (Reg.HDMA_RING_SEQ.seq n) = 0 ∧
      e.fld (Reg.HDMA_RING_CTL.holdoff_us n) = v.toNat / 256 % 256 ∧
      d.RegsBelow 0xF00000 [Reg.HDMA_RING_CTL.addr n, Reg.HDMA_RING_PTR.addr n, Reg.HDMA_RING_STAT.addr n, Reg.HDMA_RING_SEQ.addr n] e ∧
      e.mem = d.mem ∧ (56 ≤ n → (Tab.get e.flt.rings EvRing.empty (n - 56)).nextSeq = 1)) ∧
    (d.ringEnabled n = false → d.ringOff n = true → Completes (.ringEnable n v) d fun e =>
      e.ringEnabled n = false ∧ d.OnlyRegs [Reg.HDMA_RING_CTL.addr n] e) ∧
    (d.ringEnabled n = true → (56 ≤ n ∨ d.ringState n = RingState.idle ∨ d.ringState n = RingState.stopped) →
      Completes (.ringDisable n v) d fun e => e.ringEnabled n = false ∧ e.ringState n = RingState.disabled ∧ e.ring n = (d.ring n).cleared ∧
        d.RegsKept [Reg.HDMA_RING_CTL.addr n, Reg.HDMA_RING_STAT.addr n] e ∧ e.mem = d.mem) ∧
    (d.ringEnabled n = true → n < 56 → d.ringState n ≠ RingState.idle → d.ringState n ≠ RingState.stopped →
      Completes (.ringDisable n v) d fun e => e.ringEnabled n = true ∧ e.fld (Reg.HDMA_RING_STAT.disable_refused n) = 1 ∧
        d.OnlyRegs [Reg.HDMA_RING_CTL.addr n, Reg.HDMA_RING_STAT.addr n] e)

/-- DOORBELLS (R77, R86). A new tail of an enabled copy or job ring that posts no more than the free slots becomes its tail, and a ring with
nothing in progress then reads the slot at its head; one that would post more, or no index of the ring, is discarded with db_overrun. The
consumer index of an enabled event ring is taken when it frees no more than the unread slots, else discarded with db_overrun. A doorbell of
a disabled ring, or a tail that the ring has already, changes nothing but the mark that cancels a keep-wet return. -/
def Obligations.DoorbellsPostAndFreeSlotsOrAreDiscarded : Prop :=
  ∀ (d : Dev) (n idx : Nat), d.alone = true → d.responds (Reg.HDMA_RING_DB.addr n) = true →
    (n < 56 → (d.ringEnabled n = false ∨ idx = d.ringTail n) → Completes (.ringDoorbell n idx) d fun e =>
      e = d.modGlb fun g => { g with keepwetCancelled := true }) ∧
    (56 ≤ n → n < 64 → d.ringEnabled n = false → Completes (.eventRingConsume n idx) d fun e =>
      e = d.modGlb fun g => { g with keepwetCancelled := true }) ∧
    (d.ringEnabled n = true →
    (n < 56 → idx ≠ d.ringTail n → idx < d.ringSlots n → idx < 65536 →
      d.ringDiff n idx (d.ringTail n) ≤ d.ringSlots n - 1 - d.ringDiff n (d.ringTail n) (d.ringHead n) →
      Completes (.ringDoorbell n idx) d fun e => e.ringTail n = idx ∧ e.ringHead n = d.ringHead n ∧ e.glb.keepwetCancelled = true ∧
        d.RegsKept [Reg.HDMA_RING_PTR.addr n, Reg.HDMA_RING_STAT.addr n] e ∧ e.mem = d.mem ∧
        (d.ringState n ≠ RingState.stopped → d.ringHead n ≠ idx → (d.ring n).copy = none → (d.ring n).job = none →
          d.Sent [.readReq (d.slotAddr n (d.ringHead n)) 32] e ∧ e.ringState n = RingState.running)) ∧
    (n < 56 → idx ≠ d.ringTail n →
      (d.ringSlots n ≤ idx ∨ d.ringSlots n - 1 - d.ringDiff n (d.ringTail n) (d.ringHead n) < d.ringDiff n idx (d.ringTail n)) →
      Completes (.ringDoorbell n idx) d fun e => e.fld (Reg.HDMA_RING_STAT.db_overrun n) = 1 ∧ e.ringTail n = d.ringTail n ∧
        e.ringHead n = d.ringHead n ∧ e.ringState n = d.ringState n ∧ e.ring n = d.ring n ∧ d.RegsKept [Reg.HDMA_RING_STAT.addr n] e ∧
        d.Sent [] e) ∧
    (56 ≤ n → n < 64 → idx < d.ringSlots n → idx < 65536 →
      d.ringDiff n idx (d.ringTail n) ≤ d.ringDiff n (d.ringHead n) (d.ringTail n) →
      Completes (.eventRingConsume n idx) d fun e => e.ringTail n = idx ∧ e.ringHead n = d.ringHead n ∧
        d.OnlyRegs [Reg.HDMA_RING_PTR.addr n] { e with glb := d.glb }) ∧
    (56 ≤ n → n < 64 → (d.ringSlots n ≤ idx ∨ d.ringDiff n (d.ringHead n) (d.ringTail n) < d.ringDiff n idx (d.ringTail n)) →
      Completes (.eventRingConsume n idx) d fun e => e.fld (Reg.HDMA_RING_STAT.db_overrun n) = 1 ∧ e.ringTail n = d.ringTail n ∧
        e.ringState n = d.ringState n ∧ d.OnlyRegs [Reg.HDMA_RING_STAT.addr n] { e with glb := d.glb }))

/-- DESCRIPTORS (R71, R79, Table 4-6). The slot at the head of an enabled ring that is not stopped arrives: one that is not the device's own stops the
ring with desc_err, a failed read with host_err; one whose ECRC is bad is asked for once more, and stops it the second time; a job
descriptor waits for its context; a copy descriptor is in progress, with the status DESC_ERR at once for a reserved field, else OK for
length 0, else RANGE beyond F (that order is the model's choice). A job ring's idle context takes a descriptor that waits for it, and runs at
the head of its chain (R85). -/
def Obligations.DescriptorsAreFetchedAndTaken : Prop :=
  ∀ (d : Dev) (n k : Nat) (bs : List Byte) (j : JobDesc),
    (n < 56 → d.ringEnabled n = true → d.ringState n ≠ RingState.stopped → d.ringHead n ≠ d.ringTail n → (d.ring n).copy = none →
      (d.ring n).job = none →
      Completes (.descriptorFetch n .failed) d (fun e => e.ringState n = RingState.stopped ∧ e.fld (Reg.HDMA_RING_STAT.host_err n) = 1 ∧
        d.RegsBelow 0xF00000 [Reg.HDMA_RING_STAT.addr n] e) ∧
      ((d.ring n).fetchAgain = false → Completes (.descriptorFetch n .badEcrc) d fun e => (e.ring n).fetchAgain = true ∧ e.regs = d.regs ∧
        d.Sent [.aerError, .readReq (d.slotAddr n (d.ringHead n)) 32] e) ∧
      ((d.ring n).fetchAgain = true → Completes (.descriptorFetch n .badEcrc) d fun e => e.ringState n = RingState.stopped ∧
        e.fld (Reg.HDMA_RING_STAT.host_err n) = 1 ∧ d.Sent [.aerError] e) ∧
      (leAt bs 31 1 / 128 = 0 → Completes (.descriptorFetch n (.slot bs)) d fun e => e.ringState n = RingState.stopped ∧
        e.fld (Reg.HDMA_RING_STAT.desc_err n) = 1 ∧ d.RegsBelow 0xF00000 [Reg.HDMA_RING_STAT.addr n] e) ∧
      (leAt bs 31 1 / 128 ≠ 0 → 48 ≤ n → Completes (.descriptorFetch n (.slot bs)) d fun e =>
        (e.ring n).job = some (jobOf (d.ringHead n) bs) ∧ e.regs = d.regs ∧ e.mem = d.mem) ∧
      (leAt bs 31 1 / 128 ≠ 0 → n < 48 → Completes (.descriptorFetch n (.slot bs)) d fun e => e.regs = d.regs ∧ e.mem = d.mem ∧
        (e.ring n).copy = some { copyOf (d.ringHead n) bs with
          status := if copyReservedBad bs then some Stat.descErr
          else if (copyOf (d.ringHead n) bs).length = 0 then some Stat.ok
          else if !(d.inFitted (copyOf (d.ringHead n) bs).devAddr (copyOf (d.ringHead n) bs).length) then some Stat.range else none })) ∧
    (k < 8 → (d.ring (48 + k)).job = some j → j.taken = false → j.reservedBad = false → d.inFitted j.head 4096 = true →
      d.ctxState k = CtxState.idle → d.seqRuns = true → d.ringState (48 + k) ≠ RingState.stopped → d.hdma.abort = none →
      d.cfg.bootPending = false → d.blockBad j.head = false →
      Completes (.jobDescriptorTake k) d fun e => e.ctxState k = CtxState.running ∧ e.ctxPc k = j.head % 2 ^ 64 ∧
        (e.ring (48 + k)).job = some { j with taken := true } ∧ e.mem = d.mem)

/-- COPIES (R71, R79 to R81). Host data that completes an H2D descriptor within one line that is neither poisoned nor waits for a refetch is at its
destination, and every other byte is as it was; a failed host read is told to AER and marks where the data ends. A descriptor all of whose bytes
have moved completes, of a device alone, with no earlier completion of its ring held: the four bytes of the result and the status OK at byte 24 of its
slot, then byte 31 with own 0, and the head has moved on. -/
def Obligations.CopiesMoveTheirBytesAndComplete : Prop :=
  ∀ (d : Dev) (n : Nat) (bs : List Byte) (c : CopyJob), (d.ring n).copy = some c → c.status = none →
    (c.toDevice = true → c.moved = 0 → c.buf = [] → c.staged = [] → 0 < c.length → bs.length = c.length → c.devAddr % 64 + c.length ≤ 64 →
      d.lineBad (c.devAddr / 64) = false → d.waitsRefetch (.copy n) = false →
      Completes (.hostReadCompletion n 0 (some bs) false) d fun e => e.mem.readBytes c.devAddr c.length = bs ∧ d.MemBut c.devAddr c.length e ∧
        ∃ c', (e.ring n).copy = some c' ∧ c'.moved = c.length ∧ c'.buf = [] ∧ c'.status = none) ∧
    (c.toDevice = true → c.moved + c.buf.length < c.length → c.failAt = none →
      Completes (.hostReadCompletion n (c.moved + c.buf.length) none true) d fun e => e.mem = d.mem ∧ d.Sent [.aerError] e ∧
        (e.ring n).copy = some { c with failAt := some (c.moved + c.buf.length) }) ∧
    (d.alone = true → c.moved = c.length → c.failAt = none → d.completionHeld n = false → d.waitsRefetch (.copy n) = false →
      Completes (.copyComplete n) d fun e => e.ringHead n = (c.index + 1) % d.ringSlots n % 65536 ∧ e.mem = d.mem ∧
        ∃ more, d.Sent ([.write (d.slotAddr n c.index + 24)
            (leBytes 4 (if c.flags.testBit 3 then Nat.xor c.crc 0xFFFFFFFF else c.moved) ++ leBytes 3 Stat.ok),
          .write (d.slotAddr n c.index + 31) [0#8]] ++ more) e)

/-- BAR2 (R71, R73, R74). Outside LOAD, FILL and with no margin image, a read of a range below F answers its bytes when none of its lines is gated, poisoned
or being refetched and no earlier read waits; it answers Completer Abort when one is poisoned; beyond F it is answered with Unsupported Request. A
write within one line below F that is neither poisoned nor being refetched stores exactly its bytes; beyond F it changes no byte, nor does
one with a bad ECRC where the device checks it. A SHADOW that runs as one with its partner discards the write (R339). -/
def Obligations.TheBar2WindowReadsAndWritesDeviceMemory : Prop :=
  ∀ (d : Dev) (o n : Nat) (bs : List Byte), d.bar0 = true → d.mode ≠ Mode.load → d.mode ≠ Mode.fill → d.marginImage = false →
    (d.inFitted (d.winAddr o) n = true → (linesOf (d.winAddr o) n).any d.notReady = false → d.bar2Waits = false → d.hdma.bar2Held = [] →
      (d.rangePoisoned (d.winAddr o) n = false → (linesOf (d.winAddr o) n).any (fun l => (d.refetchOf l).isSome) = false →
        Completes (.bar2Read o n) d fun e => d.Sent [.completion (d.mem.readBytes (d.winAddr o) n)] e ∧ e.mem = d.mem) ∧
      (d.rangePoisoned (d.winAddr o) n = true → d.fld Reg.MIG_LOG_LEN.len = 0 →
        Completes (.bar2Read o n) d fun e => d.Sent [.completerAbort] e ∧ e.mem = d.mem)) ∧
    (d.inFitted (d.winAddr o) n = false → Completes (.bar2Read o n) d fun e => d.Sent [.unsupportedRequest] e ∧ e.mem = d.mem ∧
      d.RegsBelow 0xF00000 [Reg.HDMA_WIN_STAT.addr] e) ∧
    (d.alone = true → d.inFitted (d.winAddr o) bs.length = true → d.winAddr o % 64 + bs.length ≤ 64 → 0 < bs.length →
      d.lineBad (d.winAddr o / 64) = false →
      Completes (.bar2Write o ⟨bs, false⟩) d fun e => e.mem.readBytes (d.winAddr o) bs.length = bs ∧ d.MemBut (d.winAddr o) bs.length e) ∧
    (d.alone = true → d.inFitted (d.winAddr o) bs.length = false → Completes (.bar2Write o ⟨bs, false⟩) d fun e => e.mem = d.mem ∧
      d.RegsBelow 0xF00000 [Reg.HDMA_WIN_STAT.addr] e) ∧
    (d.badEcrc = true → Completes (.bar2Write o ⟨bs, true⟩) d fun e => d.Sent [.aerError] e ∧ e.mem = d.mem ∧ e.regs = d.regs) ∧
    (d.shadowServes = true → Completes (.bar2Write o ⟨bs, false⟩) d fun e => e = d)

/-- ABORTS (R89, R90). With no abort under way, an abort of a posted slot of an enabled copy or job ring is PENDING and has in its scope that slot
alone (scope 0) or that slot and every later one that is posted (scope 1); one of any other slot is ILLEGAL, and one while another
resolves is BUSY. The head of a copy ring, alone in scope, completes ABORTED: a descriptor in progress with the bytes moved so far, the slot on
which the ring stopped with 0 (the model's choice). An abort whose slots are all decided is recorded: ABORTED with the count of
those aborted, or ABORT_NO_EFFECT. (Of a device alone, no completion of the ring being held, and no context stopping for the abort.) -/
def Obligations.AbortsTakeTheirScopeAndAreRecorded : Prop :=
  ∀ (d : Dev) (n idx : Nat) (a : Abort) (c : CopyJob), d.alone = true → d.responds Reg.HDMA_ABORT.addr = true →
    (d.hdma.abort = none → n < 56 → d.ringEnabled n = true → idx < d.ringSlots n →
      d.ringDiff n idx (d.ringHead n) < d.ringDiff n (d.ringTail n) (d.ringHead n) →
      Completes (.abortOne n idx) d (fun e => e.hdma = { d.hdma with abort := some ⟨n, idx, [idx], 0⟩ } ∧
        e.fld Reg.HDMA_ABORT_STAT.result = 5 ∧ e.fld Reg.HDMA_ABORT_STAT.ring = n ∧ d.RegsKept [Reg.HDMA_ABORT_STAT.addr] e ∧ e.mem = d.mem) ∧
      Completes (.abortScope n idx) d (fun e => e.fld Reg.HDMA_ABORT_STAT.result = 5 ∧ e.fld Reg.HDMA_ABORT_STAT.ring = n ∧
        e.hdma = { d.hdma with abort := some ⟨n, idx, slotsFrom (d.ringSlots n) idx (d.ringTail n) (d.ringSlots n), 0⟩ } ∧
        d.RegsKept [Reg.HDMA_ABORT_STAT.addr] e ∧ e.mem = d.mem)) ∧
    (d.hdma.abort = none → n < 64 → (56 ≤ n ∨ d.ringEnabled n = false ∨ d.ringSlots n ≤ idx ∨
      d.ringDiff n (d.ringTail n) (d.ringHead n) ≤ d.ringDiff n idx (d.ringHead n)) →
      ∀ i, (i = .abortOne n idx ∨ i = .abortScope n idx) → Completes i d fun e =>
        e.fld Reg.HDMA_ABORT_STAT.result = 3 ∧ d.OnlyRegs [Reg.HDMA_ABORT_STAT.addr] e) ∧
    (d.hdma.abort = some a → n < 64 → ∀ i, (i = .abortOne n idx ∨ i = .abortScope n idx) → Completes i d fun e =>
      e.fld Reg.HDMA_ABORT_STAT.result = 4 ∧ d.OnlyRegs [Reg.HDMA_ABORT_STAT.addr] e) ∧
    (d.hdma.abort = some a → a.slots = [] → a.ring < 48 → (d.ctx 0).stopping = none → Completes .abortResolve d fun e => e.hdma.abort = none ∧
      e.fld Reg.HDMA_ABORT_STAT.result = (if a.aborted = 0 then 2 else 1) ∧ e.fld Reg.HDMA_ABORT_STAT.ring = a.ring ∧
      e.fld Reg.HDMA_ABORT_STAT.count = a.aborted % 65536 ∧ d.RegsBelow 0xF00000 [Reg.HDMA_ABORT_STAT.addr] e ∧ e.mem = d.mem) ∧
    (d.hdma.abort = some ⟨n, idx, [idx], 0⟩ → n < 48 → (d.ctx 0).stopping = none → idx = d.ringHead n → idx ≠ d.ringTail n →
      d.completionHeld n = false →
      ((d.ring n).copy = none → d.ringState n = RingState.stopped → Completes .abortResolve d fun e => e.hdma.abort = none ∧
        e.fld Reg.HDMA_ABORT_STAT.result = 1 ∧ e.fld Reg.HDMA_ABORT_STAT.count = 1 ∧ e.ringHead n = (idx + 1) % d.ringSlots n % 65536 ∧
        ∃ more, d.Sent ([.write (d.slotAddr n idx + 24) (leBytes 4 0 ++ leBytes 3 Stat.aborted), .write (d.slotAddr n idx + 31) [0#8]] ++ more) e) ∧
      ((d.ring n).copy = some c → Completes .abortResolve d fun e => e.hdma.abort = none ∧
        e.fld Reg.HDMA_ABORT_STAT.result = 1 ∧ e.fld Reg.HDMA_ABORT_STAT.count = 1 ∧ e.ringHead n = (idx + 1) % d.ringSlots n % 65536 ∧
        ∃ more, d.Sent ([.write (d.slotAddr n idx + 24) (leBytes 4 c.moved ++ leBytes 3 Stat.aborted), .write (d.slotAddr n idx + 31) [0#8]] ++ more) e))

/-! ### Job programs -/

/-- COMMANDS THAT GO ON (R93, R104, R258, R265). NOP does nothing; SIGNAL adds 1 to the sync counter it names when its bit 51 is set, else 0;
LOG_BASE, LOG_LEN, PCACHE_BASE, PCACHE_LEN, EVT_RING, RESULT_BASE, DEFECT_OUT, DEFECT_VER, VSET_CODE and SPIT_CFG, in their place and their range, take their
value. The context goes on behind the command, and outside the sequencer nothing changes but the context's registers, the sync counter and what
events touch. -/
def Obligations.NopSignalAndTheParametersSetAndGoOn : Prop :=
  ∀ (d : Dev) (k : Nat) (w : BitVec 56) (v : BitVec 48), d.canRun k 1 = true →
    Completes (.nop k 0) d (fun e => d.Ran k 1 [] e ∧ e.ctx k = d.ranCtx k 0) ∧
    (reservedBad w.toNat 0xF8001FFFFFFFFF = false → Completes (.signal k w) d fun e =>
      d.Ran k 1 [Reg.SEQ_SYNC.addr (w.toNat / 2 ^ 32 % 32)] e ∧ e.fld (Reg.SEQ_SYNC.count (w.toNat / 2 ^ 32 % 32)) =
        (d.fld (Reg.SEQ_SYNC.count (w.toNat / 2 ^ 32 % 32)) + if w.toNat.testBit 51 then 1 else 0) % 2 ^ 32) ∧
    (v.toNat < 2 ^ 40 →
      (d.openJob k = none → v.toNat % 64 = 0 → Completes (.setLogBase k v) d fun e => d.Ran k 1 [] e ∧
        e.ctx k = { d.ranCtx k (word0 0x20 (0x01 * 2 ^ 48 + v.toNat)) with logBase := v.toNat }) ∧
      (d.openJob k = none → v.toNat ≠ 1 → Completes (.setLogLen k v) d fun e => d.Ran k 1 [] e ∧
        e.ctx k = { d.ranCtx k (word0 0x20 (0x02 * 2 ^ 48 + v.toNat)) with logLen := v.toNat }) ∧
      (k = 0 → d.pageIsOpen = false → v.toNat % 4096 = 0 → Completes (.setPcacheBase k v) d fun e => d.Ran k 1 [] e ∧
        e.seq.pcacheBase = v.toNat ∧ e.seq.pcacheLen = d.seq.pcacheLen) ∧
      (k = 0 → d.pageIsOpen = false → v.toNat % 4096 = 0 → Completes (.setPcacheLen k v) d fun e => d.Ran k 1 [] e ∧
        e.seq.pcacheLen = v.toNat ∧ e.seq.pcacheBase = d.seq.pcacheBase) ∧
      (v.toNat < 8 → Completes (.setEvtRing k v) d fun e => d.Ran k 1 [] e ∧
        e.ctx k = { d.ranCtx k (word0 0x20 (0x05 * 2 ^ 48 + v.toNat)) with evtRing := v.toNat }) ∧
      (v.toNat % 64 = 0 → d.inFitted v.toNat (2 ^ 20) = true → Completes (.resultBase k v) d fun e => d.Ran k 1 [] e ∧
        e.ctx k = { d.ranCtx k (word0 0x20 (0x60 * 2 ^ 48 + v.toNat)) with resultBase := v.toNat }) ∧
      (v.toNat % 4096 = 0 → d.inFitted v.toNat defectTableBytes = true → Completes (.defectOut k v) d fun e => d.Ran k 1 [] e ∧
        e.ctx k = { d.ranCtx k (word0 0x20 (0x62 * 2 ^ 48 + v.toNat)) with defectOut := v.toNat }) ∧
      (v.toNat < 2 ^ 17 → Completes (.defectVer k v) d fun e => d.Ran k 1 [] e ∧
        e.ctx k = { d.ranCtx k (word0 0x20 (0x61 * 2 ^ 48 + v.toNat)) with defectVer := v.toNat }) ∧
      (v.toNat < 2 ^ 12 → Completes (.vsetCode k v) d fun e => d.Ran k 1 [] e ∧
        e.ctx k = { d.ranCtx k (word0 0x20 (0x65 * 2 ^ 48 + v.toNat)) with vsetCode := v.toNat }) ∧
      (d.mode = Mode.service → v.toNat < 2 ^ 36 → v.toNat % 2 ^ 16 ≠ 0 → v.toNat / 2 ^ 32 % 16 ≠ 0 →
        (d.fld Reg.PAC_RECOVERY.rec_ns + 999) / 1000 ≤ v.toNat / 2 ^ 16 % 2 ^ 16 →
        Completes (.spitCfg k v) d fun e => d.Ran k 1 [] e ∧
          e.ctx k = { d.ranCtx k (word0 0x20 (0x71 * 2 ^ 48 + v.toNat)) with spitCfg := v.toNat }))

/-- A FAILING CHECK ENDS THE CONTEXT (R101 to R105, R116). The first check of a command that fails ends its chain with its detail code: an opcode that Table 5-3
does not list 01h, a reserved bit 02h, a two-word command at word 510 03h, a command of context 0 elsewhere 04h, JOB_END outside a job 05h, a value
out of range 06h, a parameter out of its place or undefined 07h, CALL at a full stack 0Eh, RETURN at an empty one 0Fh. -/
def Obligations.ACommandThatFailsACheckEndsItsContext : Prop :=
  ∀ (d : Dev) (k : Nat) (w : BitVec 56) (w1 : BitVec 64) (v : BitVec 48) (p : BitVec 8), d.canRun k 1 = true →
    (∀ op : Nat, op = 0x07 ∨ op = 0x10 ∨ op = 0x7F ∨ op = 0xFF →
      Completes (.badOpcode k (BitVec.ofNat 64 (op * 2 ^ 56))) d (Dev.EndedWith k 0x01)) ∧
    (w ≠ 0 → Completes (.nop k w) d (Dev.EndedWith k 0x02)) ∧
    (d.ctxPc k % 4096 = 0xFF0 → Completes (.tileDef k w w1) d (Dev.EndedWith k 0x03) ∧ Completes (.place k w w1) d (Dev.EndedWith k 0x03)) ∧
    (k ≠ 0 → reservedBad w.toNat 0 = false → Completes (.pageEnd k w) d (Dev.EndedWith k 0x04)) ∧
    (d.openJob k = none → Completes (.jobEnd k 0) d (Dev.EndedWith k 0x05)) ∧
    (v.toNat < 2 ^ 40 → 8 ≤ v.toNat → Completes (.setEvtRing k v) d (Dev.EndedWith k 0x06)) ∧
    (v.toNat < 2 ^ 40 → paramDefined p.toNat = false → Completes (.setParamUndefined k p v) d (Dev.EndedWith k 0x07)) ∧
    (v.toNat < 2 ^ 40 → k ≠ 0 → Completes (.setPcacheBase k v) d (Dev.EndedWith k 0x07)) ∧
    (reservedBad w.toNat 0xFFFFFFFFF8 = false → d.inFitted w.toNat 8 = true → w.toNat % 4096 ≠ 0xFF8 → 8 ≤ (d.ctx k).stack.length →
      Completes (.call k w) d (Dev.EndedWith k 0x0E)) ∧
    ((d.ctx k).stack = [] → Completes (.return_ k 0) d (Dev.EndedWith k 0x0F))

/-- CALL, RETURN AND BARRIER (R93, R95, R115). CALL puts the address behind it and the frame generation on the stack and goes on at its
operand in that block's generation; RETURN takes both back. BARRIER goes on once the earlier effects of its context have landed and
holds it in state 6 until then; BARRIER_DONE releases it. -/
def Obligations.CallReturnAndBarrierSteerTheContext : Prop :=
  ∀ (d : Dev) (k a g : Nat) (w : BitVec 56) (rest : List (Nat × Nat)), d.canRun k 1 = true →
    (reservedBad w.toNat 0xFFFFFFFFF8 = false → d.inFitted w.toNat 8 = true → w.toNat % 4096 ≠ 0xFF8 → (d.ctx k).stack.length < 8 →
      d.blockBad w.toNat = false → Completes (.call k w) d fun e => e.ctxState k = CtxState.running ∧ e.ctxPc k = w.toNat ∧
        (e.ctx k).stack = (d.ctxPc k + 8, d.fld (Reg.SEQ_CTX_GEN.gen k)) :: (d.ctx k).stack ∧
        e.fld (Reg.SEQ_CTX_STAT.depth k) = (d.ctx k).stack.length + 1 ∧ e.fld (Reg.SEQ_CTX_GEN.gen k) = d.linkWord w.toNat / 2 ^ 48 % 65536 ∧
        e.mem = d.mem) ∧
    ((d.ctx k).stack = (a, g) :: rest → Completes (.return_ k 0) d fun e => e.ctxState k = CtxState.running ∧ e.ctxPc k = a % 2 ^ 64 ∧
      (e.ctx k).stack = rest ∧ e.fld (Reg.SEQ_CTX_STAT.depth k) = rest.length % 16 ∧ e.fld (Reg.SEQ_CTX_GEN.gen k) = g % 65536 ∧
      e.mem = d.mem) ∧
    (d.inPage k = false → d.barrierMet k = true → Completes (.barrier k 0) d fun e => d.Ran k 1 [] e ∧ (e.ctx k).drops = []) ∧
    (d.inPage k = false → d.barrierMet k = false → Completes (.barrier k 0) d fun e =>
      d.HoldsAt k CtxState.stalled (0x24 * 2 ^ 56) 0 0 e ∧ (e.ctx k).drops = (d.ctx k).drops ∧ e.mem = d.mem)

/-- WAITS (R105, Table 5-6). Each WAIT goes on at once when its condition holds, else its context waits behind it for that condition:
TIME for so many microseconds, SYNC for a counter to reach a value modulo 2^32, AXIS for axes at rest, MSR for its measurements, TILE for a tile
to be cached, PAGE for a page's record; a TILE that is not defined ends the context with 08h. BARRIER_DONE AND THE END OF A WAIT (R93, R105). A held BARRIER
whose effects have landed, and a wait whose condition holds, let their context go on, a wait that fails ends it with its detail code, one that
does not hold yet changes nothing (a TILE may ask for its decode; the clauses of release are of a context whose block waits for no refetch). -/
def Obligations.WaitsGoOnWaitAndEndWithTheirCondition : Prop :=
  (∀ (d : Dev) (k : Nat) (w : BitVec 52) (c : Nat), d.canRun k 1 = true →
      (∀ (i : Instr) (x : Waiting),
        ((w.toNat < 2 ^ 32 ∧ i = .waitTime k w ∧ x = .time (d.tb2ns + w.toNat * 1000)) ∨
         (w.toNat < 2 ^ 37 ∧ i = .waitSync k w ∧ x = .sync (w.toNat / 2 ^ 32) (w.toNat % 2 ^ 32)) ∨
         (w.toNat < 64 ∧ i = .waitAxis k w ∧ x = .axis w.toNat 0) ∨ (w = 0 ∧ i = .waitMsr k w ∧ x = .msr) ∨
         (w.toNat < 2 ^ 32 ∧ i = .waitPage k w ∧ x = .page (d.openJob 0) w.toNat)) →
        (d.waitState k x = .holds → Completes i d fun e => d.Ran k 1 [] e) ∧
        (d.waitState k x = .notYet → Completes i d fun e => e.ctxState k = CtxState.waiting ∧ (e.ctx k).wait = x ∧ (e.ctx k).held = none ∧
          e.ctxPc k = (d.ctxPc k + 8) % 2 ^ 64 ∧ e.mem = d.mem)) ∧
      (w.toNat < 2 ^ 24 → Tab.find d.run.dir w.toNat = some c → (d.tileDef c).failed = none → d.cached c = true →
        Completes (.waitTile k w) d fun e => d.Ran k 1 [] e) ∧
      (w.toNat < 2 ^ 24 → Tab.find d.run.dir w.toNat = some c → (d.tileDef c).failed = none → d.cached c = false →
        Completes (.waitTile k w) d fun e => e.ctxState k = CtxState.waiting ∧ (e.ctx k).wait = .tile w.toNat ∧ (e.ctx k).held = none ∧
          e.ctxPc k = (d.ctxPc k + 8) % 2 ^ 64 ∧ e.mem = d.mem) ∧
      (w.toNat < 2 ^ 24 → Tab.find d.run.dir w.toNat = none → Completes (.waitTile k w) d (Dev.EndedWith k 0x08)) ∧
      d.waitState k (.time d.tb2ns) = .holds ∧
      (d.waitState k (.sync c 5) = .holds ↔ (d.fld (Reg.SEQ_SYNC.count c) + 2 ^ 32 - 5) % 2 ^ 32 < 2 ^ 31)) ∧
  (∀ (d : Dev) (k : Nat), k < 8 → d.seqGoes = true → d.waitsRefetch (.seqBlock k) = false →
      (d.ctxState k = CtxState.stalled → (d.ctx k).held = some ⟨0x24 * 2 ^ 56, 0, 0⟩ → d.barrierMet k = true →
        Completes (.barrierDone k) d fun e => d.WentOn k 1 e ∧ (e.ctx k).drops = [] ∧ (e.ctx k).held = none) ∧
      (d.ctxState k = CtxState.waiting → (d.ctx k).held = none → d.waitState k (d.ctx k).wait = .holds →
        Completes (.waitSatisfied k) d fun e => d.WentOn k 0 e ∧ (e.ctx k).wait = .nothing ∧ e.mem = d.mem) ∧
      (∀ c, c < 256 → d.ctxState k = CtxState.waiting → (d.ctx k).held = none → d.waitState k (d.ctx k).wait = .fails c →
        Completes (.waitSatisfied k) d (Dev.EndedWith k c)) ∧
      (d.ctxState k = CtxState.waiting → (d.ctx k).held = none → d.waitState k (d.ctx k).wait = .notYet →
        (∀ t, (d.ctx k).wait ≠ .tile t) → Completes (.waitSatisfied k) d fun e => e = d))

/-- JOBS (R35, R39, R118, R219). JOB_BEGIN opens the next job on its context with its log; on context 0 it enters the print mode that PAC_CFG names from
STANDBY, joins a print mode whose lines still fire with no new datum, and is held in SERVICE, in CALIBRATE and once the print mode's last
line has fired. JOB_END closes the job. MARK writes a record of type 4 into the next 32 bytes of the job's log, and no other byte, while there is
room (the bytes: where the log is 64-byte aligned and its line neither poisoned nor being refetched). -/
def Obligations.JobsBeginEndAndKeepTheirLog : Prop :=
  ∀ (d : Dev) (k js : Nat) (w : BitVec 56), d.canRun k 1 = true →
    (reservedBad w.toNat 0xFFFFFFFF = false → d.openJob k = none →
      ((d.ctx k).logLen = 0 ∨ d.inFitted (d.ctx k).logBase (32 * (d.ctx k).logLen) = true) →
      (k ≠ 0 → Completes (.jobBegin k w) d fun e => d.WentOn k 1 e ∧ e.seq.nextJob = d.seq.nextJob + 1 ∧ e.mode = d.mode ∧
        (e.ctx k).job = some d.seq.nextJob ∧ (e.job d.seq.nextJob).id = w.toNat ∧ (e.job d.seq.nextJob).log.base = (d.ctx k).logBase ∧
        e.flag (Reg.SEQ_CTX_STAT.in_job k) = true ∧ e.fld (Reg.SEQ_CTX_JOB.job_id k) = w.toNat) ∧
      (k = 0 → d.mode = Mode.standby → d.marginImage = false → Completes (.jobBegin k w) d fun e =>
        e.ctxState 0 = CtxState.running ∧ e.mode = 8 + d.fld Reg.PAC_CFG.print_mode ∧ e.seq.nextJob = d.seq.nextJob + 1 ∧
        (e.ctx 0).job = some d.seq.nextJob ∧ e.glb.keepwetCancelled = true) ∧
      (k = 0 → (d.mode = Mode.service ∨ d.mode = Mode.calibrate ∨ d.exitDue = true) → Completes (.jobBegin k w) d fun e =>
        d.HoldsAt 0 CtxState.mode (word0 0x01 w.toNat) 0 0 e ∧ e.mode = d.mode ∧ e.seq.nextJob = d.seq.nextJob) ∧
      (k = 0 → Mode.isPrint d.mode = true → d.exitDue = false → Completes (.jobBegin k w) d fun e => d.WentOn k 1 e ∧ e.mode = d.mode ∧
        e.pac.p0 = d.pac.p0 ∧ e.seq.nextJob = d.seq.nextJob + 1 ∧ (e.ctx 0).job = some d.seq.nextJob ∧ (e.job d.seq.nextJob).id = w.toNat)) ∧
    (d.openJob k = some js → d.inPage k = false → Completes (.jobEnd k 0) d fun e => e.ctxState k = CtxState.running ∧
      (e.ctx k).job = none ∧ (e.job js).closed = true ∧ e.flag (Reg.SEQ_CTX_STAT.in_job k) = false) ∧
    (d.openJob k = some js → reservedBad w.toNat 0xFFFFFFFFFFFF = false → (d.job js).log.written + 1 < (d.job js).log.len →
      Completes (.mark k w) d fun e => d.WentOn k 1 e ∧ (e.job js).log.written = (d.job js).log.written + 1 ∧
        ((d.job js).log.base % 64 = 0 → d.lineBad (((d.job js).log.base + 32 * (d.job js).log.written) / 64) = false →
          e.mem.readByte ((d.job js).log.base + 32 * (d.job js).log.written) = 4#8 ∧
          d.MemBut ((d.job js).log.base + 32 * (d.job js).log.written) 32 e)) ∧
    (d.openJob k = some js → reservedBad w.toNat 0xFFFFFFFFFFFF = false → (d.job js).log.len = 0 →
      Completes (.mark k w) d fun e => d.Ran k 1 [] e)

/-- PAGES (R108, R113, R114, R221, R230). PAGE_BEGIN opens the next page; PAGE_END, outside PRINT_SCAN, confirms its last band and closes it, or holds
context 0 while no band is staged; SKIP_LINES moves the job's place in a web by its lines; COPIES of a page that the cache holds whole opens the
first copy and holds. PASS takes the next lines of the page as one pass, no more than the page has left; FEED marks the pass taken last, where it
still waits. -/
def Obligations.PagesOpenCloseAndTakeTheirPasses : Prop :=
  ∀ (d : Dev) (js n first : Nat) (w : BitVec 56) (g : Staging), d.canRun 0 1 = true → d.openJob 0 = some js →
    (d.seq.openPage = none → reservedBad w.toNat 0xF80000FFFFFFFF = false → w.toNat % 2 ^ 32 ≠ 0 → w.toNat.testBit 54 = false →
      Completes (.pageBegin 0 w) d fun e => e.ctxState 0 = CtxState.running ∧ e.seq.openPage = some d.seq.nextPage ∧
        e.flag (Reg.SEQ_CTX_STAT.in_page 0) = true ∧ e.flag Reg.SEQ_BAND.valid = true ∧ e.fld Reg.SEQ_BAND.band = 0 ∧ (e.ctx 0).placed = []) ∧
    (d.seq.openPage = some n → d.isScan = false → d.cmp.staging = some g → g.page = n → bandsOf (d.page n).length ≤ g.band + 1 →
      Completes (.pageEnd 0 0) d fun e => d.WentOn 0 1 e ∧ e.seq.openPage = none ∧ (e.page n).closed = true ∧
        e.flag (Reg.SEQ_CTX_STAT.in_page 0) = false ∧ e.cmp.staging = some { g with confirmed := true } ∧ e.mem = d.mem) ∧
    (d.seq.openPage = some n → d.isScan = false → d.cmp.staging = none → Completes (.pageEnd 0 0) d fun e =>
      d.HoldsAt 0 CtxState.stalled (0x04 * 2 ^ 56) 0 0 e ∧ e.seq.openPage = some n ∧ e.mem = d.mem) ∧
    (d.seq.openPage = none → d.isScan = false → d.isWeb = true → reservedBad w.toNat 0xFFFFFFFF = false → w.toNat % 2 ^ 32 ≠ 0 →
      Completes (.skipLines 0 w) d fun e => d.Ran 0 1 [] e ∧ (e.job js).cursor = (d.job js).cursor + w.toNat % 2 ^ 32 ∧
        (e.job js).afterSkip = true) ∧
    (d.seq.openPage = none → reservedBad w.toNat 0xFFFFFFFF = false → w.toNat % 2 ^ 32 ≠ 0 → d.flag Reg.RUN_PCACHE_STAT.overflow = false →
      d.flag Reg.RUN_PCACHE_STAT.committed = true → d.unfinishedPage = none → Completes (.copies 0 w) d fun e =>
        e.ctxState 0 = CtxState.stalled ∧ (e.ctx 0).held = some ⟨word0 0x06 w.toNat, 0, 1⟩ ∧ e.seq.nextPage = d.seq.nextPage + 1) ∧
    (d.seq.openPage = some n → d.isScan = true → w.toNat < 64 → (d.page n).covered < (d.page n).length → Completes (.pass 0 w) d fun e =>
      d.WentOn 0 1 e ∧ e.mem = d.mem ∧ e.pac.passes = d.pac.passes ++ [⟨n, w.toNat, (d.page n).covered,
        min (d.passEntry w.toNat % 2 ^ 16 + 1) ((d.page n).length - (d.page n).covered), (d.job (d.page n).job).cursor,
        (d.passEntry w.toNat).testBit 36, false⟩] ∧ (e.page n).lastPass = some (d.page n).covered) ∧
    (d.seq.openPage = some n → d.isScan = true → (d.page n).lastPass = some first → Completes (.feed 0 0) d fun e =>
      d.WentOn 0 1 e ∧ e.mem = d.mem ∧ (e.page n).lastPass = none ∧
        (∀ q, q ∈ e.pac.passes → q.page = n → q.first = first → q.feed = true))

/-- TILES (R112, R128, R133, R172). TILE_DEF binds its tile ID to a frame under a new serial number; TILE_DROP takes the ID out of the
directory. DEFECT_SYNC holds context 0 on the table that it names, and the end of its check makes a table that passes the pending version, and ends
context 0 where the table could not be read. (Of a context 0 whose block waits for no refetch, as to going on.) -/
def Obligations.TilesAreDefinedAndDroppedAndDefectTablesTaken : Prop :=
  ∀ (d : Dev) (k : Nat) (w : BitVec 56) (w1 : BitVec 64) (h : Held) (a v : Nat),
    (d.canRun k 2 = true → reservedBad w.toNat 0xC0000000FFFFFF = false → 32 ≤ w1.toNat / 2 ^ 40 → w1.toNat % 2 ^ 40 % 8 = 0 →
      d.inFitted (w1.toNat % 2 ^ 40) (w1.toNat / 2 ^ 40) = true →
      ((Tab.find d.run.dir (w.toNat % 2 ^ 24)).isSome = true ∨ d.run.dir.length < 131072) → Completes (.tileDef k w w1) d fun e => e.ctxState k = CtxState.running ∧
        Tab.find e.run.dir (w.toNat % 2 ^ 24) = some d.run.nextDef ∧ (e.tileDef d.run.nextDef).frame = w1.toNat % 2 ^ 40 ∧
        (e.tileDef d.run.nextDef).len = w1.toNat / 2 ^ 40 ∧ (e.tileDef d.run.nextDef).pin = w.toNat.testBit 55 ∧
        (e.tileDef d.run.nextDef).current = true ∧ e.mem = d.mem) ∧
    (d.canRun k 1 = true → reservedBad w.toNat 0xFFFFFF = false → Completes (.tileDrop k w) d fun e => e.ctxState k = CtxState.running ∧
      Tab.find e.run.dir w.toNat = none ∧ (∀ t, t ≠ w.toNat → Tab.find e.run.dir t = Tab.find d.run.dir t) ∧ e.mem = d.mem) ∧
    (d.canRun 0 1 = true → (d.openJob 0).isSome = true → reservedBad w.toNat 0xFFFFFFFFFFF000 = false →
      d.inFitted (w.toNat % 2 ^ 40) defectTableBytes = true → Completes (.defectSync 0 w) d fun e =>
        d.HoldsAt 0 CtxState.stalled (word0 0x50 w.toNat) 0 0 e ∧
        e.dcr = { d.dcr with sync := some (w.toNat % 2 ^ 40, w.toNat / 2 ^ 40, false) } ∧ e.mem = d.mem) ∧
    (d.dcr.sync = some (a, v, false) → (d.ctx 0).held = some h → d.waitsRefetch .defectSync = false → d.waitsRefetch (.seqBlock 0) = false → d.seqGoes = true → d.rangePoisoned a defectTableBytes = false →
      defectCheck (d.mem.readBytes a defectTableBytes) (some v) = 0 → Completes .defectTableCheckDone d fun e =>
        e.ctxState 0 = CtxState.running ∧ e.dcr.sync = none ∧ e.dcr.pending = some d.dcr.nextVersion ∧
        e.defTab d.dcr.nextVersion = defectOf (d.mem.readBytes a defectTableBytes) ∧ e.fld Reg.DCR_PENDING.version = v % 2 ^ Reg.DCR_PENDING.version.width) ∧
    (d.dcr.sync = some (a, v, true) → (d.ctx 0).held = some h → d.waitsRefetch .defectSync = false → d.seqGoes = true →
      Completes .defectTableCheckDone d fun e => e.ctxState 0 = CtxState.idle ∧ e.dcr.sync = none ∧ e.dcr.pending = d.dcr.pending)

/-- PLACEMENTS (R106, R108, R111, R112). A placement that misses the page changes no band; FILL, and PLACE and MASK of a tile that is
in the cache with its header checked, join the staging band where that holds their first row and they write in it; a MASK or PLACE of an
undefined tile ends context 0 with 08h. Context 0 goes on behind each, with the placement remembered. A REPEAT of one placement, once, makes it again,
moved by its distances; a REPEAT does to composition and tiles what placing its copies one by one does. -/
def Obligations.PlacementsJoinTheBandInProgramOrder : Prop :=
  ∀ (d : Dev) (n : Nat) (w : BitVec 56) (w1 : BitVec 64) (g : Staging), d.canRun 0 2 = true → d.seq.openPage = some n →
    (∀ (i : Instr) (op : Nat), (i = .place 0 w w1 ∧ op = 0x80 ∨ i = .fill 0 w w1 ∧ op = 0x81 ∨ i = .mask 0 w w1 ∧ op = 0x82) →
      firstFail (d.placeChecks 0 w.toNat (if op = 0x80 then 0xFFFC0000FFFFFF else if op = 0x81 then 0xE3FFFFFFFFFFFF else 0x9FFFC000FFFFFF)
        (op != 0x82) (op == 0x82 && w.toNat / 2 ^ 38 % 16 == 0)) = none →
      (∀ serial, (if op = 0x81 then some 0 else Tab.find d.run.dir (w.toNat % 2 ^ 24)) = some serial →
        (op ≠ 0x81 → (d.tileDef serial).failed = none ∧ (d.tileDef serial).header.isSome = true ∧ d.cached serial = true) →
        ((d.plcOf (op - 0x80) (word0 op w.toNat) serial (d.tileDef serial).header (coord32 (w1.toNat / 2 ^ 32)) (coord32 w1.toNat) (d.ctxPc 0)).coversPage
            d.pageW (d.page n).length = false →
          Completes i d fun e => d.WentOn 0 2 e ∧
            (e.ctx 0).placed = (d.ctx 0).placed ++ [(word0 op w.toNat, w1.toNat, d.ctxPc 0)] ∧ e.cmp = d.cmp) ∧
        ((d.plcOf (op - 0x80) (word0 op w.toNat) serial (d.tileDef serial).header (coord32 (w1.toNat / 2 ^ 32)) (coord32 w1.toNat) (d.ctxPc 0)).coversPage
            d.pageW (d.page n).length = true →
          (d.plcOf (op - 0x80) (word0 op w.toNat) serial (d.tileDef serial).header (coord32 (w1.toNat / 2 ^ 32)) (coord32 w1.toNat) (d.ctxPc 0)).topBand = g.band →
          d.cmp.staging = some g → g.page = n → d.outstanding g < 256 →
          d.plcWrites (d.plcOf (op - 0x80) (word0 op w.toNat) serial (d.tileDef serial).header (coord32 (w1.toNat / 2 ^ 32)) (coord32 w1.toNat) (d.ctxPc 0))
            g.band g.lines = true →
          Completes i d fun e => d.WentOn 0 2 e ∧ ∃ (g' : Staging) (q : Plc), e.cmp.staging = some g' ∧ g'.entries = g.entries ++ [q] ∧
            q.w0 = word0 op w.toNat ∧ q.x = coord32 (w1.toNat / 2 ^ 32) ∧ q.y = coord32 w1.toNat ∧ q.serial = serial ∧
            (e.ctx 0).placed = (d.ctx 0).placed ++ [(word0 op w.toNat, w1.toNat, d.ctxPc 0)])) ∧
      (op ≠ 0x81 → Tab.find d.run.dir (w.toNat % 2 ^ 24) = none → Completes i d (Dev.EndedWith 0 0x08))) ∧
    (w.toNat = 2 ^ 48 + 1 → ∀ (a b c : Nat) (ps : List (Nat × Nat × Nat)) (e' : Dev), (d.ctx 0).placed = ps ++ [(a, b, c)] →
      coord32 (b / 2 ^ 32) + coord32 (w1.toNat / 2 ^ 32) < 2 ^ 31 → -(2 ^ 31) ≤ coord32 (b / 2 ^ 32) + coord32 (w1.toNat / 2 ^ 32) →
      coord32 b + coord32 w1.toNat < 2 ^ 31 → -(2 ^ 31) ≤ coord32 b + coord32 w1.toNat →
      (d.modCtx 0 fun x => { x with lastCmd := d.ctxPc 0, lastWord := word0 0x83 w.toNat }).placeOne a
        (coord32 (b / 2 ^ 32) + coord32 (w1.toNat / 2 ^ 32)) (coord32 b + coord32 w1.toNat) c = .done e' →
      Completes (.repeat_ 0 w w1) d fun e => e.ctxState 0 = CtxState.running ∧ e.cmp = e'.cmp ∧ e.run = e'.run) ∧
    (reservedBad w.toNat 0xFF00000000FFFF = false → w.toNat / 2 ^ 48 ≠ 0 → w.toNat % 2 ^ 16 ≠ 0 → ∀ e' : Dev,
      (d.modCtx 0 fun x => { x with lastCmd := d.ctxPc 0, lastWord := word0 0x83 w.toNat }).repeatBody w.toNat w1.toNat 0 = .done e' →
      Completes (.repeat_ 0 w w1) d fun e => e.ctxState 0 = CtxState.running ∧ e.cmp = e'.cmp ∧ e.run = e'.run)

/-! ### Motion and measurement -/

/-- MOTION REQUESTS (R390, R395, R396, R397, R398). A motion parameter for an enabled axis, in its range and in a state that allows it, acts on its axis alone, and the
context goes on: a move sets the target and powers the axis (a relative one clears a fault), VMAX to TABLE take their value, HOME begins homing with
the position unknown, STOP brakes, SET_POS sets the position, POWER drives or releases. A SHADOW only counts the request. -/
def Obligations.MotionParametersActOnTheirAxisAlone : Prop :=
  ∀ (d : Dev) (k n x : Nat) (v : BitVec 48) (i : Instr) (y : Axis), d.canRun k 1 = true → v.toNat < 2 ^ 40 → n = v.toNat / 2 ^ 37 →
    x = v.toNat % 2 ^ 37 → x < 2 ^ 32 → d.axisOn n = true → d.feedOwns n = false →
    ((i = .moveAbs k v ∧ (d.axis n).valid = true ∧ (d.axis n).phase = 0 ∧ (d.axis n).fault = 0 ∧ y = (d.axis n).goTo (signed 32 x)) ∨
     (i = .moveRel k v ∧ (d.axis n).phase = 0 ∧ -(2 ^ 31) ≤ (d.axis n).target + signed 32 x ∧ (d.axis n).target + signed 32 x < 2 ^ 31 ∧
       y = { d.axis n with fault := 0 }.goTo ((d.axis n).target + signed 32 x)) ∨
     (i = .setVmax k v ∧ x ≠ 0 ∧ y = { d.axis n with vmax := x }) ∨
     (i = .setAccel k v ∧ x ≠ 0 ∧ x < 2 ^ 24 ∧ y = { d.axis n with accel := x }) ∨
     (i = .setDecel k v ∧ x ≠ 0 ∧ x < 2 ^ 24 ∧ y = { d.axis n with decel := x }) ∨
     (i = .setJerk k v ∧ y = { d.axis n with jerk := x }) ∨
     (i = .home k v ∧ x = 0 ∧ y = { d.axis n with
       fault := 0, phase := 1, seek := false, valid := false, powered := true, holding := false, moving := true
       target := (d.axis n).stopTarget }) ∨
     (i = .stop k v ∧ x = 0 ∧ y = { d.axis n with
       target := (d.axis n).stopTarget, valid := (d.axis n).valid && (d.axis n).phase == 0, phase := 0, seek := false }) ∨
     (i = .setPos k v ∧ (d.axis n).moving = false ∧ (d.axis n).phase = 0 ∧
       y = { d.axis n with p := signed 32 x * microstep, target := signed 32 x, valid := true }) ∨
     (i = .power k v ∧ x = 1 ∧ (d.axis n).moving = false ∧ (d.axis n).phase = 0 ∧ y = { d.axis n with powered := true }) ∨
     (i = .power k v ∧ x = 0 ∧ (d.axis n).moving = false ∧ (d.axis n).phase = 0 ∧
       y = { d.axis n with powered := false, valid := (d.axis n).valid && !(d.flag (Reg.MOT_AX_CFG.hold n)), iA := 0, iB := 0 }) ∨
     (i = .table k v ∧ x < 4 ∧ (d.axis n).moving = false ∧ (d.axis n).phase = 0 ∧ y = { d.axis n with table := x })) →
    (d.isShadow = false → Completes i d fun e => d.WentOn k 1 e ∧ e.axis n = y ∧ (∀ m, m ≠ n → e.axis m = d.axis m) ∧ e.mem = d.mem) ∧
    (d.isShadow = true → Completes i d fun e => d.WentOn k 1 e ∧ (∀ m, e.axis m = d.axis m) ∧
      Tab.get e.mot.asked 0 n = Tab.get d.mot.asked 0 n + 1 ∧ e.mem = d.mem)

/-- MEASUREMENT REQUESTS (R258, R265, R270, R272). SWEEP waits behind earlier sweeps, and starts in STANDBY and SERVICE; a context with one pending is held at the
command. SAMPLE asks every UP port of its mask. VSET_APPLY drives the code of its context on the ports of its mask in STANDBY and SERVICE, and
waits in CALIBRATE. SPIT_GO sends a burst to every UP port of its mask and waits for the answers. -/
def Obligations.MeasurementRequestsStartOrWait : Prop :=
  ∀ (d : Dev) (k : Nat) (v : BitVec 48), d.canRun k 1 = true →
    (v.toNat ≠ 0 → v.toNat < 2 ^ 32 → d.requestLegal true = true →
      (d.msr.sweeps.any (·.ctx == k) = false → d.mode = Mode.calibrate → Completes (.sweep k v) d fun e => d.WentOn k 1 e ∧ e.mem = d.mem ∧
        e.msr.sweeps = d.msr.sweeps ++ [⟨k, v.toNat, (d.ctx k).resultBase, (d.ctx k).defectOut, (d.ctx k).defectVer % 2 ^ 16,
          (d.ctx k).defectVer.testBit 16, [], 0, [], false, false, []⟩]) ∧
      (d.msr.sweeps = [] → (d.mode = Mode.standby ∨ d.mode = Mode.service) → (∃ p, p < 32 ∧ v.toNat.testBit p = true ∧ d.portEnabled p = true) →
        Completes (.sweep k v) d fun e => d.WentOn k 1 e ∧ e.flag Reg.MSR_SWEEP_STAT.busy = true ∧ e.fld Reg.MSR_SWEEP_STAT.context = k ∧
          ∃ s, e.msr.sweeps = [s] ∧ s.started = true ∧ s.ctx = k ∧ s.mask = v.toNat ∧ s.base = (d.ctx k).resultBase) ∧
      (d.msr.sweeps.any (·.ctx == k) = true → Completes (.sweep k v) d fun e =>
        d.HoldsAt k CtxState.waiting (word0 0x20 (0x63 * 2 ^ 48 + v.toNat)) 0 0 e ∧ e.msr = d.msr)) ∧
    (v.toNat < 2 ^ 40 → v.toNat / 2 ^ 32 % 16 ≤ 4 → d.requestLegal false = true → d.msr.samples.any (·.ctx == k) = false → d.isShadow = false →
      Completes (.sample k v) d fun e => d.WentOn k 1 e ∧
        e.hlk.out.length = d.hlk.out.length + ((List.range 32).filter fun p => v.toNat.testBit p && d.portUp p).length) ∧
    (v.toNat < 2 ^ 40 → v.toNat / 2 ^ 32 % 16 ≤ 4 → d.requestLegal false = true → d.msr.samples.any (·.ctx == k) = false → d.isShadow = true →
      Completes (.sample k v) d fun e => d.WentOn k 1 e ∧
        e.msr.samples = d.msr.samples ++ [⟨k, v.toNat % 2 ^ 32, v.toNat / 2 ^ 32 % 16, v.toNat / 2 ^ 36 % 16 + 1, [], 0, []⟩]) ∧
    (v.toNat < 2 ^ 32 → d.requestLegal true = true → d.msr.vsets.any (·.ctx == k) = false →
      (d.mode = Mode.standby ∨ d.mode = Mode.service → Completes (.vsetApply k v) d fun e => d.WentOn k 1 e ∧
        e.msr.vsets = (d.msr.vsets ++ [(⟨k, v.toNat, (d.ctx k).vsetCode, true⟩ : VsetReq)]).map (fun r : VsetReq => { r with written := true }) ∧
        ∀ p, p < 32 → v.toNat.testBit p = true →
          e.fld (Reg.MSR_VSET_NOW.code p) = (d.ctx k).vsetCode % 2 ^ (Reg.MSR_VSET_NOW.code p).width) ∧
      (d.mode = Mode.calibrate → Completes (.vsetApply k v) d fun e => d.WentOn k 1 e ∧
        e.msr.vsets = d.msr.vsets ++ [⟨k, v.toNat, (d.ctx k).vsetCode, false⟩])) ∧
    (v.toNat < 2 ^ 32 → d.mode = Mode.service → (d.ctx k).spitCfg ≠ 0 → Completes (.spitGo k v) d fun e =>
      e.ctxState k = CtxState.waiting ∧ (e.ctx k).wait = .spit ∧ e.ctxPc k = (d.ctxPc k + 8) % 2 ^ 64 ∧
        e.hlk.out.length = d.hlk.out.length + ((List.range 32).filter fun p => v.toNat.testBit p && d.portUp p).length)

/-- SWEEPS, SAMPLES AND SETPOINTS END (R266 to R273). A slot of the first sweep writes the entry of its element, that alone where more follow on the port: the
resistance and status where CONNECT was answered, else NO_CONNECT; where a trigger unit paces the slots, once that slot is due. A sweep that is cut
is abandoned: it is gone, and its results are stale; one that is not cut goes on. A sample request that times out ends: each port of its mask shows
how many samples have arrived, none of a port that refused. A VSET_APPLY that was written is over when it has settled. -/
def Obligations.SweepsSamplesAndSetpointsReportWhatTheyFound : Prop :=
  ∀ (d : Dev) (c k p n a : Nat) (rest : List Nat) (convs : List Nat) (s : Sweep) (ss : List Sweep) (r : SampleReq),
    (d.msr.sweeps = s :: ss → s.started = true → s.cut = false → c < 8 → s.chans.getD c ([], 0) = (p :: rest, n) → d.portUp p = true →
      (d.slotsTriggered = false ∨ s.due.contains c = true) → d.spitting p = false → n + 1 < d.portElems p → a = s.base + 4 * (p * 8192 + n) →
      a % 64 ≤ 60 → d.lineBad (a / 64) = false →
      Completes (.sweepSlot c true convs) d (fun e => e.mem.readBytes a 4 =
          leBytes 4 (resistance (d.fld Reg.MSR_CFG.i_code) convs + d.elemStatus convs (resistance (d.fld Reg.MSR_CFG.i_code) convs) * 2 ^ 20) ∧
        d.MemBut a 4 e ∧ ∃ t, e.msr.sweeps = t :: ss ∧ t.chans = s.chans.set c (p :: rest, n + 1)) ∧
      Completes (.sweepSlot c false convs) d (fun e => e.mem.readBytes a 4 = leBytes 4 (Elem.noConnect * 2 ^ 20) ∧ d.MemBut a 4 e)) ∧
    (d.msr.sweeps = [s] → s.cut = true → Completes .sweepAbandon d fun e => e.msr.sweeps = [] ∧ e.flag Reg.MSR_SWEEP_STAT.busy = false ∧
      e.flag Reg.MSR_SWEEP_STAT.stale = true) ∧
    (d.msr.sweeps = [s] → s.cut = false → Completes .sweepAbandon d fun e => e = d) ∧
    (d.msr.samples.find? (fun x => x.ctx == k) = some r → d.isShadow = false → Completes (.sampleTimeout k) d fun e =>
      e.msr.samples = d.msr.samples.filter (·.ctx != k) ∧ e.mem = d.mem ∧
      ∀ q, q < 32 → r.mask.testBit q = true → e.flag (Reg.MSR_HSAMP.valid q) = true ∧
        (r.refused.testBit q = false → e.fld (Reg.MSR_HSAMP.count q) = (Tab.get r.values [] q).length % 2 ^ (Reg.MSR_HSAMP.count q).width)) ∧
    (d.msr.vsets.any (fun x => x.ctx == k && x.written) = true → Completes (.vsetSettled k) d fun e =>
      e.msr.vsets = d.msr.vsets.filter (·.ctx != k) ∧ e.mem = d.mem ∧ e.regs = d.regs)

/-- CALIBRATION (R274 to R276). In CALIBRATE a step starts when every earlier one has succeeded, and voids itself and the later ones; else it ends with
ORDER. A step ends with REF_RANGE when a reference reading lies out of its range, else with TRIM_RANGE when a trim does not fit, else with DONE, its
trims and qualities kept. APPLY with all steps done and the quality met loads every channel's and every output's trims, notes cal_valid and enters STANDBY, else it
ends with NOT_READY or QUALITY and stays; ABANDON and the time limit enter STANDBY and load no trim. (Nothing asks for SAFE in these
clauses. That reading a step's end takes its readings from outside is the model's form.) -/
def Obligations.CalibrationStepsRunInOrderAndApplyAtOnce : Prop :=
  ∀ (d : Dev) (s m : Nat) (readings : List Nat) (trims : List Int) (again : List Nat), d.flt.safeReq = none →
    (d.mode = Mode.calibrate → d.msr.step = none →
      (∀ i, (i = Instr.zero ∧ s = 1 ∨ i = Instr.vref ∧ s = 2 ∨ i = Instr.rref ∧ s = 3) →
        ((∀ t, 1 ≤ t → t < s → d.calDone t = true) → Completes i d fun e => e.msr.step = some s ∧ e.flag Reg.MSR_CAL_STAT.busy = true ∧
          e.fld Reg.MSR_CAL_STAT.op = s ∧ e.fld Reg.MSR_CAL_STAT.result = 0 ∧ d.OnlyRegs [Reg.MSR_CAL_STAT.addr] { e with msr := d.msr }) ∧
        ((∃ t, 1 ≤ t ∧ t < s ∧ d.calDone t = false) → Completes i d fun e => e.msr.step = none ∧ e.flag Reg.MSR_CAL_STAT.busy = false ∧
          e.fld Reg.MSR_CAL_STAT.op = s ∧ e.fld Reg.MSR_CAL_STAT.result = Cal.order)) ∧
      (d.calDone 1 = true → d.calDone 2 = true → d.calDone 3 = true → d.calWorst ≤ d.fld Reg.MSR_CAL_CFG.qual_max_ppm →
        Completes .apply d fun e => e.mode = Mode.standby ∧ e.flag Reg.MSR_CAL_STAT.cal_valid = true ∧
          (m < 8 → e.fld (Reg.MSR_CH_TRIM_A.adc_off m) = unsigned 10 ((Tab.get d.msr.trims [] 1).getD m 0) ∧
            e.fld (Reg.MSR_CH_TRIM_A.adc_gain m) = unsigned 10 ((Tab.get d.msr.trims [] 2).getD m 0) ∧
            e.fld (Reg.MSR_CH_TRIM_B.i_off m) = unsigned 8 ((Tab.get d.msr.trims [] 3).getD m 0) ∧
            e.fld (Reg.MSR_CH_TRIM_B.i_gain m) = unsigned 10 ((Tab.get d.msr.trims [] 3).getD (8 + m) 0)) ∧
          (m < 32 → e.fld (Reg.MSR_VSET_TRIM.v_off m) = unsigned 8 ((Tab.get d.msr.trims [] 2).getD (8 + m) 0) ∧
            e.fld (Reg.MSR_VSET_TRIM.v_gain m) = unsigned 10 ((Tab.get d.msr.trims [] 2).getD (40 + m) 0))) ∧
      (d.calDone 1 = true → d.calDone 2 = true → d.calDone 3 = true → d.fld Reg.MSR_CAL_CFG.qual_max_ppm < d.calWorst →
        Completes .apply d fun e => e.mode = Mode.calibrate ∧ e.fld Reg.MSR_CAL_STAT.result = Cal.quality ∧
          d.RegsBelow 0xF00000 [Reg.MSR_CAL_STAT.addr] e) ∧
      ((d.calDone 1 = false ∨ d.calDone 2 = false ∨ d.calDone 3 = false) → Completes .apply d fun e => e.mode = Mode.calibrate ∧
        e.fld Reg.MSR_CAL_STAT.result = Cal.notReady ∧ d.RegsBelow 0xF00000 [Reg.MSR_CAL_STAT.addr] e) ∧
      (Completes .abandon d fun e => e.mode = Mode.standby ∧ (m < 32 → e.reg (Reg.MSR_VSET_TRIM.addr m) = d.reg (Reg.MSR_VSET_TRIM.addr m)) ∧
        (m < 8 → e.reg (Reg.MSR_CH_TRIM_A.addr m) = d.reg (Reg.MSR_CH_TRIM_A.addr m) ∧ e.reg (Reg.MSR_CH_TRIM_B.addr m) = d.reg (Reg.MSR_CH_TRIM_B.addr m)))) ∧
    (d.mode = Mode.calibrate → Completes .calTimeout d fun e => e.mode = Mode.standby ∧
      (m < 32 → e.reg (Reg.MSR_VSET_TRIM.addr m) = d.reg (Reg.MSR_VSET_TRIM.addr m)) ∧
      (m < 8 → e.reg (Reg.MSR_CH_TRIM_A.addr m) = d.reg (Reg.MSR_CH_TRIM_A.addr m) ∧ e.reg (Reg.MSR_CH_TRIM_B.addr m) = d.reg (Reg.MSR_CH_TRIM_B.addr m))) ∧
    (d.msr.step = some s →
      ((List.range (calReadings s)).any (fun j => refBad s j (readings.getD j 0)) = true → Completes (.calStepDone readings trims again) d fun e =>
        e.msr.step = none ∧ e.fld Reg.MSR_CAL_STAT.result = Cal.refRange ∧ e.msr.trims = d.msr.trims) ∧
      ((List.range (calReadings s)).any (fun j => refBad s j (readings.getD j 0)) = false →
        (trimsFit s trims = false → Completes (.calStepDone readings trims again) d fun e => e.msr.step = none ∧
          e.fld Reg.MSR_CAL_STAT.result = Cal.trimRange ∧ e.msr.trims = d.msr.trims) ∧
        (trimsFit s trims = true → Completes (.calStepDone readings trims again) d fun e => e.msr.step = none ∧
          e.fld Reg.MSR_CAL_STAT.result = Cal.done ∧ Tab.get e.msr.trims [] s = trims ∧ e.flag Reg.MSR_CAL_STAT.busy = false ∧
          Tab.get e.msr.quals [] s = (List.range (calReadings s)).map fun j => refPpm s j (again.getD j 0))))

/-! ### Chains, bands and pages -/

/-- LINK WORDS (R95 to R100). At the link word of its block, by running into it, by a doorbell's re-read or by the poll at a tail, a
context goes on at the next block when the word, and that block, are of its generation; it ends with 10h where the chain ends inside a CALL, 11h for a
reserved bit, 12h for another generation, 13h for a next block of another generation; at the end of a chain with an open job it stands
in WAIT_TAIL, or, of a boot job, ends with 14h; without one it is idle. Going on uses up the doorbell. (Of unpoisoned link words and blocks, with
neither SAFE nor SLEEP being entered.) -/
def Obligations.LinkWordsContinueEndOrHoldTheChain : Prop :=
  ∀ (d : Dev) (k w next : Nat) (i : Instr), k < 8 →
    (i = .linkWord k ∧ d.ctxState k = CtxState.running ∧ d.ctxPc k % 4096 = 0xFF8 ∨
     i = .waitTailReread k ∧ d.ctxState k = CtxState.tail ∧ (d.ctx k).doorbell = true ∨ i = .waitTailPoll k ∧ d.ctxState k = CtxState.tail) → d.seqGoes = true →
    d.rangePoisoned (d.ctxPc k) 8 = false → w = d.linkWord (d.ctxPc k) → next = w % 2 ^ 40 →
    (w / 2 ^ 40 % 128 = 0 → w % 4096 = 0 →
      (w.testBit 47 = false → d.inFitted next 4096 = true → w / 2 ^ 48 = d.fld (Reg.SEQ_CTX_GEN.gen k) → d.blockBad next = false →
        (d.linkWord next / 2 ^ 48 = d.fld (Reg.SEQ_CTX_GEN.gen k) → Completes i d fun e =>
          e.ctxState k = CtxState.running ∧ e.ctxPc k = next ∧ (e.ctx k).doorbell = false ∧ d.Else (ctxRegs k) { e with seq := d.seq }) ∧
        (d.linkWord next / 2 ^ 48 ≠ d.fld (Reg.SEQ_CTX_GEN.gen k) → Completes i d (Dev.EndedWith k 0x13))) ∧
      ((w.testBit 47 = true ∨ d.inFitted next 4096 = true) → w / 2 ^ 48 ≠ d.fld (Reg.SEQ_CTX_GEN.gen k) → Completes i d (Dev.EndedWith k 0x12)) ∧
      (w.testBit 47 = true → w / 2 ^ 48 = d.fld (Reg.SEQ_CTX_GEN.gen k) →
        ((d.ctx k).stack ≠ [] → Completes i d (Dev.EndedWith k 0x10)) ∧
        ((d.ctx k).stack = [] → (d.openJob k).isSome = true → d.flag (Reg.SEQ_CTX_STAT.boot k) = false → Completes i d fun e =>
          e.ctxState k = CtxState.tail ∧ e.ctxPc k = d.ctxPc k ∧ (e.ctx k).job = d.openJob k) ∧
        ((d.ctx k).stack = [] → (d.openJob k).isSome = true → d.flag (Reg.SEQ_CTX_STAT.boot k) = true → Completes i d (Dev.EndedWith k 0x14)) ∧
        ((d.ctx k).stack = [] → d.openJob k = none → Completes i d fun e => e.ctxState k = CtxState.idle ∧ (e.ctx k).begun = false))) ∧
    ((w / 2 ^ 40 % 128 ≠ 0 ∨ w % 4096 ≠ 0) → Completes i d (Dev.EndedWith k 0x11))

/-- DOORBELLS, COUNTERS AND ABORTS OF CONTEXTS (R41, R93, R99, R117, R118). SEQ_CTX_DB marks its context, and a keep-wet return as cancelled; SEQ_SYNC_INC
adds its amount to its counter. The abort of a chain in scope ends it; on context 0 with an open job whose lines have not all fired it closes
the job and its page, and the context is STOPPING. The oldest page without its record gets it once complete, and is counted to its job with its
blank lines. (The host's writes: of a device alone.) -/
def Obligations.ContextsAreNudgedCountedAndAborted : Prop :=
  ∀ (d : Dev) (k : Nat) (v : Word) (a : Abort) (j : JobDesc) (js n : Nat) (p : Page),
    (d.responds (Reg.SEQ_CTX_DB.addr k) = true → d.alone = true → Completes (.seqCtxDb k) d fun e =>
      (e.ctx k).doorbell = true ∧ (∀ m, m ≠ k → e.ctx m = d.ctx m) ∧ e.glb = { d.glb with keepwetCancelled := true } ∧
      { e with seq := d.seq, glb := d.glb } = d) ∧
    (d.responds Reg.SEQ_SYNC_INC.addr = true → d.alone = true → Completes (.seqSyncInc v) d fun e =>
      e.fld (Reg.SEQ_SYNC.count (v.toNat / 2 ^ 16 % 32)) =
        (d.fld (Reg.SEQ_SYNC.count (v.toNat / 2 ^ 16 % 32)) + v.toNat % 2 ^ 16) % 2 ^ 32 ∧
      d.OnlyRegs [Reg.SEQ_SYNC.addr (v.toNat / 2 ^ 16 % 32)] e) ∧
    (d.hdma.abort = some a → (d.ring (48 + k)).job = some j → a.ring = 48 + k → a.slots.contains j.index = true → j.taken = true →
      k < 8 → d.flag (Reg.SEQ_CTX_STAT.boot k) = false → d.ctxState k ≠ CtxState.idle → d.ctxState k ≠ CtxState.stopping →
      ((k ≠ 0 ∨ d.openJob k = none) → Completes (.contextAbort k) d fun e => e.ctxState k = CtxState.idle ∧ (e.ctx k).job = none ∧
        (e.ctx k).stack = [] ∧ (e.ctx k).held = none) ∧
      (k = 0 → d.openJob 0 = some js → ((d.holdEnd (.seqBlock 0)).abortJob 0).jobFired js = false → Completes (.contextAbort k) d fun e =>
        e.ctxState 0 = CtxState.stopping ∧ (e.ctx 0).stopping = some js ∧ e.seq.openPage = none ∧ (e.job js).closed = true)) ∧
    (d.seq.pages.find? (fun e => !e.2.recorded) = some (n, p) → p = d.page n → d.pageComplete p = true → Completes .pageRecordWrite d fun e =>
      (e.page n).recorded = true ∧ (e.job p.job).done = (d.job p.job).done + 1 ∧ (e.job p.job).blanks = (d.job p.job).blanks + p.blanks) ∧
    (d.seq.pages.find? (fun e => !e.2.recorded) = some (n, p) → d.pageComplete p = false → Completes .pageRecordWrite d fun e => e = d)

/-- BANDS (R107 to R109, R140, R155, R158). Once cleared, the staging band composes, or is confirmed where it was confirmed before; that of a copy asks for one
decode for each of its segments that has lines. A band commits when it is confirmed and composed, no part of it waits for recomposition, and the band before has been
read and encoded: it is the committed band with all its values, and it is counted. A failed part of the staging band past its deadline stays
bad, its page spoiled, and is counted. (The clauses of clear and commit are of a context 0 that is not stalled.) -/
def Obligations.BandsClearComposeAndCommit : Prop :=
  ∀ (d : Dev) (g : Staging) (l q c0 : Nat) (rest : List (Nat × Nat × Nat × Nat)), d.cmp.staging = some g →
    (d.stageState = Stage.clearing → g.copy = false → d.ctxState 0 ≠ CtxState.stalled → Completes .bandClearDone d fun e =>
      e.stageState = (if g.confirmed then Stage.confirmed else Stage.composing) ∧ e.cmp = d.cmp ∧ d.OnlyRegs [Reg.CMP_STAGE_STAT.addr] e) ∧
    (d.stageState = Stage.clearing → g.copy = true → d.ctxState 0 ≠ CtxState.stalled → Completes .bandClearDone d fun e =>
      e.stageState = (if g.confirmed then Stage.confirmed else Stage.composing) ∧ e.cmp = d.cmp ∧ d.RegsKept [Reg.CMP_STAGE_STAT.addr] e ∧
        e.run.decodes.length = d.run.decodes.length + ((List.range 4).filter fun s => segLines g.lines s != 0).length) ∧
    (d.stageState ≠ Stage.clearing → Completes .bandClearDone d fun e => e = d) ∧
    (d.commitReady g = true → d.ctxState 0 ≠ CtxState.stalled → Completes .bandCommit d fun e => ∃ c, e.cmp.committed = some c ∧
      c.page = g.page ∧ c.band = g.band ∧ c.lines = g.lines ∧ c.next = 0 ∧ c.entries = g.entries ∧ c.cells = g.cells ∧ c.bad = g.bad ∧
      e.fld Reg.CMP_COMMITS.count = (d.fld Reg.CMP_COMMITS.count + 1) % 2 ^ 32) ∧
    (d.commitReady g = false → Completes .bandCommit d fun e => e = d) ∧
    (d.cmp.failed = (1, l, q, c0) :: rest → Completes (.bandLineRecompose true) d fun e => e.cmp.failed = rest ∧
      e.cmp.staging = some { g with bad := g.bad ++ [(l, q, c0)] } ∧ (e.page g.page).spoiled = true ∧
      e.fld Reg.CMP_RECOMP.failed = (d.fld Reg.CMP_RECOMP.failed + 1) % 65536)

/-- DECODES (R112, R126 to R128, R131, R140). A free decoder takes the first decode that waits and can run on it, where the cache has room without eviction;
none where none can. A checked header is kept with its definition, or its failure; a decoded tile enters the cache; a first failure, but of a memory read or a
dictionary, is decoded again, a second stands. A segment of the page cache leaves its encoder; in an entry that has overflowed nothing is
written. (The clauses of headers and results are of a context 0 that is not stalled.) -/
def Obligations.DecodesStartCheckAndEnd : Prop :=
  ∀ (d : Dev) (u n tile st e' s : Nat) (q : Decode) (bs : List Byte) (c : Committed) (v : Nat),
    (d.nextDecode u d.run.decodes = some q → d.decoderFree u = true → q.first = none →
      (q.item = .seg n tile s ∨ (q.item = .tile n ∧ d.fld Reg.RUN_CACHE_USED.used + d.tileGranules n ≤ 65536 ∧
        d.run.decodes.any (fun x => x.item == q.item) = true)) → Completes (.decodeStart u) d fun e =>
        e.run.decodes = assignDecoder u q.item d.run.decodes ∧ e.mem = d.mem ∧
        d.RegsKept [Reg.RUN_CACHE_USED.addr, Reg.RUN_CACHE_PIN.addr, Reg.RUN_DIR_STAT.addr] e) ∧
    ((d.decoderFree u = false ∨ d.nextDecode u d.run.decodes = none) → Completes (.decodeStart u) d fun e => e = d) ∧
    (Tab.find d.run.dir tile = some n → (d.tileDef n).header = none → (d.tileDef n).failed = none → (d.tileDef n).busy = true →
      d.ctxState 0 ≠ CtxState.stalled → Completes (.decodeHeaderChecked tile) d fun e => e.regs = d.regs ∧ e.mem = d.mem ∧
        e.tileDef n = if d.headerCheck (d.tileDef n) = 0 then { d.tileDef n with header := some (headerOf (d.frameBytes (d.tileDef n) 0 32)) }
          else { d.tileDef n with failed := some (d.headerCheck (d.tileDef n)) }) ∧
    (d.run.decodes.find? (fun q => q.decoder == some u) = some q → q.item = .tile n → d.waitsRefetch (.decoder (d.tileDef n).tile) = false →
      d.ctxState 0 ≠ CtxState.stalled → (d.tileDef n).current = true →
      (d.decodeTile n = .ok bs → q.first = none → Completes (.decodeComplete u none) d fun e =>
        (∃ x, Tab.find e.run.cache n = some x ∧ x.bytes = bs) ∧ (e.tileDef n).busy = false ∧ e.mem = d.mem ∧
        e.fld Reg.RUN_DECODES.count = (d.fld Reg.RUN_DECODES.count + 1) % 2 ^ 32) ∧
      (q.first = none → st ≠ DecStat.mem → st ≠ DecStat.dict → Completes (.decodeComplete u (some st)) d fun e =>
        (∃ ds, e.run.decodes = ⟨.tile n, none, some (u, st), none⟩ :: ds) ∧ e.tileDef n = d.tileDef n) ∧
      (q.first = some (v, st) → d.cmp.staging = none → Completes (.decodeComplete u (some st)) d fun e =>
        (e.tileDef n).failed = some st ∧ (e.tileDef n).busy = false)) ∧
    (d.run.segments.find? (fun x => x.2 == e') = some (s, e') → d.cmp.committed = some c → d.run.pcachePage = some n →
      d.flag Reg.RUN_PCACHE_STAT.overflow = true → Completes (.pcacheSegmentDone e') d fun e =>
        e.cmp.committed = some { c with segsLeft := c.segsLeft - 1 } ∧ e.mem = d.mem ∧ e.flag Reg.RUN_PCACHE_STAT.overflow = true) ∧
    (d.run.segments.find? (fun x => x.2 == e') = some (s, e') → d.cmp.committed = some c → d.run.pcachePage = some n →
      d.flag Reg.RUN_PCACHE_STAT.overflow = false → Completes (.pcacheSegmentDone e') d fun e =>
        e.cmp.committed = some { c with segsLeft := c.segsLeft - 1 } ∧
          (e.flag Reg.RUN_PCACHE_STAT.overflow = true ∧ e.mem = d.mem ∨
           e.flag Reg.RUN_PCACHE_STAT.overflow = false ∧ d.run.pcacheEnd ≤ e.run.pcacheEnd))

/-- THE EXPORT STREAM (R135 to R138, R142). START of a legal export opens it, running on a free encoder or suspended; CONTINUE after OUT_FULL gives it the next area;
CANCEL ends it with result 3, EXPORT_DONE with 1 where all its output fits, or 2 where a source line failed; OUT_FULL fills the area; a stream that leaves its encoder is
suspended, holds none, and runs again on a free one, from its context record where it saved one, and ends with result 2 where that record
is bad. START while a stream is open, CONTINUE outside OUT_FULL and CANCEL of none are ILLEGAL. (START: while no page-cache segment and no rejoin stream
asks for an encoder.) -/
def Obligations.TheExportStreamRunsFillsSuspendsAndEnds : Prop :=
  ∀ (d : Dev) (n u : Nat) (dyn : Bool) (x : Export),
    (d.responds Reg.RUN_XP_CMD.addr = true →
      (d.xpOpen = false → d.xpLen ≠ 0 → d.xpDlen ≠ 0 → overlaps d.xpSrc d.xpLen d.xpDst d.xpDlen = false → d.inFitted d.xpSrc d.xpLen = true →
        d.inFitted d.xpDst d.xpDlen = true → d.run.segments = [] → d.run.rejoin = none → Completes (.start n dyn) d fun e =>
          e.fld Reg.RUN_XP_STAT.state = (if d.freeEncoder.isSome then 1 else 2) ∧ e.fld Reg.RUN_XP_STAT.result = 0 ∧
          e.fld Reg.RUN_XP_OUT.written = 0 ∧ e.mem = d.mem ∧ ∃ y, e.run.export_ = some y ∧ y.src = d.xpSrc ∧ y.len = d.xpLen ∧ y.dst = d.xpDst ∧
            y.area = d.xpDlen ∧ y.depth = n % 256 + 1 ∧ y.crc = crc32c (d.mem.readBytes d.xpSrc d.xpLen)) ∧
      (d.xpOpen = true → Completes (.start n dyn) d fun e => e.fld Reg.RUN_XP_STAT.result = 4 ∧ d.OnlyRegs [Reg.RUN_XP_STAT.addr] e) ∧
      (d.run.export_ = some x → d.fld Reg.RUN_XP_STAT.state = 3 → d.xpDlen ≠ 0 → overlaps x.src x.len d.xpDst d.xpDlen = false →
        d.inFitted d.xpDst d.xpDlen = true → Completes .continue_ d fun e => e.fld Reg.RUN_XP_STAT.state = (if x.encoder = 4 then 2 else 1) ∧
          e.fld Reg.RUN_XP_OUT.written = 0 ∧ e.run = { d.run with export_ := some { x with dst := d.xpDst, area := d.xpDlen } } ∧ e.mem = d.mem) ∧
      (d.fld Reg.RUN_XP_STAT.state ≠ 3 → Completes .continue_ d fun e => e.fld Reg.RUN_XP_STAT.result = 4 ∧ d.OnlyRegs [Reg.RUN_XP_STAT.addr] e) ∧
      (d.xpOpen = true → d.run.export_ = some x → Completes .cancel d fun e => e.fld Reg.RUN_XP_STAT.state = 4 ∧ e.fld Reg.RUN_XP_STAT.result = 3 ∧
        e.run.export_ = none ∧ e.mem = d.mem) ∧
      (d.xpOpen = false → Completes .cancel d fun e => e.fld Reg.RUN_XP_STAT.result = 4 ∧ d.OnlyRegs [Reg.RUN_XP_STAT.addr] e)) ∧
    (d.run.export_ = some x → d.fld Reg.RUN_XP_STAT.state = 1 → d.waitsRefetch .exportSource = false → x.memFail = false →
      (d.exportRoom x < x.rest.length → d.fld Reg.RUN_XP_OUT.written ≤ x.area → x.area < 2 ^ 32 → x.consumed ≤ n → n ≤ x.len →
        d.rangePoisoned (x.src + x.consumed) (n - x.consumed) = false → Completes (.outFull n) d fun e =>
        e.fld Reg.RUN_XP_STAT.state = 3 ∧ e.fld Reg.RUN_XP_OUT.written = x.area % 2 ^ Reg.RUN_XP_OUT.written.width ∧
          e.run.export_ = some { x with rest := x.rest.drop (d.exportRoom x), total := x.total + d.exportRoom x, consumed := n }) ∧
      (x.rest.length ≤ d.exportRoom x → d.rangePoisoned (x.src + x.consumed) (x.len - x.consumed) = false → Completes .exportDone d fun e => e.fld Reg.RUN_XP_STAT.state = 4 ∧ e.fld Reg.RUN_XP_STAT.result = 1 ∧
        e.run.export_ = none)) ∧
    (d.run.export_ = some x → d.fld Reg.RUN_XP_STAT.state = 1 → d.waitsRefetch .exportSource = false →
      (x.memFail = true ∨ (d.rangePoisoned (x.src + x.consumed) (x.len - x.consumed) = true ∧ d.fld Reg.MIG_LOG_LEN.len = 0)) →
      Completes .exportDone d fun e => e.fld Reg.RUN_XP_STAT.state = 4 ∧ e.fld Reg.RUN_XP_STAT.result = 2 ∧ e.run.export_ = none ∧ e.mem = d.mem) ∧
    (d.run.export_ = some x → d.fld Reg.RUN_XP_STAT.state = 1 → d.run.segments.any (fun s => s.2 == 4) = true → x.encoder ≠ 4 →
      Completes (.exportSuspend n) d fun e => e.fld Reg.RUN_XP_STAT.state = 2 ∧ ∃ y, e.run.export_ = some y ∧ y.encoder = 4) ∧
    (d.run.export_ = some x → d.freeEncoder = some u → d.fld Reg.RUN_XP_STAT.state = 2 → d.run.segments = [] →
      (x.saved = false → Completes .exportResume d fun e => e.fld Reg.RUN_XP_STAT.state = 1 ∧
        e.run = { d.run with export_ := some { x with encoder := u } } ∧ e.mem = d.mem) ∧
      (x.saved = true → d.ctxRecordBad 0 = false → Completes .exportResume d fun e => e.fld Reg.RUN_XP_STAT.state = 1 ∧ e.mem = d.mem ∧
        e.run = { d.run with export_ := some { x.restore (d.mem.readBytes (d.ctxRecord 0) ctxRecordBytes) with encoder := u } }) ∧
      (x.saved = true → d.ctxRecordBad 0 = true → Completes .exportResume d fun e => e.fld Reg.RUN_XP_STAT.state = 4 ∧
        e.fld Reg.RUN_XP_STAT.result = 2 ∧ e.run.export_ = none))

/-- LANES AND LINES (R154, R161, R166 to R173, R186 to R191). A lane applies its next token once, where no failed part of its line and no earlier entry on its
physical lane is in its way; with a parity failure or no acknowledge the token stays to be reissued and a fault of the physical lane is counted. The next line of
the committed band passes correction to the store, or shows the stall while that has no room. A line read from the store that is in time
joins its port's lookahead buffer with its digest, one past its deadline does not. -/
def Obligations.TokensApplyAndLinesPassTheStore : Prop :=
  ∀ (d : Dev) (k n more z : Nat) (g : Staging) (en : Nat) (p : Plc) (t : Token) (tile : List Byte) (c : Committed) (l : PortLine) (rest : List PortLine),
    (d.cmp.staging = some g → (d.stageState = Stage.composing ∨ d.stageState = Stage.confirmed) → n = Tab.get g.lanes 0 k →
      d.nextToken k g.band g.lines g.entries 0 n = some (en, p, t) →
      (d.plcTile p = some tile → d.stageHeld t = false → d.laneBehind g (d.fld (laneFld k)) en = false → Completes (.tokenApply k none) d fun e => e.mem = d.mem ∧
        ∃ g', e.cmp.staging = some g' ∧ Tab.get g'.lanes 0 k = n + 1 ∧ g'.cells = d.applyToken p tile g.band t g.cells ∧ g'.entries = g.entries) ∧
      (d.plcTile p = some tile → d.stageHeld t = false → d.laneBehind g (d.fld (laneFld k)) en = false → Completes (.tokenApply k (some more)) d fun e => e.cmp.staging = some g ∧
        Tab.get e.cmp.faults 0 (d.fld (laneFld k)) = Tab.get d.cmp.faults 0 (d.fld (laneFld k)) + 1 ∧ e.mem = d.mem) ∧
      Completes (.laneTokenTimeout k more) d fun e => e.cmp.staging = some g ∧
        Tab.get e.cmp.faults 0 (d.fld (laneFld k)) = Tab.get d.cmp.faults 0 (d.fld (laneFld k)) + 1 ∧ e.mem = d.mem) ∧
    (d.cmp.committed = some c → c.next < c.lines → d.cmp.failed = [] → d.asm.repairs.any (fun r => !r.1) = false → (d.page c.page).zOf (64 * c.band + c.next) = some z →
      (d.storeStall c.page z = false → Completes .lineCorrect d fun e =>
        e.cmp.committed = some { c with next := c.next + 1 } ∧ (e.page c.page).corrected = 64 * c.band + c.next + 1) ∧
      (d.storeStall c.page z = true → Completes .lineCorrect d fun e =>
        e.flag Reg.ASM_STAT.stall = true ∧ d.OnlyRegs [Reg.ASM_STAT.addr] e)) ∧
    (d.storeLines k = l :: rest → (d.lookLines k).length < 16 → d.repairHolds k = false → d.isMirror = false → d.slotBad k l.z = false →
      Completes (.storeRead k) d fun e => e.storeLines k = rest ∧
        (d.pac.starts < d.deadline l.start → ∃ l', e.lookLines k = d.lookLines k ++ [l'] ∧ l'.page = l.page ∧ l'.line = l.line ∧ l'.start = l.start ∧
          l'.digest = lineDigest l'.classes) ∧
        (d.deadline l.start ≤ d.pac.starts → e.lookLines k = d.lookLines k))

/-- PARITY RECOMPUTATION (R186, R192). When the parity slot of a reference index holds the exclusive or of its group's slots and no slot but port
`k`'s fails, what is recomputed for port `k` is the line that its slot held. DOSES IN BYTES (R146). Packing doses of 0 to 15 two to a byte and
unpacking them gives them back; packing what bytes unpack to gives the bytes back.-/
def Obligations.ParityAndPackedDosesGiveLinesBack : Prop :=
  (∀ (d : Dev) (k z y : Nat), k < 32 → k ∈ d.parityGroup y → (∀ j, j ∈ d.parityGroup y → j < 32 ∧ d.portBytes j ≤ 4096) →
    (d.parityGroup y).Nodup → d.slotBad 32 z = false → (∀ j, j ∈ d.parityGroup y → j ≠ k → d.slotBad j z = false) →
    d.slotBytes 32 z = (d.parityGroup y).foldl (fun a j => xorBytes a (d.slotBytes j z)) (List.replicate 4096 0#8) →
    ∃ bs, d.storeRecompute k z y = .ok bs ∧ bs = d.mem.readBytes (d.slotOf k z) (d.portBytes k)) ∧
  (∀ ds : List Nat, ds.length % 2 = 0 → (∀ x, x ∈ ds → x < 16) → unpackDoses (packDoses ds) = ds) ∧
  (∀ bs : List Byte, packDoses (unpackDoses bs) = bs)

/-! ### Line pacing -/

/-- ENCODER COUNTS (R212 to R218). From LOAD on, where the samples of a channel's balls let an edge through their filters, its count moves the channel's position
by its sign; else no position, line or register changes. On the line-source channel H follows the position while no grid is in force; with the grid in force H only
moves forward, and a line starts exactly when the position that H reaches is at or past the next boundary; a position behind H leaves H and starts no
line, and raises the reverse fault in PRINT_WEB and PRINT_SHEET at the limit. INDEX EDGES AND FORWARDED STEPS (R223, R233, R234). An active index edge that passes its
filter is forwarded on the outputs of its channel; on the checked line source a forward edge is measured against the one before. An output sends its oldest
waiting step: as a pulse on STEP after its direction, or on one of the two balls. -/
def Obligations.CountsMoveThePositionsAndIndexEdgesAreChecked : Prop :=
  (∀ (d : Dev) (c : Nat) (step dir : Bool) (ns frac p1 : Nat), c < 2 → d.mode ≠ Mode.reset → d.mode ≠ Mode.sleep →
      p1 = unsigned 48 ((d.pair (posAddr c) : Int) + d.counted c step dir) →
      (d.counted c step dir = 0 → Completes (.encoderCount c step dir ns frac) d fun e => e.regs = d.regs ∧ e.mem = d.mem ∧
        e.pac.starts = d.pac.starts ∧ e.encoder c = d.encoder c) ∧
      (d.counted c step dir ≠ 0 →
        (d.fld Reg.PAC_CFG.line_src ≠ c → Completes (.encoderCount c step dir ns frac) d fun e => e.pair (posAddr c) = p1 ∧
          (e.encoder c).counts = (d.encoder c).counts + 1 ∧ e.hwm = d.hwm ∧ e.pac.starts = d.pac.starts ∧ e.mem = d.mem) ∧
        (d.fld Reg.PAC_CFG.line_src = c → d.pac.grid = false → Completes (.encoderCount c step dir ns frac) d fun e =>
          e.pair (posAddr c) = p1 ∧ e.hwm = p1 ∧ e.pac.starts = d.pac.starts ∧ e.mem = d.mem) ∧
        (d.fld Reg.PAC_CFG.line_src = c → d.pac.grid = true → d.ahead p1 d.hwm ≤ 0 → Completes (.encoderCount c step dir ns frac) d fun e =>
          e.pair (posAddr c) = p1 ∧ e.hwm = d.hwm ∧ e.pac.starts = d.pac.starts ∧ e.mem = d.mem ∧
          (Mode.isPrint d.mode = true → d.isScan = false → (d.fld Reg.PAC_REVERSE.reverse_limit : Int) ≤ -(d.ahead p1 d.hwm) →
            e.flag Reg.PAC_STAT.reverse_fault = true)) ∧
        (d.fld Reg.PAC_CFG.line_src = c → d.pac.grid = true → 0 < d.ahead p1 d.hwm → d.isShadow = false →
          Completes (.encoderCount c step dir ns frac) d fun e => e.hwm = p1 ∧ e.pac.starts = d.pac.starts +
            if (d.pac.q : Int) + (if d.pac.rem = 0 then 0 else 1) ≤ d.ahead p1 d.pac.p0 then 1 else 0))) ∧
  (∀ (d : Dev) (c n p0 : Nat) (s level : Bool) (rest : List Bool) (o : EncOut), d.mode ≠ Mode.reset → d.mode ≠ Mode.sleep → c < 2 →
      ((d.ballEdge (Ball.idx c) level = false ∨ level = (d.encCfg c).getLsbD 4) → Completes (.indexEdge (c, level)) d fun e =>
        { e with pac := d.pac } = d ∧ e.pac.outs = d.pac.outs ∧ e.encoder c = d.encoder c) ∧
      (d.ballEdge (Ball.idx c) level = true → level ≠ (d.encCfg c).getLsbD 4 →
        (d.fld Reg.PAC_CFG.line_src ≠ c ∨ d.flag Reg.PAC_IDX_CFG.idx_chk_en = false) → Completes (.indexEdge (c, level)) d fun e => e.regs = d.regs ∧ e.mem = d.mem ∧
        ∀ m, m < 2 → (Tab.get e.pac.outs EncOut.rest m).idx = (Tab.get d.pac.outs EncOut.rest m).idx +
          if d.fld (outFld Reg.PAC_OUT_CFG_0.src m) = c ∧ d.fld (outFld Reg.PAC_OUT_CFG_0.mode m) ≠ 0 then 1 else 0) ∧
      (d.ballEdge (Ball.idx c) level = true → level ≠ (d.encCfg c).getLsbD 4 → d.fld Reg.PAC_CFG.line_src = c → d.flag Reg.PAC_IDX_CFG.idx_chk_en = true → d.flag Reg.PAC_STAT.dir_rev = false →
        (d.encoder c).lastIndex = some p0 → Completes (.indexEdge (c, level)) d fun e => (e.encoder c).lastIndex = some (d.pair (posAddr c)) ∧
          e.fld Reg.PAC_IDX_STAT.distance =
            min (signed 48 (unsigned 48 ((d.pair (posAddr c) : Int) - p0))).natAbs 0xFFFFFF % 2 ^ Reg.PAC_IDX_STAT.distance.width ∧
          d.RegsBelow 0xF00000 [Reg.PAC_IDX_STAT.addr] e ∧ e.mem = d.mem) ∧
      (o = Tab.get d.pac.outs EncOut.rest n → o.waiting = s :: rest → Completes (.encOutStep n) d fun e =>
        (Tab.get e.pac.outs EncOut.rest n).waiting = rest ∧ { e with pac := d.pac } = d ∧
        (Tab.get e.pac.outs EncOut.rest n).sent = o.sent ++ (if d.fld (outFld Reg.PAC_OUT_CFG_0.fmt n) ≠ 0 then [if s then .step else .down]
          else if o.dir = s ∨ d.fld (outFld Reg.PAC_OUT_CFG_0.mode n) = 3 then [.step] else [.dir s, .step])) ∧
      ((Tab.get d.pac.outs EncOut.rest n).waiting = [] → Completes (.encOutStep n) d fun e => e = d))

/-- THE GRID IS EXACT (R217; the time of a start also R218). At every index j the grid holds the quotient and the remainder of j LINE_NUM / LINE_DEN: an entry to the
grid sets them so, at index 1 in a web and for sheets, at index 0 for a pass of an encoder, and each advance keeps it so. A count that moves H starts a line
exactly when it reaches the boundary, advances the grid then and not otherwise, and the time of the start is the count's, less the overshoot where
PAC_CFG asks for that. -/
def Obligations.TheGridAdvancesWithoutCumulativeError : Prop :=
  (∀ (num den : Nat) (a : Pac), 0 < den → a.q * den + a.rem = a.j * num → a.rem < den →
    (Pac.advance num den a).q * den + (Pac.advance num den a).rem = (Pac.advance num den a).j * num ∧
    (Pac.advance num den a).rem < den ∧ (Pac.advance num den a).j = a.j + 1) ∧
  (∀ (d : Dev) (p0 : Int) (j : Nat), 0 < d.fld Reg.PAC_LINE_DEN.value →
    (d.gridAt p0 j).pac.p0 = p0 ∧ (d.gridAt p0 j).pac.j = j ∧
    (d.gridAt p0 j).pac.q * d.fld Reg.PAC_LINE_DEN.value + (d.gridAt p0 j).pac.rem = j * d.fld Reg.PAC_LINE_NUM.value ∧
    (d.gridAt p0 j).pac.rem < d.fld Reg.PAC_LINE_DEN.value) ∧
  (∀ (d : Dev) (w : BitVec 56), d.canRun 0 1 = true → reservedBad w.toNat 0xFFFFFFFF = false → d.openJob 0 = none → (d.ctx 0).logLen = 0 →
    d.mode = Mode.standby → d.marginImage = false → d.isScan = false → 0 < d.fld Reg.PAC_LINE_DEN.value → Completes (.jobBegin 0 w) d fun e =>
      e.pac.grid = true ∧ e.pac.p0 = d.hwm ∧ e.pac.j = 1 ∧ e.pac.q = d.fld Reg.PAC_LINE_NUM.value / d.fld Reg.PAC_LINE_DEN.value ∧
      e.pac.rem = d.fld Reg.PAC_LINE_NUM.value % d.fld Reg.PAC_LINE_DEN.value) ∧
  (∀ (d : Dev) (rising : Bool) (q : Pass) (rest : List Pass), d.mode = Mode.printScan → d.ballEdge Ball.sos rising = true →
    rising ≠ d.flag Reg.PAC_DET_CFG.sos_pol → d.fld Reg.PAC_CFG.line_src < 2 → d.passArmed = true → d.pac.passes = q :: rest → Completes (.sosEdge rising) d fun e =>
      e.pac.grid = true ∧ e.pac.j = 0 ∧ e.pac.q = 0 ∧ e.pac.rem = 0) ∧
  (∀ (d : Dev) (c : Nat) (step dir : Bool) (ns frac t p1 : Nat), c < 2 → d.mode ≠ Mode.reset → d.mode ≠ Mode.sleep →
    t = d.countTime c step dir (ns * 65536 + frac) → p1 = unsigned 48 ((d.pair (posAddr c) : Int) + d.counted c step dir) → d.counted c step dir ≠ 0 →
    d.fld Reg.PAC_CFG.line_src = c → d.pac.grid = true → 0 < d.ahead p1 d.hwm → d.isShadow = false →
    ((d.pac.q : Int) + (if d.pac.rem = 0 then 0 else 1) ≤ d.ahead p1 d.pac.p0 → Completes (.encoderCount c step dir ns frac) d fun e =>
      e.hwm = p1 ∧ e.pac.starts = d.pac.starts + 1 ∧ e.pac.j = d.pac.j + 1 ∧
      (d.pac.rem + d.fld Reg.PAC_LINE_NUM.value % d.fld Reg.PAC_LINE_DEN.value < d.fld Reg.PAC_LINE_DEN.value →
        e.pac.q = d.pac.q + d.fld Reg.PAC_LINE_NUM.value / d.fld Reg.PAC_LINE_DEN.value ∧
        e.pac.rem = d.pac.rem + d.fld Reg.PAC_LINE_NUM.value % d.fld Reg.PAC_LINE_DEN.value) ∧
      (d.fld Reg.PAC_LINE_DEN.value ≤ d.pac.rem + d.fld Reg.PAC_LINE_NUM.value % d.fld Reg.PAC_LINE_DEN.value →
        e.pac.q = d.pac.q + d.fld Reg.PAC_LINE_NUM.value / d.fld Reg.PAC_LINE_DEN.value + 1 ∧
        e.pac.rem + d.fld Reg.PAC_LINE_DEN.value = d.pac.rem + d.fld Reg.PAC_LINE_NUM.value % d.fld Reg.PAC_LINE_DEN.value) ∧
      ((d.flag Reg.PAC_CFG.interp_en = false ∨ d.pac.rem = 0) → e.pac.lastTime = some t) ∧
      (∀ t0, d.flag Reg.PAC_CFG.interp_en = true → d.pac.rem ≠ 0 → d.pac.lastMove = some t0 → e.pac.lastTime =
        some (t - ((d.fld Reg.PAC_LINE_DEN.value - d.pac.rem) * min (t - t0) (d.fld Reg.PAC_FIRE_DLY.interp_cap_ns * 65536) +
          d.fld Reg.PAC_LINE_DEN.value - 1) / d.fld Reg.PAC_LINE_DEN.value))) ∧
    (d.ahead p1 d.pac.p0 < (d.pac.q : Int) + (if d.pac.rem = 0 then 0 else 1) → Completes (.encoderCount c step dir ns frac) d fun e =>
      e.hwm = p1 ∧ e.pac.starts = d.pac.starts ∧ e.pac.j = d.pac.j ∧ e.pac.q = d.pac.q ∧ e.pac.rem = d.pac.rem))

/-- SHEETS, PASSES AND FEEDS (R213, R227, R228, R231, R232). An active TOS edge that passes its filter adds, in PRINT_SHEET with a job open and no TOS edge before, a
datum while fewer than eight wait, and is counted early otherwise; any other sample of TOS_IN adds none. Such an SOS edge in PRINT_SCAN starts the armed pass, and is
counted ignored when none is armed; any other sample of SOS_IN starts none. A due feed is requested, or asks the feed axis for its move; its answer
completes it, and a handshake is over once FEED_DONE is inactive again. -/
def Obligations.SheetsPassesAndFeedsFollowTheirEdges : Prop :=
  ∀ (d : Dev) (rising : Bool) (q : Pass) (rest : List Pass) (page entry lines t : Nat),
    (d.mode = Mode.printSheet → d.ballEdge Ball.tos rising = true → rising ≠ d.flag Reg.PAC_DET_CFG.tos_pol → d.pac.tosPos = none → (d.openJob 0).isSome = true →
      d.seq.pages.any (fun e => !e.2.recorded && e.2.segs.any fun s => s.z.isNone) = false →
      (d.pac.datums.length < 8 → Completes (.tosEdge rising) d fun e => e.pac.tosPos = some d.linePos ∧
        e.pac.datums = d.pac.datums ++ [d.firstStartAt d.linePos (d.fld Reg.PAC_TOS_OFS.offset)] ∧
        e.fld Reg.PAC_DET_STAT.pending = (d.pac.datums.length + 1) % 2 ^ Reg.PAC_DET_STAT.pending.width ∧ e.mem = d.mem) ∧
      (8 ≤ d.pac.datums.length → Completes (.tosEdge rising) d fun e => e.pac.datums = d.pac.datums ∧
        e.fld Reg.PAC_DET_STAT.tos_early = min (d.fld Reg.PAC_DET_STAT.tos_early + 1) (2 ^ Reg.PAC_DET_STAT.tos_early.width - 1) ∧ e.mem = d.mem)) ∧
    ((d.mode ≠ Mode.printSheet ∨ d.ballEdge Ball.tos rising = false ∨ rising = d.flag Reg.PAC_DET_CFG.tos_pol) → Completes (.tosEdge rising) d fun e =>
      { e with pac := d.pac } = d ∧ e.pac.datums = d.pac.datums) ∧
    (d.mode = Mode.printScan → d.ballEdge Ball.sos rising = true → rising ≠ d.flag Reg.PAC_DET_CFG.sos_pol →
      (d.passArmed = true → d.pac.passes = q :: rest → Completes (.sosEdge rising) d fun e => e.pac.pass = some q ∧ e.pac.passes = rest ∧
        e.pac.passStarts = 0 ∧ e.pac.grid = true ∧ e.fld Reg.PAC_PASS_STAT.entry = q.entry % 2 ^ Reg.PAC_PASS_STAT.entry.width ∧ e.mem = d.mem) ∧
      (d.passArmed = false → Completes (.sosEdge rising) d fun e => d.OnlyRegs [Reg.PAC_DET_STAT.addr] { e with pac := d.pac } ∧
        e.pac.pass = d.pac.pass ∧ e.fld Reg.PAC_DET_STAT.sos_ignored = min (d.fld Reg.PAC_DET_STAT.sos_ignored + 1) (2 ^ Reg.PAC_DET_STAT.sos_ignored.width - 1))) ∧
    ((d.mode ≠ Mode.printScan ∨ d.ballEdge Ball.sos rising = false ∨ rising = d.flag Reg.PAC_DET_CFG.sos_pol) → Completes (.sosEdge rising) d fun e =>
      { e with pac := d.pac } = d ∧ e.pac.pass = d.pac.pass ∧ e.pac.grid = d.pac.grid) ∧
    (d.pac.feed = some (page, entry, lines, t) →
      (d.fld Reg.PAC_PASS_STAT.feed = 0 → Completes .feedStart d fun e => e.fld Reg.PAC_PASS_STAT.feed = 1 ∧
        e.pac.feedReq = !(d.flag Reg.PAC_FEED_CFG.src) ∧ e.mem = d.mem ∧
        (d.flag Reg.PAC_FEED_CFG.src = true → Tab.get e.mot.asked 0 (d.fld Reg.PAC_FEED_CFG.axis) = Tab.get d.mot.asked 0 (d.fld Reg.PAC_FEED_CFG.axis) + 1 ∧
          (e.job (d.page page).job).feedLines = (d.job (d.page page).job).feedLines + lines)) ∧
      (d.pac.feedReq = true → d.ballEdge Ball.feedDone rising = true → rising ≠ d.flag Reg.PAC_DET_CFG.sos_pol → Completes (.feedDoneEdge rising) d fun e => e.pac.feed = none ∧
        e.pac.feedReq = false ∧ e.fld Reg.PAC_PASS_STAT.feed = (if d.flag Reg.PAC_FEED_CFG.src then 0 else 2) ∧ e.mem = d.mem)) ∧
    (d.fld Reg.PAC_PASS_STAT.feed = 2 → d.timeRuns = true →
      d.levelAfter Ball.feedDone (d.flag Reg.PAC_DET_CFG.sos_pol) = some (d.flag Reg.PAC_DET_CFG.sos_pol) →
      Completes .feedDoneInactive d fun e => e.fld Reg.PAC_PASS_STAT.feed = 0 ∧
        d.OnlyRegs [Reg.PAC_PASS_STAT.addr, Reg.PAC_STAT.addr] { e with pac := d.pac }) ∧
    (d.fld Reg.PAC_PASS_STAT.feed ≠ 2 → Completes .feedDoneInactive d fun e => { e with pac := d.pac } = d ∧ e.pac.feed = d.pac.feed)

/-! ### Events, interrupts and the PCIe link -/

/-- EVENTS (R315, R317, R323, R324, R342). A source with room queues the event it raises, with the present TB2 time, and so does any source a FATAL one; a
full queue drops and counts it. FLT takes the oldest event of a source: counted by severity, its SAFE cause noted, and joined to the records of the
ring that it or FLT_ROUTE names, or suppressed; a SHADOW that runs as one with its partner only takes it from its queue. EV_FLT_DROPPED tells the drops once FLT's
own queue and every queue that dropped has room. -/
def Obligations.EventsAreQueuedAcceptedAndRouted : Prop :=
  ∀ (d : Dev) (ring : Option Nat) (code sev src a0 a1 j : Nat) (r : EvRec) (rest : List EvRec), sev < 6 → j < 8 →
    ((sev = 5 ∨ d.hasRoom src = true) → Completes (.eventRaise ring code sev src a0 a1) d fun e =>
      e.raisedBy src = d.raisedBy src ++ [⟨d.tb2ns, src, sev, code, a0, a1, ring, false, false, false⟩] ∧
      d.RegsBelow 0x1500000 [] e ∧ { e with regs := d.regs, flt := d.flt } = d) ∧
    (sev ≠ 5 → d.hasRoom src = false → Completes (.eventRaise ring code sev src a0 a1) d fun e => e.raisedBy src = d.raisedBy src ∧
      e.fld Reg.FLT_DROPPED.count = (d.fld Reg.FLT_DROPPED.count + 1) % 2 ^ 32 ∧ e.flt.droppedTotal = d.flt.droppedTotal + 1 ∧
      e.fld (Reg.FLT_SEV_CNT.count sev) = (d.fld (Reg.FLT_SEV_CNT.count sev) + 1) % 2 ^ 32 ∧
      d.RegsBelow 0xF00000 [] e ∧ { e with regs := d.regs, flt := d.flt } = d) ∧
    (d.raisedBy src = r :: rest → r.sev = sev → d.shadowServes = false → Completes (.eventAccept src) d fun e => e.raisedBy src = rest ∧
      e.fld (Reg.FLT_SEV_CNT.count sev) = (d.fld (Reg.FLT_SEV_CNT.count sev) + 1) % 2 ^ 32 ∧
      (4 ≤ sev → e.fld Reg.FLT_LAST_FAULT.code = r.code % 2 ^ 16) ∧ (safeCauseOf r = none → e.flt.safeReq = d.flt.safeReq) ∧
      (∀ q, safeCauseOf r = some q → d.mode ≠ Mode.safe → d.mode ≠ Mode.reset → d.mode ≠ Mode.sleep →
        (d.flt.safeReq = none → e.flt.safeReq = some q) ∧ (∀ w, d.flt.safeReq = some w → e.flt.safeReq = if q.cause < w.cause then some q else some w)) ∧
      (safeCauseOf r = none → (Tab.get d.flt.rings EvRing.empty j).waiting.length < backlogRoom →
        (r.ring = some j ∨ (r.ring = none ∧ (d.reg (Reg.FLT_ROUTE.addr (r.code / 256))).toNat / 2 ^ (4 * sev) % 8 = j ∧
          ¬(sev ≤ 2 ∧ (d.reg (Reg.FLT_ROUTE.addr (r.code / 256))).toNat / 2 ^ (4 * sev) / 8 % 2 = 1))) →
        (Tab.get e.flt.rings EvRing.empty j).waiting = (Tab.get d.flt.rings EvRing.empty j).waiting ++
          [{ r with retained := false, backlog := r.backlog || (!(d.evOpen j) || Nat.ble (d.evSpace j) (Tab.get d.flt.rings EvRing.empty j).waiting.length) }]) ∧
      (r.ring = none → sev ≤ 2 → (d.reg (Reg.FLT_ROUTE.addr (r.code / 256))).toNat / 2 ^ (4 * sev) / 8 % 2 = 1 →
        e.flt.rings = d.flt.rings ∧ e.fld Reg.FLT_SUPPRESSED.count = (d.fld Reg.FLT_SUPPRESSED.count + 1) % 2 ^ 32) ∧
      ((∀ k, r.ring = some k → k < 8) → d.RegsBelow 0xF00000 ((List.range 8).map fun i => Reg.HDMA_EVR_LOST.addr (evRing i)) e) ∧ e.mem = d.mem) ∧
    (d.raisedBy src = r :: rest → d.shadowServes = true → Completes (.eventAccept src) d fun e => e.raisedBy src = rest ∧ e.flt.rings = d.flt.rings) ∧
    (d.raisedBy src = [] → Completes (.eventAccept src) d fun e => e = d) ∧
    (d.flt.droppedTotal ≠ 0 → d.hasRoom 0x78 = true → d.flt.queues.any (fun e => e.2.dropped != 0 && Nat.ble evQueueRoom e.2.waiting.length) = false →
      Completes .fltDroppedPost d fun e => e.flt.droppedTotal = 0 ∧
      e.raisedBy 0x78 = d.raisedBy 0x78 ++ [⟨d.tb2ns, 0x78, Sev.warn, 0x0F01, d.flt.droppedTotal, d.flt.droppedSrc, none, false, false, false⟩] ∧
      d.RegsBelow 0x1500000 [] e ∧ { e with regs := d.regs, flt := d.flt } = d) ∧
    ((d.flt.droppedTotal = 0 ∨ d.hasRoom 0x78 = false ∨ d.flt.queues.any (fun e => e.2.dropped != 0 && Nat.ble evQueueRoom e.2.waiting.length) = true) → Completes .fltDroppedPost d fun e => e = d)

/-- EVENT RECORDS AND MESSAGES (R72, R86 to R88). An open event ring with space takes its oldest waiting record at its producer index, in two writes, the second
with the sequence number, and is then one further; a link reset is told first, then losses. The end of a holdoff sends one message for what arose in it, or
leaves it pending while its vector is masked; unmasking sends, with MSI-X enabled, the messages of every pending vector that is no longer masked. (Of a
device alone.) -/
def Obligations.EventRecordsAndMessagesReachTheHost : Prop :=
  ∀ (d : Dev) (j n v : Nat) (r : EvRec) (rest : List EvRec), j < 8 → n < 64 →
    (d.evOpen j = true → d.evSpace j ≠ 0 → d.shadowServes = false → d.pairServes = false →
      (d.linkRecordOwed j = true → Completes (.eventRecordWrite j) d fun e => e.hdma.linkResets = 0 ∧ e.mem = d.mem ∧
        (Tab.get e.flt.rings EvRing.empty j).waiting = (Tab.get d.flt.rings EvRing.empty j).waiting ∧
        (Tab.get e.flt.rings EvRing.empty j).lost = (Tab.get d.flt.rings EvRing.empty j).lost ∧
        e.ringHead (evRing j) = (d.ringHead (evRing j) + 1) % d.ringSlots (evRing j) % 2 ^ 16) ∧
      (d.linkRecordOwed j = false → (Tab.get d.flt.rings EvRing.empty j).lost = 0 → (Tab.get d.flt.rings EvRing.empty j).waiting = r :: rest →
        Completes (.eventRecordWrite j) d fun e => (Tab.get e.flt.rings EvRing.empty j).waiting = rest ∧
          (∃ os, d.Sent (.record (d.slotAddr (evRing j) (d.ringHead (evRing j))) ((r.bytes (Tab.get d.flt.rings EvRing.empty j).nextSeq).take 12)
              ((r.bytes (Tab.get d.flt.rings EvRing.empty j).nextSeq).drop 16) ::
            .write (d.slotAddr (evRing j) (d.ringHead (evRing j)) + 12)
              (((r.bytes (Tab.get d.flt.rings EvRing.empty j).nextSeq).drop 12).take 4) :: os) e) ∧
          e.ringHead (evRing j) = (d.ringHead (evRing j) + 1) % d.ringSlots (evRing j) % 2 ^ 16 ∧
          e.fld (Reg.HDMA_RING_SEQ.seq (evRing j)) = (Tab.get d.flt.rings EvRing.empty j).nextSeq % 2 ^ 32 ∧
          (Tab.get e.flt.rings EvRing.empty j).nextSeq = seqNext (Tab.get d.flt.rings EvRing.empty j).nextSeq ∧ e.mem = d.mem) ∧
      (d.linkRecordOwed j = false → (Tab.get d.flt.rings EvRing.empty j).lost ≠ 0 → Completes (.eventRecordWrite j) d fun e => e.mem = d.mem ∧
        Tab.get e.flt.rings EvRing.empty j = ⟨(Tab.get d.flt.rings EvRing.empty j).waiting, 0, 0, seqNext (Tab.get d.flt.rings EvRing.empty j).nextSeq⟩)) ∧
    ((d.evOpen j = false ∨ d.evSpace j = 0) → Completes (.eventRecordWrite j) d fun e => e = d) ∧
    ((d.ring n).holdoff = false → Completes (.msixHoldoffExpiry n) d fun e => e = d) ∧
    ((d.ring n).holdoff = true → (d.ring n).holdoffCause = false → Completes (.msixHoldoffExpiry n) d fun e =>
      e.ring n = { d.ring n with holdoff := false } ∧ e.regs = d.regs ∧ d.Sent [] e) ∧
    ((d.ring n).holdoff = true → (d.ring n).holdoffCause = true → d.ringOff n = false → d.hdma.msixEnable = true → d.shadowServes = false →
      v = d.fld (Reg.HDMA_RING_CFG.vector n) → Completes (.msixHoldoffExpiry n) d fun e =>
        e.ring n = (if d.msixMasked v then { d.ring n with holdoff := false, holdoffCause := false, masked := true }
          else { d.ring n with holdoff := d.fld (Reg.HDMA_RING_CTL.holdoff_us n) != 0, holdoffCause := false }) ∧ e.mem = d.mem ∧
        d.Sent (if d.msixMasked v then [] else [.msix v]) e ∧ (d.msixMasked v = true → e.fld (pbaFld v) = 1)) ∧
    (v < 128 → d.bar0 = true → d.responds (Reg.HDMA_MSIX_CTRL.addr v) = true → Completes (.msixUnmask (some v)) d fun e => e.flag (Reg.HDMA_MSIX_CTRL.mask v) = false ∧ e.mem = d.mem ∧
      d.Sent (((List.range 128).filter fun w => d.hdma.msixEnable && d.fld (pbaFld w) == 1 && !(d.hdma.msixFuncMask) &&
        (w == v || !(d.flag (Reg.HDMA_MSIX_CTRL.mask w)))).map .msix) e) ∧
    (d.bar0 = true → Completes (.msixUnmask none) d fun e => e.hdma.msixFuncMask = false ∧ e.mem = d.mem ∧
      d.Sent (((List.range 128).filter fun w => d.hdma.msixEnable && d.fld (pbaFld w) == 1 && !(d.flag (Reg.HDMA_MSIX_CTRL.mask w))).map .msix) e ∧
      ∀ w, w < 128 → d.hdma.msixEnable = true → e.fld (pbaFld w) = 1 → d.flag (Reg.HDMA_MSIX_CTRL.mask w) = true)

/-- THE PCIe LINK AND THE WATCHED CONDITIONS (R36, R68, R72, R325, R326, R349). PERST#, a hot reset or a link loss takes the rings and the window back to reset and
leaves the mode and memory; the link comes up with its width and speed; a configuration write takes its fields over. A silent block, the junction
temperature above its limits, a lost clock and a supply trip raise their events, and GLB_STATUS shows the temperature and the clocks. -/
def Obligations.TheLinkAndTheWatchedConditionsAreReported : Prop :=
  ∀ (d : Dev) (w sp mps mrrs q bits island : Nat) (gen chk en fm : Bool) (pci : Pci) (silent : List Nat),
    (d.bar0 = true →
      Completes .pcieReset d (fun e => e.flag Reg.HDMA_PCI_STAT.link_up = false ∧ e.flag Reg.GLB_STATUS.pcie_up = false ∧ e.mode = d.mode ∧
        e.hdma.linkResets = d.hdma.linkResets + 1 ∧ e.hdma.msixEnable = false ∧ e.hdma.abort = none ∧ e.fld Reg.HDMA_WIN_BASE.win_base = 0 ∧
        e.mem = d.mem ∧ e.seq = d.seq ∧ ∀ n, n < 64 → e.ringEnabled n = false ∧ e.ringHead n = 0 ∧ e.ringTail n = 0 ∧ e.ring n = (d.ring n).cleared) ∧
      Completes (.pcieLinkUp w sp) d (fun e => e.flag Reg.HDMA_PCI_STAT.link_up = true ∧ e.flag Reg.GLB_STATUS.pcie_up = true ∧
        e.fld Reg.HDMA_PCI_STAT.width = w % 64 ∧ e.fld Reg.HDMA_PCI_STAT.speed = sp % 16 ∧
        d.OnlyRegs [Reg.HDMA_PCI_STAT.addr, Reg.GLB_STATUS.addr] e) ∧
      Completes (.pcieConfigWrite mps mrrs gen chk (en, fm) pci) d (fun e => e.fld Reg.HDMA_PCI_STAT.mps = mps % 8 ∧ e.fld Reg.HDMA_PCI_STAT.mrrs = mrrs % 8 ∧
        e.flag Reg.HDMA_PCI_STAT.ecrc_gen = gen ∧ e.flag Reg.HDMA_PCI_STAT.ecrc_chk = chk ∧ e.hdma.msixEnable = en ∧
        e.hdma.msixFuncMask = (d.hdma.msixFuncMask || fm) ∧ e.hdma.pci.d3hot = pci.d3hot ∧ e.hdma.pci.bar0 = pci.bar0 % 2 ^ 64 / bar0Size * bar0Size ∧
        e.hdma.pci.bar2 = pci.bar2 % 2 ^ 64 / bar2Size * bar2Size ∧ d.RegsKept [Reg.HDMA_PCI_STAT.addr] e ∧ e.mem = d.mem)) ∧
    Completes (.watchdogProbe silent) d (fun e => e.raisedBy 0x78 = d.raisedBy 0x78 ++
      (silent.map fun b => ⟨d.tb2ns, 0x78, Sev.fatal, 0x0F02, b, 0, none, false, false, false⟩) ∧ d.RegsBelow 0x1500000 [] e ∧ e.mem = d.mem) ∧
    ((d.raisedBy 0x78).length + 2 ≤ evQueueRoom → Completes (.junctionTemp q) d fun e => e.flag Reg.GLB_STATUS.thermal_warn = decide (420 ≤ q) ∧
      e.raisedBy 0x78 = d.raisedBy 0x78 ++
        (if 420 ≤ q ∧ d.flt.warnArmed = true then [⟨d.tb2ns, 0x78, Sev.warn, 0x0F03, q, 0, none, false, false, false⟩] else []) ++
        (if 440 ≤ q then [⟨d.tb2ns, 0x78, Sev.fault, 0x0F04, q, 0, none, false, false, false⟩] else []) ∧
      e.flt.warnArmed = (decide (q < 412) || (d.flt.warnArmed && decide (q < 420))) ∧ d.RegsBelow 0x1500000 [Reg.GLB_STATUS.addr] e ∧ e.mem = d.mem) ∧
    (d.hasRoom 0x78 = true → Completes (.clockLoss bits island) d fun e => d.RegsBelow 0x1500000 [Reg.GLB_STATUS.addr] e ∧ e.mem = d.mem ∧
      e.flag Reg.GLB_STATUS.refclk_ok = (d.flag Reg.GLB_STATUS.refclk_ok && !(bits.testBit 0)) ∧
      e.flag Reg.GLB_STATUS.pll_serdes = (d.flag Reg.GLB_STATUS.pll_serdes && !(bits.testBit 1 || (bits.testBit 2 && island == 4))) ∧
      e.flag Reg.GLB_STATUS.pll_time = (d.flag Reg.GLB_STATUS.pll_time && !(bits.testBit 2 && island == 6)) ∧
      e.raisedBy 0x78 = d.raisedBy 0x78 ++
        [⟨d.tb2ns, 0x78, Sev.fault, 0x0F05, bits % 8, if bits.testBit 2 then island else 0, none, false, false, false⟩]) ∧
    (d.timeRuns = true → Completes .supplyTrip d fun e => (∃ a0 a1, e.raisedBy 0x08 = d.raisedBy 0x08 ++
      [⟨d.tb2ns, 0x08, Sev.fatal, 0x0113, a0, a1, none, false, false, false⟩]) ∧ d.RegsBelow 0x1500000 [] e ∧ e.mem = d.mem) ∧
    (d.timeRuns = false → Completes .supplyTrip d fun e => e = d)

/-! ### The head link -/

/-- PORTS COME UP AND GO DOWN (R239, R244, R246, R250, R257). Of an enabled port: a retry in FAULT and a retrain begin bring-up, in TRAIN or, with character lock, in
CAP; a run of 32 valid characters locks, and takes TRAIN on to CAP; a CAP that passes takes CAP on to SHAPE and one that does not fails with cause 3; DELAY sends up
to 16 SYNC frames, and its sixteenth echo leads to UP, or to FAULT with cause 5 for the spread and 6 for the latency; each state's time limit leads to
FAULT with its cause. Ten microseconds of silence or 16 errors end the lock, and with it an UP port, whose due lines a pair settles later as lost with the port;
fewer errors do not. -/
def Obligations.PortsAreBroughtUpAndLost : Prop :=
  ∀ (d : Dev) (k errors silent seq rtt n : Nat) (v : Word) (b : List Byte), k < 32 → d.portEnabled k = true →
    (d.portState k = PortState.fault → Completes (.bringupRetry k) d fun e => d.BroughtUp k e ∧ e.mem = d.mem) ∧
    (d.portState k ≠ PortState.fault → Completes (.bringupRetry k) d fun e => e = d) ∧
    (d.responds (Reg.HLK_PORT_CTL.addr k) = true → v.getLsbD 0 = true → d.portState k ≠ PortState.off →
      (d.portUp k = false → Completes (.retrain k v) d fun e => d.BroughtUp k e ∧ e.mem = d.mem) ∧
      (d.portUp k = true → (d.hport k).due = [] → d.spitting k = false → d.hasRoom 0x58 = true → Completes (.retrain k v) d fun e => d.BroughtUp k e ∧
        e.raisedBy 0x58 = d.raisedBy 0x58 ++ [⟨d.tb2ns, 0x58, Sev.degraded, 0x0B02, k * 256 + 11,
          d.fld (Reg.HLK_PORT_HSTAT.status k), none, false, false, false⟩])) ∧
    (v.getLsbD 0 = false → Completes (.retrain k v) d fun e => e = d) ∧
    (d.portState k = PortState.train → Completes (.bringupTimeout k) d fun e => d.BringupFailed k 1 0 e) ∧
    (d.portState k = PortState.cap → Completes (.bringupTimeout k) d fun e => d.BringupFailed k 2 0 e) ∧
    ((d.portState k = PortState.shape ∨ d.portState k = PortState.delay) → Completes (.bringupTimeout k) d fun e =>
      d.BringupFailed k 2 (d.fld (Reg.HLK_PORT_CAP0.head_id k)) e) ∧
    ((d.portState k = PortState.off ∨ PortState.up ≤ d.portState k) → Completes (.bringupTimeout k) d fun e => e = d) ∧
    (∀ valid, valid < 32 → Completes (.charLock (k, valid)) d fun e => e = d) ∧
    Completes (.charLock (k, 32)) d (fun e => (e.hport k).locked = true ∧ e.mem = d.mem ∧
      (d.portState k = PortState.train → e.portState k = PortState.cap ∧ d.HeadSent [d.ctrlFrame k (d.hport k).seq 1 [BitVec.ofNat 8 k]] e) ∧
      (d.portState k ≠ PortState.train → e.regs = d.regs ∧ d.HeadSent [] e)) ∧
    (silent < 10000 → errors < 16 → (d.hport k).charErrs = [] → Completes (.charLockLoss k (errors, silent)) d fun e =>
      (e.hport k).locked = (d.hport k).locked ∧ d.RegsKept [Reg.HLK_PORT_RXERR.addr k] e ∧ e.mem = d.mem) ∧
    ((10000 ≤ silent ∨ 16 ≤ errors) → d.portUp k = false → Completes (.charLockLoss k (errors, silent)) d fun e => (e.hport k).locked = false ∧ d.RegsKept [Reg.HLK_PORT_RXERR.addr k] e ∧
      e.fld (Reg.HLK_PORT_RXERR.chars k) = min (d.fld (Reg.HLK_PORT_RXERR.chars k) + errors) (2 ^ 16 - 1)) ∧
    ((10000 ≤ silent ∨ 16 ≤ errors) → d.portUp k = true → (d.hport k).due = [] → d.spitting k = false → Completes (.charLockLoss k (errors, silent)) d fun e => (e.hport k).locked = false ∧
      d.WentDown k 1 (d.fld (Reg.HLK_PORT_HSTAT.status k)) e) ∧
    ((10000 ≤ silent ∨ 16 ≤ errors) → d.portUp k = true → d.pairLines = true → Completes (.charLockLoss k (errors, silent)) d fun e => (e.hport k).frames = [] ∧
      (e.hport k).due = (d.hport k).due.map fun s =>
        if s.cause = 0 then { s with cause := Blank.nak, detail := 0x11, framed := false } else { s with framed := false }) ∧
    (d.portState k = PortState.cap → d.capPasses k b = true → Completes (.cap k b) d fun e => e.portState k = PortState.shape ∧
      e.fld (Reg.HLK_PORT_CAP0.head_id k) = ofLe ((b.drop 1).take 4) % 2 ^ 32 ∧ e.fld (Reg.HLK_PORT_CAP2.buf_lines k) = ofLe ((b.drop 10).take 1) % 256 ∧
      e.fld (Reg.HLK_PORT_CAP3.lat_ns k) = ofLe ((b.drop 13).take 2) % 2 ^ 16 ∧
      d.HeadSent [.frame k (linkFrame 2 0 k (d.geom.row k) (d.hport k).seq 15 d.laneActive false (d.shapePayload k))] e ∧
      (e.hport k).expect = (d.hport k).expect ++ [((d.hport k).seq, 1, 0)] ∧ e.mem = d.mem) ∧
    (d.portState k = PortState.cap → d.capPasses k b = false → Completes (.cap k b) d fun e => d.BringupFailed k 3 (ofLe ((b.drop 1).take 4)) e) ∧
    (d.portState k ≠ PortState.cap → Completes (.cap k b) d fun e => e = d) ∧
    (d.portState k = PortState.delay → (d.hport k).syncs.length + (d.hport k).rtts.length < 16 → Completes (.bringupSyncSend k) d fun e =>
      d.HeadSent [.frame k (linkFrame 4 0 k (d.geom.row k) (d.hport k).seq 0 d.laneActive false (leBytes 6 d.tb2ns ++ leBytes 2 0))] e ∧
      (e.hport k).syncs = (d.hport k).syncs ++ [(d.hport k).seq] ∧ (e.hport k).seq = ((d.hport k).seq + 1) % 2 ^ 32 ∧ { e with hlk := d.hlk } = d) ∧
    (d.portState k ≠ PortState.delay → Completes (.bringupSyncSend k) d (fun e => e = d) ∧ Completes (.echo k seq rtt) d fun e => e = d) ∧
    (d.portState k = PortState.delay → (d.hport k).syncs.find? (fun n => n % 256 == seq) = some n →
      ((d.hport k).rtts.length < 15 → Completes (.echo k seq rtt) d fun e => (e.hport k).rtts = (d.hport k).rtts ++ [rtt] ∧
        (e.hport k).syncs = (d.hport k).syncs.erase n ∧ { e with hlk := d.hlk } = d) ∧
      (15 ≤ (d.hport k).rtts.length → ∀ m, m = d.modPort k (fun h => { h with syncs := h.syncs.erase n, rtts := h.rtts ++ [rtt] }) →
        ∀ spread, spread = (m.hport k).rtts.foldl max 0 - (m.hport k).rtts.foldl min rtt →
        (2000 < spread * 640 → Completes (.echo k seq rtt) d fun e => m.BringupFailed k 5 (d.fld (Reg.HLK_PORT_CAP0.head_id k)) e) ∧
        (spread * 640 ≤ 2000 → m.latencyFits k = false → Completes (.echo k seq rtt) d fun e =>
          m.BringupFailed k 6 (d.fld (Reg.HLK_PORT_CAP0.head_id k)) e) ∧
        (spread * 640 ≤ 2000 → m.latencyFits k = true → Completes (.echo k seq rtt) d fun e => e.portState k = PortState.up ∧
          (e.fld Reg.HLK_UP.up).testBit k = true ∧ e.fld (Reg.HLK_PORT_DELAY.d_out_ps k) = unsigned 24 (m.dOut k) % 2 ^ 24 ∧
          (e.hport k).upAt = d.pac.starts ∧ d.HeadSent [d.ctrlFrame k (d.hport k).seq 2 [BitVec.ofNat 8 (d.fld Reg.HLK_TIMING.temp_100us)]] e)))

/-- LINES ARE SENT AND FIRED (R241, R243, R245, R247, R248, R254). The first line of a serving port's buffer, with no line of the port due and its memory sound, leaves in a
LINE frame while buf_lines allows; one whose digest differs is void. A due line of an UP port fires at its boundary and sub-position, or its FIRE block is blank with
the line's cause, at the next boundary where it would share one; a line whose frame did not end in time is late; of a port that is not UP no FIRE block is
sent. (FIRE: of a device alone, in a mode in which frames run.) -/
def Obligations.LinesLeaveInFramesAndFireBlocks : Prop :=
  ∀ (d : Dev) (k phase : Nat) (sent : Option (List Nat)) (l : PortLine) (rest : List PortLine) (s : Shot) (due : List Shot), k < 32 →
    (d.lookLines k = l :: rest → l.mem = none → (d.hport k).due = [] → d.framesRun = true → d.senseHeld = false → d.portServes k l.start = true →
      ((d.hport k).frames.length < d.fld (Reg.HLK_PORT_CAP2.buf_lines k) → Completes (.lineFrameSend k sent) d fun e =>
        d.HeadSent [.frame k (linkFrame 1 (d.pseq l.page) k (d.geom.row k) l.line (d.portElems k / 64 - 1) (d.lineActive k l.line)
          (lineDigest (sent.getD l.classes) != l.digest) (packDoses (sent.getD l.classes)))] e ∧
        (e.hport k).frames = (d.hport k).frames ++ [l] ∧ e.lookLines k = rest ∧ e.mem = d.mem ∧
        (e.hport k).void = (d.hport k).void ++ (if lineDigest (sent.getD l.classes) = l.digest then [] else [(l.page, l.line)])) ∧
      (d.fld (Reg.HLK_PORT_CAP2.buf_lines k) ≤ (d.hport k).frames.length → Completes (.lineFrameSend k sent) d fun e => e = d)) ∧
    (d.lookLines k = [] → Completes (.lineFrameSend k sent) d fun e => e = d) ∧
    ((d.hport k).due = [] → Completes (.fireBlockSend k phase) d fun e => e = d) ∧
    ((d.hport k).due = s :: due → d.portUp k = true → d.framesRun = true → d.pairLines = false → d.isShadow = false → d.flag Reg.PAIR_STAT.partner_lost = false →
      (s.cause = 0 → d.frameInTime k s (firePlace (phase % blockTime) (d.txTime k s)).1 = true → Completes (.fireBlockSend k phase) d fun e => e.mem = d.mem ∧ (e.hport k).due = due ∧
        d.HeadSent [.fire k (firePlace (phase % blockTime) (d.txTime k s)).1
          (fireBytes s.line (d.pseq s.page) (firePlace (phase % blockTime) (d.txTime k s)).2 0 true false)] e ∧
        (e.hport k).sent = (d.hport k).sent ++ [{ s with blank := false, counted := false }] ∧
        e.pair (Reg.HLK_PORT_LINES_LO.addr k) = (d.pair (Reg.HLK_PORT_LINES_LO.addr k) + 1) % 2 ^ 64) ∧
      (∀ cause, cause < 8 → (s.cause = cause ∧ cause ≠ 0 ∧ ¬(cause = Blank.nak ∧ s.detail = 0x11) ∨
          s.cause = 0 ∧ d.frameInTime k s (firePlace (phase % blockTime) (d.txTime k s)).1 = false ∧ cause = Blank.late) → due = [] →
        Completes (.fireBlockSend k phase) d fun e => (e.hport k).due = [] ∧
          d.HeadSent [.fire k (if (firePlace (phase % blockTime) (d.txTime k s)).1 ≤ (d.hport k).lastFire then (d.hport k).lastFire + blockTime
              else (firePlace (phase % blockTime) (d.txTime k s)).1)
            (fireBytes s.line (d.pseq s.page) (firePlace (phase % blockTime) (d.txTime k s)).2 cause true true)] e ∧
          e.fld (Reg.FLT_BLANK.count cause) = (d.fld (Reg.FLT_BLANK.count cause) + 1) % 2 ^ 32)) ∧
    ((d.hport k).due = s :: due → d.portUp k = false → Completes (.fireBlockSend k phase) d fun e => (e.hport k).due = due ∧
      (e.hport k).sent = (d.hport k).sent ∧ d.HeadSent [] e)

/-- RETURN RECORDS (R206, R238, R249, R254 to R258, R263). Of an enabled port: an ACK settles the oldest line sent, and its page, or takes the SHAPE frame on; a NAK
or no ACK settles it as blank and counts it; an ACK of another line is a record error; a record with a code or disparity error or a wrong CRC-8 is counted, one without is not.
Temperatures and the status word are kept; a fault bit or a clear lock loses an UP port on which no line is due; a sample is taken by the request it answers, or discarded
and counted; the ports of a spit request without an answer in time have failed. -/
def Obligations.ReturnRecordsSettleWhatTheyAnswer : Prop :=
  ∀ (d : Dev) (k input pseq id result mask t value tag : Nat) (rd : RecordRead) (temps : List Nat) (w : Word) (s : Shot) (rest : List Shot) (r : SampleReq) (sp : Spit)
    (x : Nat × Nat × Nat), k < 32 → d.portEnabled k = true →
    ((d.hport k).sent = s :: rest → id = s.line % 2 ^ 24 → pseq = d.pseq s.page → (s.blank = false ∨ result ≠ 0) →
      (result < 2 → Completes (.ack k input pseq 0 id result) d fun e => (e.hport k).sent = rest ∧
        (e.page s.page).settled = (d.page s.page).settled + 1 ∧ e.fld (Reg.FLT_BLANK.count Blank.nak) = d.fld (Reg.FLT_BLANK.count Blank.nak) ∧
        e.mem = d.mem) ∧
      (2 ≤ result → s.counted = false → Completes (.ack k input pseq 0 id result) d fun e => (e.hport k).sent = rest ∧
        (e.page s.page).settled = (d.page s.page).settled + 1 ∧ e.mem = d.mem ∧
        e.fld (Reg.FLT_BLANK.count Blank.nak) = (d.fld (Reg.FLT_BLANK.count Blank.nak) + 1) % 2 ^ 32 ∧
        e.fld (Reg.HLK_PORT_NAK.count k) = (d.fld (Reg.HLK_PORT_NAK.count k) + 1) % 2 ^ 32)) ∧
    ((d.hport k).sent = s :: rest → (id ≠ s.line % 2 ^ 24 ∨ pseq ≠ d.pseq s.page) → d.portUp k = false →
      Completes (.ack k input pseq 0 id result) d fun e => (e.hport k).sent = s :: rest ∧
        e.fld (Reg.HLK_PORT_RXERR.records k) = min (d.fld (Reg.HLK_PORT_RXERR.records k) + 1) (2 ^ 16 - 1)) ∧
    ((d.hport k).expect.find? (fun e => e.1 % 2 ^ 24 == id && e.2.1 == 1) = some x → d.portState k = PortState.shape →
      Completes (.ack k input pseq 1 id 0) d (fun e => e.portState k = PortState.delay ∧ (e.hport k).expect = (d.hport k).expect.erase x ∧ e.mem = d.mem) ∧
      (result ≠ 0 → Completes (.ack k input pseq 1 id result) d fun e => d.BringupFailed k 4 (d.fld (Reg.HLK_PORT_CAP0.head_id k)) e)) ∧
    ((d.hport k).sent = s :: rest → (s.blank = false ∨ s.counted = false) → s.counted = false → Completes (.ackTimeout k) d fun e =>
      (e.hport k).sent = rest ∧ (e.page s.page).settled = (d.page s.page).settled + 1 ∧ e.mem = d.mem ∧
      e.fld (Reg.FLT_BLANK.count Blank.nak) = (d.fld (Reg.FLT_BLANK.count Blank.nak) + 1) % 2 ^ 32) ∧
    ((d.hport k).sent = [] → Completes (.ackTimeout k) d fun e => e = d) ∧
    (mask.testBit 0 = true → Completes (.temp k mask [t]) d fun e => e.fld (Reg.NRG_PORT_TEMP.temp k) = t % 4096 ∧
      e.flag (Reg.NRG_PORT_TEMP.valid k) = true ∧ d.RegsKept [Reg.NRG_PORT_TEMP.addr k] e ∧ Tab.find e.nrg.report k = some (t % 4096, d.tb2ns)) ∧
    (mask % 16 = 0 → Completes (.temp k mask temps) d fun e => e = d) ∧
    ((d.portUp k = false ∨ (w.getLsbD 7 = false ∧ w.getLsbD (2 + d.fld (Reg.HLK_PORT_CFG.input k)) = true)) → Completes (.status k w) d fun e =>
      e.fld (Reg.HLK_PORT_HSTAT.status k) = w.toNat ∧ d.OnlyRegs [Reg.HLK_PORT_HSTAT.addr k] e) ∧
    (d.portUp k = true → (d.hport k).due = [] → d.spitting k = false →
      (w.getLsbD 7 = true → Completes (.status k w) d fun e => d.WentDown k 8 w.toNat e) ∧
      (w.getLsbD 7 = false → w.getLsbD (2 + d.fld (Reg.HLK_PORT_CFG.input k)) = false → Completes (.status k w) d fun e => d.WentDown k 9 w.toNat e)) ∧
    (d.msr.samples = [r] → Tab.find r.tags k = some t → t % 256 = tag → (Tab.get r.values [] k).length < r.count → r.refused.testBit k = false →
      ∀ u, u = { r with values := Tab.put r.values k (Tab.get r.values [] k ++ [value % 2 ^ 16]) } →
      (u.complete = false → Completes (.sampleRecord k value tag) d fun e => e.msr.samples = [u] ∧ { e with msr := d.msr } = d) ∧
      (u.complete = true → Completes (.sampleRecord k value tag) d fun e => e.msr.samples = [] ∧ e.mem = d.mem)) ∧
    (d.msr.samples = [] → Completes (.sampleRecord k value tag) d fun e => d.OnlyRegs [Reg.MSR_SWEEP_STAT.addr] e ∧
      e.fld Reg.MSR_SWEEP_STAT.discards = min (d.fld Reg.MSR_SWEEP_STAT.discards + 1) (2 ^ Reg.MSR_SWEEP_STAT.discards.width - 1)) ∧
    (recordBad rd.chars rd.data rd.crc = false → Completes (.returnRecordError k rd) d fun e => e = d) ∧
    (recordBad rd.chars rd.data rd.crc = true → d.portUp k = false → Completes (.returnRecordError k rd) d fun e => d.RegsKept [Reg.HLK_PORT_RXERR.addr k] e ∧ e.mem = d.mem ∧
      e.fld (Reg.HLK_PORT_RXERR.records k) = min (d.fld (Reg.HLK_PORT_RXERR.records k) + 1) (2 ^ 16 - 1) ∧
      e.fld (Reg.HLK_PORT_RXERR.chars k) = min (d.fld (Reg.HLK_PORT_RXERR.chars k) + rd.chars) (2 ^ 16 - 1)) ∧
    (d.hlk.spits = [sp] → Completes (.spitTimeout sp.ctx) d fun e => e.hlk.spits = [] ∧ e.mem = d.mem ∧ ∀ p, p < 32 → sp.wait.testBit p = true →
      (e.fld Reg.HLK_SPIT_FAIL.fail).testBit p = true ∧ (e.fld Reg.HLK_SPIT_BUSY.busy).testBit p = false)

/-! ### Device memory -/

/-- WRITES AND READS OF DEVICE MEMORY (R290, R295 to R297, R299 to R302, R306). An accepted write is visible at once, and a whole line's sets the line's class, source
and generation; one that a full queue or a stopped subchannel holds changes nothing. A host's partial write of a poisoned line is discarded, the device's own fills the
rest with zeros. A read whose check passes goes to its reader; one that rereads well is written back; one of a line that waits for a refetch waits with it,
and the first asks for it; any other poisons the line, is reported and answered Completer Abort; poison is reported. A gated read is answered Completer Abort. A
refetch that the host's whole line answered ends with the data; one that times out poisons the line where nothing was written. (The readers named are
BAR2, of bytes within one line with no earlier read of BAR2 held, a copy ring and device sources; no fault log.) -/
def Obligations.WritesAreVisibleAndReadsRecovered : Prop :=
  ∀ (d : Dev) (src gen a line m n : Nat) (bs : List Byte) (req : Requester) (first g : ReadLine) (again : List ReadLine) (q : Refetch) (w : Requester × Nat),
    d.fld Reg.MIG_LOG_LEN.len = 0 →
    ((d.inFitted a bs.length = false ∨ (linesOf a bs.length).any d.writeHeld = true) → Completes (.memWriteAccept src gen a bs) d fun e => e = d) ∧
    (d.inFitted a bs.length = true → (linesOf a bs.length).any d.writeHeld = false →
      ((linesOf a bs.length).any d.lineBad = false → Completes (.memWriteAccept src gen a bs) d fun e => e.mem.readBytes a bs.length = bs ∧
        d.MemBut a bs.length e) ∧
      (a = 64 * line → bs.length = 64 → Completes (.memWriteAccept src gen a bs) d fun e => e.mem.readBytes a 64 = bs ∧ d.MemBut a 64 e ∧
        e.lineMeta line = ⟨false, d.writerClass src a, src, gen⟩ ∧
        d.RegsBelow 0xF00000 [Reg.MEM_WR_BYTES_LO.addr, Reg.MEM_WR_BYTES_LO.addr + 4, Reg.MEM_CH_STAT.addr (d.channelOf a)] e) ∧
      (a / 64 = line → 0 < bs.length → a % 64 + bs.length ≤ 64 → bs.length < 64 → d.lineBad line = true →
        (hostSource src = true → Completes (.memWriteAccept src gen a bs) d fun e => e.mem = d.mem) ∧
        (hostSource src = false → Completes (.memWriteAccept src gen a bs) d fun e => e.mem.readBytes a bs.length = bs ∧
          (∀ b, 64 * line ≤ b → b < 64 * line + 64 → b < a ∨ a + bs.length ≤ b → e.mem.readByte b = 0#8) ∧
          (e.lineMeta line).poison = false))) ∧
    (d.timeRuns = true → d.mode ≠ Mode.load → d.mode ≠ Mode.fill → d.inFitted (64 * line) 64 = true → d.lineStopped line = false →
      d.pcacheLine line = false →
      (d.refetchOf line = none →
        (d.readOutcome line none first again = .clean g → a / 64 = line → 0 < m → a % 64 + m ≤ 64 → (d.lineMeta line).poison = false →
          Completes (.memReadComplete line (.bar2 a m) first again) d fun e => d.Sent [.completion (d.mem.readBytes a m)] e ∧ e.mem = d.mem) ∧
        (d.readOutcome line none first again = .reread g n → Completes (.memReadComplete line (.other src) first again) d fun e =>
          d.MemKept e ∧ e.lineMeta line = ⟨false, g.cls, 0x70, g.gen⟩ ∧
          e.fld (Reg.MIG_CNT.count 0) = (d.fld (Reg.MIG_CNT.count 0) + 1) % 2 ^ 32) ∧
        ((d.readOutcome line none first again = .failed n ∨ d.readOutcome line none first again = .recompute n) →
          Completes (.memReadComplete line (.bar2 a m) first again) d fun e => (e.lineMeta line).poison = true ∧ d.Sent [.completerAbort] e ∧
            e.fld (Reg.MIG_CNT.count 3) = (d.fld (Reg.MIG_CNT.count 3) + 1) % 2 ^ 32) ∧
        (d.readOutcome line none first again = .poisoned n → Completes (.memReadComplete line (.copy src) first again) d fun e =>
          e.fld (Reg.MIG_CNT.count 3) = (d.fld (Reg.MIG_CNT.count 3) + 1) % 2 ^ 32 ∧ e.mem = d.mem) ∧
        (d.readOutcome line req.expects first again = .refetch n → (∀ x ∈ d.mig.refetches, x.posted = true) → d.mig.refetches.length < 256 →
          d.hasRoom 0x70 = true → Completes (.memReadComplete line req first again) d fun e =>
            e.mig.refetches = d.mig.refetches ++ [⟨line, [(req, n)], false, false, true, first.data, d.tb2ns⟩] ∧ e.mem = d.mem ∧
            e.raisedBy 0x70 = d.raisedBy 0x70 ++ [⟨d.tb2ns, 0x70, Sev.info, 0x0E02, 64 * line,
              req.srcId * 2 ^ 32 + (d.mig.nextRequest + 1) % 2 ^ 32, some (d.fld Reg.MIG_CFG.refetch_evr), false, false, false⟩])) ∧
      (d.refetchOf line = some q → Completes (.memReadComplete line req first again) d fun e => e.mem = d.mem ∧
        e.mig.refetches = d.mig.refetches.map fun x => if x.line = line then { x with waiting := x.waiting ++ [(req, 0)] } else x)) ∧
    (d.timeRuns = true → d.mode ≠ Mode.load → d.mode ≠ Mode.fill → d.inFitted (64 * line) 64 = true → d.lineStopped line = false →
      d.pcacheLine line = true → d.flag Reg.RUN_PCACHE_STAT.committed = false →
      Completes (.memReadComplete line (.bar2 a m) first again) d fun e => d.Sent [.completerAbort] e ∧ e.mem = d.mem) ∧
    ((d.timeRuns = false ∨ d.lineStopped line = true) → Completes (.memReadComplete line req first again) d fun e => e = d) ∧
    (d.refetchOf line = some q → q.waiting = [w] → w.1 = .bar2 a m → d.hdma.bar2Held = [] →
      (q.written = true → a / 64 = line → 0 < m → a % 64 + m ≤ 64 → (d.lineMeta line).poison = false → d.pcacheLine line = false →
        Completes (.refetchAnswer line) d fun e => e.refetchOf line = none ∧ e.mem = d.mem ∧
          d.Sent [.completion (d.mem.readBytes a m)] e ∧ e.fld (Reg.MIG_CNT.count 1) = (d.fld (Reg.MIG_CNT.count 1) + 1) % 2 ^ 32) ∧
      (q.posted = true → q.touched = false → Completes (.refetchTimeout line) d fun e => e.refetchOf line = none ∧
        (e.lineMeta line).poison = true ∧ d.Sent [.completerAbort] e ∧ d.MemBut (64 * line) q.readData.length e ∧
        e.fld Reg.MIG_REFETCH_STAT.timeouts = (d.fld Reg.MIG_REFETCH_STAT.timeouts + 1) % 2 ^ 16)) ∧
    (d.refetchOf line = some q → (q.written = false → Completes (.refetchAnswer line) d fun e => e = d) ∧
      (q.posted = false → Completes (.refetchTimeout line) d fun e => e = d)) ∧
    (d.refetchOf line = none → Completes (.refetchAnswer line) d (fun e => e = d) ∧ Completes (.refetchTimeout line) d fun e => e = d)

/-- THE CONTROLLER AND THE SCRUBBER (R282 to R284, R287 to R289, R291 to R293, R303 to R305, R308). At a batch boundary the formed batch has left, panic
is asserted when the smallest reserve has fallen below rt_low and withdrawn from rt_high on, and the next batch follows panic, the drain and the
queues (no subchannel stopped). A parity alert stops its subchannel until ALERT_n rises; the fifth within 1 s fails the channel. A module's
temperature sets its summary and refresh rate and fails its channel from 95 °C on, as do ten silent polls. Margining works only where it is open; a run
leaves its lines zero. A scrub pass starts on legal areas, reads line by line, ends with its record, and is cancelled on request (no fault log). Of
failing Millpond lines: a lookahead line is marked, a DCR table line awaits its shadow, a transfer raises 0x0F06. -/
def Obligations.ChannelsMarginsAndScrubbingFollowTheirRules : Prop :=
  ∀ (d : Dev) (c rt rd sub n issued known lanes errors pass off ln low w r : Nat) (t : Int) (p : Nat × Nat) (s : Scrub) (h : Chan) (q : Nat × Nat) (ports : List Nat)
    (first g : ReadLine) (again : List ReadLine), c < 8 → h = Tab.get d.memc.chans Chan.idle c → q = (h.queued.1 - h.formed.1, h.queued.2 - h.formed.2) →
    low = d.fld Reg.MEM_SCHED.wq_low →
    (q.1 + q.2 ≤ 128 → Completes (.batchBoundary c rt rd ports) d fun e => e.mem = d.mem ∧ (Tab.get e.memc.chans Chan.idle c).queued = q ∧
      e.fld (Reg.MEM_CH_STAT.wq c) = q.1 + q.2 ∧ ((Tab.get e.memc.chans Chan.idle c).draining = true ↔ h.draining = true ∧ low < q.1 + q.2) ∧
      (d.reserveMin = some w → (d.storeIssued ports).reserveMin = some r →
        (e.flag Reg.MEM_STAT.panic = true ↔ (d.flag Reg.MEM_STAT.panic = true ∧ r < d.fld Reg.MEM_SCHED.rt_high) ∨
          (d.flag Reg.MEM_STAT.panic = false ∧ d.fld Reg.MEM_SCHED.rt_low ≤ w ∧ r < d.fld Reg.MEM_SCHED.rt_low))) ∧
      (h.stopped = [] →
        (e.flag Reg.MEM_STAT.panic = true → (Tab.get e.memc.chans Chan.idle c).lastBatch = (if q.1 + q.2 = 128 ∧ h.lastBatch ≠ Batch.write then Batch.write
          else if rt ≠ 0 then Batch.realTime else if rd ≠ 0 then Batch.read else 0)) ∧
        (e.flag Reg.MEM_STAT.panic = false → (Tab.get e.memc.chans Chan.idle c).lastBatch = (if h.draining = true ∧ low < q.1 + q.2 then Batch.write
          else if rt ≠ 0 ∨ rd ≠ 0 then Batch.read else if q.1 + q.2 ≠ 0 then Batch.write else 0)) ∧
        (Tab.get e.memc.chans Chan.idle c).formed = (if (Tab.get e.memc.chans Chan.idle c).lastBatch = Batch.write then (min 16 q.1, min 16 q.2) else (0, 0)))) ∧
    (Completes (.caParityAlert c sub issued known) d fun e => e.mem = d.mem ∧ (Tab.get e.memc.chans Chan.idle c).alerts = d.recentAlerts c ++ [d.tb2ns] ∧
      (Tab.get e.memc.chans Chan.idle c).stopped = h.stopped.filter (fun p => p.1 != sub) ++ [(sub, min (issued - known) 64)] ∧
      ((d.recentAlerts c).length < 4 → { e with memc := d.memc } = d) ∧
      (4 ≤ (d.recentAlerts c).length → e.flag (Reg.MEM_CH_STAT.failed c) = true ∧ ((d.mode ≠ Mode.fill ∨ d.marginImage = false) →
        e.raisedBy 0x68 = d.raisedBy 0x68 ++ [⟨d.tb2ns, 0x68, Sev.fatal, 0x0D02, c, 3, none, false, false, false⟩]))) ∧
    (h.stopped.find? (fun p => p.1 == sub) = some p → d.hasRoom 0x68 = true → Completes (.alertNClear c sub) d fun e =>
      e.raisedBy 0x68 = d.raisedBy 0x68 ++ [⟨d.tb2ns, 0x68, Sev.recovered, 0x0D04, c * 256 + sub, p.2, none, false, false, false⟩] ∧
      (Tab.get e.memc.chans Chan.idle c).stopped = h.stopped.filter (fun p => p.1 != sub) ∧ d.RegsBelow 0x1500000 [] e) ∧
    (h.stopped.find? (fun p => p.1 == sub) = none → Completes (.alertNClear c sub) d fun e => e = d) ∧
    (t < 380 → Completes (.dramTempPoll c (some t)) d fun e => e.fld (Reg.MEM_CH_STAT.temp c) = unsigned 12 t % 2 ^ 12 ∧ e.mem = d.mem ∧
      e.flag (Reg.MEM_CH_STAT.hot c) = (decide (340 ≤ t) || (d.flag (Reg.MEM_CH_STAT.hot c) && decide (332 ≤ t))) ∧
      e.tRefi c = (if 340 ≤ t ∨ (d.flag (Reg.MEM_CH_STAT.hot c) = true ∧ 332 ≤ t) then 1950 else 3900) ∧
      e.flag (Reg.MEM_CH_STAT.failed c) = d.flag (Reg.MEM_CH_STAT.failed c)) ∧
    (380 ≤ t → Completes (.dramTempPoll c (some t)) d fun e => e.flag (Reg.MEM_CH_STAT.failed c) = true ∧ e.mem = d.mem ∧
      ∃ l, e.raisedBy 0x68 = l ++ [⟨d.tb2ns, 0x68, Sev.fatal, 0x0D02, c, 4, none, false, false, false⟩]) ∧
    (h.silentPolls < 9 → Completes (.dramTempPoll c none) d fun e => { e with memc := d.memc } = d ∧
      (Tab.get e.memc.chans Chan.idle c).silentPolls = h.silentPolls + 1) ∧
    (9 ≤ h.silentPolls → Completes (.dramTempPoll c none) d fun e => e.flag (Reg.MEM_CH_STAT.failed c) = true) ∧
    Completes (.dramRefresh c) d (fun e => { e with memc := d.memc } = d ∧ (Tab.get e.memc.chans Chan.idle c).refreshes = h.refreshes + 1) ∧
    Completes .zqCalibration d (fun e => { e with memc := d.memc } = d ∧ e.memc.margins = d.memc.margins ∧
      ∀ i, i < d.channels → (Tab.get e.memc.chans Chan.idle i).zqs = (Tab.get d.memc.chans Chan.idle i).zqs + 1) ∧
    (d.responds Reg.MEM_MARGIN_CTL.addr = true →
      (d.marginOpen = true →
        (d.marginBase.2 ≠ 0 → Completes .marginApply d fun e => e.fld Reg.MEM_MARGIN_STAT.result = 1 ∧
          Tab.get e.memc.margins 0 d.marginKey = clampInt 0 (2 ^ d.marginBase.2 - 1)
            ((d.marginBase.1 : Int) + Tab.get d.memc.margins 0 d.marginKey + d.sfld Reg.MEM_MARGIN_SEL.offset) - (d.marginBase.1 : Int) ∧
          d.OnlyRegs [Reg.MEM_MARGIN_STAT.addr] { e with memc := d.memc }) ∧
        (d.memc.marginOp = none → n ≠ 0 → Completes (.marginRun n) d fun e => e.memc.marginOp = some (d.fld Reg.MEM_MARGIN_SEL.channel, n) ∧
          e.flag Reg.MEM_MARGIN_STAT.busy = true ∧ d.OnlyRegs [Reg.MEM_MARGIN_STAT.addr] { e with memc := d.memc }) ∧
        Completes .marginClear d (fun e => e.memc.margins = [] ∧ e.fld Reg.MEM_MARGIN_STAT.result = 1 ∧
          d.OnlyRegs [Reg.MEM_MARGIN_STAT.addr] { e with memc := d.memc })) ∧
      (d.marginOpen = false → ∀ i, i = Instr.marginApply ∨ i = .marginRun n ∨ i = .marginClear → Completes i d fun e =>
        e.fld Reg.MEM_MARGIN_STAT.result = 3 ∧ d.OnlyRegs [Reg.MEM_MARGIN_STAT.addr] e)) ∧
    (d.memc.marginOp = some p → Completes (.marginRunDone lanes errors) d fun e => e.memc.marginOp = none ∧ e.flag Reg.MEM_MARGIN_STAT.busy = false ∧
      e.fld Reg.MEM_MARGIN_STAT.lane_fail = lanes % 32 ∧ e.fld Reg.MEM_MARGIN_STAT.errors = min errors 0xFFFF ∧
      e.fld Reg.MEM_MARGIN_STAT.result = (if lanes % 32 = 0 ∧ errors = 0 then 1 else 2) ∧
      ∀ a, (d.marginLine p.1 p.2 (a / 64) = true → e.mem.readByte a = 0#8 ∧ e.lineMeta (a / 64) = ⟨false, d.regionClass (64 * (a / 64)), 0x69, 0⟩) ∧
        (d.marginLine p.1 p.2 (a / 64) = false → e.mem.readByte a = d.mem.readByte a ∧ e.lineMeta (a / 64) = d.lineMeta (a / 64))) ∧
    (d.responds Reg.MIG_SCRUB_CTL.addr = true → d.scrubModes = true → ∀ a l r, a = d.pair Reg.MIG_SCRUB_START_LO.addr → l = d.pair Reg.MIG_SCRUB_LEN_LO.addr →
      r = d.pair Reg.MIG_SCRUB_REC_LO.addr →
      (d.mig.scrub = none → a % 64 = 0 → l % 64 = 0 → r % 64 = 0 → l ≠ 0 → d.inFitted a l = true → d.inFitted r 64 = true → (r < a ∨ a + l ≤ r) →
        Completes (.scrubStart pass) d fun e => e.mig.scrub = some ⟨a, l, r, a, d.tb2ns, 0, 0, 0, 0, 0, 0, pass % 2 ^ 16, false⟩ ∧ e.mem = d.mem ∧
          e.fld Reg.MIG_SCRUB_STAT.state = 1 ∧ e.fld Reg.MIG_SCRUB_STAT.pass_id = pass % 2 ^ 16 ∧ e.pair Reg.MIG_SCRUB_POS_LO.addr = a) ∧
      (d.mig.scrub = some s → Completes (.scrubStart pass) d fun e => e.fld Reg.MIG_SCRUB_STAT.result = 4 ∧ d.OnlyRegs [Reg.MIG_SCRUB_STAT.addr] e) ∧
      (d.mig.scrub = none → (a % 64 ≠ 0 ∨ l % 64 ≠ 0 ∨ r % 64 ≠ 0 ∨ l = 0 ∨ d.inFitted a l = false ∨ d.inFitted r 64 = false ∨ (a ≤ r ∧ r < a + l)) →
        Completes (.scrubStart pass) d fun e => e.fld Reg.MIG_SCRUB_STAT.result = 3 ∧ d.OnlyRegs [Reg.MIG_SCRUB_STAT.addr] e) ∧
      (d.mig.scrub = some s → Completes .scrubCancel d fun e => e.mig.scrub = some { s with cancelled := true, openAtCancel := d.scrubOpen } ∧
        e.fld Reg.MIG_SCRUB_STAT.state = 2 ∧ e.mem = d.mem)) ∧
    (d.mig.scrub = some s → s.cancelled = false → s.pos < s.start + s.len → d.scrubOpen < 64 → d.fld Reg.MIG_LOG_LEN.len = 0 → d.lineStopped (s.pos / 64) = false →
      (d.flag Reg.MEM_STAT.panic = true → Completes (.scrubRead first again) d fun e => e = d) ∧
      (d.flag Reg.MEM_STAT.panic = false → d.refetchOf (s.pos / 64) = none →
        (d.readOutcome (s.pos / 64) none first again = .clean g → Completes (.scrubRead first again) d fun e => e.mem = d.mem ∧
          e.mig.scrub = some { s with pos := s.pos + 64, linesRead := s.linesRead + 1 } ∧ e.pair Reg.MIG_SCRUB_POS_LO.addr = (s.pos + 64) % 2 ^ 64 ∧
          e.fld Reg.MIG_SCRUB_STAT.state = (if s.start + s.len ≤ s.pos + 64 then 2 else d.fld Reg.MIG_SCRUB_STAT.state)) ∧
        (d.readOutcome (s.pos / 64) none first again = .reread g n → Completes (.scrubRead first again) d fun e =>
          d.MemKept e ∧ e.lineMeta (s.pos / 64) = ⟨false, g.cls, 0x70, g.gen⟩ ∧
          e.mig.scrub = some { s with pos := s.pos + 64, linesRead := s.linesRead + 1, reread := s.reread + 1 }) ∧
        (d.readOutcome (s.pos / 64) none first again = .failed n → first.data.length = 64 → Completes (.scrubRead first again) d fun e =>
          (e.lineMeta (s.pos / 64)).poison = true ∧ d.MemBut (64 * (s.pos / 64)) 64 e ∧
          e.mig.scrub = some { s with pos := s.pos + 64, linesRead := s.linesRead + 1, poisoned := s.poisoned + 1 }))) ∧
    (d.mig.scrub = some s → d.fld Reg.MIG_LOG_LEN.len = 0 → (s.cancelled = true ∨ (s.start + s.len ≤ s.pos ∧ d.scrubOpen = 0)) →
      s.record % 64 = 0 → d.lineBad (s.record / 64) = false → Completes .scrubEnd d fun e =>
      e.mig.scrub = none ∧ e.fld Reg.MIG_SCRUB_STAT.state = 0 ∧ e.fld Reg.MIG_SCRUB_STAT.result = (if s.cancelled then 2 else 1) ∧
      e.mem.readBytes s.record 32 = leBytes 8 s.start ++ leBytes 8 s.len ++ leBytes 8 s.startNs ++ leBytes 8 d.tb2ns ∧ d.MemBut s.record 64 e) ∧
    (d.mig.scrub = none → Completes (.scrubRead first again) d (fun e => e = d) ∧ Completes .scrubEnd d fun e => e = d) ∧
    Completes (.millpondCheckFail (.lookahead n ln)) d (fun e => { e with asm := d.asm } = d ∧ { e.asm with look := d.asm.look } = d.asm ∧
      Tab.get e.asm.look [] n = (Tab.get d.asm.look [] n).map fun l => if l.line = ln ∧ l.mem.isNone then { l with mem := some 2 } else l) ∧
    Completes (.millpondCheckFail (.dcrTable off ln)) d (fun e => { e with asm := d.asm } = d ∧
      e.asm.repairs = d.asm.repairs.filter (fun x => x != (false, 2 * 2 ^ 56 + off, ln)) ++ [(false, 2 * 2 ^ 56 + off, ln)]) ∧
    Completes (.millpondCheckFail (.transfer n)) d (fun e => e.mem = d.mem ∧
      e.raisedBy 0x78 = d.raisedBy 0x78 ++ [⟨d.tb2ns, 0x78, Sev.fatal, 0x0F06, n, 0, none, false, false, false⟩])

/-! ### The pair -/

/-- THE PAIR LINK AND THE ROLES (R332 to R336, R344, R346 to R348, R354). The link comes up with its lanes, delay and match, goes down, and sends a message again; BEAT, TIME
and beacons go out on their timers; the partner's BEATs and beacons are followed, and a SHADOW for which no entry to SAFE waits takes the ACTIVE role when
its partner releases it, cannot fire or is silent on every path; a silent pair link alone brings a rejoin. The survivor serves what its rings are owed. -/
def Obligations.ThePairLinkBeatsAndTheShadowTakesOver : Prop :=
  ∀ (d : Dev) (lanes lat peer seq role mode cause tb3 : Nat) (mirror : Bool) (m : Nat × PairMsg) (reads : List SlotRead),
    (d.paired = true → d.timeRuns = true → d.flag Reg.PAIR_STAT.link_up = false → lanesUsed lanes ≠ 0 → d.hasRoom 0x80 = true → Completes (.pairLinkUp lanes lat peer) d fun e =>
      e.pairUp = true ∧ e.fld Reg.PAIR_STAT.lanes = lanes % 256 ∧ e.fld Reg.PAIR_STAT.latency_ns = lat % 2 ^ 16 ∧
      e.reg Reg.PAIR_MATCH_PEER.addr = BitVec.ofNat 32 peer ∧ (e.flag Reg.PAIR_STAT.match_ok = true ↔ d.reg Reg.PAIR_MATCH.addr = BitVec.ofNat 32 peer) ∧
      e.raisedBy 0x80 = d.raisedBy 0x80 ++ [⟨d.tb2ns, 0x80, Sev.info, 0x1001, lanesUsed lanes, lat % 65536, none, false, false, false⟩] ∧
      d.RegsBelow 0x1000000 [Reg.GLB_STATUS.addr] e ∧ e.mem = d.mem) ∧
    ((d.paired = false ∨ d.flag Reg.PAIR_STAT.link_up = true ∨ lanesUsed lanes = 0) → Completes (.pairLinkUp lanes lat peer) d fun e => e = d) ∧
    (d.pairUp = true → d.isActive = false → Completes (.pairLinkDown lanes) d fun e => e.pairUp = false ∧ e.fld Reg.PAIR_STAT.lanes = lanes % 256 ∧
      d.OnlyRegs [Reg.PAIR_STAT.addr, Reg.GLB_STATUS.addr, Reg.GLB_SHADOW_OF.addr] e) ∧
    (d.pairUp = true → d.isActive = true → d.duo.held = [] → d.duo.disputes = [] → d.hasRoom 0x80 = true → Completes (.pairLinkDown lanes) d fun e =>
      e.pairUp = false ∧ e.isActive = true ∧ e.mem = d.mem ∧ e.raisedBy 0x80 = d.raisedBy 0x80 ++
        [⟨d.tb2ns, 0x80, Sev.degraded, 0x1002, popCount (lanes % 256) 8, d.fld Reg.PAIR_STAT.beacon, none, false, false, false⟩]) ∧
    (d.pairUp = true →
      (d.duo.out.reverse.find? (fun x => x.1 == seq % 2 ^ 16) = some m → Completes (.pairReplayTimeout seq) d fun e => e.duo.out = d.duo.out ++ [m] ∧
        { e with duo := d.duo } = d ∧ e.duo.seq = d.duo.seq) ∧
      Completes .beatTimer d (fun e => d.PairSent (.beat d.role d.mode d.isMirror (d.tbRead 3)) e ∧ { e with duo := d.duo } = d) ∧
      (d.isActive = true → Completes .timeTimer d fun e => d.PairSent (.time (d.tbRead 3)) e ∧ { e with duo := d.duo } = d)) ∧
    (d.isActive = false → Completes .timeTimer d fun e => e = d) ∧
    (d.pairUp = false → Completes .beatTimer d (fun e => e = d) ∧ Completes (.beat role mode mirror) d fun e => e = d) ∧
    (d.paired = true → d.timeRuns = true →
      Completes .beaconTimer d (fun e => e.duo.beacons = d.duo.beacons + 1 ∧ (∀ p, p < 2 → (Tab.get e.tim.ports EthPort.rest p).own =
        (Tab.get d.tim.ports EthPort.rest p).own ++ [.beacon (d.fld Reg.PAIR_PEER_MAC_HI.mac_hi * 2 ^ 32 + d.fld Reg.PAIR_PEER_MAC_LO.mac_lo) d.role d.mode d.isMirror (d.tbRead 3) (d.duo.beacons % 2 ^ 32)]) ∧ e.regs = d.regs ∧ e.mem = d.mem) ∧
      ((d.isShadow = false ∨ Mode.gone mode = false) → Completes (.beaconReceive mode) d fun e => e.flag Reg.PAIR_STAT.beacon = true ∧
        d.OnlyRegs [Reg.PAIR_STAT.addr] e) ∧
      (d.isShadow = true → d.flt.safeReq = none → Mode.gone mode = true → Completes (.beaconReceive mode) d fun e => d.TookOver d.peerMode e)) ∧
    Completes .beaconNotCurrent d (fun e => e.flag Reg.PAIR_STAT.beacon = false ∧ d.OnlyRegs [Reg.PAIR_STAT.addr] e) ∧
    (d.pairUp = true →
      ((d.isShadow = false ∧ d.pairServes = false) ∨ (d.isShadow = true ∧ d.isActive = false ∧ Mode.gone mode = false ∧ (Mode.isPrint d.peerMode = false ∨ Mode.isPrint mode = true)) →
        Completes (.beat role mode mirror) d fun e => e.duo.peer = some ⟨role, mode, mirror⟩ ∧ e.fld Reg.GLB_SHADOW_OF.partner_mode = mode % 16 ∧
          e.flag Reg.GLB_SHADOW_OF.valid = true ∧ d.OnlyRegs [Reg.GLB_SHADOW_OF.addr] { e with duo := d.duo }) ∧
      (d.isShadow = true → d.isActive = false → d.flt.safeReq = none → Mode.gone mode = true → Completes (.beat role mode mirror) d fun e => d.TookOver d.peerMode e)) ∧
    (d.isShadow = true → d.flt.safeReq = none → Completes (.release cause) d fun e => d.TookOver d.peerMode e ∧ (d.duo.disputes = [] → d.hasRoom 0x80 = true →
      e.raisedBy 0x80 = d.raisedBy 0x80 ++ [⟨d.tb2ns, 0x80, Sev.degraded, 0x1003, 1, cause * 2 ^ 32 + d.firstClaimed, some 0, false, false, false⟩])) ∧
    (d.isShadow = true → d.flt.safeReq ≠ none → Completes (.release cause) d fun e => e = d) ∧
    (d.isShadow = false → Completes (.release cause) d (fun e => e = d) ∧ Completes .pairSilenceTimeout d fun e => e = d) ∧
    (d.isShadow = true → d.flt.safeReq = none → d.flag Reg.PAIR_STAT.beacon = false → d.duo.otherAck = none → Completes .pairSilenceTimeout d fun e => d.TookOver d.peerMode e) ∧
    (d.isShadow = true → d.flag Reg.PAIR_STAT.beacon = true →
      (d.pairUp = true → Completes .pairSilenceTimeout d fun e => e = d) ∧
      (d.pairUp = false → Completes .pairSilenceTimeout d fun e => e.fld Reg.GLB_SHADOW_OF.sub_state = 2 ∧ e.rejoinPhase = 0 ∧ e.mode = Mode.shadow ∧ e.mem = d.mem)) ∧
    (d.isShadow = true → d.pairUp = true → Completes (.time tb3) d fun e => (∃ off adj : Int, -(2 ^ 39) ≤ off ∧ off ≤ 2 ^ 39 ∧ -549755814 ≤ adj ∧ adj ≤ 549755813 ∧
      (e.base 3).v = (((tb3 * 2 ^ 24 + d.fld Reg.PAIR_STAT.latency_ns * 2 ^ 40 : Nat) : Int) + off).toNat % 2 ^ 104 ∧ (e.base 3).adj = adj) ∧
      (∀ b, b ≠ 3 → e.base b = d.base b) ∧ e.mem = d.mem) ∧
    (d.isShadow = false → Completes (.time tb3) d fun e => e = d) ∧
    (d.flag Reg.PAIR_STAT.partner_lost = true → d.isActive = true → Completes (.failoverRingServe reads) d fun e => e.duo.announced = [] ∧ e.duo.finished = [] ∧
      e.duo.records = [] ∧ e.mem = d.mem) ∧
    ((d.flag Reg.PAIR_STAT.partner_lost = false ∨ d.isActive = false) → Completes (.failoverRingServe reads) d fun e => e = d)

/-- LINES, DIGESTS AND MESSAGES OF A PAIR (R336 to R342, R344, R345, R350, R351). What the ACTIVE decides reaches the SHADOW: line starts, the grid's
datum, bands, BAR2 writes, setpoint codes, axis states, reported requests and lines; events pass to the SHADOW's ring or the ACTIVE's queue; completions are
held until both devices agree; each line commits with an LSTAT; digests that differ open a dispute, for which each device sends its recomputation and which
both recomputations settle. -/
def Obligations.ThePartnersShareLinesDigestsAndCompletions : Prop :=
  ∀ (d : Dev) (z t mask pos k line pseq v page ring index status result cause slot o : Nat) (ready : Bool) (s : Shot) (x : Dispute) (r : Option Nat)
    (fault : Option (Option Nat)) (c : Completion) (bs : List Byte) (jb : Nat × Job) (ax : Axis) (n : Nat × Nat × Nat × Nat), k < 32 →
    (d.shadowServes = true →
      (d.startJob d.pac.starts = none → Completes (.lineStart z t mask) d fun e => e.duo.starts = d.duo.starts ++ [(z, t, mask)] ∧ { e with duo := d.duo } = d) ∧
      (d.startJob d.pac.starts = some jb → jb.2.start + z ≤ d.pac.starts → Completes (.lineStart z t mask) d fun e => e.duo = d.duo ∧ e.regs = d.regs ∧
        ∀ y ∈ (e.hport k).due, y.start = jb.2.start + z → y.time = t + d.fld Reg.PAC_FIRE_DLY.fire_dly_ns * 65536 ∧ (mask.testBit k = true → y.cause ≠ 0)) ∧
      Completes (.datum 0 pos) d (fun e => e.pac.grid = true ∧ e.pac.p0 = pos ∧ e.pac.starts = 0 ∧ e.pac.j = 1 ∧ e.mem = d.mem) ∧
      (d.seq.pages = [] → Completes (.band page line v) d fun e => e.duo.bands = d.duo.bands ++ [(page, line, v)] ∧ { e with duo := d.duo } = d) ∧
      (d.marginImage = false → d.inFitted (d.winAddr o) bs.length = true → (linesOf (d.winAddr o) bs.length).any d.lineBad = false → Completes (.host (.bar2 o bs)) d fun e =>
        e.mem.readBytes (d.winAddr o) bs.length = bs ∧ d.MemBut (d.winAddr o) bs.length e) ∧
      (56 ≤ ring → ring < 64 → d.isActive = false → Completes (.event ring slot bs) d fun e => e.ringHead ring = (slot + 1) % d.ringSlots ring % 2 ^ 16 ∧
        e.fld (Reg.HDMA_RING_SEQ.seq ring) = leAt bs 12 4 ∧ (Tab.get e.flt.rings EvRing.empty (ring - 56)).nextSeq = seqNext (leAt bs 12 4) ∧
        (ring, slot, bs) ∈ e.duo.records ∧ e.mem = d.mem)) ∧
    (d.shadowServes = false → Completes (.lineStart z t mask) d (fun e => e = d) ∧ Completes (.datum 0 pos) d (fun e => e = d) ∧
      Completes (.band page line v) d (fun e => e = d) ∧ Completes (.host (.bar2 o bs)) d fun e => e = d) ∧
    (d.isActive = true → d.chapterRing (leAt bs 8 2) (leAt bs 16 8) = some 0 → (Tab.get d.flt.rings EvRing.empty 0).waiting.length < backlogRoom →
      Completes (.event ring slot bs) d fun e => e.mem = d.mem ∧ ∃ w : EvRec, (Tab.get e.flt.rings EvRing.empty 0).waiting = (Tab.get d.flt.rings EvRing.empty 0).waiting ++ [w] ∧
        w.partner = true ∧ w.code = leAt bs 8 2 ∧ w.time = leAt bs 0 8 ∧ w.arg0 = leAt bs 16 8 ∧ w.arg1 = leAt bs 24 8) ∧
    (d.pairServes = true →
      (d.duo.held.find? (fun c => c.ring == ring && c.index == index) = some c → Completes (.done ring index status result) d fun e => d.PairSent c.done e ∧
        e.duo.held = d.duo.held.filter (fun c => !(c.ring == ring && c.index == index)) ∧
        ∃ os, d.Sent (.write (d.slotAddr c.ring c.index + c.offset) c.bytes :: .write (d.slotAddr c.ring c.index + 31) [0#8] :: os) e) ∧
      (d.duo.held.find? (fun c => c.ring == ring && c.index == index) = none → Completes (.done ring index status result) d fun e =>
        e.duo.dones = d.duo.dones ++ [(ring, index, status, result)] ∧ { e with duo := d.duo } = d)) ∧
    (d.pairServes = false → d.shadowServes = true → d.duo.finished.find? (fun c => c.ring == ring && c.index == index) = some c →
      (c.status = status → c.result = result → Completes (.done ring index status result) d fun e => c ∈ e.duo.announced ∧
        e.duo.finished = d.duo.finished.filter (fun c => !(c.ring == ring && c.index == index)) ∧ { e with duo := d.duo } = d) ∧
      ((c.status ≠ status ∨ c.result ≠ result) → Completes (.done ring index status result) d fun e => e.fld Reg.GLB_SHADOW_OF.sub_state = 2 ∧ e.rejoinPhase = 0)) ∧
    (d.isShadow = true →
      Completes (.state [] [] [z * 16 + 1] []) d (fun e => e.msr.samples = d.msr.samples.filter (·.ctx != z) ∧ { e with msr := d.msr } = d) ∧
      Completes (.state [] [(k, t, ax)] [] []) d (fun e => Tab.get e.mot.told 0 k = t ∧ e.axis k = ax ∧ e.mem = d.mem) ∧
      Completes (.state [(k, v)] [] [] []) d (fun e => e.fld (Reg.MSR_VSET_NOW.code k) = v % 2 ^ (Reg.MSR_VSET_NOW.code k).width ∧
        d.OnlyRegs [Reg.MSR_VSET_NOW.addr k] e) ∧
      ((linesOf o bs.length).any d.lineBad = false → Completes (.state [] [] [] [(o, bs)]) d fun e => e.mem.readBytes o bs.length = bs ∧ d.MemBut o bs.length e)) ∧
    (d.isShadow = false → Completes (.state [] [] [z] [(o, bs)]) d fun e => e = d) ∧
    (d.pairLines = true →
      ((d.hport k).due = [s] → s.ready = none → d.isShadow = false → Completes (.lineCommitPoint k) d fun e =>
        (e.hport k).due = [{ s with cause := (d.commitCause k s).1, detail := (d.commitCause k s).2, ready := some ((d.commitCause k s).1 == 0) }] ∧
        d.PairSent (.lstat k s.line ((d.commitCause k s).1 == 0) (d.commitCause k s).1) e) ∧
      (d.lineStands k line = true → Completes (.lstat k line ready cause) d fun e => e.duo.lstats = d.duo.lstats ++ [(k, line, ready, cause)] ∧ { e with duo := d.duo } = d) ∧
      (d.lineStands k line = false → Completes (.lstat k line ready cause) d fun e => e = d) ∧
      (d.duo.mine.find? (fun e => e.1 == k && e.2.2.1 == line && d.pseq e.2.1 == pseq) = none → Completes (.digest k line pseq v) d fun e =>
        e.duo.theirs = d.duo.theirs ++ [(k, line, pseq, v)] ∧ { e with duo := d.duo } = d) ∧
      (d.duo.mine.find? (fun e => e.1 == k && e.2.2.1 == line && d.pseq e.2.1 == pseq) = some n → n.2.2.2 < 2 ^ 32 → v < 2 ^ 32 →
        (v = n.2.2.2 → Completes (.digest k line pseq v) d fun e => e.duo.disputes = d.duo.disputes) ∧
        (v ≠ n.2.2.2 → d.duo.disputes.length ≤ 16 → Completes (.digest k line pseq v) d fun e =>
          e.duo.disputes = d.duo.disputes ++ [⟨k, n.2.1, line, n.2.2.2, v, none, none⟩] ∧ e.mem = d.mem))) ∧
    (d.pairLines = false → Completes (.lineCommitPoint k) d (fun e => e = d) ∧ Completes (.lstat k line ready cause) d (fun e => e = d) ∧
      Completes (.digest k line pseq v) d fun e => e = d) ∧
    (d.duo.disputes = [x] → d.pairUp = true → x.own = none → x.other = none → r = fault.getD (d.lineAgain x.port x.page x.line) →
      Completes (.disputeRecomputeDone fault) d fun e => d.PairSent (.recomp x.port x.line r) e ∧
      e.duo.disputes = [{ x with own := some r }] ∧ { e with duo := d.duo } = d) ∧
    (d.duo.disputes = [] → Completes (.disputeRecomputeDone fault) d fun e => e = d) ∧
    (d.duo.disputes = [x] →
      (x.own = none → Completes (.recomp x.port x.line r) d fun e => e.duo.disputes = [{ x with other := some r }] ∧ { e with duo := d.duo } = d) ∧
      (∀ own, x.own = some own → d.isShadow = false → Completes (.recomp x.port x.line r) d fun e => e.duo.disputes = [] ∧ e.mem = d.mem ∧
        e.fld Reg.PAIR_DISPUTE.no_majority = (d.fld Reg.PAIR_DISPUTE.no_majority + if disputeOutcome x.mine x.theirs own r = 3 then 1 else 0) % 2 ^ 16 ∧
        e.fld Reg.PAIR_DISPUTE.resolved = (d.fld Reg.PAIR_DISPUTE.resolved + if disputeOutcome x.mine x.theirs own r = 3 then 0 else 1) % 2 ^ 16))

/-- THE REJOIN (R355, R356). With the partner in REJOIN and equal match values the ACTIVE sends its setpoint codes and every frame of every region,
then rounds of those written since, pauses, sends the snapshot, and ends; the SHADOW takes frames and snapshot and enters MIRROR at a band boundary. A rejoin
is abandoned when the link is down, a frame lay beyond the SHADOW's F, or the ACTIVE has left the mode it had at the start. -/
def Obligations.TheRejoinBringsTheShadowIntoMirror : Prop :=
  ∀ (d : Dev) (n reason mode : Nat) (bytes : List Byte) (snap : Snap),
    (d.isActive = true → d.pairUp = true → d.duo.peer = some ⟨Role.shadow, mode, false⟩ → d.flag Reg.PAIR_STAT.match_ok = true → (d.rejoinPhase = 0 ∨ d.rejoinPhase = 6) →
      Completes .rejoinStart d fun e => e.rejoinPhase = 1 ∧ e.fld Reg.PAIR_REJOIN_STAT.round = 0 ∧ e.mem = d.mem ∧
        (e.duo.out.drop d.duo.out.length).map (·.2) =
          .state ((List.range 32).map fun k => (k, d.fld (Reg.MSR_VSET_NOW.code k))) [] [] [] :: d.regionFrames.map (fun f => PairMsg.frame f (d.mem.readBytes (65536 * f) 65536)) ∧
        e.pair Reg.PAIR_REJOIN_BYTES_LO.addr = (d.pair Reg.PAIR_REJOIN_BYTES_LO.addr + 65536 * d.regionFrames.length) % 2 ^ 64) ∧
    ((d.isActive = false ∨ d.pairUp = false ∨ d.duo.peer = none) → Completes .rejoinStart d fun e => e = d) ∧
    (d.pairUp = true → d.isActive = true →
      (d.rejoinPhase = 1 → Completes .rejoinPhaseEnd d fun e => e.rejoinPhase = 2 ∧ e.fld Reg.PAIR_REJOIN_STAT.round = 1 ∧ e.fld Reg.PAIR_REJOIN_STAT.pct = 100 ∧
        e.duo.dirty = [] ∧ e.mem = d.mem) ∧
      (d.rejoinPhase = 2 → (d.duo.dirty.length ≤ 256 ∨ 8 ≤ d.fld Reg.PAIR_REJOIN_STAT.round) → Completes .rejoinPhaseEnd d fun e => e.rejoinPhase = 3 ∧
        d.OnlyRegs [Reg.PAIR_REJOIN_STAT.addr] e) ∧
      (d.rejoinPhase = 2 → 256 < d.duo.dirty.length → d.fld Reg.PAIR_REJOIN_STAT.round < 8 → Completes .rejoinPhaseEnd d fun e => e.rejoinPhase = 2 ∧
        e.fld Reg.PAIR_REJOIN_STAT.round = d.fld Reg.PAIR_REJOIN_STAT.round + 1 ∧ e.duo.dirty = []) ∧
      (d.rejoinPhase = 3 → (d.pageIsOpen = false ∨ d.duo.snap ≠ none) → Completes .rejoinPhaseEnd d fun e => e.rejoinPhase = 4 ∧ e.duo.snap = none) ∧
      (d.rejoinPhase = 4 → Completes .rejoinPhaseEnd d fun e => e.rejoinPhase = 5 ∧ d.OnlyRegs [Reg.PAIR_REJOIN_STAT.addr] e) ∧
      (d.rejoinPhase = 5 → Completes .rejoinPhaseEnd d fun e => e.rejoinPhase = 6 ∧ e.fld Reg.RUN_ENC_STAT.rejoin = 0 ∧ e.mem = d.mem)) ∧
    (d.pairUp = true → d.isActive = false → d.isShadow = true →
      (d.rejoinPhase = 4 → Completes .rejoinPhaseEnd d fun e => e.rejoinPhase = 5 ∧ e.mem = d.mem) ∧
      (d.rejoinPhase = 5 → d.bandBoundary = true → Completes .rejoinPhaseEnd d fun e => e.isMirror = true ∧ e.rejoinPhase = 6 ∧ e.mem = d.mem) ∧
      (d.rejoinPhase = 5 → d.bandBoundary = false → Completes .rejoinPhaseEnd d fun e => e = d)) ∧
    (d.pairUp = false → Completes .rejoinPhaseEnd d fun e => e = d) ∧
    (1 ≤ d.rejoinPhase → d.rejoinPhase ≠ 6 → ((reason = 1 ∧ d.pairUp = false) ∨ (reason = 2 ∧ d.duo.beyond = true) ∨
        (reason = 3 ∧ (if d.isShadow = true then d.peerMode else d.mode) ≠ d.duo.rejoinMode)) →
      (d.isShadow = true → d.isActive = false → Completes (.rejoinAbandon reason) d fun e => e.rejoinPhase = 0 ∧ e.fld Reg.GLB_SHADOW_OF.sub_state = 2 ∧ e.mem = d.mem) ∧
      (d.isShadow = false → d.pairServes = false → d.hasRoom 0x80 = true → Completes (.rejoinAbandon reason) d fun e => e.rejoinPhase = 0 ∧ e.duo.dirty = [] ∧
        e.duo.snap = none ∧ e.mem = d.mem ∧
        e.raisedBy 0x80 = d.raisedBy 0x80 ++ [⟨d.tb2ns, 0x80, Sev.warn, 0x100B, reason, d.rejoinPhase, none, false, false, false⟩])) ∧
    ((d.rejoinPhase = 0 ∨ d.rejoinPhase = 6 ∨ (reason = 1 ∧ d.pairUp = true) ∨ (reason = 2 ∧ d.duo.beyond = false)) →
      Completes (.rejoinAbandon reason) d fun e => e = d) ∧
    (d.isShadow = true → d.isMirror = false →
      (bytes.length = 65536 → d.inFitted (65536 * n) 65536 = true → Completes (.rejoin (.frame n bytes)) d fun e => e.mem.readBytes (65536 * n) 65536 = bytes ∧
        d.MemBut (65536 * n) 65536 e ∧ e.rejoinPhase = (if d.rejoinPhase = 0 ∨ d.rejoinPhase = 6 then 1 else d.rejoinPhase) ∧
        e.pair Reg.PAIR_REJOIN_BYTES_LO.addr = (d.pair Reg.PAIR_REJOIN_BYTES_LO.addr + 65536) % 2 ^ 64) ∧
      (d.inFitted (65536 * n) 65536 = false → Completes (.rejoin (.frame n bytes)) d fun e => e.duo.beyond = true ∧ { e with duo := d.duo } = d) ∧
      Completes (.rejoin (.snapshot snap)) d (fun e => e.rejoinPhase = 4 ∧ e.dcr = snap.dcr ∧ e.mot.asked = snap.asked ∧ e.pac.p0 = snap.pac.p0 ∧ e.nrg.hist = snap.hist ∧
        e.seq.jobs = snap.seq.jobs ∧ e.mem = d.mem)) ∧
    (d.isShadow = false → Completes (.rejoin (.snapshot snap)) d fun e => e = d)

/-! ### Time, check values and triggers -/

/-- ETHERNET AND PTP (R369, R370, R373, R377 to R380, R385). A frame that may pass is forwarded, an event message corrected for its
residence; over-long frames, and those for the device that it does not take, are counted, short and doubly tagged ones dropped. Own frames leave in order, each on
its domain's carrier, Sync with its own time. A slave's samples steer its base, a master answers and announces, peer delays are measured, the best dataset
decides the state, and a parent that falls silent is dropped. -/
def Obligations.FramesPtpMessagesAndTheServoFollowTheirRules : Prop :=
  ∀ (d : Dev) (p i res origin seq src changes t4 req : Nat) (t2 corr : Int) (up two : Bool) (f : EthFrame) (m : Ptp) (own : OwnFrame) (carrier : Carrier) (rest : List OwnFrame) (set : ClockSet),
    p < 2 → i < 2 →
    (d.ethUp p = true → f.fcsBad = false →
      (64 ≤ f.len → f.len ≤ 1522 → f.tags ≤ 1 → f.dst = .other → d.flag Reg.TIM_ETH_CFG.fwd_en = true → d.ethUp (1 - p) = true →
        (f.ptp = none → Completes (.ethFrameReceive p res false f) d fun e => e.tim.out = d.tim.out ++ [.forwarded (1 - p) f] ∧
          e.fld (Reg.TIM_PORT_FWD.frames (1 - p)) = (d.fld (Reg.TIM_PORT_FWD.frames (1 - p)) + 1) % 2 ^ 32 ∧ e.mem = d.mem) ∧
        (f.ptp = some m → m.isEvent = true → m.isPeer = false → d.fld Reg.TIM_ETH_CFG.tc_mode ≠ 0 → Completes (.ethFrameReceive p res false f) d fun e =>
          e.tim.out = d.tim.out ++ [.forwarded (1 - p) { f with ptp := some (d.corrected p res m) }] ∧ e.mem = d.mem) ∧
        (f.ptp = none → Completes (.ethFrameReceive p res true f) d fun e => e.tim = d.tim ∧
          e.fld (Reg.TIM_PORT_DROP.fifo (1 - p)) = min (d.fld (Reg.TIM_PORT_DROP.fifo (1 - p)) + 1) (2 ^ 16 - 1))) ∧
      (f.len ≤ 1522 → (f.len < 64 ∨ 1 < f.tags) → Completes (.ethFrameReceive p res false f) d fun e => e = d) ∧
      (1522 < f.len → Completes (.ethFrameReceive p res false f) d fun e => (e.ethPort p).tooLong = (d.ethPort p).tooLong + 1 ∧
        { e with tim := d.tim } = d ∧ e.tim.out = d.tim.out) ∧
      (64 ≤ f.len → f.len ≤ 1522 → f.tags ≤ 1 → f.dst = .own → f.ptp = none → f.beacon = false → Completes (.ethFrameReceive p res false f) d fun e =>
        (e.ethPort p).discarded = (d.ethPort p).discarded + 1 ∧ { e with tim := d.tim } = d ∧ e.tim.out = d.tim.out)) ∧
    (d.ethUp p = false → Completes (.ethFrameReceive p res false f) d fun e => e = d) ∧
    (d.timeRuns = true → d.flag (Reg.TIM_PORT_STAT.link_up p) ≠ up → (up = false ∨ d.fld Reg.TIM_ETH_CFG.speed ≠ 2) → d.hasRoom 0x90 = true →
      Completes (.ethLinkChange p up) d fun e => e.flag (Reg.TIM_PORT_STAT.link_up p) = up ∧ e.mem = d.mem ∧ e.raisedBy 0x90 = d.raisedBy 0x90 ++
        [⟨d.tb2ns, 0x90, Sev.info, 0x1201, p * 256 + if up then 1 else 0, (d.ethPort p).drops + if up then 0 else 1, none, false, false, false⟩]) ∧
    (d.flag (Reg.TIM_PORT_STAT.link_up p) = up → Completes (.ethLinkChange p up) d fun e => e = d) ∧
    ((d.ethPort p).own = [] → Completes (.ownFrameSend p) d fun e => e = d) ∧
    ((d.ethPort p).own = own :: rest → Completes (.ownFrameSend p) d fun e => (e.ethPort p).own = rest ∧ e.regs = d.regs ∧ e.mem = d.mem ∧
      (d.ethUp p = false → e.tim.out = d.tim.out) ∧
      (d.ethUp p = true → ∀ n, own = .ptp (some i) carrier ⟨n, seq, corr, src, .sync two 0⟩ → e.tim.out = d.tim.out ++
        [.sent p (.ptp (some i) carrier ⟨n, seq, corr + (d.tbRead i % 65536 : Nat), src, .sync two (d.tbRead i / 65536 * 65536)⟩)])) ∧
    (d.ethUp p = true → d.domsOf m.domain = [i] →
      (d.fromParent i p m = true →
        (m.body = .sync false origin → Completes (.ptpSyncReceive p m) d fun e =>
          d.ServoTook i ((d.tbRead i : Int) - origin - (m.corr + d.asym p) - meanInt (d.pathList i)) e) ∧
        (m.body = .sync true origin → Completes (.ptpSyncReceive p m) d fun e => e.regs = d.regs ∧
          (e.dom i).sync = some (m.seq, m.source, p, (d.tbRead i : Int), m.corr + d.asym p, (d.dom i).changes)) ∧
        (m.body = .followUp origin → (d.dom i).sync = some (m.seq, m.source, p, t2, corr, changes) →
          (changes = (d.dom i).changes → Completes (.ptpFollowUpReceive p m) d fun e => (e.dom i).sync = none ∧
            d.ServoTook i (t2 - origin - (corr + m.corr) - meanInt (d.pathList i)) e) ∧
          (changes ≠ (d.dom i).changes → Completes (.ptpFollowUpReceive p m) d fun e => (e.dom i).sync = none ∧ e.regs = d.regs ∧ e.base i = d.base i)) ∧
        (m.body = .delayResp t4 (d.portId p) → (d.dom i).req = some (m.seq, t2) → (d.dom i).last = some corr → Completes (.ptpDelayRespReceive p m) d fun e =>
          (e.dom i).req = none ∧ (e.dom i).paths = (((corr + ((t4 : Int) - t2 - m.corr)) / 2) :: (d.dom i).paths).take 8 ∧ e.mem = d.mem)) ∧
      (m.body = .delayReq → d.domState i = DomState.master → Completes (.ptpDelayReqReceive p m) d fun e => e.regs = d.regs ∧ (e.ethPort p).own = (d.ethPort p).own ++
        [d.ptpFrame (some i) ⟨m.domain, m.seq, m.corr - (d.tbRead i % 65536 : Nat), d.portId p, .delayResp (d.tbRead i / 65536 * 65536) m.source⟩]) ∧
      (m.body = .delayReq → d.domState i ≠ DomState.master → Completes (.ptpDelayReqReceive p m) d fun e => e = d) ∧
      (m.body = .announce set → (d.dom i).foreign = [] → d.domState i ≠ DomState.master → (d.flag (Reg.TIM_DOM_CFG.master_ok i) = false ∨
          (d.ownSet i).better { set with sender := m.source } = false) → Completes (.ptpAnnounceReceive p m) d fun e => e.domState i = DomState.slave ∧
        e.fld (Reg.TIM_DOM_STAT.slave_port i) = p ∧ (e.dom i).foreign = [({ set with sender := m.source }, p)] ∧
        e.pair (Reg.TIM_PARENT_LO.addr i) = m.source / 2 ^ 16 % 2 ^ 64) ∧
      (m.body = .announce set → (d.dom i).foreign = [] → d.flag (Reg.TIM_DOM_CFG.master_ok i) = true → (d.ownSet i).better { set with sender := m.source } = true →
        Completes (.ptpAnnounceReceive p m) d fun e => e.domState i = DomState.master)) ∧
    (d.ethUp p = true →
      (m.body = .pdelayReq → Completes (.ptpPdelayReqReceive p m) d fun e => e.regs = d.regs ∧ (e.ethPort p).own = (d.ethPort p).own ++
        [d.ptpFrame none ⟨m.domain, m.seq, m.corr, d.portId p, .pdelayResp false (d.tbRead 2) m.source⟩]) ∧
      (m.body = .pdelayResp false req (d.portId p) → (d.ethPort p).req = some (m.seq, t2) → Completes (.ptpPdelayRespReceive p m) d fun e =>
        (e.ethPort p).req = none ∧ e.mem = d.mem ∧
        (e.ethPort p).delays = ((((d.tbRead 2 : Int) - t2 - m.corr - d.asym p) / 2) :: (d.ethPort p).delays).take 8) ∧
      (m.body = .pdelayResp true req (d.portId p) → (d.ethPort p).req = some (m.seq, t2) → Completes (.ptpPdelayRespReceive p m) d fun e =>
        (e.ethPort p).resp = some (m.seq, (d.tbRead 2 : Int) - t2 - m.corr - d.asym p, req) ∧ e.regs = d.regs) ∧
      Completes (.ptpPdelayTimer p) d (fun e => e.regs = d.regs ∧ (e.ethPort p).seqs = ((d.ethPort p).seqs + 1) % 2 ^ 16 ∧ (e.ethPort p).own = (d.ethPort p).own ++
        [d.ptpFrame none ⟨d.fld (Reg.TIM_DOM_CFG.domain 0), (d.ethPort p).seqs, 0, d.portId p, .pdelayReq⟩])) ∧
    (d.ethUp p = false → Completes (.ptpPdelayTimer p) d fun e => e = d) ∧
    (d.timeRuns = true → d.domState i = DomState.master →
      Completes (.ptpSyncTimer i) d (fun e => e.regs = d.regs ∧ (e.dom i).syncSeq = ((d.dom i).syncSeq + 1) % 2 ^ 16 ∧ (e.ethPort p).own = (d.ethPort p).own ++
        [d.ptpFrame (some i) ⟨d.fld (Reg.TIM_DOM_CFG.domain i), (d.dom i).syncSeq, 0, d.portId p, .sync false 0⟩]) ∧
      Completes (.ptpAnnounceTimer i) d (fun e => e.regs = d.regs ∧ (e.dom i).annSeq = ((d.dom i).annSeq + 1) % 2 ^ 16 ∧ (e.ethPort p).own = (d.ethPort p).own ++
        [d.ptpFrame (some i) ⟨d.fld (Reg.TIM_DOM_CFG.domain i), (d.dom i).annSeq, 0, d.portId p, .announce { d.ownSet i with sender := d.portId p }⟩])) ∧
    (d.timeRuns = true → d.domState i = DomState.slave → d.flag (Reg.TIM_DOM_CFG.delay i) = false → d.fld (Reg.TIM_DOM_STAT.slave_port i) = p →
      Completes (.ptpDelayReqTimer i) d fun e => e.regs = d.regs ∧ (e.dom i).reqSeq = ((d.dom i).reqSeq + 1) % 2 ^ 16 ∧ (e.ethPort p).own = (d.ethPort p).own ++
        [d.ptpFrame (some i) ⟨d.fld (Reg.TIM_DOM_CFG.domain i), (d.dom i).reqSeq, 0, d.portId p, .delayReq⟩]) ∧
    (d.timeRuns = true → d.domState i ≠ DomState.master → Completes (.ptpSyncTimer i) d (fun e => e = d) ∧ Completes (.ptpAnnounceTimer i) d fun e => e = d) ∧
    (d.timeRuns = true → d.flag (Reg.TIM_DOM_CFG.en i) = true → (d.dom i).foreign = [(set, p)] → d.domState i = DomState.slave →
      Completes (.ptpAnnounceTimeout i) d fun e => e.domState i = DomState.holdover ∧ (e.dom i).foreign = [] ∧ e.flag (Reg.TIM_DOM_STAT.locked i) = false ∧ e.mem = d.mem) ∧
    (d.timeRuns = true → d.flag (Reg.TIM_DOM_CFG.en i) = true → (d.dom i).foreign = [] → d.domState i = DomState.listening → d.flag (Reg.TIM_DOM_CFG.master_ok i) = true →
      Completes (.ptpAnnounceTimeout i) d fun e => e.domState i = DomState.master ∧ e.mem = d.mem)

/-- CHECK-VALUE SCANS START OR ARE REFUSED (R360, R361, R366). In the modes in which the units run, a START of a free unit whose length, space, range and
continuation are legal begins the scan on CRC_ADDR and CRC_LEN as they stand, from the polynomial's Init or from the register of the scan before; any
other ends with ILLEGAL and reads nothing, and one of a busy unit with BUSY, the scan going on. -/
def Obligations.CheckValueScansStartOrAreRefused : Prop :=
  ∀ (d : Dev) (u space poly addr len : Nat) (cont : Bool) (w : Word) (c : CrcUnit), u < 8 → c = d.crcUnit u →
    space = w.toNat / 2 ^ 4 % 4 → poly = w.toNat / 2 ^ 8 % 4 → addr = d.pair (Reg.CRC_ADDR_LO.addr u) % 2 ^ 40 →
    len = d.pair (Reg.CRC_LEN_LO.addr u) % 2 ^ 40 → cont = w.toNat.testBit 13 →
    (d.crcModes = true →
      (c.running = true → Completes (.crcStart u w) d fun e => e.fld (Reg.CRC_STAT.result u) = CrcRes.busy ∧ e.crcUnit u = c ∧
        d.OnlyRegs [Reg.CRC_STAT.addr u] e) ∧
      (c.running = false → (len = 0 ∨ space = 3 ∨ d.crcLimit space < addr + len ∨ (space = 2 ∧ d.fld Reg.CFG_FLASH_INFO.if_mode = 0) ∨
          (cont = true ∧ c.cont ≠ some poly)) →
        Completes (.crcStart u w) d fun e => e.fld (Reg.CRC_STAT.result u) = CrcRes.illegal ∧ (e.crcUnit u).running = false ∧
          d.OnlyRegs [Reg.CRC_STAT.addr u] e) ∧
      (c.running = false → len ≠ 0 → space < 3 → addr + len ≤ d.crcLimit space → (space = 2 → d.fld Reg.CFG_FLASH_INFO.if_mode ≠ 0) →
        (cont = true → c.cont = some poly) → Completes (.crcStart u w) d fun e =>
        (e.crcUnit u).running = true ∧ (e.crcUnit u).space = space ∧ (e.crcUnit u).poly = poly ∧ (e.crcUnit u).addr = addr ∧ (e.crcUnit u).len = len ∧
        (e.crcUnit u).start = (if cont then c.left else crcInit poly) ∧ (e.crcUnit u).cmp = w.toNat.testBit 12 ∧
        (e.crcUnit u).expect = d.pair (Reg.CRC_EXP_LO.addr u) % 2 ^ crcWidth poly ∧
        e.flag (Reg.CRC_STAT.busy u) = true ∧ (e.fld Reg.CRC_BUSY.busy).testBit u = true ∧
        d.OnlyRegs [Reg.CRC_STAT.addr u, Reg.CRC_BUSY.addr] { e with crc := d.crc })) ∧
    (d.crcModes = false → Completes (.crcStart u w) d fun e => e = d)

/-- CHECK VALUES, TRIGGERS AND COUNTERS (R359, R362 to R367, R381, R384, R414, R415). A scan that neither a busy flash, panic
nor a refetch holds ends with the CRC of what it read and its comparison, or with its memory failure (no fault log); a CANCEL ends it where it stands. Trigger units
are armed and disarmed where TIM_TRG_CTL responds, and each event counts and drives its target (a pulse, a snapshot). Counters are cleared, copied and frozen. -/
def Obligations.ScansTriggersAndCountersFollowTheirCommands : Prop :=
  ∀ (d : Dev) (u scanned n sense a : Nat) (w : Word) (uvs : List Nat) (c : CrcUnit), u < 8 → n < 16 → c = d.crcUnit u →
    (d.crcModes = true → c.running = true → Completes (.crcCancel u scanned) d fun e => (e.crcUnit u).running = false ∧ (e.crcUnit u).cont = none ∧
      e.fld (Reg.CRC_STAT.result u) = CrcRes.cancelled ∧ e.pair (Reg.CRC_POS_LO.addr u) = min scanned c.len % 2 ^ 64 ∧ e.mem = d.mem) ∧
    (c.running = false → Completes (.crcCancel u scanned) d (fun e => e = d) ∧ Completes (.crcScanEnd u none) d fun e => e = d) ∧
    (c.running = true → (c.space ≠ 2 ∨ d.cfg.cmd = none) → (c.space = 0 → d.flag Reg.MEM_STAT.panic = false ∧ d.waitsRefetch (.other (0x88 + u)) = false) →
      (d.crcMemFail c = none → Completes (.crcScanEnd u none) d fun e => (e.crcUnit u).running = false ∧ e.mem = d.mem ∧
        (e.crcUnit u).cont = some c.poly ∧ (e.crcUnit u).left = crcRun c.poly c.start (d.crcBytes c) ∧
        e.pair (Reg.CRC_RESULT_LO.addr u) = crcFinal c.poly (crcRun c.poly c.start (d.crcBytes c)) % 2 ^ 64 ∧ e.pair (Reg.CRC_POS_LO.addr u) = c.len % 2 ^ 64 ∧
        e.fld (Reg.CRC_STAT.count u) = (d.fld (Reg.CRC_STAT.count u) + 1) % 2 ^ 16 ∧
        e.fld (Reg.CRC_STAT.result u) = (if c.cmp then (if crcFinal c.poly (crcRun c.poly c.start (d.crcBytes c)) = c.expect then CrcRes.match_ else CrcRes.mismatch)
          else CrcRes.done)) ∧
      (d.crcMemFail c = some a → d.fld Reg.MIG_LOG_LEN.len = 0 → d.hasRoom (0x88 + u) = true → Completes (.crcScanEnd u none) d fun e => (e.crcUnit u).running = false ∧ e.mem = d.mem ∧
        e.fld (Reg.CRC_STAT.result u) = CrcRes.mem ∧ e.pair (Reg.CRC_POS_LO.addr u) = a % 2 ^ 64 ∧
        e.raisedBy (0x88 + u) = d.raisedBy (0x88 + u) ++ [⟨d.tb2ns, 0x88 + u, Sev.warn, 0x1103, CrcRes.mem * 256 + u, a, none, false, false, false⟩])) ∧
    (d.timeRuns = true →
      (d.trg n).armed = true → d.trgNext n ≤ d.tbRead (d.fld (Reg.TIM_TRG_CFG.tb n)) →
      (d.fld (Reg.TIM_TRG_CFG.target n) = 5 → d.mode ≠ Mode.safe → Completes (.triggerEvent n sense uvs) d fun e => e.mem = d.mem ∧
        e.tim.pulses = d.tim.pulses ++ [(d.fld (Reg.TIM_TRG_CFG.gpio n), d.fld (Reg.TIM_TRG_CFG.width n))] ∧
        (e.trg n).k = (d.trg n).k + 1 ∧ (e.trg n).raised = (d.trg n).raised + 1 ∧
        e.fld (Reg.TIM_TRG_STAT.events n) = (d.fld (Reg.TIM_TRG_STAT.events n) + 1) % 2 ^ 16 ∧
        (e.trg n).armed = (d.fld (Reg.TIM_TRG_COUNT.count n) == 0 || Nat.blt ((d.trg n).raised + 1) (d.fld (Reg.TIM_TRG_COUNT.count n)))) ∧
      (d.fld (Reg.TIM_TRG_CFG.target n) = 6 → Completes (.triggerEvent n sense uvs) d fun e => (e.trg n).k = (d.trg n).k + 1 ∧
        e.fld Reg.PMU_STAT.snap_seq = (d.fld Reg.PMU_STAT.snap_seq + 1) % 2 ^ 16 ∧ e.mem = d.mem)) ∧
    (((d.trg n).armed = false ∨ d.tbRead (d.fld (Reg.TIM_TRG_CFG.tb n)) < d.trgNext n) → Completes (.triggerEvent n sense uvs) d fun e => e = d) ∧
    (c.running = true → c.space = 0 → (d.flag Reg.MEM_STAT.panic = true ∨ d.waitsRefetch (.other (0x88 + u)) = true) →
      Completes (.crcScanEnd u none) d fun e => e = d) ∧
    (d.responds Reg.TIM_TRG_CTL.addr = false → Completes (.triggerArm w) d (fun e => e = d) ∧ Completes (.triggerDisarm w) d fun e => e = d) ∧
    (d.responds Reg.TIM_TRG_CTL.addr = true →
      Completes (.triggerArm w) d (fun e => e.mem = d.mem ∧
        ((w.toNat.testBit n = false ∨ w.toNat.testBit (16 + n) = true ∨ (d.trg n).armed = true) → e.trg n = d.trg n) ∧
        (w.toNat.testBit n = true → w.toNat.testBit (16 + n) = false → (d.trg n).armed = false → d.flag (Reg.TIM_TRG_CFG.abs n) = false →
          e.trg n = ⟨true, d.tbRead (d.fld (Reg.TIM_TRG_CFG.tb n)) + d.pair (Reg.TIM_TRG_START_LO.addr n) * 2 ^ 16, 0, 0⟩ ∧
          e.flag (Reg.TIM_TRG_STAT.armed n) = true)) ∧
      Completes (.triggerDisarm w) d (fun e => e.mem = d.mem ∧ (e.trg n).armed = ((d.trg n).armed && !(w.toNat.testBit (16 + n))) ∧
        (w.toNat.testBit (16 + n) = true → e.flag (Reg.TIM_TRG_STAT.armed n) = false))) ∧
    (d.responds Reg.PMU_CTL.addr = true →
      Completes .pmuClear d (fun e => (∀ x, x < 256 → e.pair (Reg.PMU_CNT_LO.addr x) = 0) ∧ d.RegsBelow 0x1501000 [] e ∧ e.mem = d.mem) ∧
      (d.flag Reg.PMU_STAT.snap_busy = false → Completes .pmuSnap d fun e => (∀ x, x < 256 → e.pair (Reg.PMU_SHD_LO.addr x) = d.pair (Reg.PMU_CNT_LO.addr x)) ∧
        e.pair Reg.PMU_SNAP_TIME_LO.addr = d.tb2ns % 2 ^ 64 ∧ e.fld Reg.PMU_STAT.snap_seq = (d.fld Reg.PMU_STAT.snap_seq + 1) % 2 ^ 16 ∧ e.mem = d.mem) ∧
      (d.flag Reg.PMU_STAT.snap_busy = true → Completes .pmuSnap d fun e => d.OnlyRegs [Reg.PMU_STAT.addr] e ∧
        e.fld Reg.PMU_STAT.snap_missed = min (d.fld Reg.PMU_STAT.snap_missed + 1) 255) ∧
      Completes .pmuFreeze d (fun e => e.flag Reg.PMU_STAT.frozen = true ∧ d.OnlyRegs [Reg.PMU_STAT.addr] e) ∧
      Completes .pmuUnfreeze d (fun e => e.flag Reg.PMU_STAT.frozen = false ∧ d.OnlyRegs [Reg.PMU_STAT.addr] e)) ∧
    (d.responds Reg.PMU_CTL.addr = false → ∀ i, i = Instr.pmuClear ∨ i = .pmuSnap ∨ i = .pmuFreeze ∨ i = .pmuUnfreeze → Completes i d fun e => e = d)

/-! ### Axes and the Fantail -/

/-- AXES AND THE ALWAYS-ON SUBSYSTEM (R392, R395, R398, R399, R401 to R409). A still axis holds and is powered down as its hold mode says. A sample of a switch acts
once its filter qualifies it: the first level is noted, an edge counts, latches home where its run began, or faults (homing on a device that is no SHADOW).
The Fantail powers up, samples and filters its inputs, collects wake causes in SLEEP, records a wake and raises or releases the power enables one by one. -/
def Obligations.AxesHoldAndTheFantailWatchesAndWakes : Prop :=
  ∀ (d : Dev) (k i uv levels y : Nat) (which : Nat) (high active wakeN : Bool) (f : Ball), k < 6 → i < 8 →
    (d.axisOn k = true → d.axisStill k = true →
      Completes (.axisIdleTimer k) d (fun e => e.axis k = { d.axis k with holding := true } ∧ e.mem = d.mem) ∧
      ((d.axis k).powered = true → d.fld (Reg.MOT_AX_IDLE.off_ms k) ≠ 0 → Completes (.axisPowerDown k) d fun e =>
        e.axis k = { d.axis k with powered := false, valid := (d.axis k).valid && !(d.flag (Reg.MOT_AX_CFG.hold k)), iA := 0, iB := 0 } ∧
        e.fld (Reg.MOT_AX_DUTY.duty_a k) = 0 ∧ e.fld (Reg.MOT_AX_DUTY.duty_b k) = 0 ∧ e.mem = d.mem)) ∧
    (d.axisStill k = false → Completes (.axisIdleTimer k) d (fun e => e = d) ∧ Completes (.axisPowerDown k) d fun e => e = d) ∧
    (which < 2 → d.mode ≠ Mode.reset → d.mode ≠ Mode.sleep → f = (d.switchBall k which).next (d.fld (Reg.MOT_AX_CFG.deb_n k)) high (d.tbRead 2) →
      f.level ≠ some high → Completes (.switchEdge k which high) d fun e => { e with mot := d.mot } = d ∧ e.axis k = d.axis k ∧ e.switchBall k which = f) ∧
    (which < 2 → d.mode ≠ Mode.reset → d.mode ≠ Mode.sleep → f = (d.switchBall k which).next (d.fld (Reg.MOT_AX_CFG.deb_n k)) high (d.tbRead 2) →
      f.level = some high → active = (high != d.flag (if which = 0 then Reg.MOT_AX_CFG.home_pol k else Reg.MOT_AX_CFG.lim_pol k)) →
      ((if which = 0 then (d.axis k).home else (d.axis k).lim) = none → Completes (.switchEdge k which high) d fun e => e.mem = d.mem ∧
        e.axis k = (if which = 0 then { d.axis k with home := some active } else { d.axis k with lim := some active }) ∧
        e.reg (Reg.MOT_AX_SWCNT.addr k) = d.reg (Reg.MOT_AX_SWCNT.addr k)) ∧
      (d.axisOn k = true → (if which = 0 then (d.axis k).home else (d.axis k).lim) = some (!active) →
        ((d.axis k).phase = 0 → Completes (.switchEdge k which high) d fun e => e.mem = d.mem ∧ (e.axis k).p = (d.axis k).p ∧
          (if which = 0 then e.fld (Reg.MOT_AX_SWCNT.home_edges k) = min (d.fld (Reg.MOT_AX_SWCNT.home_edges k) + 1) (2 ^ 16 - 1)
            else e.fld (Reg.MOT_AX_SWCNT.lim_edges k) = min (d.fld (Reg.MOT_AX_SWCNT.lim_edges k) + 1) (2 ^ 16 - 1))) ∧
        ((d.axis k).phase = 3 → which = 0 → active = true → d.isShadow = false → Completes (.switchEdge k which high) d fun e => (e.axis k).phase = 4 ∧
          (e.axis k).latch = (if f.run = 1 then microOf (d.axis k).p else Tab.get d.mot.runAt 0 k) ∧ (e.axis k).seek = false ∧ e.mem = d.mem) ∧
        ((d.axis k).phase ≠ 0 → which = 1 → active = true → d.isShadow = false → Completes (.switchEdge k which high) d fun e => (e.axis k).fault = 2 ∧ (e.axis k).phase = 0 ∧
          (e.axis k).valid = false ∧ e.mem = d.mem))) ∧
    Completes .aonPowerUp d (fun e => e.aonOk = true ∧ e.fld Reg.FAN_STAT.pwr_en = 1 ∧ e.fan.raising = true ∧ e.fld Reg.FAN_LOG_SEQ.seq = 1 ∧ e.fan.aonOwed = some 1 ∧
      e.fan.log = [(0, leBytes 6 0 ++ leBytes 1 8 ++ leBytes 1 0 ++ leBytes 2 0 ++ leBytes 2 0 ++ leBytes 4 1)] ∧ e.fan.rules = [] ∧
      d.RegsBelow 0x1400000 [Reg.GLB_STATUS.addr] e ∧ e.mem = d.mem) ∧
    (d.aonOk = true → d.flag (Reg.FAN_AIN_CFG.en i) = true → (d.awake = false ∨ d.fanTriggered = false) →
      Completes (.fanAinSample i uv) d fun e =>
        Tab.get e.fan.ain FanIn.none_ i =
          (Tab.get d.fan.ain FanIn.none_ i).take (d.flag (Reg.FAN_AIN_CFG.filt i)) (d.fld (Reg.FAN_AIN_CFG.k i)) (d.tbRead 2) (ainCode uv) ∧ e.mem = d.mem ∧
        (((Tab.get d.fan.ain FanIn.none_ i).take (d.flag (Reg.FAN_AIN_CFG.filt i)) (d.fld (Reg.FAN_AIN_CFG.k i)) (d.tbRead 2) (ainCode uv)).output
            (d.flag (Reg.FAN_AIN_CFG.filt i)) = some y →
          e.fld (Reg.FAN_AIN_VAL.y i) = y % 2 ^ 12 ∧ e.flag (Reg.FAN_AIN_VAL.valid i) = true)) ∧
    (d.aonOk = true → Completes (.fanDinSample levels wakeN) d fun e => e.aonMs = (d.aonMs + 1) % 2 ^ 48 ∧ e.mem = d.mem ∧
      Tab.get e.fan.din DinFilter.unknown wakeNFilter = (Tab.get d.fan.din DinFilter.unknown wakeNFilter).sample 3 wakeN ∧
      (d.mode = Mode.sleep → d.fan.raising = false → (Tab.get d.fan.din DinFilter.unknown wakeNFilter).level = some true →
        ((Tab.get d.fan.din DinFilter.unknown wakeNFilter).sample 3 wakeN).level = some false → e.fan.pendingCauses.testBit WakeCause.wakeN = true)) ∧
    (d.aonOk = false → ∀ c, c = Instr.fanAinSample i uv ∨ c = .fanDinSample levels wakeN ∨ c = .fanEncoderEdge ∨ c = .keepwetTimer ∨ c = .fantailWake ∨ c = .pwrEnStep →
      Completes c d fun e => e = d) ∧
    (d.aonOk = true → d.mode = Mode.sleep → d.fan.raising = false →
      (d.flag Reg.FAN_ENC.enc_en = true →
        (d.fld Reg.FAN_ENC.enc_cnt ≤ (d.fan.edges.filter fun t => Nat.ble d.aonMs (t + d.fld Reg.FAN_ENC.enc_win_ms)).length + 1 →
          Completes .fanEncoderEdge d fun e => e.fan.pendingCauses.testBit WakeCause.encoder = true ∧ e.fan.edges = [] ∧ e.regs = d.regs) ∧
        ((d.fan.edges.filter fun t => Nat.ble d.aonMs (t + d.fld Reg.FAN_ENC.enc_win_ms)).length + 1 < d.fld Reg.FAN_ENC.enc_cnt →
          Completes .fanEncoderEdge d fun e => e.fan.edges = d.aonMs :: (d.fan.edges.filter fun t => Nat.ble d.aonMs (t + d.fld Reg.FAN_ENC.enc_win_ms)) ∧
            e.fan.pendingCauses = d.fan.pendingCauses)) ∧
      (d.fld Reg.FAN_KEEPWET.kw_min ≠ 0 → Completes .keepwetTimer d fun e => e.fan.pendingCauses = Nat.lor d.fan.pendingCauses 16 ∧ { e with fan := d.fan } = d) ∧
      (d.fan.releasing = false → d.fan.pendingCauses ≠ 0 → Completes .fantailWake d fun e => e.fld Reg.FAN_WAKE.causes = d.fan.pendingCauses / 2 % 16 ∧
        e.fld Reg.FAN_WAKE.count = (d.fld Reg.FAN_WAKE.count + 1) % 2 ^ 16 ∧ e.fan.pendingCauses = 0 ∧ e.fan.raising = true ∧
        e.fan.wakeOwed = some (d.fan.pendingCauses, d.aonMs) ∧ e.fan.keepwet = decide (d.fan.pendingCauses = 16) ∧
        (e.fld Reg.FAN_STAT.pwr_en).testBit 0 = true ∧ e.mode = Mode.sleep ∧ e.mem = d.mem) ∧
      ((d.fan.releasing = true ∨ d.fan.pendingCauses = 0) → Completes .fantailWake d fun e => e = d)) ∧
    (d.mode ≠ Mode.sleep → Completes .fanEncoderEdge d (fun e => e = d) ∧ Completes .keepwetTimer d (fun e => e = d) ∧ Completes .fantailWake d fun e => e = d) ∧
    (d.aonOk = true →
      (d.fan.releasing = true → ∀ j, j < 4 → d.fld Reg.FAN_STAT.pwr_en = 2 ^ (j + 1) - 1 → Completes .pwrEnStep d fun e =>
        e.fld Reg.FAN_STAT.pwr_en = 2 ^ j - 1 ∧ e.fan.releasing = decide (j ≠ 0) ∧ d.OnlyRegs [Reg.FAN_STAT.addr] { e with fan := d.fan }) ∧
      (d.fan.releasing = false → d.fan.raising = true → ∀ j, j < 4 → d.fld Reg.FAN_STAT.pwr_en = 2 ^ j - 1 → Completes .pwrEnStep d fun e =>
        e.fld Reg.FAN_STAT.pwr_en = 2 ^ (j + 1) - 1 ∧ e.fan.raising = decide (j ≠ 3) ∧ d.OnlyRegs [Reg.FAN_STAT.addr] { e with fan := d.fan }) ∧
      (d.fan.releasing = false → d.fan.raising = false → Completes .pwrEnStep d fun e => e = d))

/-! ### The invariant -/

/-- EVERY STEP KEEPS THE CANONICAL FORM. From every state whose device memory and register file are in canonical form (rising keys, nothing listed that
reads so unlisted) a step leads to one whose are: so equal memories and register files are equal data. -/
def Obligations.EveryStepKeepsMemoryAndRegistersCanonical : Prop :=
  ∀ s t : State, s.dev.canonical = true → step s = .next t → t.dev.canonical = true
end

