-- ==== Sys2Proof/Laws/Cells.lean ====
section
/-! SUPPORT. Laws/Cells.lean: what a sparse table answers after an update, and that every update keeps its canonical form. -/

namespace Sys2Proof.Machine

variable {α : Type}

theorem Tab.find_put_same (t : Tab α) (a : Nat) (v : α) : (Tab.put t a v).find a = some v := by
  induction t with
  | nil => simp [Tab.put, Tab.find]
  | cons e t ih =>
    obtain ⟨k, w⟩ := e
    simp only [Tab.put]
    split
    · simp [Tab.find]
    · split
      · simp [Tab.find]
      · rename_i h
        simp [Tab.find, Ne.symm h, ih]

theorem Tab.find_put_other (t : Tab α) {a b : Nat} (v : α) (h : b ≠ a) : (Tab.put t a v).find b = t.find b := by
  induction t with
  | nil => simp [Tab.put, Tab.find, Ne.symm h]
  | cons e t ih =>
    obtain ⟨k, w⟩ := e
    simp only [Tab.put]
    split
    · simp [Tab.find, Ne.symm h]
    · split
      · rename_i hk; subst hk; simp [Tab.find, Ne.symm h]
      · simp [Tab.find, ih]

theorem Tab.find_del_other (t : Tab α) {a b : Nat} (h : b ≠ a) : (Tab.del t a).find b = t.find b := by
  induction t with
  | nil => rfl
  | cons e t ih =>
    obtain ⟨k, w⟩ := e
    simp only [Tab.del]
    split
    · rename_i hk; subst hk; simp [Tab.find, Ne.symm h, ih]
    · simp [Tab.find, ih]

theorem Tab.above_mono {t : Tab α} {a b : Nat} (h : t.above b = true) (hab : a ≤ b) : t.above a = true := by
  cases t with
  | nil => rfl
  | cons e t => simp only [Tab.above, Bool.and_eq_true, Nat.blt_eq] at h ⊢; exact ⟨by omega, h.2⟩

theorem Tab.find_above {t : Tab α} {a : Nat} (h : t.above a = true) : t.find a = none := by
  induction t generalizing a with
  | nil => rfl
  | cons e t ih =>
    simp only [Tab.above, Bool.and_eq_true, Nat.blt_eq] at h
    simp only [Tab.find]
    rw [if_neg (by omega), ih (Tab.above_mono h.2 (by omega))]

/-- The keys of the table rise strictly. -/
def Tab.rising : Tab α → Bool
  | [] => true
  | (k, _) :: t => Tab.above t k

theorem Tab.rising_tail {e : Nat × α} {t : Tab α} (h : Tab.rising (e :: t) = true) : t.rising = true := by
  cases t with
  | nil => rfl
  | cons f t => simp only [Tab.rising, Tab.above, Bool.and_eq_true] at h ⊢; exact h.2

theorem Tab.wf_iff [DecidableEq α] (t : Tab α) (d : Nat → α) :
    t.wf d = true ↔ t.rising = true ∧ ∀ e ∈ t, e.2 ≠ d e.1 := by
  cases t <;> simp [Tab.wf, Tab.rising]

theorem Tab.find_del_same (t : Tab α) (a : Nat) : (Tab.del t a).find a = none := by
  induction t with
  | nil => rfl
  | cons e t ih =>
    simp only [Tab.del]
    split
    · exact ih
    · rename_i hk; simp [Tab.find, hk, ih]

/-! ### Reading after an update -/

theorem Tab.get_set_other [DecidableEq α] (t : Tab α) (d e : α) {a b : Nat} (v : α) (h : b ≠ a) :
    (Tab.set t d a v).get e b = t.get e b := by
  unfold Tab.set Tab.get
  split
  · rw [Tab.find_del_other t h]
  · rw [Tab.find_put_other t v h]

theorem Tab.get_set_same [DecidableEq α] (t : Tab α) (d : α) (a : Nat) (v : α) : (Tab.set t d a v).get d a = v := by
  unfold Tab.set Tab.get
  split
  · rename_i hv; rw [Tab.find_del_same, hv]; rfl
  · rw [Tab.find_put_same]; rfl

/-! ### The canonical form -/

theorem Tab.above_put {t : Tab α} {a b : Nat} (v : α) (h : t.above b = true) (hab : b < a) : (Tab.put t a v).above b = true := by
  induction t generalizing b with
  | nil => simp [Tab.put, Tab.above, hab]
  | cons e t ih =>
    simp only [Tab.above, Bool.and_eq_true, Nat.blt_eq] at h
    simp only [Tab.put]
    split
    · simp [Tab.above, h.2, *]
    · split
      · rename_i hk; subst hk; simp [Tab.above, h.2, hab]
      · simp [Tab.above, h.1, ih h.2 (by omega)]

theorem Tab.above_del {t : Tab α} {b : Nat} (a : Nat) (h : t.above b = true) : (Tab.del t a).above b = true := by
  induction t generalizing b with
  | nil => rfl
  | cons e t ih =>
    simp only [Tab.above, Bool.and_eq_true, Nat.blt_eq] at h
    simp only [Tab.del]
    split
    · exact Tab.above_mono (ih h.2) (by omega)
    · simp [Tab.above, h.1, ih h.2]

theorem Tab.rising_put {t : Tab α} (a : Nat) (v : α) (h : t.rising = true) : (Tab.put t a v).rising = true := by
  induction t with
  | nil => rfl
  | cons e t ih =>
    simp only [Tab.put]
    split
    · rename_i hk; simp only [Tab.rising, Tab.above, Bool.and_eq_true, Nat.blt_eq]; exact ⟨hk, h⟩
    · split
      · rename_i hk; rw [hk]; exact h
      · exact Tab.above_put v h (by omega)

theorem Tab.rising_del {t : Tab α} (a : Nat) (h : t.rising = true) : (Tab.del t a).rising = true := by
  induction t with
  | nil => rfl
  | cons e t ih =>
    simp only [Tab.del]
    split
    · exact ih (Tab.rising_tail h)
    · exact Tab.above_del a h

theorem Tab.mem_put {t : Tab α} {a : Nat} {v : α} {e : Nat × α} (h : e ∈ Tab.put t a v) : e = (a, v) ∨ e ∈ t := by
  induction t with
  | nil => simpa [Tab.put] using h
  | cons f t ih =>
    simp only [Tab.put] at h
    split at h
    · simpa using h
    · split at h <;> simp only [List.mem_cons] at h ⊢ <;> grind

theorem Tab.mem_del {t : Tab α} {a : Nat} {e : Nat × α} (h : e ∈ Tab.del t a) : e ∈ t := by
  induction t with
  | nil => exact h
  | cons f t ih =>
    simp only [Tab.del] at h
    split at h <;> simp only [List.mem_cons] at h ⊢ <;> grind

theorem Tab.rising_set [DecidableEq α] {t : Tab α} (d : α) (a : Nat) (v : α) (h : t.rising = true) :
    (Tab.set t d a v).rising = true := by
  unfold Tab.set; split
  · exact Tab.rising_del a h
  · exact Tab.rising_put a v h

theorem Tab.wf_set [DecidableEq α] {t : Tab α} {d : Nat → α} (a : Nat) (v : α) (h : t.wf d = true) :
    (Tab.set t (d a) a v).wf d = true := by
  rw [Tab.wf_iff] at h ⊢
  refine ⟨Tab.rising_set _ _ _ h.1, fun e he => ?_⟩
  unfold Tab.set at he
  split at he
  · exact h.2 e (Tab.mem_del he)
  · rename_i hv
    rcases Tab.mem_put he with rfl | he
    · exact hv
    · exact h.2 e he

theorem Tab.above_filter {t : Tab α} {b : Nat} (p : Nat × α → Bool) (h : t.above b = true) : Tab.above (t.filter p) b = true := by
  induction t generalizing b with
  | nil => rfl
  | cons e t ih =>
    simp only [Tab.above, Bool.and_eq_true, Nat.blt_eq] at h
    simp only [List.filter_cons]
    split
    · simp [Tab.above, h.1, ih h.2]
    · exact Tab.above_mono (ih h.2) (by omega)

theorem Tab.rising_filter {t : Tab α} (p : Nat × α → Bool) (h : t.rising = true) : Tab.rising (t.filter p) = true := by
  induction t with
  | nil => rfl
  | cons e t ih =>
    simp only [List.filter_cons]
    split
    · exact Tab.above_filter p h
    · exact ih (Tab.rising_tail h)

theorem Tab.wf_filter [DecidableEq α] {t : Tab α} {d : Nat → α} (p : Nat × α → Bool) (h : t.wf d = true) :
    Tab.wf (t.filter p) d = true := by
  rw [Tab.wf_iff] at h ⊢
  exact ⟨Tab.rising_filter p h.1, fun e he => h.2 e (List.mem_filter.mp he).1⟩

end Sys2Proof.Machine
end

