-- ==== Sys2Proof/Laws/State.lean ====
section
/-! SUPPORT. Laws/State.lean: what each update of one part of the device does to every part, one lemma for each, true by definition; and the
next state of `State.did`. -/

namespace Sys2Proof.Machine

@[simp] theorem State.did_eq (s : State) (f : Dev → Dev) : s.did f = .next { s with dev := f s.dev } := rfl

@[simp] theorem Dev.when_true (f : Dev → Dev) (d : Dev) : d.when true f = f d := rfl
@[simp] theorem Dev.when_false (f : Dev → Dev) (d : Dev) : d.when false f = d := rfl
theorem Dev.when_eq (c : Bool) (f : Dev → Dev) (d : Dev) : d.when c f = if c then f d else d := rfl

/-! ### modFlt -/

@[simp] theorem Dev.modFlt_regs (f : Flt → Flt) (d : Dev) : (d.modFlt f).regs = d.regs := (rfl)
@[simp] theorem Dev.modFlt_latches (f : Flt → Flt) (d : Dev) : (d.modFlt f).latches = d.latches := (rfl)
@[simp] theorem Dev.modFlt_staging (f : Flt → Flt) (d : Dev) : (d.modFlt f).staging = d.staging := (rfl)
@[simp] theorem Dev.modFlt_mem (f : Flt → Flt) (d : Dev) : (d.modFlt f).mem = d.mem := (rfl)
@[simp] theorem Dev.modFlt_freeCtr (f : Flt → Flt) (d : Dev) : (d.modFlt f).freeCtr = d.freeCtr := (rfl)
@[simp] theorem Dev.modFlt_flt (f : Flt → Flt) (d : Dev) : (d.modFlt f).flt = f d.flt := (rfl)
@[simp] theorem Dev.modFlt_mig (f : Flt → Flt) (d : Dev) : (d.modFlt f).mig = d.mig := (rfl)
@[simp] theorem Dev.modFlt_memc (f : Flt → Flt) (d : Dev) : (d.modFlt f).memc = d.memc := (rfl)
@[simp] theorem Dev.modFlt_hdma (f : Flt → Flt) (d : Dev) : (d.modFlt f).hdma = d.hdma := (rfl)
@[simp] theorem Dev.modFlt_cfg (f : Flt → Flt) (d : Dev) : (d.modFlt f).cfg = d.cfg := (rfl)
@[simp] theorem Dev.modFlt_glb (f : Flt → Flt) (d : Dev) : (d.modFlt f).glb = d.glb := (rfl)
@[simp] theorem Dev.modFlt_seq (f : Flt → Flt) (d : Dev) : (d.modFlt f).seq = d.seq := (rfl)
@[simp] theorem Dev.modFlt_run (f : Flt → Flt) (d : Dev) : (d.modFlt f).run = d.run := (rfl)
@[simp] theorem Dev.modFlt_cmp (f : Flt → Flt) (d : Dev) : (d.modFlt f).cmp = d.cmp := (rfl)
@[simp] theorem Dev.modFlt_dcr (f : Flt → Flt) (d : Dev) : (d.modFlt f).dcr = d.dcr := (rfl)
@[simp] theorem Dev.modFlt_asm (f : Flt → Flt) (d : Dev) : (d.modFlt f).asm = d.asm := (rfl)
@[simp] theorem Dev.modFlt_nrg (f : Flt → Flt) (d : Dev) : (d.modFlt f).nrg = d.nrg := (rfl)
@[simp] theorem Dev.modFlt_pac (f : Flt → Flt) (d : Dev) : (d.modFlt f).pac = d.pac := (rfl)
@[simp] theorem Dev.modFlt_hlk (f : Flt → Flt) (d : Dev) : (d.modFlt f).hlk = d.hlk := (rfl)
@[simp] theorem Dev.modFlt_tim (f : Flt → Flt) (d : Dev) : (d.modFlt f).tim = d.tim := (rfl)
@[simp] theorem Dev.modFlt_mot (f : Flt → Flt) (d : Dev) : (d.modFlt f).mot = d.mot := (rfl)
@[simp] theorem Dev.modFlt_pmu (f : Flt → Flt) (d : Dev) : (d.modFlt f).pmu = d.pmu := (rfl)
@[simp] theorem Dev.modFlt_msr (f : Flt → Flt) (d : Dev) : (d.modFlt f).msr = d.msr := (rfl)
@[simp] theorem Dev.modFlt_duo (f : Flt → Flt) (d : Dev) : (d.modFlt f).duo = d.duo := (rfl)
@[simp] theorem Dev.modFlt_crc (f : Flt → Flt) (d : Dev) : (d.modFlt f).crc = d.crc := (rfl)
@[simp] theorem Dev.modFlt_fan (f : Flt → Flt) (d : Dev) : (d.modFlt f).fan = d.fan := (rfl)

/-! ### modMig -/

@[simp] theorem Dev.modMig_regs (f : Mig → Mig) (d : Dev) : (d.modMig f).regs = d.regs := (rfl)
@[simp] theorem Dev.modMig_latches (f : Mig → Mig) (d : Dev) : (d.modMig f).latches = d.latches := (rfl)
@[simp] theorem Dev.modMig_staging (f : Mig → Mig) (d : Dev) : (d.modMig f).staging = d.staging := (rfl)
@[simp] theorem Dev.modMig_mem (f : Mig → Mig) (d : Dev) : (d.modMig f).mem = d.mem := (rfl)
@[simp] theorem Dev.modMig_freeCtr (f : Mig → Mig) (d : Dev) : (d.modMig f).freeCtr = d.freeCtr := (rfl)
@[simp] theorem Dev.modMig_flt (f : Mig → Mig) (d : Dev) : (d.modMig f).flt = d.flt := (rfl)
@[simp] theorem Dev.modMig_mig (f : Mig → Mig) (d : Dev) : (d.modMig f).mig = f d.mig := (rfl)
@[simp] theorem Dev.modMig_memc (f : Mig → Mig) (d : Dev) : (d.modMig f).memc = d.memc := (rfl)
@[simp] theorem Dev.modMig_hdma (f : Mig → Mig) (d : Dev) : (d.modMig f).hdma = d.hdma := (rfl)
@[simp] theorem Dev.modMig_cfg (f : Mig → Mig) (d : Dev) : (d.modMig f).cfg = d.cfg := (rfl)
@[simp] theorem Dev.modMig_glb (f : Mig → Mig) (d : Dev) : (d.modMig f).glb = d.glb := (rfl)
@[simp] theorem Dev.modMig_seq (f : Mig → Mig) (d : Dev) : (d.modMig f).seq = d.seq := (rfl)
@[simp] theorem Dev.modMig_run (f : Mig → Mig) (d : Dev) : (d.modMig f).run = d.run := (rfl)
@[simp] theorem Dev.modMig_cmp (f : Mig → Mig) (d : Dev) : (d.modMig f).cmp = d.cmp := (rfl)
@[simp] theorem Dev.modMig_dcr (f : Mig → Mig) (d : Dev) : (d.modMig f).dcr = d.dcr := (rfl)
@[simp] theorem Dev.modMig_asm (f : Mig → Mig) (d : Dev) : (d.modMig f).asm = d.asm := (rfl)
@[simp] theorem Dev.modMig_nrg (f : Mig → Mig) (d : Dev) : (d.modMig f).nrg = d.nrg := (rfl)
@[simp] theorem Dev.modMig_pac (f : Mig → Mig) (d : Dev) : (d.modMig f).pac = d.pac := (rfl)
@[simp] theorem Dev.modMig_hlk (f : Mig → Mig) (d : Dev) : (d.modMig f).hlk = d.hlk := (rfl)
@[simp] theorem Dev.modMig_tim (f : Mig → Mig) (d : Dev) : (d.modMig f).tim = d.tim := (rfl)
@[simp] theorem Dev.modMig_mot (f : Mig → Mig) (d : Dev) : (d.modMig f).mot = d.mot := (rfl)
@[simp] theorem Dev.modMig_pmu (f : Mig → Mig) (d : Dev) : (d.modMig f).pmu = d.pmu := (rfl)
@[simp] theorem Dev.modMig_msr (f : Mig → Mig) (d : Dev) : (d.modMig f).msr = d.msr := (rfl)
@[simp] theorem Dev.modMig_duo (f : Mig → Mig) (d : Dev) : (d.modMig f).duo = d.duo := (rfl)
@[simp] theorem Dev.modMig_crc (f : Mig → Mig) (d : Dev) : (d.modMig f).crc = d.crc := (rfl)
@[simp] theorem Dev.modMig_fan (f : Mig → Mig) (d : Dev) : (d.modMig f).fan = d.fan := (rfl)

/-! ### modMem -/

@[simp] theorem Dev.modMem_regs (f : MemCtl → MemCtl) (d : Dev) : (d.modMem f).regs = d.regs := (rfl)
@[simp] theorem Dev.modMem_latches (f : MemCtl → MemCtl) (d : Dev) : (d.modMem f).latches = d.latches := (rfl)
@[simp] theorem Dev.modMem_staging (f : MemCtl → MemCtl) (d : Dev) : (d.modMem f).staging = d.staging := (rfl)
@[simp] theorem Dev.modMem_mem (f : MemCtl → MemCtl) (d : Dev) : (d.modMem f).mem = d.mem := (rfl)
@[simp] theorem Dev.modMem_freeCtr (f : MemCtl → MemCtl) (d : Dev) : (d.modMem f).freeCtr = d.freeCtr := (rfl)
@[simp] theorem Dev.modMem_flt (f : MemCtl → MemCtl) (d : Dev) : (d.modMem f).flt = d.flt := (rfl)
@[simp] theorem Dev.modMem_mig (f : MemCtl → MemCtl) (d : Dev) : (d.modMem f).mig = d.mig := (rfl)
@[simp] theorem Dev.modMem_memc (f : MemCtl → MemCtl) (d : Dev) : (d.modMem f).memc = f d.memc := (rfl)
@[simp] theorem Dev.modMem_hdma (f : MemCtl → MemCtl) (d : Dev) : (d.modMem f).hdma = d.hdma := (rfl)
@[simp] theorem Dev.modMem_cfg (f : MemCtl → MemCtl) (d : Dev) : (d.modMem f).cfg = d.cfg := (rfl)
@[simp] theorem Dev.modMem_glb (f : MemCtl → MemCtl) (d : Dev) : (d.modMem f).glb = d.glb := (rfl)
@[simp] theorem Dev.modMem_seq (f : MemCtl → MemCtl) (d : Dev) : (d.modMem f).seq = d.seq := (rfl)
@[simp] theorem Dev.modMem_run (f : MemCtl → MemCtl) (d : Dev) : (d.modMem f).run = d.run := (rfl)
@[simp] theorem Dev.modMem_cmp (f : MemCtl → MemCtl) (d : Dev) : (d.modMem f).cmp = d.cmp := (rfl)
@[simp] theorem Dev.modMem_dcr (f : MemCtl → MemCtl) (d : Dev) : (d.modMem f).dcr = d.dcr := (rfl)
@[simp] theorem Dev.modMem_asm (f : MemCtl → MemCtl) (d : Dev) : (d.modMem f).asm = d.asm := (rfl)
@[simp] theorem Dev.modMem_nrg (f : MemCtl → MemCtl) (d : Dev) : (d.modMem f).nrg = d.nrg := (rfl)
@[simp] theorem Dev.modMem_pac (f : MemCtl → MemCtl) (d : Dev) : (d.modMem f).pac = d.pac := (rfl)
@[simp] theorem Dev.modMem_hlk (f : MemCtl → MemCtl) (d : Dev) : (d.modMem f).hlk = d.hlk := (rfl)
@[simp] theorem Dev.modMem_tim (f : MemCtl → MemCtl) (d : Dev) : (d.modMem f).tim = d.tim := (rfl)
@[simp] theorem Dev.modMem_mot (f : MemCtl → MemCtl) (d : Dev) : (d.modMem f).mot = d.mot := (rfl)
@[simp] theorem Dev.modMem_pmu (f : MemCtl → MemCtl) (d : Dev) : (d.modMem f).pmu = d.pmu := (rfl)
@[simp] theorem Dev.modMem_msr (f : MemCtl → MemCtl) (d : Dev) : (d.modMem f).msr = d.msr := (rfl)
@[simp] theorem Dev.modMem_duo (f : MemCtl → MemCtl) (d : Dev) : (d.modMem f).duo = d.duo := (rfl)
@[simp] theorem Dev.modMem_crc (f : MemCtl → MemCtl) (d : Dev) : (d.modMem f).crc = d.crc := (rfl)
@[simp] theorem Dev.modMem_fan (f : MemCtl → MemCtl) (d : Dev) : (d.modMem f).fan = d.fan := (rfl)

/-! ### modHdma -/

@[simp] theorem Dev.modHdma_regs (f : Hdma → Hdma) (d : Dev) : (d.modHdma f).regs = d.regs := (rfl)
@[simp] theorem Dev.modHdma_latches (f : Hdma → Hdma) (d : Dev) : (d.modHdma f).latches = d.latches := (rfl)
@[simp] theorem Dev.modHdma_staging (f : Hdma → Hdma) (d : Dev) : (d.modHdma f).staging = d.staging := (rfl)
@[simp] theorem Dev.modHdma_mem (f : Hdma → Hdma) (d : Dev) : (d.modHdma f).mem = d.mem := (rfl)
@[simp] theorem Dev.modHdma_freeCtr (f : Hdma → Hdma) (d : Dev) : (d.modHdma f).freeCtr = d.freeCtr := (rfl)
@[simp] theorem Dev.modHdma_flt (f : Hdma → Hdma) (d : Dev) : (d.modHdma f).flt = d.flt := (rfl)
@[simp] theorem Dev.modHdma_mig (f : Hdma → Hdma) (d : Dev) : (d.modHdma f).mig = d.mig := (rfl)
@[simp] theorem Dev.modHdma_memc (f : Hdma → Hdma) (d : Dev) : (d.modHdma f).memc = d.memc := (rfl)
@[simp] theorem Dev.modHdma_hdma (f : Hdma → Hdma) (d : Dev) : (d.modHdma f).hdma = f d.hdma := (rfl)
@[simp] theorem Dev.modHdma_cfg (f : Hdma → Hdma) (d : Dev) : (d.modHdma f).cfg = d.cfg := (rfl)
@[simp] theorem Dev.modHdma_glb (f : Hdma → Hdma) (d : Dev) : (d.modHdma f).glb = d.glb := (rfl)
@[simp] theorem Dev.modHdma_seq (f : Hdma → Hdma) (d : Dev) : (d.modHdma f).seq = d.seq := (rfl)
@[simp] theorem Dev.modHdma_run (f : Hdma → Hdma) (d : Dev) : (d.modHdma f).run = d.run := (rfl)
@[simp] theorem Dev.modHdma_cmp (f : Hdma → Hdma) (d : Dev) : (d.modHdma f).cmp = d.cmp := (rfl)
@[simp] theorem Dev.modHdma_dcr (f : Hdma → Hdma) (d : Dev) : (d.modHdma f).dcr = d.dcr := (rfl)
@[simp] theorem Dev.modHdma_asm (f : Hdma → Hdma) (d : Dev) : (d.modHdma f).asm = d.asm := (rfl)
@[simp] theorem Dev.modHdma_nrg (f : Hdma → Hdma) (d : Dev) : (d.modHdma f).nrg = d.nrg := (rfl)
@[simp] theorem Dev.modHdma_pac (f : Hdma → Hdma) (d : Dev) : (d.modHdma f).pac = d.pac := (rfl)
@[simp] theorem Dev.modHdma_hlk (f : Hdma → Hdma) (d : Dev) : (d.modHdma f).hlk = d.hlk := (rfl)
@[simp] theorem Dev.modHdma_tim (f : Hdma → Hdma) (d : Dev) : (d.modHdma f).tim = d.tim := (rfl)
@[simp] theorem Dev.modHdma_mot (f : Hdma → Hdma) (d : Dev) : (d.modHdma f).mot = d.mot := (rfl)
@[simp] theorem Dev.modHdma_pmu (f : Hdma → Hdma) (d : Dev) : (d.modHdma f).pmu = d.pmu := (rfl)
@[simp] theorem Dev.modHdma_msr (f : Hdma → Hdma) (d : Dev) : (d.modHdma f).msr = d.msr := (rfl)
@[simp] theorem Dev.modHdma_duo (f : Hdma → Hdma) (d : Dev) : (d.modHdma f).duo = d.duo := (rfl)
@[simp] theorem Dev.modHdma_crc (f : Hdma → Hdma) (d : Dev) : (d.modHdma f).crc = d.crc := (rfl)
@[simp] theorem Dev.modHdma_fan (f : Hdma → Hdma) (d : Dev) : (d.modHdma f).fan = d.fan := (rfl)

/-! ### modCfg -/

@[simp] theorem Dev.modCfg_regs (f : Cfg → Cfg) (d : Dev) : (d.modCfg f).regs = d.regs := (rfl)
@[simp] theorem Dev.modCfg_latches (f : Cfg → Cfg) (d : Dev) : (d.modCfg f).latches = d.latches := (rfl)
@[simp] theorem Dev.modCfg_staging (f : Cfg → Cfg) (d : Dev) : (d.modCfg f).staging = d.staging := (rfl)
@[simp] theorem Dev.modCfg_mem (f : Cfg → Cfg) (d : Dev) : (d.modCfg f).mem = d.mem := (rfl)
@[simp] theorem Dev.modCfg_freeCtr (f : Cfg → Cfg) (d : Dev) : (d.modCfg f).freeCtr = d.freeCtr := (rfl)
@[simp] theorem Dev.modCfg_flt (f : Cfg → Cfg) (d : Dev) : (d.modCfg f).flt = d.flt := (rfl)
@[simp] theorem Dev.modCfg_mig (f : Cfg → Cfg) (d : Dev) : (d.modCfg f).mig = d.mig := (rfl)
@[simp] theorem Dev.modCfg_memc (f : Cfg → Cfg) (d : Dev) : (d.modCfg f).memc = d.memc := (rfl)
@[simp] theorem Dev.modCfg_hdma (f : Cfg → Cfg) (d : Dev) : (d.modCfg f).hdma = d.hdma := (rfl)
@[simp] theorem Dev.modCfg_cfg (f : Cfg → Cfg) (d : Dev) : (d.modCfg f).cfg = f d.cfg := (rfl)
@[simp] theorem Dev.modCfg_glb (f : Cfg → Cfg) (d : Dev) : (d.modCfg f).glb = d.glb := (rfl)
@[simp] theorem Dev.modCfg_seq (f : Cfg → Cfg) (d : Dev) : (d.modCfg f).seq = d.seq := (rfl)
@[simp] theorem Dev.modCfg_run (f : Cfg → Cfg) (d : Dev) : (d.modCfg f).run = d.run := (rfl)
@[simp] theorem Dev.modCfg_cmp (f : Cfg → Cfg) (d : Dev) : (d.modCfg f).cmp = d.cmp := (rfl)
@[simp] theorem Dev.modCfg_dcr (f : Cfg → Cfg) (d : Dev) : (d.modCfg f).dcr = d.dcr := (rfl)
@[simp] theorem Dev.modCfg_asm (f : Cfg → Cfg) (d : Dev) : (d.modCfg f).asm = d.asm := (rfl)
@[simp] theorem Dev.modCfg_nrg (f : Cfg → Cfg) (d : Dev) : (d.modCfg f).nrg = d.nrg := (rfl)
@[simp] theorem Dev.modCfg_pac (f : Cfg → Cfg) (d : Dev) : (d.modCfg f).pac = d.pac := (rfl)
@[simp] theorem Dev.modCfg_hlk (f : Cfg → Cfg) (d : Dev) : (d.modCfg f).hlk = d.hlk := (rfl)
@[simp] theorem Dev.modCfg_tim (f : Cfg → Cfg) (d : Dev) : (d.modCfg f).tim = d.tim := (rfl)
@[simp] theorem Dev.modCfg_mot (f : Cfg → Cfg) (d : Dev) : (d.modCfg f).mot = d.mot := (rfl)
@[simp] theorem Dev.modCfg_pmu (f : Cfg → Cfg) (d : Dev) : (d.modCfg f).pmu = d.pmu := (rfl)
@[simp] theorem Dev.modCfg_msr (f : Cfg → Cfg) (d : Dev) : (d.modCfg f).msr = d.msr := (rfl)
@[simp] theorem Dev.modCfg_duo (f : Cfg → Cfg) (d : Dev) : (d.modCfg f).duo = d.duo := (rfl)
@[simp] theorem Dev.modCfg_crc (f : Cfg → Cfg) (d : Dev) : (d.modCfg f).crc = d.crc := (rfl)
@[simp] theorem Dev.modCfg_fan (f : Cfg → Cfg) (d : Dev) : (d.modCfg f).fan = d.fan := (rfl)

/-! ### modGlb -/

@[simp] theorem Dev.modGlb_regs (f : Glb → Glb) (d : Dev) : (d.modGlb f).regs = d.regs := (rfl)
@[simp] theorem Dev.modGlb_latches (f : Glb → Glb) (d : Dev) : (d.modGlb f).latches = d.latches := (rfl)
@[simp] theorem Dev.modGlb_staging (f : Glb → Glb) (d : Dev) : (d.modGlb f).staging = d.staging := (rfl)
@[simp] theorem Dev.modGlb_mem (f : Glb → Glb) (d : Dev) : (d.modGlb f).mem = d.mem := (rfl)
@[simp] theorem Dev.modGlb_freeCtr (f : Glb → Glb) (d : Dev) : (d.modGlb f).freeCtr = d.freeCtr := (rfl)
@[simp] theorem Dev.modGlb_flt (f : Glb → Glb) (d : Dev) : (d.modGlb f).flt = d.flt := (rfl)
@[simp] theorem Dev.modGlb_mig (f : Glb → Glb) (d : Dev) : (d.modGlb f).mig = d.mig := (rfl)
@[simp] theorem Dev.modGlb_memc (f : Glb → Glb) (d : Dev) : (d.modGlb f).memc = d.memc := (rfl)
@[simp] theorem Dev.modGlb_hdma (f : Glb → Glb) (d : Dev) : (d.modGlb f).hdma = d.hdma := (rfl)
@[simp] theorem Dev.modGlb_cfg (f : Glb → Glb) (d : Dev) : (d.modGlb f).cfg = d.cfg := (rfl)
@[simp] theorem Dev.modGlb_glb (f : Glb → Glb) (d : Dev) : (d.modGlb f).glb = f d.glb := (rfl)
@[simp] theorem Dev.modGlb_seq (f : Glb → Glb) (d : Dev) : (d.modGlb f).seq = d.seq := (rfl)
@[simp] theorem Dev.modGlb_run (f : Glb → Glb) (d : Dev) : (d.modGlb f).run = d.run := (rfl)
@[simp] theorem Dev.modGlb_cmp (f : Glb → Glb) (d : Dev) : (d.modGlb f).cmp = d.cmp := (rfl)
@[simp] theorem Dev.modGlb_dcr (f : Glb → Glb) (d : Dev) : (d.modGlb f).dcr = d.dcr := (rfl)
@[simp] theorem Dev.modGlb_asm (f : Glb → Glb) (d : Dev) : (d.modGlb f).asm = d.asm := (rfl)
@[simp] theorem Dev.modGlb_nrg (f : Glb → Glb) (d : Dev) : (d.modGlb f).nrg = d.nrg := (rfl)
@[simp] theorem Dev.modGlb_pac (f : Glb → Glb) (d : Dev) : (d.modGlb f).pac = d.pac := (rfl)
@[simp] theorem Dev.modGlb_hlk (f : Glb → Glb) (d : Dev) : (d.modGlb f).hlk = d.hlk := (rfl)
@[simp] theorem Dev.modGlb_tim (f : Glb → Glb) (d : Dev) : (d.modGlb f).tim = d.tim := (rfl)
@[simp] theorem Dev.modGlb_mot (f : Glb → Glb) (d : Dev) : (d.modGlb f).mot = d.mot := (rfl)
@[simp] theorem Dev.modGlb_pmu (f : Glb → Glb) (d : Dev) : (d.modGlb f).pmu = d.pmu := (rfl)
@[simp] theorem Dev.modGlb_msr (f : Glb → Glb) (d : Dev) : (d.modGlb f).msr = d.msr := (rfl)
@[simp] theorem Dev.modGlb_duo (f : Glb → Glb) (d : Dev) : (d.modGlb f).duo = d.duo := (rfl)
@[simp] theorem Dev.modGlb_crc (f : Glb → Glb) (d : Dev) : (d.modGlb f).crc = d.crc := (rfl)
@[simp] theorem Dev.modGlb_fan (f : Glb → Glb) (d : Dev) : (d.modGlb f).fan = d.fan := (rfl)

/-! ### modSeq -/

@[simp] theorem Dev.modSeq_regs (f : Seq → Seq) (d : Dev) : (d.modSeq f).regs = d.regs := (rfl)
@[simp] theorem Dev.modSeq_latches (f : Seq → Seq) (d : Dev) : (d.modSeq f).latches = d.latches := (rfl)
@[simp] theorem Dev.modSeq_staging (f : Seq → Seq) (d : Dev) : (d.modSeq f).staging = d.staging := (rfl)
@[simp] theorem Dev.modSeq_mem (f : Seq → Seq) (d : Dev) : (d.modSeq f).mem = d.mem := (rfl)
@[simp] theorem Dev.modSeq_freeCtr (f : Seq → Seq) (d : Dev) : (d.modSeq f).freeCtr = d.freeCtr := (rfl)
@[simp] theorem Dev.modSeq_flt (f : Seq → Seq) (d : Dev) : (d.modSeq f).flt = d.flt := (rfl)
@[simp] theorem Dev.modSeq_mig (f : Seq → Seq) (d : Dev) : (d.modSeq f).mig = d.mig := (rfl)
@[simp] theorem Dev.modSeq_memc (f : Seq → Seq) (d : Dev) : (d.modSeq f).memc = d.memc := (rfl)
@[simp] theorem Dev.modSeq_hdma (f : Seq → Seq) (d : Dev) : (d.modSeq f).hdma = d.hdma := (rfl)
@[simp] theorem Dev.modSeq_cfg (f : Seq → Seq) (d : Dev) : (d.modSeq f).cfg = d.cfg := (rfl)
@[simp] theorem Dev.modSeq_glb (f : Seq → Seq) (d : Dev) : (d.modSeq f).glb = d.glb := (rfl)
@[simp] theorem Dev.modSeq_seq (f : Seq → Seq) (d : Dev) : (d.modSeq f).seq = f d.seq := (rfl)
@[simp] theorem Dev.modSeq_run (f : Seq → Seq) (d : Dev) : (d.modSeq f).run = d.run := (rfl)
@[simp] theorem Dev.modSeq_cmp (f : Seq → Seq) (d : Dev) : (d.modSeq f).cmp = d.cmp := (rfl)
@[simp] theorem Dev.modSeq_dcr (f : Seq → Seq) (d : Dev) : (d.modSeq f).dcr = d.dcr := (rfl)
@[simp] theorem Dev.modSeq_asm (f : Seq → Seq) (d : Dev) : (d.modSeq f).asm = d.asm := (rfl)
@[simp] theorem Dev.modSeq_nrg (f : Seq → Seq) (d : Dev) : (d.modSeq f).nrg = d.nrg := (rfl)
@[simp] theorem Dev.modSeq_pac (f : Seq → Seq) (d : Dev) : (d.modSeq f).pac = d.pac := (rfl)
@[simp] theorem Dev.modSeq_hlk (f : Seq → Seq) (d : Dev) : (d.modSeq f).hlk = d.hlk := (rfl)
@[simp] theorem Dev.modSeq_tim (f : Seq → Seq) (d : Dev) : (d.modSeq f).tim = d.tim := (rfl)
@[simp] theorem Dev.modSeq_mot (f : Seq → Seq) (d : Dev) : (d.modSeq f).mot = d.mot := (rfl)
@[simp] theorem Dev.modSeq_pmu (f : Seq → Seq) (d : Dev) : (d.modSeq f).pmu = d.pmu := (rfl)
@[simp] theorem Dev.modSeq_msr (f : Seq → Seq) (d : Dev) : (d.modSeq f).msr = d.msr := (rfl)
@[simp] theorem Dev.modSeq_duo (f : Seq → Seq) (d : Dev) : (d.modSeq f).duo = d.duo := (rfl)
@[simp] theorem Dev.modSeq_crc (f : Seq → Seq) (d : Dev) : (d.modSeq f).crc = d.crc := (rfl)
@[simp] theorem Dev.modSeq_fan (f : Seq → Seq) (d : Dev) : (d.modSeq f).fan = d.fan := (rfl)

/-! ### modRun -/

@[simp] theorem Dev.modRun_regs (f : Run → Run) (d : Dev) : (d.modRun f).regs = d.regs := (rfl)
@[simp] theorem Dev.modRun_latches (f : Run → Run) (d : Dev) : (d.modRun f).latches = d.latches := (rfl)
@[simp] theorem Dev.modRun_staging (f : Run → Run) (d : Dev) : (d.modRun f).staging = d.staging := (rfl)
@[simp] theorem Dev.modRun_mem (f : Run → Run) (d : Dev) : (d.modRun f).mem = d.mem := (rfl)
@[simp] theorem Dev.modRun_freeCtr (f : Run → Run) (d : Dev) : (d.modRun f).freeCtr = d.freeCtr := (rfl)
@[simp] theorem Dev.modRun_flt (f : Run → Run) (d : Dev) : (d.modRun f).flt = d.flt := (rfl)
@[simp] theorem Dev.modRun_mig (f : Run → Run) (d : Dev) : (d.modRun f).mig = d.mig := (rfl)
@[simp] theorem Dev.modRun_memc (f : Run → Run) (d : Dev) : (d.modRun f).memc = d.memc := (rfl)
@[simp] theorem Dev.modRun_hdma (f : Run → Run) (d : Dev) : (d.modRun f).hdma = d.hdma := (rfl)
@[simp] theorem Dev.modRun_cfg (f : Run → Run) (d : Dev) : (d.modRun f).cfg = d.cfg := (rfl)
@[simp] theorem Dev.modRun_glb (f : Run → Run) (d : Dev) : (d.modRun f).glb = d.glb := (rfl)
@[simp] theorem Dev.modRun_seq (f : Run → Run) (d : Dev) : (d.modRun f).seq = d.seq := (rfl)
@[simp] theorem Dev.modRun_run (f : Run → Run) (d : Dev) : (d.modRun f).run = f d.run := (rfl)
@[simp] theorem Dev.modRun_cmp (f : Run → Run) (d : Dev) : (d.modRun f).cmp = d.cmp := (rfl)
@[simp] theorem Dev.modRun_dcr (f : Run → Run) (d : Dev) : (d.modRun f).dcr = d.dcr := (rfl)
@[simp] theorem Dev.modRun_asm (f : Run → Run) (d : Dev) : (d.modRun f).asm = d.asm := (rfl)
@[simp] theorem Dev.modRun_nrg (f : Run → Run) (d : Dev) : (d.modRun f).nrg = d.nrg := (rfl)
@[simp] theorem Dev.modRun_pac (f : Run → Run) (d : Dev) : (d.modRun f).pac = d.pac := (rfl)
@[simp] theorem Dev.modRun_hlk (f : Run → Run) (d : Dev) : (d.modRun f).hlk = d.hlk := (rfl)
@[simp] theorem Dev.modRun_tim (f : Run → Run) (d : Dev) : (d.modRun f).tim = d.tim := (rfl)
@[simp] theorem Dev.modRun_mot (f : Run → Run) (d : Dev) : (d.modRun f).mot = d.mot := (rfl)
@[simp] theorem Dev.modRun_pmu (f : Run → Run) (d : Dev) : (d.modRun f).pmu = d.pmu := (rfl)
@[simp] theorem Dev.modRun_msr (f : Run → Run) (d : Dev) : (d.modRun f).msr = d.msr := (rfl)
@[simp] theorem Dev.modRun_duo (f : Run → Run) (d : Dev) : (d.modRun f).duo = d.duo := (rfl)
@[simp] theorem Dev.modRun_crc (f : Run → Run) (d : Dev) : (d.modRun f).crc = d.crc := (rfl)
@[simp] theorem Dev.modRun_fan (f : Run → Run) (d : Dev) : (d.modRun f).fan = d.fan := (rfl)

/-! ### modCmp -/

@[simp] theorem Dev.modCmp_regs (f : Cmp → Cmp) (d : Dev) : (d.modCmp f).regs = d.regs := (rfl)
@[simp] theorem Dev.modCmp_latches (f : Cmp → Cmp) (d : Dev) : (d.modCmp f).latches = d.latches := (rfl)
@[simp] theorem Dev.modCmp_staging (f : Cmp → Cmp) (d : Dev) : (d.modCmp f).staging = d.staging := (rfl)
@[simp] theorem Dev.modCmp_mem (f : Cmp → Cmp) (d : Dev) : (d.modCmp f).mem = d.mem := (rfl)
@[simp] theorem Dev.modCmp_freeCtr (f : Cmp → Cmp) (d : Dev) : (d.modCmp f).freeCtr = d.freeCtr := (rfl)
@[simp] theorem Dev.modCmp_flt (f : Cmp → Cmp) (d : Dev) : (d.modCmp f).flt = d.flt := (rfl)
@[simp] theorem Dev.modCmp_mig (f : Cmp → Cmp) (d : Dev) : (d.modCmp f).mig = d.mig := (rfl)
@[simp] theorem Dev.modCmp_memc (f : Cmp → Cmp) (d : Dev) : (d.modCmp f).memc = d.memc := (rfl)
@[simp] theorem Dev.modCmp_hdma (f : Cmp → Cmp) (d : Dev) : (d.modCmp f).hdma = d.hdma := (rfl)
@[simp] theorem Dev.modCmp_cfg (f : Cmp → Cmp) (d : Dev) : (d.modCmp f).cfg = d.cfg := (rfl)
@[simp] theorem Dev.modCmp_glb (f : Cmp → Cmp) (d : Dev) : (d.modCmp f).glb = d.glb := (rfl)
@[simp] theorem Dev.modCmp_seq (f : Cmp → Cmp) (d : Dev) : (d.modCmp f).seq = d.seq := (rfl)
@[simp] theorem Dev.modCmp_run (f : Cmp → Cmp) (d : Dev) : (d.modCmp f).run = d.run := (rfl)
@[simp] theorem Dev.modCmp_cmp (f : Cmp → Cmp) (d : Dev) : (d.modCmp f).cmp = f d.cmp := (rfl)
@[simp] theorem Dev.modCmp_dcr (f : Cmp → Cmp) (d : Dev) : (d.modCmp f).dcr = d.dcr := (rfl)
@[simp] theorem Dev.modCmp_asm (f : Cmp → Cmp) (d : Dev) : (d.modCmp f).asm = d.asm := (rfl)
@[simp] theorem Dev.modCmp_nrg (f : Cmp → Cmp) (d : Dev) : (d.modCmp f).nrg = d.nrg := (rfl)
@[simp] theorem Dev.modCmp_pac (f : Cmp → Cmp) (d : Dev) : (d.modCmp f).pac = d.pac := (rfl)
@[simp] theorem Dev.modCmp_hlk (f : Cmp → Cmp) (d : Dev) : (d.modCmp f).hlk = d.hlk := (rfl)
@[simp] theorem Dev.modCmp_tim (f : Cmp → Cmp) (d : Dev) : (d.modCmp f).tim = d.tim := (rfl)
@[simp] theorem Dev.modCmp_mot (f : Cmp → Cmp) (d : Dev) : (d.modCmp f).mot = d.mot := (rfl)
@[simp] theorem Dev.modCmp_pmu (f : Cmp → Cmp) (d : Dev) : (d.modCmp f).pmu = d.pmu := (rfl)
@[simp] theorem Dev.modCmp_msr (f : Cmp → Cmp) (d : Dev) : (d.modCmp f).msr = d.msr := (rfl)
@[simp] theorem Dev.modCmp_duo (f : Cmp → Cmp) (d : Dev) : (d.modCmp f).duo = d.duo := (rfl)
@[simp] theorem Dev.modCmp_crc (f : Cmp → Cmp) (d : Dev) : (d.modCmp f).crc = d.crc := (rfl)
@[simp] theorem Dev.modCmp_fan (f : Cmp → Cmp) (d : Dev) : (d.modCmp f).fan = d.fan := (rfl)

/-! ### modDcr -/

@[simp] theorem Dev.modDcr_regs (f : Dcr → Dcr) (d : Dev) : (d.modDcr f).regs = d.regs := (rfl)
@[simp] theorem Dev.modDcr_latches (f : Dcr → Dcr) (d : Dev) : (d.modDcr f).latches = d.latches := (rfl)
@[simp] theorem Dev.modDcr_staging (f : Dcr → Dcr) (d : Dev) : (d.modDcr f).staging = d.staging := (rfl)
@[simp] theorem Dev.modDcr_mem (f : Dcr → Dcr) (d : Dev) : (d.modDcr f).mem = d.mem := (rfl)
@[simp] theorem Dev.modDcr_freeCtr (f : Dcr → Dcr) (d : Dev) : (d.modDcr f).freeCtr = d.freeCtr := (rfl)
@[simp] theorem Dev.modDcr_flt (f : Dcr → Dcr) (d : Dev) : (d.modDcr f).flt = d.flt := (rfl)
@[simp] theorem Dev.modDcr_mig (f : Dcr → Dcr) (d : Dev) : (d.modDcr f).mig = d.mig := (rfl)
@[simp] theorem Dev.modDcr_memc (f : Dcr → Dcr) (d : Dev) : (d.modDcr f).memc = d.memc := (rfl)
@[simp] theorem Dev.modDcr_hdma (f : Dcr → Dcr) (d : Dev) : (d.modDcr f).hdma = d.hdma := (rfl)
@[simp] theorem Dev.modDcr_cfg (f : Dcr → Dcr) (d : Dev) : (d.modDcr f).cfg = d.cfg := (rfl)
@[simp] theorem Dev.modDcr_glb (f : Dcr → Dcr) (d : Dev) : (d.modDcr f).glb = d.glb := (rfl)
@[simp] theorem Dev.modDcr_seq (f : Dcr → Dcr) (d : Dev) : (d.modDcr f).seq = d.seq := (rfl)
@[simp] theorem Dev.modDcr_run (f : Dcr → Dcr) (d : Dev) : (d.modDcr f).run = d.run := (rfl)
@[simp] theorem Dev.modDcr_cmp (f : Dcr → Dcr) (d : Dev) : (d.modDcr f).cmp = d.cmp := (rfl)
@[simp] theorem Dev.modDcr_dcr (f : Dcr → Dcr) (d : Dev) : (d.modDcr f).dcr = f d.dcr := (rfl)
@[simp] theorem Dev.modDcr_asm (f : Dcr → Dcr) (d : Dev) : (d.modDcr f).asm = d.asm := (rfl)
@[simp] theorem Dev.modDcr_nrg (f : Dcr → Dcr) (d : Dev) : (d.modDcr f).nrg = d.nrg := (rfl)
@[simp] theorem Dev.modDcr_pac (f : Dcr → Dcr) (d : Dev) : (d.modDcr f).pac = d.pac := (rfl)
@[simp] theorem Dev.modDcr_hlk (f : Dcr → Dcr) (d : Dev) : (d.modDcr f).hlk = d.hlk := (rfl)
@[simp] theorem Dev.modDcr_tim (f : Dcr → Dcr) (d : Dev) : (d.modDcr f).tim = d.tim := (rfl)
@[simp] theorem Dev.modDcr_mot (f : Dcr → Dcr) (d : Dev) : (d.modDcr f).mot = d.mot := (rfl)
@[simp] theorem Dev.modDcr_pmu (f : Dcr → Dcr) (d : Dev) : (d.modDcr f).pmu = d.pmu := (rfl)
@[simp] theorem Dev.modDcr_msr (f : Dcr → Dcr) (d : Dev) : (d.modDcr f).msr = d.msr := (rfl)
@[simp] theorem Dev.modDcr_duo (f : Dcr → Dcr) (d : Dev) : (d.modDcr f).duo = d.duo := (rfl)
@[simp] theorem Dev.modDcr_crc (f : Dcr → Dcr) (d : Dev) : (d.modDcr f).crc = d.crc := (rfl)
@[simp] theorem Dev.modDcr_fan (f : Dcr → Dcr) (d : Dev) : (d.modDcr f).fan = d.fan := (rfl)

/-! ### modAsm -/

@[simp] theorem Dev.modAsm_regs (f : Asm → Asm) (d : Dev) : (d.modAsm f).regs = d.regs := (rfl)
@[simp] theorem Dev.modAsm_latches (f : Asm → Asm) (d : Dev) : (d.modAsm f).latches = d.latches := (rfl)
@[simp] theorem Dev.modAsm_staging (f : Asm → Asm) (d : Dev) : (d.modAsm f).staging = d.staging := (rfl)
@[simp] theorem Dev.modAsm_mem (f : Asm → Asm) (d : Dev) : (d.modAsm f).mem = d.mem := (rfl)
@[simp] theorem Dev.modAsm_freeCtr (f : Asm → Asm) (d : Dev) : (d.modAsm f).freeCtr = d.freeCtr := (rfl)
@[simp] theorem Dev.modAsm_flt (f : Asm → Asm) (d : Dev) : (d.modAsm f).flt = d.flt := (rfl)
@[simp] theorem Dev.modAsm_mig (f : Asm → Asm) (d : Dev) : (d.modAsm f).mig = d.mig := (rfl)
@[simp] theorem Dev.modAsm_memc (f : Asm → Asm) (d : Dev) : (d.modAsm f).memc = d.memc := (rfl)
@[simp] theorem Dev.modAsm_hdma (f : Asm → Asm) (d : Dev) : (d.modAsm f).hdma = d.hdma := (rfl)
@[simp] theorem Dev.modAsm_cfg (f : Asm → Asm) (d : Dev) : (d.modAsm f).cfg = d.cfg := (rfl)
@[simp] theorem Dev.modAsm_glb (f : Asm → Asm) (d : Dev) : (d.modAsm f).glb = d.glb := (rfl)
@[simp] theorem Dev.modAsm_seq (f : Asm → Asm) (d : Dev) : (d.modAsm f).seq = d.seq := (rfl)
@[simp] theorem Dev.modAsm_run (f : Asm → Asm) (d : Dev) : (d.modAsm f).run = d.run := (rfl)
@[simp] theorem Dev.modAsm_cmp (f : Asm → Asm) (d : Dev) : (d.modAsm f).cmp = d.cmp := (rfl)
@[simp] theorem Dev.modAsm_dcr (f : Asm → Asm) (d : Dev) : (d.modAsm f).dcr = d.dcr := (rfl)
@[simp] theorem Dev.modAsm_asm (f : Asm → Asm) (d : Dev) : (d.modAsm f).asm = f d.asm := (rfl)
@[simp] theorem Dev.modAsm_nrg (f : Asm → Asm) (d : Dev) : (d.modAsm f).nrg = d.nrg := (rfl)
@[simp] theorem Dev.modAsm_pac (f : Asm → Asm) (d : Dev) : (d.modAsm f).pac = d.pac := (rfl)
@[simp] theorem Dev.modAsm_hlk (f : Asm → Asm) (d : Dev) : (d.modAsm f).hlk = d.hlk := (rfl)
@[simp] theorem Dev.modAsm_tim (f : Asm → Asm) (d : Dev) : (d.modAsm f).tim = d.tim := (rfl)
@[simp] theorem Dev.modAsm_mot (f : Asm → Asm) (d : Dev) : (d.modAsm f).mot = d.mot := (rfl)
@[simp] theorem Dev.modAsm_pmu (f : Asm → Asm) (d : Dev) : (d.modAsm f).pmu = d.pmu := (rfl)
@[simp] theorem Dev.modAsm_msr (f : Asm → Asm) (d : Dev) : (d.modAsm f).msr = d.msr := (rfl)
@[simp] theorem Dev.modAsm_duo (f : Asm → Asm) (d : Dev) : (d.modAsm f).duo = d.duo := (rfl)
@[simp] theorem Dev.modAsm_crc (f : Asm → Asm) (d : Dev) : (d.modAsm f).crc = d.crc := (rfl)
@[simp] theorem Dev.modAsm_fan (f : Asm → Asm) (d : Dev) : (d.modAsm f).fan = d.fan := (rfl)

/-! ### modNrg -/

@[simp] theorem Dev.modNrg_regs (f : Nrg → Nrg) (d : Dev) : (d.modNrg f).regs = d.regs := (rfl)
@[simp] theorem Dev.modNrg_latches (f : Nrg → Nrg) (d : Dev) : (d.modNrg f).latches = d.latches := (rfl)
@[simp] theorem Dev.modNrg_staging (f : Nrg → Nrg) (d : Dev) : (d.modNrg f).staging = d.staging := (rfl)
@[simp] theorem Dev.modNrg_mem (f : Nrg → Nrg) (d : Dev) : (d.modNrg f).mem = d.mem := (rfl)
@[simp] theorem Dev.modNrg_freeCtr (f : Nrg → Nrg) (d : Dev) : (d.modNrg f).freeCtr = d.freeCtr := (rfl)
@[simp] theorem Dev.modNrg_flt (f : Nrg → Nrg) (d : Dev) : (d.modNrg f).flt = d.flt := (rfl)
@[simp] theorem Dev.modNrg_mig (f : Nrg → Nrg) (d : Dev) : (d.modNrg f).mig = d.mig := (rfl)
@[simp] theorem Dev.modNrg_memc (f : Nrg → Nrg) (d : Dev) : (d.modNrg f).memc = d.memc := (rfl)
@[simp] theorem Dev.modNrg_hdma (f : Nrg → Nrg) (d : Dev) : (d.modNrg f).hdma = d.hdma := (rfl)
@[simp] theorem Dev.modNrg_cfg (f : Nrg → Nrg) (d : Dev) : (d.modNrg f).cfg = d.cfg := (rfl)
@[simp] theorem Dev.modNrg_glb (f : Nrg → Nrg) (d : Dev) : (d.modNrg f).glb = d.glb := (rfl)
@[simp] theorem Dev.modNrg_seq (f : Nrg → Nrg) (d : Dev) : (d.modNrg f).seq = d.seq := (rfl)
@[simp] theorem Dev.modNrg_run (f : Nrg → Nrg) (d : Dev) : (d.modNrg f).run = d.run := (rfl)
@[simp] theorem Dev.modNrg_cmp (f : Nrg → Nrg) (d : Dev) : (d.modNrg f).cmp = d.cmp := (rfl)
@[simp] theorem Dev.modNrg_dcr (f : Nrg → Nrg) (d : Dev) : (d.modNrg f).dcr = d.dcr := (rfl)
@[simp] theorem Dev.modNrg_asm (f : Nrg → Nrg) (d : Dev) : (d.modNrg f).asm = d.asm := (rfl)
@[simp] theorem Dev.modNrg_nrg (f : Nrg → Nrg) (d : Dev) : (d.modNrg f).nrg = f d.nrg := (rfl)
@[simp] theorem Dev.modNrg_pac (f : Nrg → Nrg) (d : Dev) : (d.modNrg f).pac = d.pac := (rfl)
@[simp] theorem Dev.modNrg_hlk (f : Nrg → Nrg) (d : Dev) : (d.modNrg f).hlk = d.hlk := (rfl)
@[simp] theorem Dev.modNrg_tim (f : Nrg → Nrg) (d : Dev) : (d.modNrg f).tim = d.tim := (rfl)
@[simp] theorem Dev.modNrg_mot (f : Nrg → Nrg) (d : Dev) : (d.modNrg f).mot = d.mot := (rfl)
@[simp] theorem Dev.modNrg_pmu (f : Nrg → Nrg) (d : Dev) : (d.modNrg f).pmu = d.pmu := (rfl)
@[simp] theorem Dev.modNrg_msr (f : Nrg → Nrg) (d : Dev) : (d.modNrg f).msr = d.msr := (rfl)
@[simp] theorem Dev.modNrg_duo (f : Nrg → Nrg) (d : Dev) : (d.modNrg f).duo = d.duo := (rfl)
@[simp] theorem Dev.modNrg_crc (f : Nrg → Nrg) (d : Dev) : (d.modNrg f).crc = d.crc := (rfl)
@[simp] theorem Dev.modNrg_fan (f : Nrg → Nrg) (d : Dev) : (d.modNrg f).fan = d.fan := (rfl)

/-! ### modPac -/

@[simp] theorem Dev.modPac_regs (f : Pac → Pac) (d : Dev) : (d.modPac f).regs = d.regs := (rfl)
@[simp] theorem Dev.modPac_latches (f : Pac → Pac) (d : Dev) : (d.modPac f).latches = d.latches := (rfl)
@[simp] theorem Dev.modPac_staging (f : Pac → Pac) (d : Dev) : (d.modPac f).staging = d.staging := (rfl)
@[simp] theorem Dev.modPac_mem (f : Pac → Pac) (d : Dev) : (d.modPac f).mem = d.mem := (rfl)
@[simp] theorem Dev.modPac_freeCtr (f : Pac → Pac) (d : Dev) : (d.modPac f).freeCtr = d.freeCtr := (rfl)
@[simp] theorem Dev.modPac_flt (f : Pac → Pac) (d : Dev) : (d.modPac f).flt = d.flt := (rfl)
@[simp] theorem Dev.modPac_mig (f : Pac → Pac) (d : Dev) : (d.modPac f).mig = d.mig := (rfl)
@[simp] theorem Dev.modPac_memc (f : Pac → Pac) (d : Dev) : (d.modPac f).memc = d.memc := (rfl)
@[simp] theorem Dev.modPac_hdma (f : Pac → Pac) (d : Dev) : (d.modPac f).hdma = d.hdma := (rfl)
@[simp] theorem Dev.modPac_cfg (f : Pac → Pac) (d : Dev) : (d.modPac f).cfg = d.cfg := (rfl)
@[simp] theorem Dev.modPac_glb (f : Pac → Pac) (d : Dev) : (d.modPac f).glb = d.glb := (rfl)
@[simp] theorem Dev.modPac_seq (f : Pac → Pac) (d : Dev) : (d.modPac f).seq = d.seq := (rfl)
@[simp] theorem Dev.modPac_run (f : Pac → Pac) (d : Dev) : (d.modPac f).run = d.run := (rfl)
@[simp] theorem Dev.modPac_cmp (f : Pac → Pac) (d : Dev) : (d.modPac f).cmp = d.cmp := (rfl)
@[simp] theorem Dev.modPac_dcr (f : Pac → Pac) (d : Dev) : (d.modPac f).dcr = d.dcr := (rfl)
@[simp] theorem Dev.modPac_asm (f : Pac → Pac) (d : Dev) : (d.modPac f).asm = d.asm := (rfl)
@[simp] theorem Dev.modPac_nrg (f : Pac → Pac) (d : Dev) : (d.modPac f).nrg = d.nrg := (rfl)
@[simp] theorem Dev.modPac_pac (f : Pac → Pac) (d : Dev) : (d.modPac f).pac = f d.pac := (rfl)
@[simp] theorem Dev.modPac_hlk (f : Pac → Pac) (d : Dev) : (d.modPac f).hlk = d.hlk := (rfl)
@[simp] theorem Dev.modPac_tim (f : Pac → Pac) (d : Dev) : (d.modPac f).tim = d.tim := (rfl)
@[simp] theorem Dev.modPac_mot (f : Pac → Pac) (d : Dev) : (d.modPac f).mot = d.mot := (rfl)
@[simp] theorem Dev.modPac_pmu (f : Pac → Pac) (d : Dev) : (d.modPac f).pmu = d.pmu := (rfl)
@[simp] theorem Dev.modPac_msr (f : Pac → Pac) (d : Dev) : (d.modPac f).msr = d.msr := (rfl)
@[simp] theorem Dev.modPac_duo (f : Pac → Pac) (d : Dev) : (d.modPac f).duo = d.duo := (rfl)
@[simp] theorem Dev.modPac_crc (f : Pac → Pac) (d : Dev) : (d.modPac f).crc = d.crc := (rfl)
@[simp] theorem Dev.modPac_fan (f : Pac → Pac) (d : Dev) : (d.modPac f).fan = d.fan := (rfl)

/-! ### modHlk -/

@[simp] theorem Dev.modHlk_regs (f : Hlk → Hlk) (d : Dev) : (d.modHlk f).regs = d.regs := (rfl)
@[simp] theorem Dev.modHlk_latches (f : Hlk → Hlk) (d : Dev) : (d.modHlk f).latches = d.latches := (rfl)
@[simp] theorem Dev.modHlk_staging (f : Hlk → Hlk) (d : Dev) : (d.modHlk f).staging = d.staging := (rfl)
@[simp] theorem Dev.modHlk_mem (f : Hlk → Hlk) (d : Dev) : (d.modHlk f).mem = d.mem := (rfl)
@[simp] theorem Dev.modHlk_freeCtr (f : Hlk → Hlk) (d : Dev) : (d.modHlk f).freeCtr = d.freeCtr := (rfl)
@[simp] theorem Dev.modHlk_flt (f : Hlk → Hlk) (d : Dev) : (d.modHlk f).flt = d.flt := (rfl)
@[simp] theorem Dev.modHlk_mig (f : Hlk → Hlk) (d : Dev) : (d.modHlk f).mig = d.mig := (rfl)
@[simp] theorem Dev.modHlk_memc (f : Hlk → Hlk) (d : Dev) : (d.modHlk f).memc = d.memc := (rfl)
@[simp] theorem Dev.modHlk_hdma (f : Hlk → Hlk) (d : Dev) : (d.modHlk f).hdma = d.hdma := (rfl)
@[simp] theorem Dev.modHlk_cfg (f : Hlk → Hlk) (d : Dev) : (d.modHlk f).cfg = d.cfg := (rfl)
@[simp] theorem Dev.modHlk_glb (f : Hlk → Hlk) (d : Dev) : (d.modHlk f).glb = d.glb := (rfl)
@[simp] theorem Dev.modHlk_seq (f : Hlk → Hlk) (d : Dev) : (d.modHlk f).seq = d.seq := (rfl)
@[simp] theorem Dev.modHlk_run (f : Hlk → Hlk) (d : Dev) : (d.modHlk f).run = d.run := (rfl)
@[simp] theorem Dev.modHlk_cmp (f : Hlk → Hlk) (d : Dev) : (d.modHlk f).cmp = d.cmp := (rfl)
@[simp] theorem Dev.modHlk_dcr (f : Hlk → Hlk) (d : Dev) : (d.modHlk f).dcr = d.dcr := (rfl)
@[simp] theorem Dev.modHlk_asm (f : Hlk → Hlk) (d : Dev) : (d.modHlk f).asm = d.asm := (rfl)
@[simp] theorem Dev.modHlk_nrg (f : Hlk → Hlk) (d : Dev) : (d.modHlk f).nrg = d.nrg := (rfl)
@[simp] theorem Dev.modHlk_pac (f : Hlk → Hlk) (d : Dev) : (d.modHlk f).pac = d.pac := (rfl)
@[simp] theorem Dev.modHlk_hlk (f : Hlk → Hlk) (d : Dev) : (d.modHlk f).hlk = f d.hlk := (rfl)
@[simp] theorem Dev.modHlk_tim (f : Hlk → Hlk) (d : Dev) : (d.modHlk f).tim = d.tim := (rfl)
@[simp] theorem Dev.modHlk_mot (f : Hlk → Hlk) (d : Dev) : (d.modHlk f).mot = d.mot := (rfl)
@[simp] theorem Dev.modHlk_pmu (f : Hlk → Hlk) (d : Dev) : (d.modHlk f).pmu = d.pmu := (rfl)
@[simp] theorem Dev.modHlk_msr (f : Hlk → Hlk) (d : Dev) : (d.modHlk f).msr = d.msr := (rfl)
@[simp] theorem Dev.modHlk_duo (f : Hlk → Hlk) (d : Dev) : (d.modHlk f).duo = d.duo := (rfl)
@[simp] theorem Dev.modHlk_crc (f : Hlk → Hlk) (d : Dev) : (d.modHlk f).crc = d.crc := (rfl)
@[simp] theorem Dev.modHlk_fan (f : Hlk → Hlk) (d : Dev) : (d.modHlk f).fan = d.fan := (rfl)

/-! ### modTim -/

@[simp] theorem Dev.modTim_regs (f : Tim → Tim) (d : Dev) : (d.modTim f).regs = d.regs := (rfl)
@[simp] theorem Dev.modTim_latches (f : Tim → Tim) (d : Dev) : (d.modTim f).latches = d.latches := (rfl)
@[simp] theorem Dev.modTim_staging (f : Tim → Tim) (d : Dev) : (d.modTim f).staging = d.staging := (rfl)
@[simp] theorem Dev.modTim_mem (f : Tim → Tim) (d : Dev) : (d.modTim f).mem = d.mem := (rfl)
@[simp] theorem Dev.modTim_freeCtr (f : Tim → Tim) (d : Dev) : (d.modTim f).freeCtr = d.freeCtr := (rfl)
@[simp] theorem Dev.modTim_flt (f : Tim → Tim) (d : Dev) : (d.modTim f).flt = d.flt := (rfl)
@[simp] theorem Dev.modTim_mig (f : Tim → Tim) (d : Dev) : (d.modTim f).mig = d.mig := (rfl)
@[simp] theorem Dev.modTim_memc (f : Tim → Tim) (d : Dev) : (d.modTim f).memc = d.memc := (rfl)
@[simp] theorem Dev.modTim_hdma (f : Tim → Tim) (d : Dev) : (d.modTim f).hdma = d.hdma := (rfl)
@[simp] theorem Dev.modTim_cfg (f : Tim → Tim) (d : Dev) : (d.modTim f).cfg = d.cfg := (rfl)
@[simp] theorem Dev.modTim_glb (f : Tim → Tim) (d : Dev) : (d.modTim f).glb = d.glb := (rfl)
@[simp] theorem Dev.modTim_seq (f : Tim → Tim) (d : Dev) : (d.modTim f).seq = d.seq := (rfl)
@[simp] theorem Dev.modTim_run (f : Tim → Tim) (d : Dev) : (d.modTim f).run = d.run := (rfl)
@[simp] theorem Dev.modTim_cmp (f : Tim → Tim) (d : Dev) : (d.modTim f).cmp = d.cmp := (rfl)
@[simp] theorem Dev.modTim_dcr (f : Tim → Tim) (d : Dev) : (d.modTim f).dcr = d.dcr := (rfl)
@[simp] theorem Dev.modTim_asm (f : Tim → Tim) (d : Dev) : (d.modTim f).asm = d.asm := (rfl)
@[simp] theorem Dev.modTim_nrg (f : Tim → Tim) (d : Dev) : (d.modTim f).nrg = d.nrg := (rfl)
@[simp] theorem Dev.modTim_pac (f : Tim → Tim) (d : Dev) : (d.modTim f).pac = d.pac := (rfl)
@[simp] theorem Dev.modTim_hlk (f : Tim → Tim) (d : Dev) : (d.modTim f).hlk = d.hlk := (rfl)
@[simp] theorem Dev.modTim_tim (f : Tim → Tim) (d : Dev) : (d.modTim f).tim = f d.tim := (rfl)
@[simp] theorem Dev.modTim_mot (f : Tim → Tim) (d : Dev) : (d.modTim f).mot = d.mot := (rfl)
@[simp] theorem Dev.modTim_pmu (f : Tim → Tim) (d : Dev) : (d.modTim f).pmu = d.pmu := (rfl)
@[simp] theorem Dev.modTim_msr (f : Tim → Tim) (d : Dev) : (d.modTim f).msr = d.msr := (rfl)
@[simp] theorem Dev.modTim_duo (f : Tim → Tim) (d : Dev) : (d.modTim f).duo = d.duo := (rfl)
@[simp] theorem Dev.modTim_crc (f : Tim → Tim) (d : Dev) : (d.modTim f).crc = d.crc := (rfl)
@[simp] theorem Dev.modTim_fan (f : Tim → Tim) (d : Dev) : (d.modTim f).fan = d.fan := (rfl)

/-! ### modMot -/

@[simp] theorem Dev.modMot_regs (f : Mot → Mot) (d : Dev) : (d.modMot f).regs = d.regs := (rfl)
@[simp] theorem Dev.modMot_latches (f : Mot → Mot) (d : Dev) : (d.modMot f).latches = d.latches := (rfl)
@[simp] theorem Dev.modMot_staging (f : Mot → Mot) (d : Dev) : (d.modMot f).staging = d.staging := (rfl)
@[simp] theorem Dev.modMot_mem (f : Mot → Mot) (d : Dev) : (d.modMot f).mem = d.mem := (rfl)
@[simp] theorem Dev.modMot_freeCtr (f : Mot → Mot) (d : Dev) : (d.modMot f).freeCtr = d.freeCtr := (rfl)
@[simp] theorem Dev.modMot_flt (f : Mot → Mot) (d : Dev) : (d.modMot f).flt = d.flt := (rfl)
@[simp] theorem Dev.modMot_mig (f : Mot → Mot) (d : Dev) : (d.modMot f).mig = d.mig := (rfl)
@[simp] theorem Dev.modMot_memc (f : Mot → Mot) (d : Dev) : (d.modMot f).memc = d.memc := (rfl)
@[simp] theorem Dev.modMot_hdma (f : Mot → Mot) (d : Dev) : (d.modMot f).hdma = d.hdma := (rfl)
@[simp] theorem Dev.modMot_cfg (f : Mot → Mot) (d : Dev) : (d.modMot f).cfg = d.cfg := (rfl)
@[simp] theorem Dev.modMot_glb (f : Mot → Mot) (d : Dev) : (d.modMot f).glb = d.glb := (rfl)
@[simp] theorem Dev.modMot_seq (f : Mot → Mot) (d : Dev) : (d.modMot f).seq = d.seq := (rfl)
@[simp] theorem Dev.modMot_run (f : Mot → Mot) (d : Dev) : (d.modMot f).run = d.run := (rfl)
@[simp] theorem Dev.modMot_cmp (f : Mot → Mot) (d : Dev) : (d.modMot f).cmp = d.cmp := (rfl)
@[simp] theorem Dev.modMot_dcr (f : Mot → Mot) (d : Dev) : (d.modMot f).dcr = d.dcr := (rfl)
@[simp] theorem Dev.modMot_asm (f : Mot → Mot) (d : Dev) : (d.modMot f).asm = d.asm := (rfl)
@[simp] theorem Dev.modMot_nrg (f : Mot → Mot) (d : Dev) : (d.modMot f).nrg = d.nrg := (rfl)
@[simp] theorem Dev.modMot_pac (f : Mot → Mot) (d : Dev) : (d.modMot f).pac = d.pac := (rfl)
@[simp] theorem Dev.modMot_hlk (f : Mot → Mot) (d : Dev) : (d.modMot f).hlk = d.hlk := (rfl)
@[simp] theorem Dev.modMot_tim (f : Mot → Mot) (d : Dev) : (d.modMot f).tim = d.tim := (rfl)
@[simp] theorem Dev.modMot_mot (f : Mot → Mot) (d : Dev) : (d.modMot f).mot = f d.mot := (rfl)
@[simp] theorem Dev.modMot_pmu (f : Mot → Mot) (d : Dev) : (d.modMot f).pmu = d.pmu := (rfl)
@[simp] theorem Dev.modMot_msr (f : Mot → Mot) (d : Dev) : (d.modMot f).msr = d.msr := (rfl)
@[simp] theorem Dev.modMot_duo (f : Mot → Mot) (d : Dev) : (d.modMot f).duo = d.duo := (rfl)
@[simp] theorem Dev.modMot_crc (f : Mot → Mot) (d : Dev) : (d.modMot f).crc = d.crc := (rfl)
@[simp] theorem Dev.modMot_fan (f : Mot → Mot) (d : Dev) : (d.modMot f).fan = d.fan := (rfl)

/-! ### modPmu -/

@[simp] theorem Dev.modPmu_regs (f : Pmu → Pmu) (d : Dev) : (d.modPmu f).regs = d.regs := (rfl)
@[simp] theorem Dev.modPmu_latches (f : Pmu → Pmu) (d : Dev) : (d.modPmu f).latches = d.latches := (rfl)
@[simp] theorem Dev.modPmu_staging (f : Pmu → Pmu) (d : Dev) : (d.modPmu f).staging = d.staging := (rfl)
@[simp] theorem Dev.modPmu_mem (f : Pmu → Pmu) (d : Dev) : (d.modPmu f).mem = d.mem := (rfl)
@[simp] theorem Dev.modPmu_freeCtr (f : Pmu → Pmu) (d : Dev) : (d.modPmu f).freeCtr = d.freeCtr := (rfl)
@[simp] theorem Dev.modPmu_flt (f : Pmu → Pmu) (d : Dev) : (d.modPmu f).flt = d.flt := (rfl)
@[simp] theorem Dev.modPmu_mig (f : Pmu → Pmu) (d : Dev) : (d.modPmu f).mig = d.mig := (rfl)
@[simp] theorem Dev.modPmu_memc (f : Pmu → Pmu) (d : Dev) : (d.modPmu f).memc = d.memc := (rfl)
@[simp] theorem Dev.modPmu_hdma (f : Pmu → Pmu) (d : Dev) : (d.modPmu f).hdma = d.hdma := (rfl)
@[simp] theorem Dev.modPmu_cfg (f : Pmu → Pmu) (d : Dev) : (d.modPmu f).cfg = d.cfg := (rfl)
@[simp] theorem Dev.modPmu_glb (f : Pmu → Pmu) (d : Dev) : (d.modPmu f).glb = d.glb := (rfl)
@[simp] theorem Dev.modPmu_seq (f : Pmu → Pmu) (d : Dev) : (d.modPmu f).seq = d.seq := (rfl)
@[simp] theorem Dev.modPmu_run (f : Pmu → Pmu) (d : Dev) : (d.modPmu f).run = d.run := (rfl)
@[simp] theorem Dev.modPmu_cmp (f : Pmu → Pmu) (d : Dev) : (d.modPmu f).cmp = d.cmp := (rfl)
@[simp] theorem Dev.modPmu_dcr (f : Pmu → Pmu) (d : Dev) : (d.modPmu f).dcr = d.dcr := (rfl)
@[simp] theorem Dev.modPmu_asm (f : Pmu → Pmu) (d : Dev) : (d.modPmu f).asm = d.asm := (rfl)
@[simp] theorem Dev.modPmu_nrg (f : Pmu → Pmu) (d : Dev) : (d.modPmu f).nrg = d.nrg := (rfl)
@[simp] theorem Dev.modPmu_pac (f : Pmu → Pmu) (d : Dev) : (d.modPmu f).pac = d.pac := (rfl)
@[simp] theorem Dev.modPmu_hlk (f : Pmu → Pmu) (d : Dev) : (d.modPmu f).hlk = d.hlk := (rfl)
@[simp] theorem Dev.modPmu_tim (f : Pmu → Pmu) (d : Dev) : (d.modPmu f).tim = d.tim := (rfl)
@[simp] theorem Dev.modPmu_mot (f : Pmu → Pmu) (d : Dev) : (d.modPmu f).mot = d.mot := (rfl)
@[simp] theorem Dev.modPmu_pmu (f : Pmu → Pmu) (d : Dev) : (d.modPmu f).pmu = f d.pmu := (rfl)
@[simp] theorem Dev.modPmu_msr (f : Pmu → Pmu) (d : Dev) : (d.modPmu f).msr = d.msr := (rfl)
@[simp] theorem Dev.modPmu_duo (f : Pmu → Pmu) (d : Dev) : (d.modPmu f).duo = d.duo := (rfl)
@[simp] theorem Dev.modPmu_crc (f : Pmu → Pmu) (d : Dev) : (d.modPmu f).crc = d.crc := (rfl)
@[simp] theorem Dev.modPmu_fan (f : Pmu → Pmu) (d : Dev) : (d.modPmu f).fan = d.fan := (rfl)

/-! ### modMsr -/

@[simp] theorem Dev.modMsr_regs (f : Msr → Msr) (d : Dev) : (d.modMsr f).regs = d.regs := (rfl)
@[simp] theorem Dev.modMsr_latches (f : Msr → Msr) (d : Dev) : (d.modMsr f).latches = d.latches := (rfl)
@[simp] theorem Dev.modMsr_staging (f : Msr → Msr) (d : Dev) : (d.modMsr f).staging = d.staging := (rfl)
@[simp] theorem Dev.modMsr_mem (f : Msr → Msr) (d : Dev) : (d.modMsr f).mem = d.mem := (rfl)
@[simp] theorem Dev.modMsr_freeCtr (f : Msr → Msr) (d : Dev) : (d.modMsr f).freeCtr = d.freeCtr := (rfl)
@[simp] theorem Dev.modMsr_flt (f : Msr → Msr) (d : Dev) : (d.modMsr f).flt = d.flt := (rfl)
@[simp] theorem Dev.modMsr_mig (f : Msr → Msr) (d : Dev) : (d.modMsr f).mig = d.mig := (rfl)
@[simp] theorem Dev.modMsr_memc (f : Msr → Msr) (d : Dev) : (d.modMsr f).memc = d.memc := (rfl)
@[simp] theorem Dev.modMsr_hdma (f : Msr → Msr) (d : Dev) : (d.modMsr f).hdma = d.hdma := (rfl)
@[simp] theorem Dev.modMsr_cfg (f : Msr → Msr) (d : Dev) : (d.modMsr f).cfg = d.cfg := (rfl)
@[simp] theorem Dev.modMsr_glb (f : Msr → Msr) (d : Dev) : (d.modMsr f).glb = d.glb := (rfl)
@[simp] theorem Dev.modMsr_seq (f : Msr → Msr) (d : Dev) : (d.modMsr f).seq = d.seq := (rfl)
@[simp] theorem Dev.modMsr_run (f : Msr → Msr) (d : Dev) : (d.modMsr f).run = d.run := (rfl)
@[simp] theorem Dev.modMsr_cmp (f : Msr → Msr) (d : Dev) : (d.modMsr f).cmp = d.cmp := (rfl)
@[simp] theorem Dev.modMsr_dcr (f : Msr → Msr) (d : Dev) : (d.modMsr f).dcr = d.dcr := (rfl)
@[simp] theorem Dev.modMsr_asm (f : Msr → Msr) (d : Dev) : (d.modMsr f).asm = d.asm := (rfl)
@[simp] theorem Dev.modMsr_nrg (f : Msr → Msr) (d : Dev) : (d.modMsr f).nrg = d.nrg := (rfl)
@[simp] theorem Dev.modMsr_pac (f : Msr → Msr) (d : Dev) : (d.modMsr f).pac = d.pac := (rfl)
@[simp] theorem Dev.modMsr_hlk (f : Msr → Msr) (d : Dev) : (d.modMsr f).hlk = d.hlk := (rfl)
@[simp] theorem Dev.modMsr_tim (f : Msr → Msr) (d : Dev) : (d.modMsr f).tim = d.tim := (rfl)
@[simp] theorem Dev.modMsr_mot (f : Msr → Msr) (d : Dev) : (d.modMsr f).mot = d.mot := (rfl)
@[simp] theorem Dev.modMsr_pmu (f : Msr → Msr) (d : Dev) : (d.modMsr f).pmu = d.pmu := (rfl)
@[simp] theorem Dev.modMsr_msr (f : Msr → Msr) (d : Dev) : (d.modMsr f).msr = f d.msr := (rfl)
@[simp] theorem Dev.modMsr_duo (f : Msr → Msr) (d : Dev) : (d.modMsr f).duo = d.duo := (rfl)
@[simp] theorem Dev.modMsr_crc (f : Msr → Msr) (d : Dev) : (d.modMsr f).crc = d.crc := (rfl)
@[simp] theorem Dev.modMsr_fan (f : Msr → Msr) (d : Dev) : (d.modMsr f).fan = d.fan := (rfl)

/-! ### modPair -/

@[simp] theorem Dev.modPair_regs (f : Pair → Pair) (d : Dev) : (d.modPair f).regs = d.regs := (rfl)
@[simp] theorem Dev.modPair_latches (f : Pair → Pair) (d : Dev) : (d.modPair f).latches = d.latches := (rfl)
@[simp] theorem Dev.modPair_staging (f : Pair → Pair) (d : Dev) : (d.modPair f).staging = d.staging := (rfl)
@[simp] theorem Dev.modPair_mem (f : Pair → Pair) (d : Dev) : (d.modPair f).mem = d.mem := (rfl)
@[simp] theorem Dev.modPair_freeCtr (f : Pair → Pair) (d : Dev) : (d.modPair f).freeCtr = d.freeCtr := (rfl)
@[simp] theorem Dev.modPair_flt (f : Pair → Pair) (d : Dev) : (d.modPair f).flt = d.flt := (rfl)
@[simp] theorem Dev.modPair_mig (f : Pair → Pair) (d : Dev) : (d.modPair f).mig = d.mig := (rfl)
@[simp] theorem Dev.modPair_memc (f : Pair → Pair) (d : Dev) : (d.modPair f).memc = d.memc := (rfl)
@[simp] theorem Dev.modPair_hdma (f : Pair → Pair) (d : Dev) : (d.modPair f).hdma = d.hdma := (rfl)
@[simp] theorem Dev.modPair_cfg (f : Pair → Pair) (d : Dev) : (d.modPair f).cfg = d.cfg := (rfl)
@[simp] theorem Dev.modPair_glb (f : Pair → Pair) (d : Dev) : (d.modPair f).glb = d.glb := (rfl)
@[simp] theorem Dev.modPair_seq (f : Pair → Pair) (d : Dev) : (d.modPair f).seq = d.seq := (rfl)
@[simp] theorem Dev.modPair_run (f : Pair → Pair) (d : Dev) : (d.modPair f).run = d.run := (rfl)
@[simp] theorem Dev.modPair_cmp (f : Pair → Pair) (d : Dev) : (d.modPair f).cmp = d.cmp := (rfl)
@[simp] theorem Dev.modPair_dcr (f : Pair → Pair) (d : Dev) : (d.modPair f).dcr = d.dcr := (rfl)
@[simp] theorem Dev.modPair_asm (f : Pair → Pair) (d : Dev) : (d.modPair f).asm = d.asm := (rfl)
@[simp] theorem Dev.modPair_nrg (f : Pair → Pair) (d : Dev) : (d.modPair f).nrg = d.nrg := (rfl)
@[simp] theorem Dev.modPair_pac (f : Pair → Pair) (d : Dev) : (d.modPair f).pac = d.pac := (rfl)
@[simp] theorem Dev.modPair_hlk (f : Pair → Pair) (d : Dev) : (d.modPair f).hlk = d.hlk := (rfl)
@[simp] theorem Dev.modPair_tim (f : Pair → Pair) (d : Dev) : (d.modPair f).tim = d.tim := (rfl)
@[simp] theorem Dev.modPair_mot (f : Pair → Pair) (d : Dev) : (d.modPair f).mot = d.mot := (rfl)
@[simp] theorem Dev.modPair_pmu (f : Pair → Pair) (d : Dev) : (d.modPair f).pmu = d.pmu := (rfl)
@[simp] theorem Dev.modPair_msr (f : Pair → Pair) (d : Dev) : (d.modPair f).msr = d.msr := (rfl)
@[simp] theorem Dev.modPair_duo (f : Pair → Pair) (d : Dev) : (d.modPair f).duo = f d.duo := (rfl)
@[simp] theorem Dev.modPair_crc (f : Pair → Pair) (d : Dev) : (d.modPair f).crc = d.crc := (rfl)
@[simp] theorem Dev.modPair_fan (f : Pair → Pair) (d : Dev) : (d.modPair f).fan = d.fan := (rfl)

/-! ### modCrc -/

@[simp] theorem Dev.modCrc_regs (f : Tab CrcUnit → Tab CrcUnit) (d : Dev) : (d.modCrc f).regs = d.regs := (rfl)
@[simp] theorem Dev.modCrc_latches (f : Tab CrcUnit → Tab CrcUnit) (d : Dev) : (d.modCrc f).latches = d.latches := (rfl)
@[simp] theorem Dev.modCrc_staging (f : Tab CrcUnit → Tab CrcUnit) (d : Dev) : (d.modCrc f).staging = d.staging := (rfl)
@[simp] theorem Dev.modCrc_mem (f : Tab CrcUnit → Tab CrcUnit) (d : Dev) : (d.modCrc f).mem = d.mem := (rfl)
@[simp] theorem Dev.modCrc_freeCtr (f : Tab CrcUnit → Tab CrcUnit) (d : Dev) : (d.modCrc f).freeCtr = d.freeCtr := (rfl)
@[simp] theorem Dev.modCrc_flt (f : Tab CrcUnit → Tab CrcUnit) (d : Dev) : (d.modCrc f).flt = d.flt := (rfl)
@[simp] theorem Dev.modCrc_mig (f : Tab CrcUnit → Tab CrcUnit) (d : Dev) : (d.modCrc f).mig = d.mig := (rfl)
@[simp] theorem Dev.modCrc_memc (f : Tab CrcUnit → Tab CrcUnit) (d : Dev) : (d.modCrc f).memc = d.memc := (rfl)
@[simp] theorem Dev.modCrc_hdma (f : Tab CrcUnit → Tab CrcUnit) (d : Dev) : (d.modCrc f).hdma = d.hdma := (rfl)
@[simp] theorem Dev.modCrc_cfg (f : Tab CrcUnit → Tab CrcUnit) (d : Dev) : (d.modCrc f).cfg = d.cfg := (rfl)
@[simp] theorem Dev.modCrc_glb (f : Tab CrcUnit → Tab CrcUnit) (d : Dev) : (d.modCrc f).glb = d.glb := (rfl)
@[simp] theorem Dev.modCrc_seq (f : Tab CrcUnit → Tab CrcUnit) (d : Dev) : (d.modCrc f).seq = d.seq := (rfl)
@[simp] theorem Dev.modCrc_run (f : Tab CrcUnit → Tab CrcUnit) (d : Dev) : (d.modCrc f).run = d.run := (rfl)
@[simp] theorem Dev.modCrc_cmp (f : Tab CrcUnit → Tab CrcUnit) (d : Dev) : (d.modCrc f).cmp = d.cmp := (rfl)
@[simp] theorem Dev.modCrc_dcr (f : Tab CrcUnit → Tab CrcUnit) (d : Dev) : (d.modCrc f).dcr = d.dcr := (rfl)
@[simp] theorem Dev.modCrc_asm (f : Tab CrcUnit → Tab CrcUnit) (d : Dev) : (d.modCrc f).asm = d.asm := (rfl)
@[simp] theorem Dev.modCrc_nrg (f : Tab CrcUnit → Tab CrcUnit) (d : Dev) : (d.modCrc f).nrg = d.nrg := (rfl)
@[simp] theorem Dev.modCrc_pac (f : Tab CrcUnit → Tab CrcUnit) (d : Dev) : (d.modCrc f).pac = d.pac := (rfl)
@[simp] theorem Dev.modCrc_hlk (f : Tab CrcUnit → Tab CrcUnit) (d : Dev) : (d.modCrc f).hlk = d.hlk := (rfl)
@[simp] theorem Dev.modCrc_tim (f : Tab CrcUnit → Tab CrcUnit) (d : Dev) : (d.modCrc f).tim = d.tim := (rfl)
@[simp] theorem Dev.modCrc_mot (f : Tab CrcUnit → Tab CrcUnit) (d : Dev) : (d.modCrc f).mot = d.mot := (rfl)
@[simp] theorem Dev.modCrc_pmu (f : Tab CrcUnit → Tab CrcUnit) (d : Dev) : (d.modCrc f).pmu = d.pmu := (rfl)
@[simp] theorem Dev.modCrc_msr (f : Tab CrcUnit → Tab CrcUnit) (d : Dev) : (d.modCrc f).msr = d.msr := (rfl)
@[simp] theorem Dev.modCrc_duo (f : Tab CrcUnit → Tab CrcUnit) (d : Dev) : (d.modCrc f).duo = d.duo := (rfl)
@[simp] theorem Dev.modCrc_crc (f : Tab CrcUnit → Tab CrcUnit) (d : Dev) : (d.modCrc f).crc = f d.crc := (rfl)
@[simp] theorem Dev.modCrc_fan (f : Tab CrcUnit → Tab CrcUnit) (d : Dev) : (d.modCrc f).fan = d.fan := (rfl)

/-! ### modFan -/

@[simp] theorem Dev.modFan_regs (f : Fan → Fan) (d : Dev) : (d.modFan f).regs = d.regs := (rfl)
@[simp] theorem Dev.modFan_latches (f : Fan → Fan) (d : Dev) : (d.modFan f).latches = d.latches := (rfl)
@[simp] theorem Dev.modFan_staging (f : Fan → Fan) (d : Dev) : (d.modFan f).staging = d.staging := (rfl)
@[simp] theorem Dev.modFan_mem (f : Fan → Fan) (d : Dev) : (d.modFan f).mem = d.mem := (rfl)
@[simp] theorem Dev.modFan_freeCtr (f : Fan → Fan) (d : Dev) : (d.modFan f).freeCtr = d.freeCtr := (rfl)
@[simp] theorem Dev.modFan_flt (f : Fan → Fan) (d : Dev) : (d.modFan f).flt = d.flt := (rfl)
@[simp] theorem Dev.modFan_mig (f : Fan → Fan) (d : Dev) : (d.modFan f).mig = d.mig := (rfl)
@[simp] theorem Dev.modFan_memc (f : Fan → Fan) (d : Dev) : (d.modFan f).memc = d.memc := (rfl)
@[simp] theorem Dev.modFan_hdma (f : Fan → Fan) (d : Dev) : (d.modFan f).hdma = d.hdma := (rfl)
@[simp] theorem Dev.modFan_cfg (f : Fan → Fan) (d : Dev) : (d.modFan f).cfg = d.cfg := (rfl)
@[simp] theorem Dev.modFan_glb (f : Fan → Fan) (d : Dev) : (d.modFan f).glb = d.glb := (rfl)
@[simp] theorem Dev.modFan_seq (f : Fan → Fan) (d : Dev) : (d.modFan f).seq = d.seq := (rfl)
@[simp] theorem Dev.modFan_run (f : Fan → Fan) (d : Dev) : (d.modFan f).run = d.run := (rfl)
@[simp] theorem Dev.modFan_cmp (f : Fan → Fan) (d : Dev) : (d.modFan f).cmp = d.cmp := (rfl)
@[simp] theorem Dev.modFan_dcr (f : Fan → Fan) (d : Dev) : (d.modFan f).dcr = d.dcr := (rfl)
@[simp] theorem Dev.modFan_asm (f : Fan → Fan) (d : Dev) : (d.modFan f).asm = d.asm := (rfl)
@[simp] theorem Dev.modFan_nrg (f : Fan → Fan) (d : Dev) : (d.modFan f).nrg = d.nrg := (rfl)
@[simp] theorem Dev.modFan_pac (f : Fan → Fan) (d : Dev) : (d.modFan f).pac = d.pac := (rfl)
@[simp] theorem Dev.modFan_hlk (f : Fan → Fan) (d : Dev) : (d.modFan f).hlk = d.hlk := (rfl)
@[simp] theorem Dev.modFan_tim (f : Fan → Fan) (d : Dev) : (d.modFan f).tim = d.tim := (rfl)
@[simp] theorem Dev.modFan_mot (f : Fan → Fan) (d : Dev) : (d.modFan f).mot = d.mot := (rfl)
@[simp] theorem Dev.modFan_pmu (f : Fan → Fan) (d : Dev) : (d.modFan f).pmu = d.pmu := (rfl)
@[simp] theorem Dev.modFan_msr (f : Fan → Fan) (d : Dev) : (d.modFan f).msr = d.msr := (rfl)
@[simp] theorem Dev.modFan_duo (f : Fan → Fan) (d : Dev) : (d.modFan f).duo = d.duo := (rfl)
@[simp] theorem Dev.modFan_crc (f : Fan → Fan) (d : Dev) : (d.modFan f).crc = d.crc := (rfl)
@[simp] theorem Dev.modFan_fan (f : Fan → Fan) (d : Dev) : (d.modFan f).fan = f d.fan := (rfl)

/-! ### setReg -/

@[simp] theorem Dev.setReg_latches (a : Nat) (v : Word) (d : Dev) : (d.setReg a v).latches = d.latches := (rfl)
@[simp] theorem Dev.setReg_staging (a : Nat) (v : Word) (d : Dev) : (d.setReg a v).staging = d.staging := (rfl)
@[simp] theorem Dev.setReg_mem (a : Nat) (v : Word) (d : Dev) : (d.setReg a v).mem = d.mem := (rfl)
@[simp] theorem Dev.setReg_freeCtr (a : Nat) (v : Word) (d : Dev) : (d.setReg a v).freeCtr = d.freeCtr := (rfl)
@[simp] theorem Dev.setReg_flt (a : Nat) (v : Word) (d : Dev) : (d.setReg a v).flt = d.flt := (rfl)
@[simp] theorem Dev.setReg_mig (a : Nat) (v : Word) (d : Dev) : (d.setReg a v).mig = d.mig := (rfl)
@[simp] theorem Dev.setReg_memc (a : Nat) (v : Word) (d : Dev) : (d.setReg a v).memc = d.memc := (rfl)
@[simp] theorem Dev.setReg_hdma (a : Nat) (v : Word) (d : Dev) : (d.setReg a v).hdma = d.hdma := (rfl)
@[simp] theorem Dev.setReg_cfg (a : Nat) (v : Word) (d : Dev) : (d.setReg a v).cfg = d.cfg := (rfl)
@[simp] theorem Dev.setReg_glb (a : Nat) (v : Word) (d : Dev) : (d.setReg a v).glb = d.glb := (rfl)
@[simp] theorem Dev.setReg_seq (a : Nat) (v : Word) (d : Dev) : (d.setReg a v).seq = d.seq := (rfl)
@[simp] theorem Dev.setReg_run (a : Nat) (v : Word) (d : Dev) : (d.setReg a v).run = d.run := (rfl)
@[simp] theorem Dev.setReg_cmp (a : Nat) (v : Word) (d : Dev) : (d.setReg a v).cmp = d.cmp := (rfl)
@[simp] theorem Dev.setReg_dcr (a : Nat) (v : Word) (d : Dev) : (d.setReg a v).dcr = d.dcr := (rfl)
@[simp] theorem Dev.setReg_asm (a : Nat) (v : Word) (d : Dev) : (d.setReg a v).asm = d.asm := (rfl)
@[simp] theorem Dev.setReg_nrg (a : Nat) (v : Word) (d : Dev) : (d.setReg a v).nrg = d.nrg := (rfl)
@[simp] theorem Dev.setReg_pac (a : Nat) (v : Word) (d : Dev) : (d.setReg a v).pac = d.pac := (rfl)
@[simp] theorem Dev.setReg_hlk (a : Nat) (v : Word) (d : Dev) : (d.setReg a v).hlk = d.hlk := (rfl)
@[simp] theorem Dev.setReg_tim (a : Nat) (v : Word) (d : Dev) : (d.setReg a v).tim = d.tim := (rfl)
@[simp] theorem Dev.setReg_mot (a : Nat) (v : Word) (d : Dev) : (d.setReg a v).mot = d.mot := (rfl)
@[simp] theorem Dev.setReg_pmu (a : Nat) (v : Word) (d : Dev) : (d.setReg a v).pmu = d.pmu := (rfl)
@[simp] theorem Dev.setReg_msr (a : Nat) (v : Word) (d : Dev) : (d.setReg a v).msr = d.msr := (rfl)
@[simp] theorem Dev.setReg_duo (a : Nat) (v : Word) (d : Dev) : (d.setReg a v).duo = d.duo := (rfl)
@[simp] theorem Dev.setReg_crc (a : Nat) (v : Word) (d : Dev) : (d.setReg a v).crc = d.crc := (rfl)
@[simp] theorem Dev.setReg_fan (a : Nat) (v : Word) (d : Dev) : (d.setReg a v).fan = d.fan := (rfl)

/-! ### setFld -/

@[simp] theorem Dev.setFld_latches (g : Fld) (v : Nat) (d : Dev) : (d.setFld g v).latches = d.latches := (rfl)
@[simp] theorem Dev.setFld_staging (g : Fld) (v : Nat) (d : Dev) : (d.setFld g v).staging = d.staging := (rfl)
@[simp] theorem Dev.setFld_mem (g : Fld) (v : Nat) (d : Dev) : (d.setFld g v).mem = d.mem := (rfl)
@[simp] theorem Dev.setFld_freeCtr (g : Fld) (v : Nat) (d : Dev) : (d.setFld g v).freeCtr = d.freeCtr := (rfl)
@[simp] theorem Dev.setFld_flt (g : Fld) (v : Nat) (d : Dev) : (d.setFld g v).flt = d.flt := (rfl)
@[simp] theorem Dev.setFld_mig (g : Fld) (v : Nat) (d : Dev) : (d.setFld g v).mig = d.mig := (rfl)
@[simp] theorem Dev.setFld_memc (g : Fld) (v : Nat) (d : Dev) : (d.setFld g v).memc = d.memc := (rfl)
@[simp] theorem Dev.setFld_hdma (g : Fld) (v : Nat) (d : Dev) : (d.setFld g v).hdma = d.hdma := (rfl)
@[simp] theorem Dev.setFld_cfg (g : Fld) (v : Nat) (d : Dev) : (d.setFld g v).cfg = d.cfg := (rfl)
@[simp] theorem Dev.setFld_glb (g : Fld) (v : Nat) (d : Dev) : (d.setFld g v).glb = d.glb := (rfl)
@[simp] theorem Dev.setFld_seq (g : Fld) (v : Nat) (d : Dev) : (d.setFld g v).seq = d.seq := (rfl)
@[simp] theorem Dev.setFld_run (g : Fld) (v : Nat) (d : Dev) : (d.setFld g v).run = d.run := (rfl)
@[simp] theorem Dev.setFld_cmp (g : Fld) (v : Nat) (d : Dev) : (d.setFld g v).cmp = d.cmp := (rfl)
@[simp] theorem Dev.setFld_dcr (g : Fld) (v : Nat) (d : Dev) : (d.setFld g v).dcr = d.dcr := (rfl)
@[simp] theorem Dev.setFld_asm (g : Fld) (v : Nat) (d : Dev) : (d.setFld g v).asm = d.asm := (rfl)
@[simp] theorem Dev.setFld_nrg (g : Fld) (v : Nat) (d : Dev) : (d.setFld g v).nrg = d.nrg := (rfl)
@[simp] theorem Dev.setFld_pac (g : Fld) (v : Nat) (d : Dev) : (d.setFld g v).pac = d.pac := (rfl)
@[simp] theorem Dev.setFld_hlk (g : Fld) (v : Nat) (d : Dev) : (d.setFld g v).hlk = d.hlk := (rfl)
@[simp] theorem Dev.setFld_tim (g : Fld) (v : Nat) (d : Dev) : (d.setFld g v).tim = d.tim := (rfl)
@[simp] theorem Dev.setFld_mot (g : Fld) (v : Nat) (d : Dev) : (d.setFld g v).mot = d.mot := (rfl)
@[simp] theorem Dev.setFld_pmu (g : Fld) (v : Nat) (d : Dev) : (d.setFld g v).pmu = d.pmu := (rfl)
@[simp] theorem Dev.setFld_msr (g : Fld) (v : Nat) (d : Dev) : (d.setFld g v).msr = d.msr := (rfl)
@[simp] theorem Dev.setFld_duo (g : Fld) (v : Nat) (d : Dev) : (d.setFld g v).duo = d.duo := (rfl)
@[simp] theorem Dev.setFld_crc (g : Fld) (v : Nat) (d : Dev) : (d.setFld g v).crc = d.crc := (rfl)
@[simp] theorem Dev.setFld_fan (g : Fld) (v : Nat) (d : Dev) : (d.setFld g v).fan = d.fan := (rfl)

/-! ### setFlag -/

@[simp] theorem Dev.setFlag_latches (g : Fld) (b : Bool) (d : Dev) : (d.setFlag g b).latches = d.latches := Dev.setFld_latches ..
@[simp] theorem Dev.setFlag_staging (g : Fld) (b : Bool) (d : Dev) : (d.setFlag g b).staging = d.staging := Dev.setFld_staging ..
@[simp] theorem Dev.setFlag_mem (g : Fld) (b : Bool) (d : Dev) : (d.setFlag g b).mem = d.mem := Dev.setFld_mem ..
@[simp] theorem Dev.setFlag_freeCtr (g : Fld) (b : Bool) (d : Dev) : (d.setFlag g b).freeCtr = d.freeCtr := Dev.setFld_freeCtr ..
@[simp] theorem Dev.setFlag_flt (g : Fld) (b : Bool) (d : Dev) : (d.setFlag g b).flt = d.flt := Dev.setFld_flt ..
@[simp] theorem Dev.setFlag_mig (g : Fld) (b : Bool) (d : Dev) : (d.setFlag g b).mig = d.mig := Dev.setFld_mig ..
@[simp] theorem Dev.setFlag_memc (g : Fld) (b : Bool) (d : Dev) : (d.setFlag g b).memc = d.memc := Dev.setFld_memc ..
@[simp] theorem Dev.setFlag_hdma (g : Fld) (b : Bool) (d : Dev) : (d.setFlag g b).hdma = d.hdma := Dev.setFld_hdma ..
@[simp] theorem Dev.setFlag_cfg (g : Fld) (b : Bool) (d : Dev) : (d.setFlag g b).cfg = d.cfg := Dev.setFld_cfg ..
@[simp] theorem Dev.setFlag_glb (g : Fld) (b : Bool) (d : Dev) : (d.setFlag g b).glb = d.glb := Dev.setFld_glb ..
@[simp] theorem Dev.setFlag_seq (g : Fld) (b : Bool) (d : Dev) : (d.setFlag g b).seq = d.seq := Dev.setFld_seq ..
@[simp] theorem Dev.setFlag_run (g : Fld) (b : Bool) (d : Dev) : (d.setFlag g b).run = d.run := Dev.setFld_run ..
@[simp] theorem Dev.setFlag_cmp (g : Fld) (b : Bool) (d : Dev) : (d.setFlag g b).cmp = d.cmp := Dev.setFld_cmp ..
@[simp] theorem Dev.setFlag_dcr (g : Fld) (b : Bool) (d : Dev) : (d.setFlag g b).dcr = d.dcr := Dev.setFld_dcr ..
@[simp] theorem Dev.setFlag_asm (g : Fld) (b : Bool) (d : Dev) : (d.setFlag g b).asm = d.asm := Dev.setFld_asm ..
@[simp] theorem Dev.setFlag_nrg (g : Fld) (b : Bool) (d : Dev) : (d.setFlag g b).nrg = d.nrg := Dev.setFld_nrg ..
@[simp] theorem Dev.setFlag_pac (g : Fld) (b : Bool) (d : Dev) : (d.setFlag g b).pac = d.pac := Dev.setFld_pac ..
@[simp] theorem Dev.setFlag_hlk (g : Fld) (b : Bool) (d : Dev) : (d.setFlag g b).hlk = d.hlk := Dev.setFld_hlk ..
@[simp] theorem Dev.setFlag_tim (g : Fld) (b : Bool) (d : Dev) : (d.setFlag g b).tim = d.tim := Dev.setFld_tim ..
@[simp] theorem Dev.setFlag_mot (g : Fld) (b : Bool) (d : Dev) : (d.setFlag g b).mot = d.mot := Dev.setFld_mot ..
@[simp] theorem Dev.setFlag_pmu (g : Fld) (b : Bool) (d : Dev) : (d.setFlag g b).pmu = d.pmu := Dev.setFld_pmu ..
@[simp] theorem Dev.setFlag_msr (g : Fld) (b : Bool) (d : Dev) : (d.setFlag g b).msr = d.msr := Dev.setFld_msr ..
@[simp] theorem Dev.setFlag_duo (g : Fld) (b : Bool) (d : Dev) : (d.setFlag g b).duo = d.duo := Dev.setFld_duo ..
@[simp] theorem Dev.setFlag_crc (g : Fld) (b : Bool) (d : Dev) : (d.setFlag g b).crc = d.crc := Dev.setFld_crc ..
@[simp] theorem Dev.setFlag_fan (g : Fld) (b : Bool) (d : Dev) : (d.setFlag g b).fan = d.fan := Dev.setFld_fan ..

/-! ### addFld -/

@[simp] theorem Dev.addFld_latches (g : Fld) (n : Nat) (d : Dev) : (d.addFld g n).latches = d.latches := Dev.setFld_latches ..
@[simp] theorem Dev.addFld_staging (g : Fld) (n : Nat) (d : Dev) : (d.addFld g n).staging = d.staging := Dev.setFld_staging ..
@[simp] theorem Dev.addFld_mem (g : Fld) (n : Nat) (d : Dev) : (d.addFld g n).mem = d.mem := Dev.setFld_mem ..
@[simp] theorem Dev.addFld_freeCtr (g : Fld) (n : Nat) (d : Dev) : (d.addFld g n).freeCtr = d.freeCtr := Dev.setFld_freeCtr ..
@[simp] theorem Dev.addFld_flt (g : Fld) (n : Nat) (d : Dev) : (d.addFld g n).flt = d.flt := Dev.setFld_flt ..
@[simp] theorem Dev.addFld_mig (g : Fld) (n : Nat) (d : Dev) : (d.addFld g n).mig = d.mig := Dev.setFld_mig ..
@[simp] theorem Dev.addFld_memc (g : Fld) (n : Nat) (d : Dev) : (d.addFld g n).memc = d.memc := Dev.setFld_memc ..
@[simp] theorem Dev.addFld_hdma (g : Fld) (n : Nat) (d : Dev) : (d.addFld g n).hdma = d.hdma := Dev.setFld_hdma ..
@[simp] theorem Dev.addFld_cfg (g : Fld) (n : Nat) (d : Dev) : (d.addFld g n).cfg = d.cfg := Dev.setFld_cfg ..
@[simp] theorem Dev.addFld_glb (g : Fld) (n : Nat) (d : Dev) : (d.addFld g n).glb = d.glb := Dev.setFld_glb ..
@[simp] theorem Dev.addFld_seq (g : Fld) (n : Nat) (d : Dev) : (d.addFld g n).seq = d.seq := Dev.setFld_seq ..
@[simp] theorem Dev.addFld_run (g : Fld) (n : Nat) (d : Dev) : (d.addFld g n).run = d.run := Dev.setFld_run ..
@[simp] theorem Dev.addFld_cmp (g : Fld) (n : Nat) (d : Dev) : (d.addFld g n).cmp = d.cmp := Dev.setFld_cmp ..
@[simp] theorem Dev.addFld_dcr (g : Fld) (n : Nat) (d : Dev) : (d.addFld g n).dcr = d.dcr := Dev.setFld_dcr ..
@[simp] theorem Dev.addFld_asm (g : Fld) (n : Nat) (d : Dev) : (d.addFld g n).asm = d.asm := Dev.setFld_asm ..
@[simp] theorem Dev.addFld_nrg (g : Fld) (n : Nat) (d : Dev) : (d.addFld g n).nrg = d.nrg := Dev.setFld_nrg ..
@[simp] theorem Dev.addFld_pac (g : Fld) (n : Nat) (d : Dev) : (d.addFld g n).pac = d.pac := Dev.setFld_pac ..
@[simp] theorem Dev.addFld_hlk (g : Fld) (n : Nat) (d : Dev) : (d.addFld g n).hlk = d.hlk := Dev.setFld_hlk ..
@[simp] theorem Dev.addFld_tim (g : Fld) (n : Nat) (d : Dev) : (d.addFld g n).tim = d.tim := Dev.setFld_tim ..
@[simp] theorem Dev.addFld_mot (g : Fld) (n : Nat) (d : Dev) : (d.addFld g n).mot = d.mot := Dev.setFld_mot ..
@[simp] theorem Dev.addFld_pmu (g : Fld) (n : Nat) (d : Dev) : (d.addFld g n).pmu = d.pmu := Dev.setFld_pmu ..
@[simp] theorem Dev.addFld_msr (g : Fld) (n : Nat) (d : Dev) : (d.addFld g n).msr = d.msr := Dev.setFld_msr ..
@[simp] theorem Dev.addFld_duo (g : Fld) (n : Nat) (d : Dev) : (d.addFld g n).duo = d.duo := Dev.setFld_duo ..
@[simp] theorem Dev.addFld_crc (g : Fld) (n : Nat) (d : Dev) : (d.addFld g n).crc = d.crc := Dev.setFld_crc ..
@[simp] theorem Dev.addFld_fan (g : Fld) (n : Nat) (d : Dev) : (d.addFld g n).fan = d.fan := Dev.setFld_fan ..

/-! ### satFld -/

@[simp] theorem Dev.satFld_latches (g : Fld) (n : Nat) (d : Dev) : (d.satFld g n).latches = d.latches := Dev.setFld_latches ..
@[simp] theorem Dev.satFld_staging (g : Fld) (n : Nat) (d : Dev) : (d.satFld g n).staging = d.staging := Dev.setFld_staging ..
@[simp] theorem Dev.satFld_mem (g : Fld) (n : Nat) (d : Dev) : (d.satFld g n).mem = d.mem := Dev.setFld_mem ..
@[simp] theorem Dev.satFld_freeCtr (g : Fld) (n : Nat) (d : Dev) : (d.satFld g n).freeCtr = d.freeCtr := Dev.setFld_freeCtr ..
@[simp] theorem Dev.satFld_flt (g : Fld) (n : Nat) (d : Dev) : (d.satFld g n).flt = d.flt := Dev.setFld_flt ..
@[simp] theorem Dev.satFld_mig (g : Fld) (n : Nat) (d : Dev) : (d.satFld g n).mig = d.mig := Dev.setFld_mig ..
@[simp] theorem Dev.satFld_memc (g : Fld) (n : Nat) (d : Dev) : (d.satFld g n).memc = d.memc := Dev.setFld_memc ..
@[simp] theorem Dev.satFld_hdma (g : Fld) (n : Nat) (d : Dev) : (d.satFld g n).hdma = d.hdma := Dev.setFld_hdma ..
@[simp] theorem Dev.satFld_cfg (g : Fld) (n : Nat) (d : Dev) : (d.satFld g n).cfg = d.cfg := Dev.setFld_cfg ..
@[simp] theorem Dev.satFld_glb (g : Fld) (n : Nat) (d : Dev) : (d.satFld g n).glb = d.glb := Dev.setFld_glb ..
@[simp] theorem Dev.satFld_seq (g : Fld) (n : Nat) (d : Dev) : (d.satFld g n).seq = d.seq := Dev.setFld_seq ..
@[simp] theorem Dev.satFld_run (g : Fld) (n : Nat) (d : Dev) : (d.satFld g n).run = d.run := Dev.setFld_run ..
@[simp] theorem Dev.satFld_cmp (g : Fld) (n : Nat) (d : Dev) : (d.satFld g n).cmp = d.cmp := Dev.setFld_cmp ..
@[simp] theorem Dev.satFld_dcr (g : Fld) (n : Nat) (d : Dev) : (d.satFld g n).dcr = d.dcr := Dev.setFld_dcr ..
@[simp] theorem Dev.satFld_asm (g : Fld) (n : Nat) (d : Dev) : (d.satFld g n).asm = d.asm := Dev.setFld_asm ..
@[simp] theorem Dev.satFld_nrg (g : Fld) (n : Nat) (d : Dev) : (d.satFld g n).nrg = d.nrg := Dev.setFld_nrg ..
@[simp] theorem Dev.satFld_pac (g : Fld) (n : Nat) (d : Dev) : (d.satFld g n).pac = d.pac := Dev.setFld_pac ..
@[simp] theorem Dev.satFld_hlk (g : Fld) (n : Nat) (d : Dev) : (d.satFld g n).hlk = d.hlk := Dev.setFld_hlk ..
@[simp] theorem Dev.satFld_tim (g : Fld) (n : Nat) (d : Dev) : (d.satFld g n).tim = d.tim := Dev.setFld_tim ..
@[simp] theorem Dev.satFld_mot (g : Fld) (n : Nat) (d : Dev) : (d.satFld g n).mot = d.mot := Dev.setFld_mot ..
@[simp] theorem Dev.satFld_pmu (g : Fld) (n : Nat) (d : Dev) : (d.satFld g n).pmu = d.pmu := Dev.setFld_pmu ..
@[simp] theorem Dev.satFld_msr (g : Fld) (n : Nat) (d : Dev) : (d.satFld g n).msr = d.msr := Dev.setFld_msr ..
@[simp] theorem Dev.satFld_duo (g : Fld) (n : Nat) (d : Dev) : (d.satFld g n).duo = d.duo := Dev.setFld_duo ..
@[simp] theorem Dev.satFld_crc (g : Fld) (n : Nat) (d : Dev) : (d.satFld g n).crc = d.crc := Dev.setFld_crc ..
@[simp] theorem Dev.satFld_fan (g : Fld) (n : Nat) (d : Dev) : (d.satFld g n).fan = d.fan := Dev.setFld_fan ..

/-! ### setPair -/

@[simp] theorem Dev.setPair_latches (lo v : Nat) (d : Dev) : (d.setPair lo v).latches = d.latches := (Dev.setReg_latches ..).trans (Dev.setReg_latches ..)
@[simp] theorem Dev.setPair_staging (lo v : Nat) (d : Dev) : (d.setPair lo v).staging = d.staging := (Dev.setReg_staging ..).trans (Dev.setReg_staging ..)
@[simp] theorem Dev.setPair_mem (lo v : Nat) (d : Dev) : (d.setPair lo v).mem = d.mem := (Dev.setReg_mem ..).trans (Dev.setReg_mem ..)
@[simp] theorem Dev.setPair_freeCtr (lo v : Nat) (d : Dev) : (d.setPair lo v).freeCtr = d.freeCtr := (Dev.setReg_freeCtr ..).trans (Dev.setReg_freeCtr ..)
@[simp] theorem Dev.setPair_flt (lo v : Nat) (d : Dev) : (d.setPair lo v).flt = d.flt := (Dev.setReg_flt ..).trans (Dev.setReg_flt ..)
@[simp] theorem Dev.setPair_mig (lo v : Nat) (d : Dev) : (d.setPair lo v).mig = d.mig := (Dev.setReg_mig ..).trans (Dev.setReg_mig ..)
@[simp] theorem Dev.setPair_memc (lo v : Nat) (d : Dev) : (d.setPair lo v).memc = d.memc := (Dev.setReg_memc ..).trans (Dev.setReg_memc ..)
@[simp] theorem Dev.setPair_hdma (lo v : Nat) (d : Dev) : (d.setPair lo v).hdma = d.hdma := (Dev.setReg_hdma ..).trans (Dev.setReg_hdma ..)
@[simp] theorem Dev.setPair_cfg (lo v : Nat) (d : Dev) : (d.setPair lo v).cfg = d.cfg := (Dev.setReg_cfg ..).trans (Dev.setReg_cfg ..)
@[simp] theorem Dev.setPair_glb (lo v : Nat) (d : Dev) : (d.setPair lo v).glb = d.glb := (Dev.setReg_glb ..).trans (Dev.setReg_glb ..)
@[simp] theorem Dev.setPair_seq (lo v : Nat) (d : Dev) : (d.setPair lo v).seq = d.seq := (Dev.setReg_seq ..).trans (Dev.setReg_seq ..)
@[simp] theorem Dev.setPair_run (lo v : Nat) (d : Dev) : (d.setPair lo v).run = d.run := (Dev.setReg_run ..).trans (Dev.setReg_run ..)
@[simp] theorem Dev.setPair_cmp (lo v : Nat) (d : Dev) : (d.setPair lo v).cmp = d.cmp := (Dev.setReg_cmp ..).trans (Dev.setReg_cmp ..)
@[simp] theorem Dev.setPair_dcr (lo v : Nat) (d : Dev) : (d.setPair lo v).dcr = d.dcr := (Dev.setReg_dcr ..).trans (Dev.setReg_dcr ..)
@[simp] theorem Dev.setPair_asm (lo v : Nat) (d : Dev) : (d.setPair lo v).asm = d.asm := (Dev.setReg_asm ..).trans (Dev.setReg_asm ..)
@[simp] theorem Dev.setPair_nrg (lo v : Nat) (d : Dev) : (d.setPair lo v).nrg = d.nrg := (Dev.setReg_nrg ..).trans (Dev.setReg_nrg ..)
@[simp] theorem Dev.setPair_pac (lo v : Nat) (d : Dev) : (d.setPair lo v).pac = d.pac := (Dev.setReg_pac ..).trans (Dev.setReg_pac ..)
@[simp] theorem Dev.setPair_hlk (lo v : Nat) (d : Dev) : (d.setPair lo v).hlk = d.hlk := (Dev.setReg_hlk ..).trans (Dev.setReg_hlk ..)
@[simp] theorem Dev.setPair_tim (lo v : Nat) (d : Dev) : (d.setPair lo v).tim = d.tim := (Dev.setReg_tim ..).trans (Dev.setReg_tim ..)
@[simp] theorem Dev.setPair_mot (lo v : Nat) (d : Dev) : (d.setPair lo v).mot = d.mot := (Dev.setReg_mot ..).trans (Dev.setReg_mot ..)
@[simp] theorem Dev.setPair_pmu (lo v : Nat) (d : Dev) : (d.setPair lo v).pmu = d.pmu := (Dev.setReg_pmu ..).trans (Dev.setReg_pmu ..)
@[simp] theorem Dev.setPair_msr (lo v : Nat) (d : Dev) : (d.setPair lo v).msr = d.msr := (Dev.setReg_msr ..).trans (Dev.setReg_msr ..)
@[simp] theorem Dev.setPair_duo (lo v : Nat) (d : Dev) : (d.setPair lo v).duo = d.duo := (Dev.setReg_duo ..).trans (Dev.setReg_duo ..)
@[simp] theorem Dev.setPair_crc (lo v : Nat) (d : Dev) : (d.setPair lo v).crc = d.crc := (Dev.setReg_crc ..).trans (Dev.setReg_crc ..)
@[simp] theorem Dev.setPair_fan (lo v : Nat) (d : Dev) : (d.setPair lo v).fan = d.fan := (Dev.setReg_fan ..).trans (Dev.setReg_fan ..)

/-! ### addPair -/

@[simp] theorem Dev.addPair_latches (lo n : Nat) (d : Dev) : (d.addPair lo n).latches = d.latches := Dev.setPair_latches ..
@[simp] theorem Dev.addPair_staging (lo n : Nat) (d : Dev) : (d.addPair lo n).staging = d.staging := Dev.setPair_staging ..
@[simp] theorem Dev.addPair_mem (lo n : Nat) (d : Dev) : (d.addPair lo n).mem = d.mem := Dev.setPair_mem ..
@[simp] theorem Dev.addPair_freeCtr (lo n : Nat) (d : Dev) : (d.addPair lo n).freeCtr = d.freeCtr := Dev.setPair_freeCtr ..
@[simp] theorem Dev.addPair_flt (lo n : Nat) (d : Dev) : (d.addPair lo n).flt = d.flt := Dev.setPair_flt ..
@[simp] theorem Dev.addPair_mig (lo n : Nat) (d : Dev) : (d.addPair lo n).mig = d.mig := Dev.setPair_mig ..
@[simp] theorem Dev.addPair_memc (lo n : Nat) (d : Dev) : (d.addPair lo n).memc = d.memc := Dev.setPair_memc ..
@[simp] theorem Dev.addPair_hdma (lo n : Nat) (d : Dev) : (d.addPair lo n).hdma = d.hdma := Dev.setPair_hdma ..
@[simp] theorem Dev.addPair_cfg (lo n : Nat) (d : Dev) : (d.addPair lo n).cfg = d.cfg := Dev.setPair_cfg ..
@[simp] theorem Dev.addPair_glb (lo n : Nat) (d : Dev) : (d.addPair lo n).glb = d.glb := Dev.setPair_glb ..
@[simp] theorem Dev.addPair_seq (lo n : Nat) (d : Dev) : (d.addPair lo n).seq = d.seq := Dev.setPair_seq ..
@[simp] theorem Dev.addPair_run (lo n : Nat) (d : Dev) : (d.addPair lo n).run = d.run := Dev.setPair_run ..
@[simp] theorem Dev.addPair_cmp (lo n : Nat) (d : Dev) : (d.addPair lo n).cmp = d.cmp := Dev.setPair_cmp ..
@[simp] theorem Dev.addPair_dcr (lo n : Nat) (d : Dev) : (d.addPair lo n).dcr = d.dcr := Dev.setPair_dcr ..
@[simp] theorem Dev.addPair_asm (lo n : Nat) (d : Dev) : (d.addPair lo n).asm = d.asm := Dev.setPair_asm ..
@[simp] theorem Dev.addPair_nrg (lo n : Nat) (d : Dev) : (d.addPair lo n).nrg = d.nrg := Dev.setPair_nrg ..
@[simp] theorem Dev.addPair_pac (lo n : Nat) (d : Dev) : (d.addPair lo n).pac = d.pac := Dev.setPair_pac ..
@[simp] theorem Dev.addPair_hlk (lo n : Nat) (d : Dev) : (d.addPair lo n).hlk = d.hlk := Dev.setPair_hlk ..
@[simp] theorem Dev.addPair_tim (lo n : Nat) (d : Dev) : (d.addPair lo n).tim = d.tim := Dev.setPair_tim ..
@[simp] theorem Dev.addPair_mot (lo n : Nat) (d : Dev) : (d.addPair lo n).mot = d.mot := Dev.setPair_mot ..
@[simp] theorem Dev.addPair_pmu (lo n : Nat) (d : Dev) : (d.addPair lo n).pmu = d.pmu := Dev.setPair_pmu ..
@[simp] theorem Dev.addPair_msr (lo n : Nat) (d : Dev) : (d.addPair lo n).msr = d.msr := Dev.setPair_msr ..
@[simp] theorem Dev.addPair_duo (lo n : Nat) (d : Dev) : (d.addPair lo n).duo = d.duo := Dev.setPair_duo ..
@[simp] theorem Dev.addPair_crc (lo n : Nat) (d : Dev) : (d.addPair lo n).crc = d.crc := Dev.setPair_crc ..
@[simp] theorem Dev.addPair_fan (lo n : Nat) (d : Dev) : (d.addPair lo n).fan = d.fan := Dev.setPair_fan ..

end Sys2Proof.Machine
end

