-- ==== Sys2Proof/Laws/Registers.lean ====
section
/-! SUPPORT. Laws/Registers.lean: what registers and fields hold after an update. -/

namespace Sys2Proof.Machine

theorem Dev.reg_setReg_same (a : Nat) (v : Word) (d : Dev) : (d.setReg a v).reg a = v := Tab.get_set_same d.regs (regReset a) a v

theorem Dev.reg_setReg_other {a b : Nat} (v : Word) (d : Dev) (h : b ≠ a) : (d.setReg a v).reg b = d.reg b :=
  Tab.get_set_other d.regs (regReset a) (regReset b) v h

theorem Fld.of_lt (f : Fld) (w : Nat) : f.of w < 2 ^ f.width := Nat.mod_lt _ (Nat.two_pow_pos _)

/-- The three parts of a word around a field. -/
theorem Fld.split (f : Fld) (w : Nat) : w = w / 2 ^ f.lo / 2 ^ f.width * 2 ^ (f.lo + f.width) + f.of w * 2 ^ f.lo + w % 2 ^ f.lo := by
  unfold Fld.of
  have h1 := Nat.div_add_mod w (2 ^ f.lo)
  have h2 := Nat.div_add_mod (w / 2 ^ f.lo) (2 ^ f.width)
  rw [pow_add]
  generalize w / 2 ^ f.lo / 2 ^ f.width = q at *
  generalize w / 2 ^ f.lo % 2 ^ f.width = r at *
  rw [← h2] at h1
  nlinarith [h1]

theorem Fld.into_eq (f : Fld) (w v : Nat) :
    f.into w v = w / 2 ^ f.lo / 2 ^ f.width * 2 ^ (f.lo + f.width) + v % 2 ^ f.width * 2 ^ f.lo + w % 2 ^ f.lo := by
  unfold Fld.into
  have h := Fld.split f w
  omega

theorem Fld.of_into (f : Fld) (w v : Nat) : f.of (f.into w v) = v % 2 ^ f.width := by
  rw [Fld.into_eq]
  have hp : 0 < 2 ^ f.lo := Nat.two_pow_pos _
  have hl : w % 2 ^ f.lo < 2 ^ f.lo := Nat.mod_lt _ hp
  generalize w / 2 ^ f.lo / 2 ^ f.width = q
  have hd : (q * 2 ^ (f.lo + f.width) + v % 2 ^ f.width * 2 ^ f.lo + w % 2 ^ f.lo) / 2 ^ f.lo = q * 2 ^ f.width + v % 2 ^ f.width := by
    rw [pow_add]
    rw [show q * (2 ^ f.lo * 2 ^ f.width) + v % 2 ^ f.width * 2 ^ f.lo + w % 2 ^ f.lo =
      w % 2 ^ f.lo + 2 ^ f.lo * (q * 2 ^ f.width + v % 2 ^ f.width) by ring]
    rw [Nat.add_mul_div_left _ _ hp, Nat.div_eq_of_lt hl, Nat.zero_add]
  unfold Fld.of
  rw [hd, Nat.mul_comm q, Nat.mul_add_mod, Nat.mod_mod]

theorem Fld.of_mod (f : Fld) (w : Nat) (h : f.hi < 32) (hl : f.lo ≤ f.hi) : f.of (w % 2 ^ 32) = f.of w := by
  unfold Fld.of Fld.width
  have h32 : (2 : Nat) ^ 32 = 2 ^ f.lo * 2 ^ (32 - f.lo) := by rw [← pow_add]; congr 1; omega
  rw [h32, Nat.mod_mul_right_div_self]
  exact Nat.mod_mod_of_dvd _ (pow_dvd_pow 2 (by omega))

theorem Fld.into_low (g : Fld) (w v : Nat) : g.into w v % 2 ^ g.lo = w % 2 ^ g.lo := by
  rw [Fld.into_eq, pow_add]
  rw [show w / 2 ^ g.lo / 2 ^ g.width * (2 ^ g.lo * 2 ^ g.width) + v % 2 ^ g.width * 2 ^ g.lo + w % 2 ^ g.lo =
    w % 2 ^ g.lo + 2 ^ g.lo * (w / 2 ^ g.lo / 2 ^ g.width * 2 ^ g.width + v % 2 ^ g.width) by ring]
  rw [Nat.add_mul_mod_self_left, Nat.mod_mod]

theorem Fld.into_high (g : Fld) (w v : Nat) : g.into w v / 2 ^ (g.lo + g.width) = w / 2 ^ (g.lo + g.width) := by
  have hlt : v % 2 ^ g.width * 2 ^ g.lo + w % 2 ^ g.lo < 2 ^ (g.lo + g.width) := by
    have h1 : v % 2 ^ g.width < 2 ^ g.width := Nat.mod_lt _ (Nat.two_pow_pos _)
    have h2 : w % 2 ^ g.lo < 2 ^ g.lo := Nat.mod_lt _ (Nat.two_pow_pos _)
    have h3 : (v % 2 ^ g.width + 1) * 2 ^ g.lo ≤ 2 ^ g.width * 2 ^ g.lo := Nat.mul_le_mul_right _ h1
    rw [pow_add]; linarith
  rw [Fld.into_eq, Nat.add_assoc, Nat.add_comm, Nat.add_mul_div_right _ _ (Nat.two_pow_pos _), Nat.div_eq_of_lt hlt, Nat.zero_add,
    Nat.div_div_eq_div_mul, ← pow_add]

/-- Setting a field leaves the bits of a field apart from it. -/
theorem Fld.of_into_apart (f g : Fld) (w v : Nat) (hf : f.lo ≤ f.hi) (hg : g.lo ≤ g.hi) (h : f.hi < g.lo ∨ g.hi < f.lo) :
    f.of (g.into w v) = f.of w := by
  unfold Fld.of
  rcases h with h | h
  · have key : ∀ x : Nat, x / 2 ^ f.lo % 2 ^ f.width = x % 2 ^ g.lo / 2 ^ f.lo % 2 ^ f.width := fun x => by
      have : (2 : Nat) ^ g.lo = 2 ^ f.lo * 2 ^ (g.lo - f.lo) := by rw [← pow_add]; congr 1; omega
      rw [this, Nat.mod_mul_right_div_self, Nat.mod_mod_of_dvd _ (pow_dvd_pow 2 (by unfold Fld.width; omega))]
    rw [key, Fld.into_low, ← key]
  · have key : ∀ x : Nat, x / 2 ^ f.lo = x / 2 ^ (g.lo + g.width) / 2 ^ (f.lo - (g.lo + g.width)) := fun x => by
      rw [Nat.div_div_eq_div_mul, ← pow_add]; congr 2; unfold Fld.width; omega
    rw [key, Fld.into_high, ← key]

/-- Reading a field that was set gives the value, narrowed to the field. -/
theorem Dev.fld_setFld_same (f : Fld) (v : Nat) (d : Dev) (h : f.hi < 32) (hl : f.lo ≤ f.hi) :
    (d.setFld f v).fld f = v % 2 ^ f.width := by
  unfold Dev.fld Dev.setFld
  rw [Dev.reg_setReg_same, BitVec.toNat_ofNat, Fld.of_mod f _ h hl, Fld.of_into]

/-- A field of another register. -/
theorem Dev.fld_setReg_other {f : Fld} {a : Nat} (v : Word) (d : Dev) (h : f.reg ≠ a) : (d.setReg a v).fld f = d.fld f := by
  unfold Dev.fld; rw [Dev.reg_setReg_other _ _ h]

theorem Dev.fld_setFld_other {f g : Fld} (v : Nat) (d : Dev) (h : f.reg ≠ g.reg) : (d.setFld g v).fld f = d.fld f :=
  Dev.fld_setReg_other _ d h

/-- A field of the same or another register whose bits are apart. -/
theorem Dev.fld_setFld_apart {f g : Fld} (v : Nat) (d : Dev) (hf : f.hi < 32) (hfl : f.lo ≤ f.hi) (hgl : g.lo ≤ g.hi)
    (h : f.reg ≠ g.reg ∨ f.hi < g.lo ∨ g.hi < f.lo) : (d.setFld g v).fld f = d.fld f := by
  by_cases hr : f.reg = g.reg
  · have h' : f.hi < g.lo ∨ g.hi < f.lo := by tauto
    unfold Dev.fld Dev.setFld
    rw [hr, Dev.reg_setReg_same, BitVec.toNat_ofNat, Fld.of_mod f _ hf hfl, Fld.of_into_apart f g _ _ hfl hgl h']
  · exact Dev.fld_setFld_other v d hr

end Sys2Proof.Machine
end

