-- ==== Sys2Proof/Laws/Bookkeeping.lean ====
section
/-! SUPPORT. Laws/Bookkeeping.lean: what the bookkeeping that goes with an effect leaves alone: counting an event of the performance monitor,
raising an event, sending to the host or to the partner, taking a free value. -/

namespace Sys2Proof.Machine

/-! ### count -/

@[simp] theorem Dev.count_latches (e n : Nat) (d : Dev) : (d.count e n).latches = d.latches := by
  unfold Dev.count; split <;> simp
@[simp] theorem Dev.count_staging (e n : Nat) (d : Dev) : (d.count e n).staging = d.staging := by
  unfold Dev.count; split <;> simp
@[simp] theorem Dev.count_mem (e n : Nat) (d : Dev) : (d.count e n).mem = d.mem := by
  unfold Dev.count; split <;> simp
@[simp] theorem Dev.count_freeCtr (e n : Nat) (d : Dev) : (d.count e n).freeCtr = d.freeCtr := by
  unfold Dev.count; split <;> simp
@[simp] theorem Dev.count_flt (e n : Nat) (d : Dev) : (d.count e n).flt = d.flt := by
  unfold Dev.count; split <;> simp
@[simp] theorem Dev.count_mig (e n : Nat) (d : Dev) : (d.count e n).mig = d.mig := by
  unfold Dev.count; split <;> simp
@[simp] theorem Dev.count_memc (e n : Nat) (d : Dev) : (d.count e n).memc = d.memc := by
  unfold Dev.count; split <;> simp
@[simp] theorem Dev.count_hdma (e n : Nat) (d : Dev) : (d.count e n).hdma = d.hdma := by
  unfold Dev.count; split <;> simp
@[simp] theorem Dev.count_cfg (e n : Nat) (d : Dev) : (d.count e n).cfg = d.cfg := by
  unfold Dev.count; split <;> simp
@[simp] theorem Dev.count_glb (e n : Nat) (d : Dev) : (d.count e n).glb = d.glb := by
  unfold Dev.count; split <;> simp
@[simp] theorem Dev.count_seq (e n : Nat) (d : Dev) : (d.count e n).seq = d.seq := by
  unfold Dev.count; split <;> simp
@[simp] theorem Dev.count_run (e n : Nat) (d : Dev) : (d.count e n).run = d.run := by
  unfold Dev.count; split <;> simp
@[simp] theorem Dev.count_cmp (e n : Nat) (d : Dev) : (d.count e n).cmp = d.cmp := by
  unfold Dev.count; split <;> simp
@[simp] theorem Dev.count_dcr (e n : Nat) (d : Dev) : (d.count e n).dcr = d.dcr := by
  unfold Dev.count; split <;> simp
@[simp] theorem Dev.count_asm (e n : Nat) (d : Dev) : (d.count e n).asm = d.asm := by
  unfold Dev.count; split <;> simp
@[simp] theorem Dev.count_nrg (e n : Nat) (d : Dev) : (d.count e n).nrg = d.nrg := by
  unfold Dev.count; split <;> simp
@[simp] theorem Dev.count_pac (e n : Nat) (d : Dev) : (d.count e n).pac = d.pac := by
  unfold Dev.count; split <;> simp
@[simp] theorem Dev.count_hlk (e n : Nat) (d : Dev) : (d.count e n).hlk = d.hlk := by
  unfold Dev.count; split <;> simp
@[simp] theorem Dev.count_tim (e n : Nat) (d : Dev) : (d.count e n).tim = d.tim := by
  unfold Dev.count; split <;> simp
@[simp] theorem Dev.count_mot (e n : Nat) (d : Dev) : (d.count e n).mot = d.mot := by
  unfold Dev.count; split <;> simp
@[simp] theorem Dev.count_pmu (e n : Nat) (d : Dev) : (d.count e n).pmu = d.pmu := by
  unfold Dev.count; split <;> simp
@[simp] theorem Dev.count_msr (e n : Nat) (d : Dev) : (d.count e n).msr = d.msr := by
  unfold Dev.count; split <;> simp
@[simp] theorem Dev.count_duo (e n : Nat) (d : Dev) : (d.count e n).duo = d.duo := by
  unfold Dev.count; split <;> simp
@[simp] theorem Dev.count_crc (e n : Nat) (d : Dev) : (d.count e n).crc = d.crc := by
  unfold Dev.count; split <;> simp
@[simp] theorem Dev.count_fan (e n : Nat) (d : Dev) : (d.count e n).fan = d.fan := by
  unfold Dev.count; split <;> simp

/-! ### useFree -/

@[simp] theorem Dev.useFree_regs (n : Nat) (d : Dev) : (d.useFree n).regs = d.regs := (rfl)
@[simp] theorem Dev.useFree_latches (n : Nat) (d : Dev) : (d.useFree n).latches = d.latches := (rfl)
@[simp] theorem Dev.useFree_staging (n : Nat) (d : Dev) : (d.useFree n).staging = d.staging := (rfl)
@[simp] theorem Dev.useFree_mem (n : Nat) (d : Dev) : (d.useFree n).mem = d.mem := (rfl)
@[simp] theorem Dev.useFree_flt (n : Nat) (d : Dev) : (d.useFree n).flt = d.flt := (rfl)
@[simp] theorem Dev.useFree_mig (n : Nat) (d : Dev) : (d.useFree n).mig = d.mig := (rfl)
@[simp] theorem Dev.useFree_memc (n : Nat) (d : Dev) : (d.useFree n).memc = d.memc := (rfl)
@[simp] theorem Dev.useFree_hdma (n : Nat) (d : Dev) : (d.useFree n).hdma = d.hdma := (rfl)
@[simp] theorem Dev.useFree_cfg (n : Nat) (d : Dev) : (d.useFree n).cfg = d.cfg := (rfl)
@[simp] theorem Dev.useFree_glb (n : Nat) (d : Dev) : (d.useFree n).glb = d.glb := (rfl)
@[simp] theorem Dev.useFree_seq (n : Nat) (d : Dev) : (d.useFree n).seq = d.seq := (rfl)
@[simp] theorem Dev.useFree_run (n : Nat) (d : Dev) : (d.useFree n).run = d.run := (rfl)
@[simp] theorem Dev.useFree_cmp (n : Nat) (d : Dev) : (d.useFree n).cmp = d.cmp := (rfl)
@[simp] theorem Dev.useFree_dcr (n : Nat) (d : Dev) : (d.useFree n).dcr = d.dcr := (rfl)
@[simp] theorem Dev.useFree_asm (n : Nat) (d : Dev) : (d.useFree n).asm = d.asm := (rfl)
@[simp] theorem Dev.useFree_nrg (n : Nat) (d : Dev) : (d.useFree n).nrg = d.nrg := (rfl)
@[simp] theorem Dev.useFree_pac (n : Nat) (d : Dev) : (d.useFree n).pac = d.pac := (rfl)
@[simp] theorem Dev.useFree_hlk (n : Nat) (d : Dev) : (d.useFree n).hlk = d.hlk := (rfl)
@[simp] theorem Dev.useFree_tim (n : Nat) (d : Dev) : (d.useFree n).tim = d.tim := (rfl)
@[simp] theorem Dev.useFree_mot (n : Nat) (d : Dev) : (d.useFree n).mot = d.mot := (rfl)
@[simp] theorem Dev.useFree_pmu (n : Nat) (d : Dev) : (d.useFree n).pmu = d.pmu := (rfl)
@[simp] theorem Dev.useFree_msr (n : Nat) (d : Dev) : (d.useFree n).msr = d.msr := (rfl)
@[simp] theorem Dev.useFree_duo (n : Nat) (d : Dev) : (d.useFree n).duo = d.duo := (rfl)
@[simp] theorem Dev.useFree_crc (n : Nat) (d : Dev) : (d.useFree n).crc = d.crc := (rfl)
@[simp] theorem Dev.useFree_fan (n : Nat) (d : Dev) : (d.useFree n).fan = d.fan := (rfl)

/-! ### pairSend -/

@[simp] theorem Dev.pairSend_regs (m : PairMsg) (d : Dev) : (d.pairSend m).regs = d.regs := by
  unfold Dev.pairSend; split <;> simp
@[simp] theorem Dev.pairSend_latches (m : PairMsg) (d : Dev) : (d.pairSend m).latches = d.latches := by
  unfold Dev.pairSend; split <;> simp
@[simp] theorem Dev.pairSend_staging (m : PairMsg) (d : Dev) : (d.pairSend m).staging = d.staging := by
  unfold Dev.pairSend; split <;> simp
@[simp] theorem Dev.pairSend_mem (m : PairMsg) (d : Dev) : (d.pairSend m).mem = d.mem := by
  unfold Dev.pairSend; split <;> simp
@[simp] theorem Dev.pairSend_freeCtr (m : PairMsg) (d : Dev) : (d.pairSend m).freeCtr = d.freeCtr := by
  unfold Dev.pairSend; split <;> simp
@[simp] theorem Dev.pairSend_flt (m : PairMsg) (d : Dev) : (d.pairSend m).flt = d.flt := by
  unfold Dev.pairSend; split <;> simp
@[simp] theorem Dev.pairSend_mig (m : PairMsg) (d : Dev) : (d.pairSend m).mig = d.mig := by
  unfold Dev.pairSend; split <;> simp
@[simp] theorem Dev.pairSend_memc (m : PairMsg) (d : Dev) : (d.pairSend m).memc = d.memc := by
  unfold Dev.pairSend; split <;> simp
@[simp] theorem Dev.pairSend_hdma (m : PairMsg) (d : Dev) : (d.pairSend m).hdma = d.hdma := by
  unfold Dev.pairSend; split <;> simp
@[simp] theorem Dev.pairSend_cfg (m : PairMsg) (d : Dev) : (d.pairSend m).cfg = d.cfg := by
  unfold Dev.pairSend; split <;> simp
@[simp] theorem Dev.pairSend_glb (m : PairMsg) (d : Dev) : (d.pairSend m).glb = d.glb := by
  unfold Dev.pairSend; split <;> simp
@[simp] theorem Dev.pairSend_seq (m : PairMsg) (d : Dev) : (d.pairSend m).seq = d.seq := by
  unfold Dev.pairSend; split <;> simp
@[simp] theorem Dev.pairSend_run (m : PairMsg) (d : Dev) : (d.pairSend m).run = d.run := by
  unfold Dev.pairSend; split <;> simp
@[simp] theorem Dev.pairSend_cmp (m : PairMsg) (d : Dev) : (d.pairSend m).cmp = d.cmp := by
  unfold Dev.pairSend; split <;> simp
@[simp] theorem Dev.pairSend_dcr (m : PairMsg) (d : Dev) : (d.pairSend m).dcr = d.dcr := by
  unfold Dev.pairSend; split <;> simp
@[simp] theorem Dev.pairSend_asm (m : PairMsg) (d : Dev) : (d.pairSend m).asm = d.asm := by
  unfold Dev.pairSend; split <;> simp
@[simp] theorem Dev.pairSend_nrg (m : PairMsg) (d : Dev) : (d.pairSend m).nrg = d.nrg := by
  unfold Dev.pairSend; split <;> simp
@[simp] theorem Dev.pairSend_pac (m : PairMsg) (d : Dev) : (d.pairSend m).pac = d.pac := by
  unfold Dev.pairSend; split <;> simp
@[simp] theorem Dev.pairSend_hlk (m : PairMsg) (d : Dev) : (d.pairSend m).hlk = d.hlk := by
  unfold Dev.pairSend; split <;> simp
@[simp] theorem Dev.pairSend_tim (m : PairMsg) (d : Dev) : (d.pairSend m).tim = d.tim := by
  unfold Dev.pairSend; split <;> simp
@[simp] theorem Dev.pairSend_mot (m : PairMsg) (d : Dev) : (d.pairSend m).mot = d.mot := by
  unfold Dev.pairSend; split <;> simp
@[simp] theorem Dev.pairSend_pmu (m : PairMsg) (d : Dev) : (d.pairSend m).pmu = d.pmu := by
  unfold Dev.pairSend; split <;> simp
@[simp] theorem Dev.pairSend_msr (m : PairMsg) (d : Dev) : (d.pairSend m).msr = d.msr := by
  unfold Dev.pairSend; split <;> simp
@[simp] theorem Dev.pairSend_crc (m : PairMsg) (d : Dev) : (d.pairSend m).crc = d.crc := by
  unfold Dev.pairSend; split <;> simp
@[simp] theorem Dev.pairSend_fan (m : PairMsg) (d : Dev) : (d.pairSend m).fan = d.fan := by
  unfold Dev.pairSend; split <;> simp

/-! ### toHost -/

@[simp] theorem Dev.toHost_regs (o : HostOut) (d : Dev) : (d.toHost o).regs = d.regs := by
  unfold Dev.toHost; simp
@[simp] theorem Dev.toHost_latches (o : HostOut) (d : Dev) : (d.toHost o).latches = d.latches := by
  unfold Dev.toHost; simp
@[simp] theorem Dev.toHost_staging (o : HostOut) (d : Dev) : (d.toHost o).staging = d.staging := by
  unfold Dev.toHost; simp
@[simp] theorem Dev.toHost_mem (o : HostOut) (d : Dev) : (d.toHost o).mem = d.mem := by
  unfold Dev.toHost; simp
@[simp] theorem Dev.toHost_freeCtr (o : HostOut) (d : Dev) : (d.toHost o).freeCtr = d.freeCtr := by
  unfold Dev.toHost; simp
@[simp] theorem Dev.toHost_flt (o : HostOut) (d : Dev) : (d.toHost o).flt = d.flt := by
  unfold Dev.toHost; simp
@[simp] theorem Dev.toHost_mig (o : HostOut) (d : Dev) : (d.toHost o).mig = d.mig := by
  unfold Dev.toHost; simp
@[simp] theorem Dev.toHost_memc (o : HostOut) (d : Dev) : (d.toHost o).memc = d.memc := by
  unfold Dev.toHost; simp
@[simp] theorem Dev.toHost_cfg (o : HostOut) (d : Dev) : (d.toHost o).cfg = d.cfg := by
  unfold Dev.toHost; simp
@[simp] theorem Dev.toHost_glb (o : HostOut) (d : Dev) : (d.toHost o).glb = d.glb := by
  unfold Dev.toHost; simp
@[simp] theorem Dev.toHost_seq (o : HostOut) (d : Dev) : (d.toHost o).seq = d.seq := by
  unfold Dev.toHost; simp
@[simp] theorem Dev.toHost_run (o : HostOut) (d : Dev) : (d.toHost o).run = d.run := by
  unfold Dev.toHost; simp
@[simp] theorem Dev.toHost_cmp (o : HostOut) (d : Dev) : (d.toHost o).cmp = d.cmp := by
  unfold Dev.toHost; simp
@[simp] theorem Dev.toHost_dcr (o : HostOut) (d : Dev) : (d.toHost o).dcr = d.dcr := by
  unfold Dev.toHost; simp
@[simp] theorem Dev.toHost_asm (o : HostOut) (d : Dev) : (d.toHost o).asm = d.asm := by
  unfold Dev.toHost; simp
@[simp] theorem Dev.toHost_nrg (o : HostOut) (d : Dev) : (d.toHost o).nrg = d.nrg := by
  unfold Dev.toHost; simp
@[simp] theorem Dev.toHost_pac (o : HostOut) (d : Dev) : (d.toHost o).pac = d.pac := by
  unfold Dev.toHost; simp
@[simp] theorem Dev.toHost_hlk (o : HostOut) (d : Dev) : (d.toHost o).hlk = d.hlk := by
  unfold Dev.toHost; simp
@[simp] theorem Dev.toHost_tim (o : HostOut) (d : Dev) : (d.toHost o).tim = d.tim := by
  unfold Dev.toHost; simp
@[simp] theorem Dev.toHost_mot (o : HostOut) (d : Dev) : (d.toHost o).mot = d.mot := by
  unfold Dev.toHost; simp
@[simp] theorem Dev.toHost_pmu (o : HostOut) (d : Dev) : (d.toHost o).pmu = d.pmu := by
  unfold Dev.toHost; simp
@[simp] theorem Dev.toHost_msr (o : HostOut) (d : Dev) : (d.toHost o).msr = d.msr := by
  unfold Dev.toHost; simp
@[simp] theorem Dev.toHost_duo (o : HostOut) (d : Dev) : (d.toHost o).duo = d.duo := by
  unfold Dev.toHost; simp
@[simp] theorem Dev.toHost_crc (o : HostOut) (d : Dev) : (d.toHost o).crc = d.crc := by
  unfold Dev.toHost; simp
@[simp] theorem Dev.toHost_fan (o : HostOut) (d : Dev) : (d.toHost o).fan = d.fan := by
  unfold Dev.toHost; simp

/-! ### countEvent -/

@[simp] theorem Dev.countEvent_latches (e : EvRec) (d : Dev) : (d.countEvent e).latches = d.latches := by
  unfold Dev.countEvent; rw [Dev.when_eq]; split <;> simp
@[simp] theorem Dev.countEvent_staging (e : EvRec) (d : Dev) : (d.countEvent e).staging = d.staging := by
  unfold Dev.countEvent; rw [Dev.when_eq]; split <;> simp
@[simp] theorem Dev.countEvent_mem (e : EvRec) (d : Dev) : (d.countEvent e).mem = d.mem := by
  unfold Dev.countEvent; rw [Dev.when_eq]; split <;> simp
@[simp] theorem Dev.countEvent_freeCtr (e : EvRec) (d : Dev) : (d.countEvent e).freeCtr = d.freeCtr := by
  unfold Dev.countEvent; rw [Dev.when_eq]; split <;> simp
@[simp] theorem Dev.countEvent_flt (e : EvRec) (d : Dev) : (d.countEvent e).flt = d.flt := by
  unfold Dev.countEvent; rw [Dev.when_eq]; split <;> simp
@[simp] theorem Dev.countEvent_mig (e : EvRec) (d : Dev) : (d.countEvent e).mig = d.mig := by
  unfold Dev.countEvent; rw [Dev.when_eq]; split <;> simp
@[simp] theorem Dev.countEvent_memc (e : EvRec) (d : Dev) : (d.countEvent e).memc = d.memc := by
  unfold Dev.countEvent; rw [Dev.when_eq]; split <;> simp
@[simp] theorem Dev.countEvent_hdma (e : EvRec) (d : Dev) : (d.countEvent e).hdma = d.hdma := by
  unfold Dev.countEvent; rw [Dev.when_eq]; split <;> simp
@[simp] theorem Dev.countEvent_cfg (e : EvRec) (d : Dev) : (d.countEvent e).cfg = d.cfg := by
  unfold Dev.countEvent; rw [Dev.when_eq]; split <;> simp
@[simp] theorem Dev.countEvent_glb (e : EvRec) (d : Dev) : (d.countEvent e).glb = d.glb := by
  unfold Dev.countEvent; rw [Dev.when_eq]; split <;> simp
@[simp] theorem Dev.countEvent_seq (e : EvRec) (d : Dev) : (d.countEvent e).seq = d.seq := by
  unfold Dev.countEvent; rw [Dev.when_eq]; split <;> simp
@[simp] theorem Dev.countEvent_run (e : EvRec) (d : Dev) : (d.countEvent e).run = d.run := by
  unfold Dev.countEvent; rw [Dev.when_eq]; split <;> simp
@[simp] theorem Dev.countEvent_cmp (e : EvRec) (d : Dev) : (d.countEvent e).cmp = d.cmp := by
  unfold Dev.countEvent; rw [Dev.when_eq]; split <;> simp
@[simp] theorem Dev.countEvent_dcr (e : EvRec) (d : Dev) : (d.countEvent e).dcr = d.dcr := by
  unfold Dev.countEvent; rw [Dev.when_eq]; split <;> simp
@[simp] theorem Dev.countEvent_asm (e : EvRec) (d : Dev) : (d.countEvent e).asm = d.asm := by
  unfold Dev.countEvent; rw [Dev.when_eq]; split <;> simp
@[simp] theorem Dev.countEvent_nrg (e : EvRec) (d : Dev) : (d.countEvent e).nrg = d.nrg := by
  unfold Dev.countEvent; rw [Dev.when_eq]; split <;> simp
@[simp] theorem Dev.countEvent_pac (e : EvRec) (d : Dev) : (d.countEvent e).pac = d.pac := by
  unfold Dev.countEvent; rw [Dev.when_eq]; split <;> simp
@[simp] theorem Dev.countEvent_hlk (e : EvRec) (d : Dev) : (d.countEvent e).hlk = d.hlk := by
  unfold Dev.countEvent; rw [Dev.when_eq]; split <;> simp
@[simp] theorem Dev.countEvent_tim (e : EvRec) (d : Dev) : (d.countEvent e).tim = d.tim := by
  unfold Dev.countEvent; rw [Dev.when_eq]; split <;> simp
@[simp] theorem Dev.countEvent_mot (e : EvRec) (d : Dev) : (d.countEvent e).mot = d.mot := by
  unfold Dev.countEvent; rw [Dev.when_eq]; split <;> simp
@[simp] theorem Dev.countEvent_pmu (e : EvRec) (d : Dev) : (d.countEvent e).pmu = d.pmu := by
  unfold Dev.countEvent; rw [Dev.when_eq]; split <;> simp
@[simp] theorem Dev.countEvent_msr (e : EvRec) (d : Dev) : (d.countEvent e).msr = d.msr := by
  unfold Dev.countEvent; rw [Dev.when_eq]; split <;> simp
@[simp] theorem Dev.countEvent_duo (e : EvRec) (d : Dev) : (d.countEvent e).duo = d.duo := by
  unfold Dev.countEvent; rw [Dev.when_eq]; split <;> simp
@[simp] theorem Dev.countEvent_crc (e : EvRec) (d : Dev) : (d.countEvent e).crc = d.crc := by
  unfold Dev.countEvent; rw [Dev.when_eq]; split <;> simp
@[simp] theorem Dev.countEvent_fan (e : EvRec) (d : Dev) : (d.countEvent e).fan = d.fan := by
  unfold Dev.countEvent; rw [Dev.when_eq]; split <;> simp

/-! ### raiseRec -/

@[simp] theorem Dev.raiseRec_latches (e : EvRec) (d : Dev) : (d.raiseRec e).latches = d.latches := by
  unfold Dev.raiseRec; dsimp only; split <;> simp
@[simp] theorem Dev.raiseRec_staging (e : EvRec) (d : Dev) : (d.raiseRec e).staging = d.staging := by
  unfold Dev.raiseRec; dsimp only; split <;> simp
@[simp] theorem Dev.raiseRec_mem (e : EvRec) (d : Dev) : (d.raiseRec e).mem = d.mem := by
  unfold Dev.raiseRec; dsimp only; split <;> simp
@[simp] theorem Dev.raiseRec_freeCtr (e : EvRec) (d : Dev) : (d.raiseRec e).freeCtr = d.freeCtr := by
  unfold Dev.raiseRec; dsimp only; split <;> simp
@[simp] theorem Dev.raiseRec_mig (e : EvRec) (d : Dev) : (d.raiseRec e).mig = d.mig := by
  unfold Dev.raiseRec; dsimp only; split <;> simp
@[simp] theorem Dev.raiseRec_memc (e : EvRec) (d : Dev) : (d.raiseRec e).memc = d.memc := by
  unfold Dev.raiseRec; dsimp only; split <;> simp
@[simp] theorem Dev.raiseRec_hdma (e : EvRec) (d : Dev) : (d.raiseRec e).hdma = d.hdma := by
  unfold Dev.raiseRec; dsimp only; split <;> simp
@[simp] theorem Dev.raiseRec_cfg (e : EvRec) (d : Dev) : (d.raiseRec e).cfg = d.cfg := by
  unfold Dev.raiseRec; dsimp only; split <;> simp
@[simp] theorem Dev.raiseRec_glb (e : EvRec) (d : Dev) : (d.raiseRec e).glb = d.glb := by
  unfold Dev.raiseRec; dsimp only; split <;> simp
@[simp] theorem Dev.raiseRec_seq (e : EvRec) (d : Dev) : (d.raiseRec e).seq = d.seq := by
  unfold Dev.raiseRec; dsimp only; split <;> simp
@[simp] theorem Dev.raiseRec_run (e : EvRec) (d : Dev) : (d.raiseRec e).run = d.run := by
  unfold Dev.raiseRec; dsimp only; split <;> simp
@[simp] theorem Dev.raiseRec_cmp (e : EvRec) (d : Dev) : (d.raiseRec e).cmp = d.cmp := by
  unfold Dev.raiseRec; dsimp only; split <;> simp
@[simp] theorem Dev.raiseRec_dcr (e : EvRec) (d : Dev) : (d.raiseRec e).dcr = d.dcr := by
  unfold Dev.raiseRec; dsimp only; split <;> simp
@[simp] theorem Dev.raiseRec_asm (e : EvRec) (d : Dev) : (d.raiseRec e).asm = d.asm := by
  unfold Dev.raiseRec; dsimp only; split <;> simp
@[simp] theorem Dev.raiseRec_nrg (e : EvRec) (d : Dev) : (d.raiseRec e).nrg = d.nrg := by
  unfold Dev.raiseRec; dsimp only; split <;> simp
@[simp] theorem Dev.raiseRec_pac (e : EvRec) (d : Dev) : (d.raiseRec e).pac = d.pac := by
  unfold Dev.raiseRec; dsimp only; split <;> simp
@[simp] theorem Dev.raiseRec_hlk (e : EvRec) (d : Dev) : (d.raiseRec e).hlk = d.hlk := by
  unfold Dev.raiseRec; dsimp only; split <;> simp
@[simp] theorem Dev.raiseRec_tim (e : EvRec) (d : Dev) : (d.raiseRec e).tim = d.tim := by
  unfold Dev.raiseRec; dsimp only; split <;> simp
@[simp] theorem Dev.raiseRec_mot (e : EvRec) (d : Dev) : (d.raiseRec e).mot = d.mot := by
  unfold Dev.raiseRec; dsimp only; split <;> simp
@[simp] theorem Dev.raiseRec_pmu (e : EvRec) (d : Dev) : (d.raiseRec e).pmu = d.pmu := by
  unfold Dev.raiseRec; dsimp only; split <;> simp
@[simp] theorem Dev.raiseRec_msr (e : EvRec) (d : Dev) : (d.raiseRec e).msr = d.msr := by
  unfold Dev.raiseRec; dsimp only; split <;> simp
@[simp] theorem Dev.raiseRec_duo (e : EvRec) (d : Dev) : (d.raiseRec e).duo = d.duo := by
  unfold Dev.raiseRec; dsimp only; split <;> simp
@[simp] theorem Dev.raiseRec_crc (e : EvRec) (d : Dev) : (d.raiseRec e).crc = d.crc := by
  unfold Dev.raiseRec; dsimp only; split <;> simp
@[simp] theorem Dev.raiseRec_fan (e : EvRec) (d : Dev) : (d.raiseRec e).fan = d.fan := by
  unfold Dev.raiseRec; dsimp only; split <;> simp

/-! ### raiseTo -/

@[simp] theorem Dev.raiseTo_latches (ring : Option Nat) (code sev src arg0 arg1 : Nat) (d : Dev) : (d.raiseTo ring code sev src arg0 arg1).latches = d.latches := by
  unfold Dev.raiseTo; simp
@[simp] theorem Dev.raiseTo_staging (ring : Option Nat) (code sev src arg0 arg1 : Nat) (d : Dev) : (d.raiseTo ring code sev src arg0 arg1).staging = d.staging := by
  unfold Dev.raiseTo; simp
@[simp] theorem Dev.raiseTo_mem (ring : Option Nat) (code sev src arg0 arg1 : Nat) (d : Dev) : (d.raiseTo ring code sev src arg0 arg1).mem = d.mem := by
  unfold Dev.raiseTo; simp
@[simp] theorem Dev.raiseTo_freeCtr (ring : Option Nat) (code sev src arg0 arg1 : Nat) (d : Dev) : (d.raiseTo ring code sev src arg0 arg1).freeCtr = d.freeCtr := by
  unfold Dev.raiseTo; simp
@[simp] theorem Dev.raiseTo_mig (ring : Option Nat) (code sev src arg0 arg1 : Nat) (d : Dev) : (d.raiseTo ring code sev src arg0 arg1).mig = d.mig := by
  unfold Dev.raiseTo; simp
@[simp] theorem Dev.raiseTo_memc (ring : Option Nat) (code sev src arg0 arg1 : Nat) (d : Dev) : (d.raiseTo ring code sev src arg0 arg1).memc = d.memc := by
  unfold Dev.raiseTo; simp
@[simp] theorem Dev.raiseTo_hdma (ring : Option Nat) (code sev src arg0 arg1 : Nat) (d : Dev) : (d.raiseTo ring code sev src arg0 arg1).hdma = d.hdma := by
  unfold Dev.raiseTo; simp
@[simp] theorem Dev.raiseTo_cfg (ring : Option Nat) (code sev src arg0 arg1 : Nat) (d : Dev) : (d.raiseTo ring code sev src arg0 arg1).cfg = d.cfg := by
  unfold Dev.raiseTo; simp
@[simp] theorem Dev.raiseTo_glb (ring : Option Nat) (code sev src arg0 arg1 : Nat) (d : Dev) : (d.raiseTo ring code sev src arg0 arg1).glb = d.glb := by
  unfold Dev.raiseTo; simp
@[simp] theorem Dev.raiseTo_seq (ring : Option Nat) (code sev src arg0 arg1 : Nat) (d : Dev) : (d.raiseTo ring code sev src arg0 arg1).seq = d.seq := by
  unfold Dev.raiseTo; simp
@[simp] theorem Dev.raiseTo_run (ring : Option Nat) (code sev src arg0 arg1 : Nat) (d : Dev) : (d.raiseTo ring code sev src arg0 arg1).run = d.run := by
  unfold Dev.raiseTo; simp
@[simp] theorem Dev.raiseTo_cmp (ring : Option Nat) (code sev src arg0 arg1 : Nat) (d : Dev) : (d.raiseTo ring code sev src arg0 arg1).cmp = d.cmp := by
  unfold Dev.raiseTo; simp
@[simp] theorem Dev.raiseTo_dcr (ring : Option Nat) (code sev src arg0 arg1 : Nat) (d : Dev) : (d.raiseTo ring code sev src arg0 arg1).dcr = d.dcr := by
  unfold Dev.raiseTo; simp
@[simp] theorem Dev.raiseTo_asm (ring : Option Nat) (code sev src arg0 arg1 : Nat) (d : Dev) : (d.raiseTo ring code sev src arg0 arg1).asm = d.asm := by
  unfold Dev.raiseTo; simp
@[simp] theorem Dev.raiseTo_nrg (ring : Option Nat) (code sev src arg0 arg1 : Nat) (d : Dev) : (d.raiseTo ring code sev src arg0 arg1).nrg = d.nrg := by
  unfold Dev.raiseTo; simp
@[simp] theorem Dev.raiseTo_pac (ring : Option Nat) (code sev src arg0 arg1 : Nat) (d : Dev) : (d.raiseTo ring code sev src arg0 arg1).pac = d.pac := by
  unfold Dev.raiseTo; simp
@[simp] theorem Dev.raiseTo_hlk (ring : Option Nat) (code sev src arg0 arg1 : Nat) (d : Dev) : (d.raiseTo ring code sev src arg0 arg1).hlk = d.hlk := by
  unfold Dev.raiseTo; simp
@[simp] theorem Dev.raiseTo_tim (ring : Option Nat) (code sev src arg0 arg1 : Nat) (d : Dev) : (d.raiseTo ring code sev src arg0 arg1).tim = d.tim := by
  unfold Dev.raiseTo; simp
@[simp] theorem Dev.raiseTo_mot (ring : Option Nat) (code sev src arg0 arg1 : Nat) (d : Dev) : (d.raiseTo ring code sev src arg0 arg1).mot = d.mot := by
  unfold Dev.raiseTo; simp
@[simp] theorem Dev.raiseTo_pmu (ring : Option Nat) (code sev src arg0 arg1 : Nat) (d : Dev) : (d.raiseTo ring code sev src arg0 arg1).pmu = d.pmu := by
  unfold Dev.raiseTo; simp
@[simp] theorem Dev.raiseTo_msr (ring : Option Nat) (code sev src arg0 arg1 : Nat) (d : Dev) : (d.raiseTo ring code sev src arg0 arg1).msr = d.msr := by
  unfold Dev.raiseTo; simp
@[simp] theorem Dev.raiseTo_duo (ring : Option Nat) (code sev src arg0 arg1 : Nat) (d : Dev) : (d.raiseTo ring code sev src arg0 arg1).duo = d.duo := by
  unfold Dev.raiseTo; simp
@[simp] theorem Dev.raiseTo_crc (ring : Option Nat) (code sev src arg0 arg1 : Nat) (d : Dev) : (d.raiseTo ring code sev src arg0 arg1).crc = d.crc := by
  unfold Dev.raiseTo; simp
@[simp] theorem Dev.raiseTo_fan (ring : Option Nat) (code sev src arg0 arg1 : Nat) (d : Dev) : (d.raiseTo ring code sev src arg0 arg1).fan = d.fan := by
  unfold Dev.raiseTo; simp

/-! ### raise -/

@[simp] theorem Dev.raise_latches (code sev arg0 arg1 : Nat) (d : Dev) : (d.raise code sev arg0 arg1).latches = d.latches := by
  unfold Dev.raise; simp
@[simp] theorem Dev.raise_staging (code sev arg0 arg1 : Nat) (d : Dev) : (d.raise code sev arg0 arg1).staging = d.staging := by
  unfold Dev.raise; simp
@[simp] theorem Dev.raise_mem (code sev arg0 arg1 : Nat) (d : Dev) : (d.raise code sev arg0 arg1).mem = d.mem := by
  unfold Dev.raise; simp
@[simp] theorem Dev.raise_freeCtr (code sev arg0 arg1 : Nat) (d : Dev) : (d.raise code sev arg0 arg1).freeCtr = d.freeCtr := by
  unfold Dev.raise; simp
@[simp] theorem Dev.raise_mig (code sev arg0 arg1 : Nat) (d : Dev) : (d.raise code sev arg0 arg1).mig = d.mig := by
  unfold Dev.raise; simp
@[simp] theorem Dev.raise_memc (code sev arg0 arg1 : Nat) (d : Dev) : (d.raise code sev arg0 arg1).memc = d.memc := by
  unfold Dev.raise; simp
@[simp] theorem Dev.raise_hdma (code sev arg0 arg1 : Nat) (d : Dev) : (d.raise code sev arg0 arg1).hdma = d.hdma := by
  unfold Dev.raise; simp
@[simp] theorem Dev.raise_cfg (code sev arg0 arg1 : Nat) (d : Dev) : (d.raise code sev arg0 arg1).cfg = d.cfg := by
  unfold Dev.raise; simp
@[simp] theorem Dev.raise_glb (code sev arg0 arg1 : Nat) (d : Dev) : (d.raise code sev arg0 arg1).glb = d.glb := by
  unfold Dev.raise; simp
@[simp] theorem Dev.raise_seq (code sev arg0 arg1 : Nat) (d : Dev) : (d.raise code sev arg0 arg1).seq = d.seq := by
  unfold Dev.raise; simp
@[simp] theorem Dev.raise_run (code sev arg0 arg1 : Nat) (d : Dev) : (d.raise code sev arg0 arg1).run = d.run := by
  unfold Dev.raise; simp
@[simp] theorem Dev.raise_cmp (code sev arg0 arg1 : Nat) (d : Dev) : (d.raise code sev arg0 arg1).cmp = d.cmp := by
  unfold Dev.raise; simp
@[simp] theorem Dev.raise_dcr (code sev arg0 arg1 : Nat) (d : Dev) : (d.raise code sev arg0 arg1).dcr = d.dcr := by
  unfold Dev.raise; simp
@[simp] theorem Dev.raise_asm (code sev arg0 arg1 : Nat) (d : Dev) : (d.raise code sev arg0 arg1).asm = d.asm := by
  unfold Dev.raise; simp
@[simp] theorem Dev.raise_nrg (code sev arg0 arg1 : Nat) (d : Dev) : (d.raise code sev arg0 arg1).nrg = d.nrg := by
  unfold Dev.raise; simp
@[simp] theorem Dev.raise_pac (code sev arg0 arg1 : Nat) (d : Dev) : (d.raise code sev arg0 arg1).pac = d.pac := by
  unfold Dev.raise; simp
@[simp] theorem Dev.raise_hlk (code sev arg0 arg1 : Nat) (d : Dev) : (d.raise code sev arg0 arg1).hlk = d.hlk := by
  unfold Dev.raise; simp
@[simp] theorem Dev.raise_tim (code sev arg0 arg1 : Nat) (d : Dev) : (d.raise code sev arg0 arg1).tim = d.tim := by
  unfold Dev.raise; simp
@[simp] theorem Dev.raise_mot (code sev arg0 arg1 : Nat) (d : Dev) : (d.raise code sev arg0 arg1).mot = d.mot := by
  unfold Dev.raise; simp
@[simp] theorem Dev.raise_pmu (code sev arg0 arg1 : Nat) (d : Dev) : (d.raise code sev arg0 arg1).pmu = d.pmu := by
  unfold Dev.raise; simp
@[simp] theorem Dev.raise_msr (code sev arg0 arg1 : Nat) (d : Dev) : (d.raise code sev arg0 arg1).msr = d.msr := by
  unfold Dev.raise; simp
@[simp] theorem Dev.raise_duo (code sev arg0 arg1 : Nat) (d : Dev) : (d.raise code sev arg0 arg1).duo = d.duo := by
  unfold Dev.raise; simp
@[simp] theorem Dev.raise_crc (code sev arg0 arg1 : Nat) (d : Dev) : (d.raise code sev arg0 arg1).crc = d.crc := by
  unfold Dev.raise; simp
@[simp] theorem Dev.raise_fan (code sev arg0 arg1 : Nat) (d : Dev) : (d.raise code sev arg0 arg1).fan = d.fan := by
  unfold Dev.raise; simp

/-! ### raiseOpen -/

@[simp] theorem Dev.raiseOpen_latches (ring : Option Nat) (code sev src : Nat) (d : Dev) : (d.raiseOpen ring code sev src).latches = d.latches := by
  unfold Dev.raiseOpen; simp
@[simp] theorem Dev.raiseOpen_staging (ring : Option Nat) (code sev src : Nat) (d : Dev) : (d.raiseOpen ring code sev src).staging = d.staging := by
  unfold Dev.raiseOpen; simp
@[simp] theorem Dev.raiseOpen_mem (ring : Option Nat) (code sev src : Nat) (d : Dev) : (d.raiseOpen ring code sev src).mem = d.mem := by
  unfold Dev.raiseOpen; simp
@[simp] theorem Dev.raiseOpen_mig (ring : Option Nat) (code sev src : Nat) (d : Dev) : (d.raiseOpen ring code sev src).mig = d.mig := by
  unfold Dev.raiseOpen; simp
@[simp] theorem Dev.raiseOpen_memc (ring : Option Nat) (code sev src : Nat) (d : Dev) : (d.raiseOpen ring code sev src).memc = d.memc := by
  unfold Dev.raiseOpen; simp
@[simp] theorem Dev.raiseOpen_hdma (ring : Option Nat) (code sev src : Nat) (d : Dev) : (d.raiseOpen ring code sev src).hdma = d.hdma := by
  unfold Dev.raiseOpen; simp
@[simp] theorem Dev.raiseOpen_cfg (ring : Option Nat) (code sev src : Nat) (d : Dev) : (d.raiseOpen ring code sev src).cfg = d.cfg := by
  unfold Dev.raiseOpen; simp
@[simp] theorem Dev.raiseOpen_glb (ring : Option Nat) (code sev src : Nat) (d : Dev) : (d.raiseOpen ring code sev src).glb = d.glb := by
  unfold Dev.raiseOpen; simp
@[simp] theorem Dev.raiseOpen_seq (ring : Option Nat) (code sev src : Nat) (d : Dev) : (d.raiseOpen ring code sev src).seq = d.seq := by
  unfold Dev.raiseOpen; simp
@[simp] theorem Dev.raiseOpen_run (ring : Option Nat) (code sev src : Nat) (d : Dev) : (d.raiseOpen ring code sev src).run = d.run := by
  unfold Dev.raiseOpen; simp
@[simp] theorem Dev.raiseOpen_cmp (ring : Option Nat) (code sev src : Nat) (d : Dev) : (d.raiseOpen ring code sev src).cmp = d.cmp := by
  unfold Dev.raiseOpen; simp
@[simp] theorem Dev.raiseOpen_dcr (ring : Option Nat) (code sev src : Nat) (d : Dev) : (d.raiseOpen ring code sev src).dcr = d.dcr := by
  unfold Dev.raiseOpen; simp
@[simp] theorem Dev.raiseOpen_asm (ring : Option Nat) (code sev src : Nat) (d : Dev) : (d.raiseOpen ring code sev src).asm = d.asm := by
  unfold Dev.raiseOpen; simp
@[simp] theorem Dev.raiseOpen_nrg (ring : Option Nat) (code sev src : Nat) (d : Dev) : (d.raiseOpen ring code sev src).nrg = d.nrg := by
  unfold Dev.raiseOpen; simp
@[simp] theorem Dev.raiseOpen_pac (ring : Option Nat) (code sev src : Nat) (d : Dev) : (d.raiseOpen ring code sev src).pac = d.pac := by
  unfold Dev.raiseOpen; simp
@[simp] theorem Dev.raiseOpen_hlk (ring : Option Nat) (code sev src : Nat) (d : Dev) : (d.raiseOpen ring code sev src).hlk = d.hlk := by
  unfold Dev.raiseOpen; simp
@[simp] theorem Dev.raiseOpen_tim (ring : Option Nat) (code sev src : Nat) (d : Dev) : (d.raiseOpen ring code sev src).tim = d.tim := by
  unfold Dev.raiseOpen; simp
@[simp] theorem Dev.raiseOpen_mot (ring : Option Nat) (code sev src : Nat) (d : Dev) : (d.raiseOpen ring code sev src).mot = d.mot := by
  unfold Dev.raiseOpen; simp
@[simp] theorem Dev.raiseOpen_pmu (ring : Option Nat) (code sev src : Nat) (d : Dev) : (d.raiseOpen ring code sev src).pmu = d.pmu := by
  unfold Dev.raiseOpen; simp
@[simp] theorem Dev.raiseOpen_msr (ring : Option Nat) (code sev src : Nat) (d : Dev) : (d.raiseOpen ring code sev src).msr = d.msr := by
  unfold Dev.raiseOpen; simp
@[simp] theorem Dev.raiseOpen_duo (ring : Option Nat) (code sev src : Nat) (d : Dev) : (d.raiseOpen ring code sev src).duo = d.duo := by
  unfold Dev.raiseOpen; simp
@[simp] theorem Dev.raiseOpen_crc (ring : Option Nat) (code sev src : Nat) (d : Dev) : (d.raiseOpen ring code sev src).crc = d.crc := by
  unfold Dev.raiseOpen; simp
@[simp] theorem Dev.raiseOpen_fan (ring : Option Nat) (code sev src : Nat) (d : Dev) : (d.raiseOpen ring code sev src).fan = d.fan := by
  unfold Dev.raiseOpen; simp

/-! ### raiseHalf -/

@[simp] theorem Dev.raiseHalf_latches (ring : Option Nat) (code sev src arg0 : Nat) (d : Dev) : (d.raiseHalf ring code sev src arg0).latches = d.latches := by
  unfold Dev.raiseHalf; simp
@[simp] theorem Dev.raiseHalf_staging (ring : Option Nat) (code sev src arg0 : Nat) (d : Dev) : (d.raiseHalf ring code sev src arg0).staging = d.staging := by
  unfold Dev.raiseHalf; simp
@[simp] theorem Dev.raiseHalf_mem (ring : Option Nat) (code sev src arg0 : Nat) (d : Dev) : (d.raiseHalf ring code sev src arg0).mem = d.mem := by
  unfold Dev.raiseHalf; simp
@[simp] theorem Dev.raiseHalf_mig (ring : Option Nat) (code sev src arg0 : Nat) (d : Dev) : (d.raiseHalf ring code sev src arg0).mig = d.mig := by
  unfold Dev.raiseHalf; simp
@[simp] theorem Dev.raiseHalf_memc (ring : Option Nat) (code sev src arg0 : Nat) (d : Dev) : (d.raiseHalf ring code sev src arg0).memc = d.memc := by
  unfold Dev.raiseHalf; simp
@[simp] theorem Dev.raiseHalf_hdma (ring : Option Nat) (code sev src arg0 : Nat) (d : Dev) : (d.raiseHalf ring code sev src arg0).hdma = d.hdma := by
  unfold Dev.raiseHalf; simp
@[simp] theorem Dev.raiseHalf_cfg (ring : Option Nat) (code sev src arg0 : Nat) (d : Dev) : (d.raiseHalf ring code sev src arg0).cfg = d.cfg := by
  unfold Dev.raiseHalf; simp
@[simp] theorem Dev.raiseHalf_glb (ring : Option Nat) (code sev src arg0 : Nat) (d : Dev) : (d.raiseHalf ring code sev src arg0).glb = d.glb := by
  unfold Dev.raiseHalf; simp
@[simp] theorem Dev.raiseHalf_seq (ring : Option Nat) (code sev src arg0 : Nat) (d : Dev) : (d.raiseHalf ring code sev src arg0).seq = d.seq := by
  unfold Dev.raiseHalf; simp
@[simp] theorem Dev.raiseHalf_run (ring : Option Nat) (code sev src arg0 : Nat) (d : Dev) : (d.raiseHalf ring code sev src arg0).run = d.run := by
  unfold Dev.raiseHalf; simp
@[simp] theorem Dev.raiseHalf_cmp (ring : Option Nat) (code sev src arg0 : Nat) (d : Dev) : (d.raiseHalf ring code sev src arg0).cmp = d.cmp := by
  unfold Dev.raiseHalf; simp
@[simp] theorem Dev.raiseHalf_dcr (ring : Option Nat) (code sev src arg0 : Nat) (d : Dev) : (d.raiseHalf ring code sev src arg0).dcr = d.dcr := by
  unfold Dev.raiseHalf; simp
@[simp] theorem Dev.raiseHalf_asm (ring : Option Nat) (code sev src arg0 : Nat) (d : Dev) : (d.raiseHalf ring code sev src arg0).asm = d.asm := by
  unfold Dev.raiseHalf; simp
@[simp] theorem Dev.raiseHalf_nrg (ring : Option Nat) (code sev src arg0 : Nat) (d : Dev) : (d.raiseHalf ring code sev src arg0).nrg = d.nrg := by
  unfold Dev.raiseHalf; simp
@[simp] theorem Dev.raiseHalf_pac (ring : Option Nat) (code sev src arg0 : Nat) (d : Dev) : (d.raiseHalf ring code sev src arg0).pac = d.pac := by
  unfold Dev.raiseHalf; simp
@[simp] theorem Dev.raiseHalf_hlk (ring : Option Nat) (code sev src arg0 : Nat) (d : Dev) : (d.raiseHalf ring code sev src arg0).hlk = d.hlk := by
  unfold Dev.raiseHalf; simp
@[simp] theorem Dev.raiseHalf_tim (ring : Option Nat) (code sev src arg0 : Nat) (d : Dev) : (d.raiseHalf ring code sev src arg0).tim = d.tim := by
  unfold Dev.raiseHalf; simp
@[simp] theorem Dev.raiseHalf_mot (ring : Option Nat) (code sev src arg0 : Nat) (d : Dev) : (d.raiseHalf ring code sev src arg0).mot = d.mot := by
  unfold Dev.raiseHalf; simp
@[simp] theorem Dev.raiseHalf_pmu (ring : Option Nat) (code sev src arg0 : Nat) (d : Dev) : (d.raiseHalf ring code sev src arg0).pmu = d.pmu := by
  unfold Dev.raiseHalf; simp
@[simp] theorem Dev.raiseHalf_msr (ring : Option Nat) (code sev src arg0 : Nat) (d : Dev) : (d.raiseHalf ring code sev src arg0).msr = d.msr := by
  unfold Dev.raiseHalf; simp
@[simp] theorem Dev.raiseHalf_duo (ring : Option Nat) (code sev src arg0 : Nat) (d : Dev) : (d.raiseHalf ring code sev src arg0).duo = d.duo := by
  unfold Dev.raiseHalf; simp
@[simp] theorem Dev.raiseHalf_crc (ring : Option Nat) (code sev src arg0 : Nat) (d : Dev) : (d.raiseHalf ring code sev src arg0).crc = d.crc := by
  unfold Dev.raiseHalf; simp
@[simp] theorem Dev.raiseHalf_fan (ring : Option Nat) (code sev src arg0 : Nat) (d : Dev) : (d.raiseHalf ring code sev src arg0).fan = d.fan := by
  unfold Dev.raiseHalf; simp

/-! ### Registers -/

/-- The counters of the performance monitor stand above every other block. -/
theorem Dev.count_reg {a : Nat} (e n : Nat) (d : Dev) (h : a < 0x1500000) : (d.count e n).reg a = d.reg a := by
  unfold Dev.count Dev.setPair
  split
  · rfl
  · rw [Dev.reg_setReg_other _ _ (by simp only [Reg.PMU_CNT_LO.addr]; omega), Dev.reg_setReg_other _ _ (by simp only [Reg.PMU_CNT_LO.addr]; omega)]

@[simp] theorem Dev.useFree_reg (n a : Nat) (d : Dev) : (d.useFree n).reg a = d.reg a := rfl
@[simp] theorem Dev.toHost_reg (o : HostOut) (a : Nat) (d : Dev) : (d.toHost o).reg a = d.reg a := rfl

theorem Dev.reg_congr {d e : Dev} (h : e.regs = d.regs) (a : Nat) : e.reg a = d.reg a := by unfold Dev.reg; rw [h]

@[simp] theorem Dev.pairSend_reg (m : PairMsg) (a : Nat) (d : Dev) : (d.pairSend m).reg a = d.reg a := Dev.reg_congr (by simp) a

theorem Dev.countEvent_reg {a : Nat} (e : EvRec) (d : Dev) (h : a < 0xF00000) : (d.countEvent e).reg a = d.reg a := by
  unfold Dev.countEvent Dev.addFld Dev.setFld
  rw [Dev.when_eq]
  split
  · rw [Dev.reg_setReg_other _ _ (by show a ≠ 0xF00014; omega), Dev.reg_setReg_other _ _ (by show a ≠ 0xF00014; omega),
      Dev.reg_setReg_other _ _ (by show a ≠ 0xF00014; omega), Dev.reg_setReg_other _ _ (by show a ≠ 0xF00020 + 0x4 * e.sev; omega)]
  · rw [Dev.reg_setReg_other _ _ (by show a ≠ 0xF00020 + 0x4 * e.sev; omega)]

/-- An event raised changes no register below the FLT block. -/
theorem Dev.raiseRec_reg {a : Nat} (e : EvRec) (d : Dev) (h : a < 0xF00000) : (d.raiseRec e).reg a = d.reg a := by
  unfold Dev.raiseRec
  dsimp only
  split
  · rw [Dev.reg_congr (d := d.count 0xF4 1) (by simp) a, Dev.count_reg _ _ _ (by omega)]
  · rw [Dev.countEvent_reg _ _ h]
    unfold Dev.addFld Dev.setFld
    rw [Dev.reg_setReg_other _ _ (by show a ≠ 0xF00040; omega)]
    exact (Dev.reg_congr (d := d.count 0xF4 1) (by simp) a).trans (Dev.count_reg _ _ _ (by omega))

theorem Dev.raiseTo_reg {a : Nat} (ring : Option Nat) (code sev src arg0 arg1 : Nat) (d : Dev) (h : a < 0xF00000) :
    (d.raiseTo ring code sev src arg0 arg1).reg a = d.reg a := Dev.raiseRec_reg _ d h

theorem Dev.raise_reg {a : Nat} (code sev arg0 arg1 : Nat) (d : Dev) (h : a < 0xF00000) :
    (d.raise code sev arg0 arg1).reg a = d.reg a := Dev.raiseRec_reg _ d h

end Sys2Proof.Machine
end

