-- ==== Sys2Proof/Laws/Memory.lean ====
section
/-! SUPPORT. Laws/Memory.lean: device memory reads what was last written, and every operation on it keeps its canonical form. -/

namespace Sys2Proof.Machine

theorem Mem.readByte_writeByte_other (m : Mem) {a b : Nat} (v : Byte) (h : b ≠ a) : (m.writeByte a v).readByte b = m.readByte b :=
  Tab.get_set_other m.cells (m.dflt a) (m.dflt b) v h

theorem Mem.readByte_writeByte_same (m : Mem) (a : Nat) (v : Byte) : (m.writeByte a v).readByte a = v :=
  Tab.get_set_same m.cells (m.dflt a) a v

@[simp] theorem Mem.writeByte_lines (m : Mem) (a : Nat) (v : Byte) : (m.writeByte a v).lines = m.lines := rfl
@[simp] theorem Mem.writeByte_undef (m : Mem) (a : Nat) (v : Byte) : (m.writeByte a v).undef = m.undef := rfl

theorem Mem.writeBytes_lines (m : Mem) (a : Nat) (bs : List Byte) : (m.writeBytes a bs).lines = m.lines := by
  induction bs generalizing m a with
  | nil => rfl
  | cons b bs ih => rw [Mem.writeBytes, ih, Mem.writeByte_lines]

theorem Mem.writeBytes_margined (m : Mem) (a : Nat) (bs : List Byte) : (m.writeBytes a bs).margined = m.margined := by
  induction bs generalizing m a with
  | nil => rfl
  | cons b bs ih => rw [Mem.writeBytes, ih]; rfl

/-- A write of bytes leaves every line's metadata as it is. -/
theorem Dev.lineMeta_writeBytes (d : Dev) (a : Nat) (bs : List Byte) (l : Nat) :
    Dev.lineMeta { d with mem := d.mem.writeBytes a bs } l = d.lineMeta l := by
  unfold Dev.lineMeta
  rw [show ({ d with mem := d.mem.writeBytes a bs } : Dev).mem.lines = d.mem.lines from Mem.writeBytes_lines _ _ _,
    show ({ d with mem := d.mem.writeBytes a bs } : Dev).mem.margined = d.mem.margined from Mem.writeBytes_margined _ _ _]
  rfl
theorem Dev.rangePoisoned_writeBytes (d : Dev) (a : Nat) (bs : List Byte) (x n : Nat) :
    Dev.rangePoisoned { d with mem := d.mem.writeBytes a bs } x n = d.rangePoisoned x n := by
  unfold Dev.rangePoisoned
  rw [funext fun l => congrArg LineMeta.poison (d.lineMeta_writeBytes a bs l)]

/-- A write leaves every byte outside it alone. -/
theorem Mem.readByte_writeBytes_other (m : Mem) (a : Nat) (bs : List Byte) {b : Nat} (h : b < a ∨ a + bs.length ≤ b) :
    (m.writeBytes a bs).readByte b = m.readByte b := by
  induction bs generalizing m a with
  | nil => rfl
  | cons v bs ih =>
    simp only [List.length_cons] at h
    rw [Mem.writeBytes, ih _ _ (by omega), Mem.readByte_writeByte_other m v (by omega)]

/-- A write is read back byte for byte. -/
theorem Mem.readBytes_writeBytes (m : Mem) (a : Nat) (bs : List Byte) : (m.writeBytes a bs).readBytes a bs.length = bs := by
  induction bs generalizing m a with
  | nil => rfl
  | cons v bs ih =>
    rw [Mem.writeBytes, List.length_cons, Mem.readBytes, ih, Mem.readByte_writeBytes_other _ _ _ (by omega),
      Mem.readByte_writeByte_same]

/-- The canonical form depends on the cells and the undefined ranges alone. -/
theorem Memory.wf_lines (m : Mem) (l : Tab LineMeta) : Memory.wf { m with lines := l } = Memory.wf m := (rfl)

theorem Memory.wf_writeByte {m : Mem} (a : Nat) (v : Byte) (h : Memory.wf m = true) : Memory.wf (m.writeByte a v) = true :=
  Tab.wf_set a v h

theorem Memory.wf_writeBytes {m : Mem} (a : Nat) (bs : List Byte) (h : Memory.wf m = true) : Memory.wf (m.writeBytes a bs) = true := by
  induction bs generalizing m a with
  | nil => exact h
  | cons b bs ih => exact ih (a + 1) (Memory.wf_writeByte a b h)

theorem Memory.wf_forget {m : Mem} (a n seed : Nat) (h : Memory.wf m = true) : Memory.wf (m.forget a n seed) = true := by
  unfold Memory.wf at h ⊢
  rw [Tab.wf_iff] at h ⊢
  refine ⟨Tab.rising_filter _ h.1, fun e he => ?_⟩
  obtain ⟨he, hout⟩ := List.mem_filter.mp he
  have hd : (m.forget a n seed).dflt e.1 = m.dflt e.1 := by
    simp only [Mem.dflt, Mem.forget, List.find?_cons]
    rw [Bool.not_eq_true'] at hout
    rw [hout]
  rw [hd]
  exact h.2 e he

theorem Memory.wf_empty (l : Tab LineMeta) (u : List (Nat × Nat × Nat)) (c : List (Nat × Nat)) : Memory.wf ⟨[], l, u, c⟩ = true := rfl

/-! ### The operations that write it -/

theorem Dev.queueWrite_mem (line : Nat) (d : Dev) : (d.queueWrite line).mem = d.mem := by
  unfold Dev.queueWrite
  dsimp only
  split <;> rfl

/-- What a store into one line leaves of memory: the bytes stored, the others zeros where the line failed, and the line's check word. -/
theorem Dev.lineStore_wf (src gen a : Nat) (bs : List Byte) {d : Dev} (h : Memory.wf d.mem = true) :
    Memory.wf (d.lineStore src gen a bs).mem = true := by
  unfold Dev.lineStore
  simp only [Dev.when_eq, apply_ite Dev.mem, Dev.modMig_mem, Dev.queueWrite_mem, Dev.modPair_mem, Dev.count_mem, Dev.addPair_mem,
    ite_self, Memory.wf_lines]
  split
  · exact Memory.wf_writeBytes _ _ (Memory.wf_writeBytes _ _ h)
  · exact Memory.wf_writeBytes _ _ h

theorem Dev.faultLogs_wf (fuel ns line src outcome cls rereads lanes : Nat) {d : Dev} (h : Memory.wf d.mem = true) :
    Memory.wf (d.faultLogs ns line src outcome cls rereads lanes fuel).mem = true := by
  induction fuel generalizing ns line src outcome cls rereads lanes d with
  | zero => exact h
  | succ fuel ih =>
    unfold Dev.faultLogs
    dsimp only
    have hs := fun (bs : List Byte) (a : Nat) => Dev.lineStore_wf 0x72 0 a bs h
    split
    · exact h
    · split
      · exact ih _ _ _ _ _ _ _ (by simpa only [Dev.addFld_mem] using hs _ _)
      · simpa only [Dev.addFld_mem] using hs _ _

theorem Dev.faultLogAt_wf (ns line src outcome cls rereads lanes : Nat) {d : Dev} (h : Memory.wf d.mem = true) :
    Memory.wf (d.faultLogAt ns line src outcome cls rereads lanes).mem = true := Dev.faultLogs_wf _ _ _ _ _ _ _ _ h

theorem Dev.unrecoverable_wf (ns line src reason cls rereads : Nat) {d : Dev} (h : Memory.wf d.mem = true) :
    Memory.wf (d.unrecoverable ns line src reason cls rereads).mem = true := by
  unfold Dev.unrecoverable
  exact Dev.faultLogAt_wf _ _ _ _ _ _ _ (by simpa only [Dev.raise_mem, Dev.count_mem, Dev.addFld_mem] using h)

theorem Dev.memWriteLine_wf (src gen a : Nat) (bs : List Byte) {d : Dev} (h : Memory.wf d.mem = true) :
    Memory.wf (d.memWriteLine src gen a bs).mem = true := by
  unfold Dev.memWriteLine
  dsimp only [Dev.when_eq]
  have hu : Memory.wf (if (d.lineBad (a / 64) && bs.length.blt 64 && ((d.lineMeta (a / 64)).poison || !hostSource src)) = true
      then d.unrecoverable d.tb2ns (a / 64) src (if (d.lineMeta (a / 64)).poison then 2 else 1) (d.lineMeta (a / 64)).cls 0
      else d).mem = true := by
    split
    · exact Dev.unrecoverable_wf _ _ _ _ _ _ h
    · exact h
  split
  · exact hu
  · exact Dev.lineStore_wf _ _ _ _ hu

theorem Dev.memWriteGen_wf (src gen a : Nat) (bs : List Byte) {d : Dev} (h : Memory.wf d.mem = true) :
    Memory.wf (d.memWriteGen src gen a bs).mem = true := by
  unfold Dev.memWriteGen
  generalize splitLines a bs (bs.length + 1) = ps
  induction ps generalizing d with
  | nil => exact h
  | cons p ps ih => exact ih (Dev.memWriteLine_wf src gen p.1 p.2 h)

theorem Dev.memWrite_wf (src a : Nat) (bs : List Byte) {d : Dev} (h : Memory.wf d.mem = true) :
    Memory.wf (d.memWrite src a bs).mem = true := Dev.memWriteGen_wf src 0 a bs h

end Sys2Proof.Machine
end

