-- ==== Sys2Proof/Laws/Sequencer.lean ====
section
/-! SUPPORT. Laws/Sequencer.lean: what a command of a context does beside its own effect: the state, the address and the count of its
context, and nothing else but events and counters. -/

namespace Sys2Proof.Machine

/-! ### Nothing else changes -/

theorem Dev.Else.refl (as : List Nat) (d : Dev) : d.Else as d := ⟨fun _ _ _ => rfl, rfl⟩

theorem Dev.Else.trans {as : List Nat} {d e f : Dev} (h : d.Else as e) (g : e.Else as f) : d.Else as f := by
  refine ⟨fun a ha hm => (g.1 a ha hm).trans (h.1 a ha hm), ?_⟩
  have h2 := h.2
  have g2 := g.2
  rw [← g2] at h2
  exact h2

theorem Dev.Else.mono {as bs : List Nat} {d e : Dev} (h : d.Else as e) (s : ∀ a, a ∈ as → a ∈ bs) : d.Else bs e :=
  ⟨fun a ha hm => h.1 a ha (fun m => hm (s a m)), h.2⟩

/-- Every other part of the device is as before. -/
theorem Dev.Else.parts {as : List Nat} {d e : Dev} (h : d.Else as e) :
    e.latches = d.latches ∧ e.staging = d.staging ∧ e.mem = d.mem ∧ e.mig = d.mig ∧ e.memc = d.memc ∧ e.hdma = d.hdma ∧ e.cfg = d.cfg ∧
    e.glb = d.glb ∧ e.seq = d.seq ∧ e.run = d.run ∧ e.cmp = d.cmp ∧ e.dcr = d.dcr ∧ e.asm = d.asm ∧ e.nrg = d.nrg ∧ e.pac = d.pac ∧
    e.hlk = d.hlk ∧ e.tim = d.tim ∧ e.mot = d.mot ∧ e.msr = d.msr ∧ e.duo = d.duo ∧ e.crc = d.crc ∧ e.fan = d.fan := by
  have h2 := h.2
  cases d
  cases e
  simp only [Dev.mk.injEq] at h2
  tauto

theorem Dev.Else.setReg {as : List Nat} (d : Dev) {a : Nat} (v : Word) (h : a ∈ as ∨ 0xF00000 ≤ a) : d.Else as (d.setReg a v) := by
  refine ⟨fun b hb hm => Dev.reg_setReg_other v d ?_, rfl⟩
  rintro rfl
  rcases h with h | h
  · exact hm h
  · omega

theorem Dev.Else.setFld {as : List Nat} (d : Dev) {f : Fld} (v : Nat) (h : f.reg ∈ as ∨ 0xF00000 ≤ f.reg) : d.Else as (d.setFld f v) :=
  Dev.Else.setReg d _ h

theorem Dev.Else.setFlag {as : List Nat} (d : Dev) {f : Fld} (b : Bool) (h : f.reg ∈ as ∨ 0xF00000 ≤ f.reg) : d.Else as (d.setFlag f b) :=
  Dev.Else.setFld d _ h

theorem Dev.Else.addFld {as : List Nat} (d : Dev) {f : Fld} (v : Nat) (h : f.reg ∈ as ∨ 0xF00000 ≤ f.reg) : d.Else as (d.addFld f v) :=
  Dev.Else.setFld d _ h

theorem Dev.Else.satFld {as : List Nat} (d : Dev) {f : Fld} (v : Nat) (h : f.reg ∈ as ∨ 0xF00000 ≤ f.reg) : d.Else as (d.satFld f v) :=
  Dev.Else.setFld d _ h

theorem Dev.Else.setBit {as : List Nat} (d : Dev) {f : Fld} (k : Nat) (b : Bool) (h : f.reg ∈ as ∨ 0xF00000 ≤ f.reg) :
    d.Else as (d.setBit f k b) := Dev.Else.setFld d _ h

theorem Dev.Else.setPair {as : List Nat} (d : Dev) {a : Nat} (v : Nat) (h : a ∈ as ∧ a + 4 ∈ as ∨ 0xF00000 ≤ a) :
    d.Else as (d.setPair a v) := by
  unfold Dev.setPair
  refine (Dev.Else.setReg d _ ?_).trans (Dev.Else.setReg _ _ ?_)
  · rcases h with h | h
    · exact .inl h.1
    · exact .inr h
  · rcases h with h | h
    · exact .inl h.2
    · exact .inr (by omega)

theorem Dev.Else.when {as : List Nat} {d : Dev} (c : Bool) {f : Dev → Dev} (h : d.Else as (f d)) : d.Else as (d.when c f) := by
  cases c
  · exact Dev.Else.refl as d
  · exact h

theorem Dev.Else.modPmu (as : List Nat) (d : Dev) (f : Pmu → Pmu) : d.Else as (d.modPmu f) := ⟨fun _ _ _ => rfl, rfl⟩

theorem Dev.Else.modFlt (as : List Nat) (d : Dev) (f : Flt → Flt) : d.Else as (d.modFlt f) := ⟨fun _ _ _ => rfl, rfl⟩

theorem Dev.Else.useFree (as : List Nat) (d : Dev) (n : Nat) : d.Else as (d.useFree n) := ⟨fun _ _ _ => rfl, rfl⟩

theorem Dev.Else.count (as : List Nat) (d : Dev) (e n : Nat) : d.Else as (d.count e n) := by
  unfold Dev.count
  split
  · exact Dev.Else.refl as d
  · exact Dev.Else.setPair d _ (.inr (by show 0xF00000 ≤ _ + _; omega))

theorem Dev.Else.countEvent (as : List Nat) (d : Dev) (e : EvRec) : d.Else as (d.countEvent e) := by
  unfold Dev.countEvent
  refine (Dev.Else.addFld d _ (.inr (by show 0xF00000 ≤ _ + _; omega))).trans (Dev.Else.when _ ?_)
  refine ((Dev.Else.setFld _ _ (.inr ?_)).trans (Dev.Else.setFld _ _ (.inr ?_))).trans (Dev.Else.setFld _ _ (.inr ?_)) <;> decide

theorem Dev.Else.raiseRec (as : List Nat) (d : Dev) (e : EvRec) : d.Else as (d.raiseRec e) := by
  unfold Dev.raiseRec
  dsimp only
  split
  · exact (Dev.Else.count as d _ _).trans (Dev.Else.modFlt as _ _)
  · exact (((Dev.Else.count as d _ _).trans (Dev.Else.modFlt as _ _)).trans (Dev.Else.addFld _ _ (.inr (by decide)))).trans
      (Dev.Else.countEvent as _ _)

theorem Dev.Else.raiseTo (as : List Nat) (d : Dev) (r : Option Nat) (c sv sr a b : Nat) : d.Else as (d.raiseTo r c sv sr a b) :=
  Dev.Else.raiseRec as d _

theorem Dev.Else.raise (as : List Nat) (d : Dev) (c sv a b : Nat) : d.Else as (d.raise c sv a b) := Dev.Else.raiseRec as d _

theorem Dev.Else.raiseOpen (as : List Nat) (d : Dev) (r : Option Nat) (c sv sr : Nat) : d.Else as (d.raiseOpen r c sv sr) :=
  (Dev.Else.useFree as d 2).trans (Dev.Else.raiseTo as _ _ _ _ _ _ _)

theorem Dev.Else.raiseHalf (as : List Nat) (d : Dev) (r : Option Nat) (c sv sr a : Nat) : d.Else as (d.raiseHalf r c sv sr a) :=
  (Dev.Else.useFree as d 1).trans (Dev.Else.raiseTo as _ _ _ _ _ _ _)

/-! ### The performance monitor's share of a command -/

theorem Dev.Else.pmuSampleRaise (as : List Nat) (d : Dev) (k : Nat) : d.Else as (d.pmuSampleRaise k) :=
  (Dev.Else.modPmu as d _).trans (Dev.Else.raiseTo as _ _ _ _ _ _ _)

theorem Dev.Else.pmuContextStops (as : List Nat) (d : Dev) (k : Nat) : d.Else as (d.pmuContextStops k) := by
  unfold Dev.pmuContextStops
  split
  · split
    · exact Dev.Else.pmuSampleRaise as d k
    · exact Dev.Else.refl as d
  · exact Dev.Else.refl as d

theorem Dev.Else.pmuSkid (as : List Nat) (d : Dev) (k : Nat) : d.Else as (d.pmuSkid k) := by
  unfold Dev.pmuSkid
  split
  · split
    · exact Dev.Else.refl as d
    · split
      · exact Dev.Else.pmuSampleRaise as d k
      · exact Dev.Else.modPmu as d _
  · exact Dev.Else.refl as d

theorem Dev.Else.pmuPeriod (as : List Nat) (d : Dev) (k : Nat) : d.Else as (d.pmuPeriod k) := by
  unfold Dev.pmuPeriod
  dsimp only
  split
  · split
    · refine (Dev.Else.modPmu as d (fun p => { p with down := d.fld Reg.PMU_SAMP_CFG.period_m1 + 1 })).trans ?_
      split
      · exact Dev.Else.satFld _ _ (.inr (by decide))
      · refine (Dev.Else.useFree as _ 1).trans ?_
        split
        · exact Dev.Else.pmuSampleRaise as _ k
        · exact Dev.Else.modPmu as _ _
    · exact Dev.Else.modPmu as d _
  · exact Dev.Else.refl as d

theorem Dev.Else.pmuCommand (as : List Nat) (d : Dev) (k : Nat) : d.Else as (d.pmuCommand k) :=
  ((Dev.Else.count as d (0x10 + k) 1).trans (Dev.Else.pmuSkid as _ k)).trans (Dev.Else.pmuPeriod as _ k)

/-! ### The context's registers -/

theorem Dev.Else.setCtxState {as : List Nat} (d : Dev) (k s : Nat) (h : ∀ a, a ∈ ctxRegs k → a ∈ as) : d.Else as (d.setCtxState k s) := by
  unfold Dev.setCtxState
  dsimp only
  refine ((((Dev.Else.when (as := as) (d := d) _ ?_).trans (Dev.Else.when _ ?_)).trans (Dev.Else.setFld _ _ ?_)).trans
    (Dev.Else.setBit _ _ _ ?_)).trans ((Dev.Else.setBit _ _ _ ?_).trans (Dev.Else.setBit _ _ _ ?_))
  · exact Dev.Else.count as _ _ _
  · exact Dev.Else.count as _ _ _
  · exact .inl (h _ (by simp [ctxRegs]))
  all_goals exact .inl (h _ (by simp [ctxRegs]))

theorem Dev.Else.setCtxPc {as : List Nat} (d : Dev) (k v : Nat) (h : ∀ a, a ∈ ctxRegs k → a ∈ as) : d.Else as (d.setCtxPc k v) :=
  Dev.Else.setPair d v (.inl ⟨h _ (by simp [ctxRegs]), h _ (by simp [ctxRegs])⟩)

theorem Dev.Else.cmdCount {as : List Nat} (d : Dev) (k : Nat) (h : ∀ a, a ∈ ctxRegs k → a ∈ as) : d.Else as (d.cmdCount k) :=
  (Dev.Else.addFld d 1 (.inl (h _ (by simp [ctxRegs])))).trans (Dev.Else.pmuCommand as _ k)

/-- A field of a register below FLT that is not in `as`. -/
theorem Dev.Else.fld {as : List Nat} {d e : Dev} (h : d.Else as e) (f : Fld) (hf : f.reg < 0xF00000) (hn : f.reg ∉ as) : e.fld f = d.fld f := by
  unfold Dev.fld
  rw [h.1 _ hf hn]

/-- A register pair below FLT that is not in `as`. -/
theorem Dev.Else.pair {as : List Nat} {d e : Dev} (h : d.Else as e) (a : Nat) (ha : a + 4 < 0xF00000) (hn : a ∉ as) (hm : a + 4 ∉ as) :
    e.pair a = d.pair a := by
  unfold Dev.pair
  rw [h.1 _ (by omega) hn, h.1 _ ha hm]

theorem Dev.pair_setPair_same (a v : Nat) (d : Dev) : (d.setPair a v).pair a = v % 2 ^ 64 := by
  unfold Dev.pair Dev.setPair
  rw [Dev.reg_setReg_same, Dev.reg_setReg_other _ _ (by omega), Dev.reg_setReg_same]
  simp only [BitVec.toNat_ofNat]
  omega

theorem Dev.ctxState_setCtxState (d : Dev) (k s : Nat) : (d.setCtxState k s).ctxState k = s % 16 := by
  unfold Dev.setCtxState Dev.setBit Dev.ctxState
  dsimp only
  rw [Dev.fld_setFld_other _ _ (by show 0x401000 + 0x40 * k ≠ 0x400000; omega), Dev.fld_setFld_other _ _ (by show 0x401000 + 0x40 * k ≠ 0x400000; omega),
    Dev.fld_setFld_other _ _ (by show 0x401000 + 0x40 * k ≠ 0x400000; omega), Dev.fld_setFld_same _ _ _ (by show 31 < 32; decide) (by show 28 ≤ 31; decide)]
  rfl

theorem ctxPc_apart (k : Nat) : Reg.SEQ_CTX_PC_LO.addr k ∉ [Reg.SEQ_CTX_STAT.addr k, Reg.SEQ_STAT.addr, Reg.SEQ_CTX_CMDS.addr k] ∧
    Reg.SEQ_CTX_PC_LO.addr k + 4 ∉ [Reg.SEQ_CTX_STAT.addr k, Reg.SEQ_STAT.addr, Reg.SEQ_CTX_CMDS.addr k] := by
  simp only [List.mem_cons, List.not_mem_nil, or_false, not_or, Reg.SEQ_CTX_STAT.addr, Reg.SEQ_STAT.addr, Reg.SEQ_CTX_CMDS.addr, Reg.SEQ_CTX_PC_LO.addr]
  refine ⟨⟨?_, ?_, ?_⟩, ?_, ?_, ?_⟩ <;> omega

/-! ### The outcome of a command -/

/-- A command that has executed: its context runs on behind it, and beside that nothing changes. -/
theorem SeqOut.settle_done (k w0 w1 words : Nat) (hk : k < 8) (d : Dev) :
    ((SeqOut.done d).settle k w0 w1 words).ctxState k = CtxState.running ∧
    ((SeqOut.done d).settle k w0 w1 words).ctxPc k = (d.ctxPc k + 8 * words) % 2 ^ 64 ∧
    (d.modCtx k fun c => { c with held := none }).Else (ctxRegs k) ((SeqOut.done d).settle k w0 w1 words) := by
  have hs : ∀ a, a ∈ [Reg.SEQ_CTX_STAT.addr k, Reg.SEQ_STAT.addr, Reg.SEQ_CTX_CMDS.addr k] → a ∈ ctxRegs k := by
    intro a h; simp only [ctxRegs, List.mem_cons, List.not_mem_nil, or_false] at h ⊢; tauto
  have e : (SeqOut.done d).settle k w0 w1 words =
      ((((d.modCtx k fun c => { c with held := none }).setCtxState k CtxState.running).setCtxPc k
        (((d.modCtx k fun c => { c with held := none }).setCtxState k CtxState.running).ctxPc k + 8 * words)).cmdCount k) := rfl
  rw [e]
  set x := d.modCtx k fun c => { c with held := none } with hx
  have hpc : (x.setCtxState k CtxState.running).ctxPc k = d.ctxPc k := by
    have h : x.Else [Reg.SEQ_CTX_STAT.addr k, Reg.SEQ_STAT.addr, Reg.SEQ_CTX_CMDS.addr k] (x.setCtxState k CtxState.running) := by
      unfold Dev.setCtxState
      dsimp only
      refine ((((Dev.Else.when (d := x) _ (Dev.Else.count _ _ _ _)).trans (Dev.Else.when _ (Dev.Else.count _ _ _ _))).trans
        (Dev.Else.setFld _ _ (.inl ?_))).trans (Dev.Else.setBit _ _ _ (.inl ?_))).trans
        ((Dev.Else.setBit _ _ _ (.inl ?_)).trans (Dev.Else.setBit _ _ _ (.inl ?_))) <;> simp
    exact h.pair _ (by show 0x401004 + 0x40 * k + 4 < _; omega) (ctxPc_apart k).1 (ctxPc_apart k).2
  rw [hpc]
  have hc : ∀ y : Dev, y.Else [Reg.SEQ_CTX_CMDS.addr k] (y.cmdCount k) := fun y =>
    (Dev.Else.addFld y 1 (.inl (by simp))).trans (Dev.Else.pmuCommand _ _ k)
  refine ⟨?_, ?_, ?_⟩
  · unfold Dev.ctxState
    rw [(hc _).fld _ (by show 0x401000 + 0x40 * k < _; omega) (by simp)]
    have h2 : (x.setCtxState k CtxState.running).Else [Reg.SEQ_CTX_PC_LO.addr k, Reg.SEQ_CTX_PC_LO.addr k + 4]
      ((x.setCtxState k CtxState.running).setCtxPc k (d.ctxPc k + 8 * words)) := Dev.Else.setPair _ _ (.inl (by simp))
    rw [h2.fld _ (by show 0x401000 + 0x40 * k < _; omega) (by simp [Reg.SEQ_CTX_STAT.addr, Reg.SEQ_CTX_PC_LO.addr]; omega)]
    exact Dev.ctxState_setCtxState x k CtxState.running
  · unfold Dev.ctxPc
    rw [(hc _).pair _ (by show 0x401004 + 0x40 * k + 4 < _; omega) (by simp [Reg.SEQ_CTX_CMDS.addr, Reg.SEQ_CTX_PC_LO.addr]) (by simp [Reg.SEQ_CTX_CMDS.addr, Reg.SEQ_CTX_PC_LO.addr]; omega)]
    exact Dev.pair_setPair_same _ _ _
  · exact ((Dev.Else.setCtxState x k _ fun _ h => h).trans (Dev.Else.setCtxPc _ k _ fun _ h => h)).trans (Dev.Else.cmdCount _ k fun _ h => h)

/-- The device as the checks and the effect of a command of context `k` find it. -/
def Dev.cmdAt (d : Dev) (k w0 : Nat) : Dev := d.modCtx k fun c => { c with lastCmd := d.ctxPc k, lastWord := w0 }

theorem Dev.canRun_lt {d : Dev} {k words : Nat} (h : d.canRun k words = true) : k < 8 := by
  unfold Dev.canRun Dev.cmdReady at h
  simp only [Bool.and_eq_true, Nat.blt_eq] at h
  exact h.1.1.1.1

/-- A command whose checks all pass does what its effect comes to. -/
theorem Dev.cmdExec_of {d : Dev} {k w0 w1 words : Nat} {checks : Dev → List (Bool × Nat)} {body : Dev → SeqOut}
    (hr : d.canRun k words = true) (hc : firstFail (checks (d.cmdAt k w0)) = none) :
    d.cmdExec k w0 w1 words checks body = (body (d.cmdAt k w0)).settle k w0 w1 words := by
  have hr' := hr
  unfold Dev.canRun at hr'
  simp only [Bool.and_eq_true, Bool.not_eq_true'] at hr'
  unfold Dev.cmdExec
  rw [hr'.1]
  simp only [Bool.not_true, Bool.false_eq_true, if_false]
  have : firstFail ((words == 2 && d.ctxPc k % 4096 == 0xFF0, 0x03) :: checks (d.cmdAt k w0)) = none := by
    unfold firstFail
    rw [hr'.2]
    simpa using hc
  unfold Dev.cmdAt at this
  show (match firstFail ((words == 2 && (d.cmdAt k w0).ctxPc k % 4096 == 0xFF0, 0x03) :: checks (d.cmdAt k w0)) with
    | some code => (d.cmdAt k w0).ctxFail k code
    | none => (body (d.cmdAt k w0)).settle k w0 w1 words) = _
  have h2 : (d.cmdAt k w0).ctxPc k = d.ctxPc k := rfl
  rw [h2]
  unfold Dev.cmdAt
  rw [this]

/-- A command whose checks all pass and whose effect is done: the context goes on behind it. -/
theorem Dev.cmdExec_done {d d2 : Dev} {k w0 w1 words : Nat} {checks : Dev → List (Bool × Nat)} {body : Dev → SeqOut}
    (hr : d.canRun k words = true) (hc : firstFail (checks (d.cmdAt k w0)) = none) (hb : body (d.cmdAt k w0) = .done d2)
    (hp : d2.ctxPc k = d.ctxPc k) :
    d.WentOn k words (d.cmdExec k w0 w1 words checks body) ∧
    (d2.modCtx k fun c => { c with held := none }).Else (ctxRegs k) (d.cmdExec k w0 w1 words checks body) := by
  rw [Dev.cmdExec_of hr hc, hb]
  have h := SeqOut.settle_done k w0 w1 words (Dev.canRun_lt hr) d2
  refine ⟨⟨h.1, ?_⟩, h.2.2⟩
  rw [h.2.1, hp]

end Sys2Proof.Machine
end

