-- ==== Sys2Proof/Tests/Slice0.lean ====
section
/-! SUPPORT. Tests/Slice0.lean: the modeller's own tests. Ill-formed commands refused; the command words and the worked figures that the
spec writes out; a few single steps; and, for every obligation that has hypotheses, a witness: for each of its clauses (and each form of
a hypothesis that lists several) a device and operands that meet all hypotheses of the clause together. -/

namespace Sys2Proof.Tests

open Sys2Proof.Machine

set_option maxRecDepth 20000
set_option Elab.async false

/-- A device with fields set. -/
def put (fs : List (Fld × Nat)) (d : Dev) : Dev := fs.foldl (fun d f => d.setFld f.1 f.2) d
/-- A device in a mode. -/
def inMode (m : Nat) : Dev := Dev.reset.setFld Reg.GLB_MODE.mode m
/-- STANDBY with 64 GiB fitted. -/
def standby : Dev := (inMode 6).setFld Reg.MEM_SIZE.fitted_64m 1024
/-- SERVICE with 64 GiB fitted. -/
def service : Dev := (inMode 7).setFld Reg.MEM_SIZE.fitted_64m 1024
/-- Context `k` in state `s` at address `pc`. -/
def ctxAt (k s pc : Nat) (d : Dev) : Dev := put [(Reg.SEQ_CTX_STAT.state k, s)] (d.setPair (Reg.SEQ_CTX_PC_LO.addr k) pc)
/-- Context `k` replaced. -/
def setCtx (k : Nat) (c : Ctx) (d : Dev) : Dev := d.modSeq fun s => { s with ctxs := Tab.set s.ctxs Ctx.idle k c }
/-- Context `k` running at 0x10000. -/
def runs (k : Nat) (d : Dev := standby) : Dev := ctxAt k CtxState.running 0x10000 d
/-- PRINT_WEB with 64 GiB fitted. -/
def web : Dev := (inMode 8).setFld Reg.MEM_SIZE.fitted_64m 1024
/-- Job 5 open on context `k`. -/
def withJob (k : Nat) (c : Ctx := Ctx.idle) (j : Job := { Job.empty with closed := false }) (d : Dev) : Dev :=
  (d.modSeq fun s => { s with jobs := [(5, j)], nextJob := 6 }).modSeq fun s => { s with ctxs := Tab.set s.ctxs Ctx.idle k { c with job := some 5 } }
/-- Page 3 open. -/
def withPage (p : Page) (d : Dev) : Dev :=
  d.modSeq fun s => { s with pages := [(3, p)], nextPage := 4, openPage := some 3 }
/-- An open page of 64 lines of job 5. -/
def pg : Page := { Page.empty with length := 64, job := 5, closed := false, recorded := false }
/-- An empty staging band of page 3. -/
def stg : Staging := ⟨3, 0, 64, false, [], false, [], [], 0, [], [], false⟩

/-! ### Ill-formed commands: each check of WellFormed.lean refuses one -/

theorem test_wf_ctx : (Instr.nop 8 0).wf = false := by decide
theorem test_wf_port : (Instr.charLock 32).wf = false := by decide
theorem test_wf_ring : (Instr.ringEnable 64 1#32).wf = false := by decide
theorem test_wf_event_ring : (Instr.eventRecordWrite 8).wf = false := by decide
theorem test_wf_register : (Instr.registerWrite 0x12 1#32).wf = false := by decide
theorem test_wf_register_end : (Instr.registerWrite 0x2000000 1#32).wf = false := by decide
theorem test_wf_index : (Instr.ringDoorbell 0 65536).wf = false := by decide
theorem test_wf_slot : (Instr.descriptorFetch 0 (.slot (List.replicate 31 0#8))).wf = false := by decide
theorem test_wf_decoder : (Instr.decodeStart 26).wf = false := by decide
theorem test_wf_encoder : (Instr.pcacheSegmentDone 4).wf = false := by decide
theorem test_wf_lane : (Instr.tokenApply 8 none).wf = false := by decide
theorem test_wf_channel : (Instr.dramRefresh 8).wf = false := by decide
theorem test_wf_subchannel : (Instr.alertNClear 0 2).wf = false := by decide
theorem test_wf_axis : (Instr.axisIdleTimer 6).wf = false := by decide
theorem test_wf_encoder_channel : (Instr.indexEdge 2).wf = false := by decide
theorem test_wf_output : (Instr.encOutStep 2).wf = false := by decide
theorem test_wf_eth_port : (Instr.ethLinkChange 2 true).wf = false := by decide
theorem test_wf_domain : (Instr.ptpSyncTimer 2).wf = false := by decide
theorem test_wf_trigger : (Instr.triggerEvent 16 0 []).wf = false := by decide
theorem test_wf_crc_unit : (Instr.crcStart 8 1#32).wf = false := by decide
theorem test_wf_input : (Instr.fanAinSample 8 0).wf = false := by decide
theorem test_wf_switch : (Instr.switchEdge 0 2 true).wf = false := by decide
theorem test_wf_line : (Instr.refetchAnswer (2 ^ 34)).wf = false := by decide
theorem test_wf_line_bytes : (Instr.scrubRead ⟨List.replicate 63 0#8, 0, false⟩ []).wf = false := by decide +kernel
theorem test_wf_rereads : (Instr.scrubRead ⟨List.replicate 64 0#8, 0, false⟩ (List.replicate 3 ⟨List.replicate 64 0#8, 0, false⟩)).wf = false := by
  decide +kernel
theorem test_wf_event : (Instr.eventRaise none 0x0303 6 0x18 0 0).wf = false := by decide
theorem test_wf_argument : (Instr.eventRaise none 0x0303 3 0x18 (2 ^ 64) 0).wf = false := by decide
theorem test_wf_length : (Instr.flashRead 65536).wf = false := by decide
theorem test_wf_opcode : (Instr.badOpcode 0 0x0100000000000A71#64).wf = false := by decide
theorem test_wf_parameter : (Instr.setParamUndefined 0 0x40#8 0).wf = false := by decide
theorem test_wf_accepts : (Instr.ringDoorbell 63 65535).wf = true := by decide

/-! ### Command words: Table 5-10, and the words that chapters 8 and 20 write out -/

theorem test_word_log_base : commandOf 0 0x2001000030000000#64 0 = .setLogBase 0 0x30000000#48 := by decide
theorem test_word_log_len : commandOf 0 0x2002000000010000#64 0 = .setLogLen 0 0x10000#48 := by decide
theorem test_word_job_begin : commandOf 0 0x0100000000000A71#64 0 = .jobBegin 0 0xA71#56 := by decide
theorem test_word_tile_def : commandOf 0 0x9000000000100001#64 0x0004A00021000000#64 = .tileDef 0 0x100001#56 0x0004A00021000000#64 := by
  decide
theorem test_word_page_begin : commandOf 0 0x03880000000036D0#64 0 = .pageBegin 0 0x880000000036D0#56 := by decide
theorem test_word_call : commandOf 0 0x3000000020008000#64 0 = .call 0 0x20008000#56 := by decide
theorem test_word_place : commandOf 0 0x8000200000100001#64 0x0000600000003200#64 = .place 0 0x200000100001#56 0x0000600000003200#64 := by
  decide
theorem test_word_page_end : commandOf 0 0x0400000000000000#64 0 = .pageEnd 0 0 := by decide
theorem test_word_tile_drop : commandOf 0 0x1100000000100001#64 0 = .tileDrop 0 0x100001#56 := by decide
theorem test_word_signal : commandOf 0 0x2290000000000001#64 0 = .signal 0 0x90000000000001#56 := by decide
theorem test_word_defect_sync : commandOf 0 0x5000130038000000#64 0 = .defectSync 0 0x130038000000#56 := by decide
theorem test_word_move_abs : commandOf 3 0x2040004000015F90#64 0 = .moveAbs 3 0x4000015F90#48 := by decide

/-! ### The spec's worked figures -/

/-- Table 18-1's check column, over "123456789". -/
def digits : List Byte := [0x31, 0x32, 0x33, 0x34, 0x35, 0x36, 0x37, 0x38, 0x39]
theorem test_crc_iso : crcFinal 0 (crcRun 0 (crcInit 0) digits) = 0xCBF43926 := by decide +kernel
theorem test_crc_castagnoli : crc32c digits = 0xE3069283 := by decide +kernel
theorem test_crc_ibm : crcFinal 2 (crcRun 2 (crcInit 2) digits) = 0x29B1 := by decide +kernel
theorem test_crc_ecma : crc64 digits = 0x6C40DF5F0B497347 := by decide +kernel

/-- The grid of 75,000 counts per 1,771 lines at its boundary `j` (Table 11-2). -/
def gridAt (j : Nat) : Nat × Nat := (fun p => (p.q, p.rem)) ((List.range j).foldl (fun p _ => Pac.advance 75000 1771 p) Dev.reset.pac)
theorem test_grid_first : gridAt 1 = (42, 618) := by decide +kernel
theorem test_grid_third : gridAt 3 = (127, 83) := by decide +kernel
theorem test_grid_turn : gridAt 1771 = (75000, 0) := by decide +kernel

/-- Orient 1 puts t(0, h - 1) first (chapter 7). -/
theorem test_orient_turned : footprint 1 32 16 = (16, 32) ∧ orientSource 1 32 16 0 0 = (0, 15) := by decide

/-- Column 70,000 of the upholstery bar (Table 8-6): the dead row's share goes to the other row of the next line. -/
def stripe (dead : Bool) (carry : Int) (dose : Nat) : CorrectIn :=
  ⟨2, 1, true, false, [dose], [dead], [(List.range 16).map (273 * ·)], (List.range 16).map (300 * ·), List.replicate 16 0, [carry]⟩
theorem test_correct_live : ((stripe false 0 5).q 0, (stripe false 0 5).carryOut 0) = (5, 0) := by decide +kernel
theorem test_correct_dead : ((stripe true 0 5).q 0, (stripe true 0 5).carryOut 0) = (0, 1500) := by decide +kernel
theorem test_correct_catches_up : ((stripe false 1500 5).q 0, (stripe false 1500 5).carryOut 0) = (10, 135) := by decide +kernel

/-- Table 9-3: port 13 of a bar of four planes and two rows, mirrored, its heads overlapping by 128 columns. -/
def trayBar : Dev :=
  put [(Reg.CMP_GEOM.p_log2, 2), (Reg.CMP_GEOM.i_log2, 1), (Reg.ASM_PORT_CFG.elems_m1 13, 8191), (Reg.ASM_PORT_CFG.mirror 13, 1),
    (Reg.ASM_PORT_COL.col_shift 13, 2 ^ 18 - 128)] (Dev.reset.setPair Reg.ASM_RDS_BASE_LO.addr 0x80000000)
theorem test_port_place : (trayBar.geom.group 13, trayBar.geom.plane 13, trayBar.geom.row 13, trayBar.geom.segment 13) = (3, 1, 1, 1) := by
  decide +kernel
theorem test_port_column : (trayBar.portFirst 13, trayBar.portColumn 13 100) = (8064, 16155) := by decide +kernel
theorem test_store_slot : trayBar.slotOf 13 5001 = 0x9B389000 := by decide +kernel
theorem test_stitch_threshold : stitchThr 5001 16155 = 97 := by decide +kernel

/-- The reads of the 12,345-byte upload (chapter 4). -/
theorem test_upload_reads : (splitReads 4096 0x00007F3A00010FF3 100 12345).map (·.2) = [13, 4096, 4096, 4096, 44] := by decide +kernel
theorem test_upload_lines : (splitLines 0x40001F28 (List.replicate 12345 0#8) 300).length = 194 := by decide +kernel

/-- The fields of device address 0x00_9B38_9000 on eight channels of dual-rank x8 modules (chapter 14). -/
def eightChannels : Dev := put [(Reg.MEM_CFG.ch_log2, 3), (Reg.MEM_CFG.ranks_m1, 1)] Dev.reset
theorem test_address_fields : eightChannels.coord 0x9B389000 = ⟨0, 0, 0, 1, 49, 1, 0x26C⟩ := by decide +kernel

/-- The first readings of Table 21-6. -/
def spell (k : Nat) : Int := ((List.range k).foldl (fun a _ => FanIn.take false 2 0 2300 a) ⟨28800, [1800], 0⟩).s
theorem test_fan_filter : (spell 1, spell 2, spell 3, spell 4) = (30800, 32300, 33425, 34268) := by decide +kernel

/-! ### One step -/

theorem test_step_power_on : (match step { dev := Dev.reset, pending := [.powerOn] } with
    | .next s => s.pending.isEmpty && s.dev.mode == Mode.reset | _ => false) = true := by decide +kernel
theorem test_step_job_begin : (match step { dev := runs 0, pending := [commandOf 0 0x0100000000000A71#64 0, .feedStart] } with
    | .next s => s.pending == [.feedStart] && (s.dev.job 0).id == 0xA71 && (s.dev.ctx 0).job == some 0 | _ => false) = true := by
  decide +kernel
theorem test_step_bad_word : (match step { dev := runs 0, pending := [commandOf 0 0xEE00000000000000#64 0] } with
    | .next s => s.dev.ctxState 0 != CtxState.running | _ => false) = true := by decide +kernel
theorem test_step_id_register : (match step { dev := standby, pending := [.registerWrite Reg.GLB_ID.addr 0#32] } with
    | .next s => s.dev.reg Reg.GLB_ID.addr == standby.reg Reg.GLB_ID.addr | _ => false) = true := by decide +kernel

/-! ### Check values of records padded with zeros -/

/-- A CRC register of 0 stays 0 over bytes of 0. -/
theorem crc_of_zeros (n : Nat) : crc32cRun 0 (List.replicate n 0#8) = 0 := by
  unfold crc32cRun crcLsb
  induction n with
  | zero => rfl
  | succ n ih => rw [List.replicate_succ, List.foldl_cons]; exact ih
theorem crc_padded (l : List Byte) (n : Nat) (h : crc32cRun 0xFFFFFFFF l = 0) : crc32c (l ++ List.replicate n 0#8) = 0xFFFFFFFF := by
  have e : crc32cRun 0xFFFFFFFF (l ++ List.replicate n 0#8) = crc32cRun (crc32cRun 0xFFFFFFFF l) (List.replicate n 0#8) := by
    unfold crc32cRun crcLsb; rw [List.foldl_append]
  unfold crc32c
  rw [e, h, crc_of_zeros]
  rfl


/-! ### Witnesses of the obligations' hypotheses -/

namespace AnEmptyQueueLetsTimePass

/-- Each clause's hypotheses are met together. -/
theorem witness :
    (∃ (d : Dev), d.mode = Mode.reset) ∧
    (∃ (d : Dev), d.mode = Mode.sleep) ∧
    (∃ (d : Dev), d.mode ≠ Mode.reset ∧ d.mode ≠ Mode.sleep ∧ d.mode ≠ Mode.fill ∧ d.tim.tick < 4) ∧
    (∃ (d : Dev), d.mode ≠ Mode.reset ∧ d.mode ≠ Mode.sleep ∧ d.mode ≠ Mode.fill ∧ 4 ≤ d.tim.tick) :=
  ⟨⟨(inMode 0), by decide +kernel⟩,
   ⟨(inMode 5), by decide +kernel⟩,
   ⟨(inMode 6), by decide +kernel⟩,
   ⟨((inMode 1).modTim fun t => { t with tick := 4 }), by decide +kernel⟩⟩

end AnEmptyQueueLetsTimePass

namespace CommandWordsAndTheirCommandsAgree

/-- Each clause's hypotheses are met together. -/
theorem witness :
    (∃ (i : Instr) (k : Nat) (w0 w1 : BitVec 64), i.wf = true ∧ i.words = some (k, w0, w1)) ∧
    (∃ (k : Nat), k < 8) :=
  ⟨⟨(.tileDef 7 0xC0000000FFFFFF#56 0xFFFFFFFFFFFFFFFF#64), 7, 0x90C0000000FFFFFF#64, 0xFFFFFFFFFFFFFFFF#64, by decide +kernel⟩,
   ⟨7, by decide +kernel⟩⟩

end CommandWordsAndTheirCommandsAgree

namespace RegisterWriteChangesOnlyItsWritableBits

def shadowM : Dev := put [(Reg.GLB_SHADOW_OF.sub_state, 1)] (inMode 11)

/-- Each clause's hypotheses are met together. -/
theorem witness :
    (∃ (d : Dev) (a : Nat) (r : RegRow), d.responds a = true ∧ a % 4 = 0 ∧ inFlashBuf a = false ∧ d.ownWrite a = false ∧
      regRow a = some r ∧ r.half = 0 ∧ d.aloneFor a = true) ∧
    (∃ (d : Dev) (a : Nat), d.responds a = true ∧ a % 4 = 0 ∧ inFlashBuf a = false ∧ d.ownWrite a = false ∧ regRow a = none ∧
      d.aloneFor a = true) ∧
    (∃ (d : Dev) (a : Nat), d.responds a = true ∧ a % 4 = 0 ∧ inFlashBuf a = false ∧ d.ownWrite a = false ∧ relayed a = true ∧
      d.shadowServes = true) :=
  ⟨⟨(inMode 6), 0x200030, ((regRow (0x200030 : Nat)).getD (⟨0, 0, 0, 0, 0, 0, 0, 0, 0, 0⟩ : RegRow)), by decide +kernel⟩,
   ⟨(inMode 6), 0x1FFFFC, by decide +kernel⟩,
   ⟨shadowM, 0x300010, by decide +kernel⟩⟩

end RegisterWriteChangesOnlyItsWritableBits

namespace PairsClearFieldsAndBadRequestsFollowTheirRules

/-- Each clause's hypotheses are met together. -/
theorem witness :
    (∃ (d : Dev) (a : Nat) (r : RegRow), d.responds a = true ∧ a % 4 = 0 ∧ regRow a = some r ∧ r.half = 1 ∧ r.rw ≠ 0 ∧
      d.crcLocked a = false ∧ d.aloneFor a = true) ∧
    (∃ (d : Dev) (a : Nat) (r : RegRow), d.responds a = true ∧ a % 4 = 0 ∧ regRow a = some r ∧ r.half = 2 ∧ r.rw ≠ 0 ∧ 4 ≤ a ∧
      d.crcLocked a = false ∧ d.aloneFor a = true) ∧
    (∃ (d : Dev) (a : Nat) (r : RegRow), regRow a = some r ∧ d.responds a = true ∧ r.rc ≠ 0) ∧
    (∃ (d : Dev) (a : Nat) (r : RegRow), regRow a = some r ∧ d.responds a = true ∧ r.w1c ≠ 0) ∧
    (∃ (d : Dev), d.bar0 = true ∧ (Tab.get d.flt.queues EvQueue.empty 0x18).waiting.length < evQueueRoom) :=
  ⟨⟨(inMode 6), 0xE00020, ((regRow (0xE00020 : Nat)).getD (⟨0, 0, 0, 0, 0, 0, 0, 0, 0, 0⟩ : RegRow)), by decide +kernel⟩,
   ⟨((inMode 6).setReg 0xE00020 7), 0xE00024, ((regRow (0xE00024 : Nat)).getD (⟨0, 0, 0, 0, 0, 0, 0, 0, 0, 0⟩ : RegRow)),
     by decide +kernel⟩,
   ⟨(put [(Reg.GLB_SLACK_MIN.min_slack, 5)] (inMode 6)), 0x100404, ((regRow (0x100404 : Nat)).getD (⟨0, 0, 0, 0, 0, 0, 0, 0, 0,
     0⟩ : RegRow)), by decide +kernel⟩,
   ⟨((inMode 6).setReg 0x10041C 7), 0x10041C, ((regRow (0x10041C : Nat)).getD (⟨0, 0, 0, 0, 0, 0, 0, 0, 0, 0⟩ : RegRow)),
     by decide +kernel⟩,
   ⟨(inMode 6), by decide +kernel⟩⟩

end PairsClearFieldsAndBadRequestsFollowTheirRules

namespace ResetComesFromEveryModeAndSparesTheFantail

/-- Each clause's hypotheses are met together. -/
theorem witness :
    (∃ (i : Instr), i = .powerOn) ∧
    (∃ (i : Instr), i = .sysRstAssert) :=
  ⟨⟨.powerOn, by decide +kernel⟩,
   ⟨.sysRstAssert, by decide +kernel⟩⟩

end ResetComesFromEveryModeAndSparesTheFantail

namespace StartUpGoesFromResetToStandbyOrToSafe

def section_ (typ : Nat) (payload : List Byte) : List Byte :=
  let b := leBytes 2 typ ++ leBytes 2 1 ++ leBytes 4 payload.length ++ payload
  b ++ leBytes 4 (crc32c b)
def item (ps : List (Nat × Nat)) : List Byte := leBytes 1 1 ++ leBytes 3 0 ++ leBytes 4 (8 * ps.length) ++ ps.flatMap fun p => leBytes 4 p.1 ++ leBytes 4 p.2
def secs : List (Nat × List Byte) :=
  [(1, []), (2, []), (3, item [(Reg.DCR_SHADOW_BASE_LO.addr, 0x60000000), (Reg.ASM_RDS_BASE_LO.addr, 0x10000000)]), (4, []), (7, [])]
def image : Tab Byte :=
  let rs := secs.map fun s => (s.1, section_ s.1 s.2)
  let dir := rs.zipIdx.flatMap fun r => leBytes 2 r.1.1 ++ leBytes 2 0 ++ leBytes 4 (0x1000 + 0x100 * r.2) ++ leBytes 4 r.1.2.length ++ leBytes 4 0
  let h := leBytes 4 0x4D495856 ++ leBytes 1 0 ++ leBytes 1 1 ++ leBytes 2 (36 + 80) ++ leBytes 4 1 ++ leBytes 4 0x2000 ++ leBytes 2 5 ++ leBytes 2 0 ++ leBytes 4 0 ++ leBytes 8 0 ++ dir
  let h := h ++ leBytes 4 (crc32c h)
  let t := flashWrite [] 0 h
  let t := rs.zipIdx.foldl (fun t r => flashWrite t (0x1000 + 0x100 * r.2) r.1.2) t
  flashWrite t 0xFFFFF8 (leBytes 4 0xC0DE0001 ++ leBytes 4 (0xFFFFFFFF - 1))
def dl : Dev := ((Dev.reset.setFld Reg.GLB_MODE.mode 1).setFld Reg.CFG_FLASH_INFO.if_mode 1).modCfg fun c => { c with flash := image }

/-- Each clause's hypotheses are met together. -/
theorem witness :
    (∃ (d : Dev), d.mode = Mode.reset) ∧
    (∃ (d : Dev), d.mode ≠ Mode.reset) ∧
    (∃ (d : Dev) (ms : Nat), d.mode = Mode.load ∧ d.flt.safeReq = none ∧
      ((d.setFld Reg.CFG_LOAD_TIME.load_100us (min ms 65535)).loader).1.isSome = true) ∧
    (∃ (d : Dev) (ms : Nat), d.mode = Mode.load ∧ d.flt.safeReq = none ∧ d.hlk.ports = [] ∧
      ((d.setFld Reg.CFG_LOAD_TIME.load_100us (min ms 65535)).loader).1 = none ∧
      ((d.setFld Reg.CFG_LOAD_TIME.load_100us (min ms 65535)).loader).2.mode = Mode.load ∧
      ((d.setFld Reg.CFG_LOAD_TIME.load_100us (min ms 65535)).loader).2.flt.safeReq = none ∧
      ((d.setFld Reg.CFG_LOAD_TIME.load_100us (min ms 65535)).loader).2.hlk.ports = []) ∧
    (∃ (d : Dev), d.mode ≠ Mode.load) ∧
    (∃ (d : Dev), d.mode = Mode.fill ∧ d.flt.safeReq = none ∧ d.flag Reg.MEM_CFG.soldered = true) ∧
    (∃ (d : Dev) (spd : List (Nat × Nat)), d.mode = Mode.fill ∧ d.flt.safeReq = none ∧ (∀ k,
      k < d.channels → Tab.find spd k = some d.channelGib)) ∧
    (∃ (d : Dev) (c : Nat) (spd : List (Nat × Nat)), d.mode = Mode.fill ∧ d.flt.safeReq = none ∧ d.hlk.ports = [] ∧
      d.flag Reg.MEM_CFG.soldered = false ∧ c < d.channels ∧ Tab.find spd c ≠ some d.channelGib ∧ d.marginImage = false) ∧
    (∃ (d : Dev), d.mode ≠ Mode.fill) :=
  ⟨⟨Dev.reset, by decide +kernel⟩,
   ⟨(inMode 6), by decide +kernel⟩,
   ⟨dl, 9, by decide +kernel⟩,
   ⟨(inMode 1), 9, by decide +kernel⟩,
   ⟨(inMode 6), by decide +kernel⟩,
   ⟨(put [(Reg.MEM_CFG.soldered, 1)] (inMode 2)), by decide +kernel⟩,
   ⟨(inMode 2), [(0, 16)], by decide +kernel⟩,
   ⟨(put [(Reg.MEM_CFG.ch_log2, 2)] (inMode 2)), 1, [], by decide +kernel⟩,
   ⟨(inMode 6), by decide +kernel⟩⟩

end StartUpGoesFromResetToStandbyOrToSafe

namespace AModeRequestIsRefusedWithItsReason

/-- Each clause's hypotheses are met together. -/
theorem witness :
    (∃ (d : Dev) (key : Nat), d.responds Reg.GLB_MODE_REQ.addr = true ∧ key ≠ 0xC3) ∧
    (∃ (d : Dev) (key : Nat), d.responds Reg.GLB_MODE_REQ.addr = true ∧ key = 0xC3 ∧ d.glb.request.isSome = true) ∧
    (∃ (d : Dev) (key target : Nat), d.responds Reg.GLB_MODE_REQ.addr = true ∧ key = 0xC3 ∧ d.glb.request = none ∧
      d.requestable target = false) :=
  ⟨⟨(inMode 6), 0xC2, by decide +kernel⟩,
   ⟨((inMode 7).modGlb fun g => { g with request := some 6, leavingService := some 3 }), 0xC3, by decide +kernel⟩,
   ⟨(inMode 6), 0xC3, 15, by decide +kernel⟩⟩

end AModeRequestIsRefusedWithItsReason

namespace AnAcceptedModeRequestStartsItsTransition

/-- Each clause's hypotheses are met together. -/
theorem witness :
    (∃ (d : Dev), d.responds Reg.GLB_MODE_REQ.addr = true ∧ d.glb.request = none ∧ d.requestable Mode.calibrate = true) ∧
    (∃ (d : Dev), d.responds Reg.GLB_MODE_REQ.addr = true ∧ d.glb.request = none ∧ d.requestable Mode.service = true ∧ d.msr.sweeps = [] ∧
      d.msr.vsets = []) ∧
    (∃ (d : Dev), d.responds Reg.GLB_MODE_REQ.addr = true ∧ d.glb.request = none ∧ d.requestable Mode.load = true) ∧
    (∃ (d : Dev), d.responds Reg.GLB_MODE_REQ.addr = true ∧ d.glb.request = none ∧ d.requestable Mode.sleep = true) ∧
    (∃ (d : Dev), d.responds Reg.GLB_MODE_REQ.addr = true ∧ d.glb.request = none ∧ d.requestable Mode.standby = true) ∧
    (∃ (d : Dev), d.responds Reg.GLB_MODE_REQ.addr = true ∧ d.glb.request = none ∧ d.mode ≠ Mode.safe ∧ d.flt.safeReq = none) ∧
    (∃ (d : Dev), d.responds Reg.GLB_MODE_REQ.addr = true ∧ d.glb.request = none ∧ d.mode = Mode.safe) :=
  ⟨⟨(put [(Reg.GLB_STATUS.aon_ok, 1)] (inMode 6)), by decide +kernel⟩,
   ⟨(put [(Reg.GLB_STATUS.aon_ok, 1)] (inMode 6)), by decide +kernel⟩,
   ⟨(put [(Reg.GLB_STATUS.aon_ok, 1)] (inMode 6)), by decide +kernel⟩,
   ⟨(put [(Reg.GLB_STATUS.aon_ok, 1)] (inMode 6)), by decide +kernel⟩,
   ⟨(inMode 7), by decide +kernel⟩,
   ⟨(put [(Reg.GLB_STATUS.aon_ok, 1)] (inMode 6)), by decide +kernel⟩,
   ⟨(inMode 4), by decide +kernel⟩⟩

end AnAcceptedModeRequestStartsItsTransition

namespace SafeIsEnteredForTheCauseThatWaits

/-- Each clause's hypotheses are met together. -/
theorem witness :
    (∃ (d : Dev) (r : SafeReq), d.flt.safeReq = some r ∧ d.mode ≠ Mode.reset ∧ d.mode ≠ Mode.sleep ∧ d.committedWaits = false) ∧
    (∃ (d : Dev), d.flt.safeReq = none) ∧
    (∃ (d : Dev), d.committedWaits = true) :=
  ⟨⟨((inMode 8).modFlt fun f => { f with safeReq := some ⟨2, 0x0D02, 0x68, 5, 1⟩ }),
     ((((inMode 8).modFlt fun f => { f with safeReq := some ⟨2, 0x0D02, 0x68, 5, 1⟩ }).flt.safeReq).getD (⟨0, 0, 0, 0, 0⟩ : SafeReq)),
     by decide +kernel⟩,
   ⟨(inMode 6), by decide +kernel⟩,
   ⟨(put [(Reg.PAIR_STAT.active,
     1)] ((inMode 8).modHlk fun x => { x with ports := Tab.set [] HPort.off 0 { HPort.off with due := [⟨3, 7, 40, 0, 0, 0, true, some true, false, false⟩] } })),
     by decide +kernel⟩⟩

end SafeIsEnteredForTheCauseThatWaits

namespace TheDeviceLeavesAndEntersModesWhenTheirConditionHolds

/-- Each clause's hypotheses are met together. -/
theorem witness :
    (∃ (d : Dev), d.flt.safeReq = none ∧ d.msr.sweeps = [] ∧ d.msr.vsets = [] ∧ d.exitDue = true) ∧
    (∃ (d : Dev) (t : Nat), d.flt.safeReq = none ∧ d.msr.sweeps = [] ∧ d.msr.vsets = [] ∧ d.glb.leavingService = some t ∧
      d.mode = Mode.service ∧ d.serviceQuiet = true) ∧
    (∃ (d : Dev) (t : Nat), d.flt.safeReq = none ∧ d.msr.sweeps = [] ∧ d.msr.vsets = [] ∧ d.glb.sleepTrigger = some t ∧
      d.mode = Mode.standby ∧ (∀ k, k < 8 → d.ctxState k = CtxState.idle)) ∧
    (∃ (d : Dev), d.flt.safeReq = none ∧ d.msr.sweeps = [] ∧ d.msr.vsets = [] ∧ d.mode = Mode.standby ∧ d.glb.keepwet = true ∧
      d.glb.keepwetFired = false ∧ d.cfg.bootPending = false ∧ d.cfg.bootRunning = false ∧ d.glb.sleepTrigger = none ∧
      d.fld Reg.HLK_KEEPWET.count = 0) ∧
    (∃ (d : Dev), d.flt.safeReq = none ∧ d.msr.sweeps = [] ∧ d.msr.vsets = [] ∧ d.mode = Mode.service ∧ d.glb.keepwet = true ∧
      d.glb.keepwetFired = true ∧ d.serviceQuiet = true ∧ d.glb.leavingService = none ∧ (∀ k, k < 8 → d.measureIdle k = true)) ∧
    (∃ (d : Dev) (p : Peer), d.flt.safeReq = none ∧ d.msr.sweeps = [] ∧ d.msr.vsets = [] ∧ d.mode = Mode.standby ∧ d.pairUp = true ∧
      d.duo.peer = some p ∧ p.role = Role.active ∧ d.isActive = false ∧ d.fld Reg.PAIR_CFG.role ≠ 0 ∧
      d.flag Reg.PAIR_STAT.match_ok = true ∧ d.glb.sleepTrigger = none) ∧
    (∃ (d : Dev) (h : Held), d.flt.safeReq = none ∧ d.msr.sweeps = [] ∧ d.msr.vsets = [] ∧ (d.ctx 0).held = some h ∧
      d.ctxState 0 = CtxState.mode ∧ d.mode = Mode.standby ∧ d.glb.sleepTrigger = none ∧ d.waitsRefetch (.seqBlock 0) = false) :=
  ⟨⟨((inMode 8).modPac fun p => { p with grid := true }), by decide +kernel⟩,
   ⟨((inMode 7).modGlb fun g => { g with request := some 6, leavingService := some 3 }),
     ((((inMode 7).modGlb fun g => { g with request := some 6, leavingService := some 3 }).glb.leavingService).getD 0), by decide +kernel⟩,
   ⟨((inMode 6).modGlb fun g => { g with sleepTrigger := some 3 }),
     ((((inMode 6).modGlb fun g => { g with sleepTrigger := some 3 }).glb.sleepTrigger).getD 0), by decide +kernel⟩,
   ⟨(put [(Reg.HLK_KEEPWET.count, 0)] ((inMode 6).modGlb fun g => { g with keepwet := true })), by decide +kernel⟩,
   ⟨((inMode 7).modGlb fun g => { g with keepwet := true, keepwetFired := true }), by decide +kernel⟩,
   ⟨(put [(Reg.PAIR_CFG.pair_en, 1), (Reg.PAIR_CFG.role, 1), (Reg.PAIR_STAT.link_up, 1), (Reg.PAIR_STAT.match_ok,
     1)] ((inMode 6).modPair fun p => { p with peer := some ⟨1, 6, false⟩ })), (((put [(Reg.PAIR_CFG.pair_en, 1), (Reg.PAIR_CFG.role, 1),
     (Reg.PAIR_STAT.link_up, 1), (Reg.PAIR_STAT.match_ok,
     1)] ((inMode 6).modPair fun p => { p with peer := some ⟨1, 6, false⟩ })).duo.peer).getD (⟨0, 0, false⟩ : Peer)), by decide +kernel⟩,
   ⟨(put [(Reg.SEQ_CTX_STAT.state 0,
     CtxState.mode)] ((inMode 6).modSeq fun s => { s with ctxs := [(0, { Ctx.idle with held := some ⟨0x0100000000000007, 0, 0⟩ })] })),
     ((((put [(Reg.SEQ_CTX_STAT.state 0,
     CtxState.mode)] ((inMode 6).modSeq fun s => { s with ctxs := [(0, { Ctx.idle with held := some ⟨0x0100000000000007, 0, 0⟩ })] })).ctx 0).held).getD (⟨0,
     0, 0⟩ : Held)), by decide +kernel⟩⟩

end TheDeviceLeavesAndEntersModesWhenTheirConditionHolds

namespace ContextsStopAndTheVoltageLoopGoesOn

/-- Each clause's hypotheses are met together. -/
theorem witness :
    (∃ (d : Dev) (k : Nat), k < 8 ∧ d.flt.safeReq.isSome = true ∧ d.ctxState k ≠ CtxState.idle) ∧
    (∃ (d : Dev) (k : Nat), k < 8 ∧ d.glb.sleepTrigger.isSome = true ∧ d.ctxState k ≠ CtxState.idle) ∧
    (∃ (d : Dev) (k : Nat), d.ctxState k = CtxState.idle) ∧
    (∃ (d : Dev), (d.flt.safeReq = none ∧ d.glb.sleepTrigger = none)) ∧
    (∃ (d : Dev) (want : Nat), d.flag Reg.GLB_AVS_CFG.avs_en = true ∧ d.flag Reg.GLB_STATUS.fill_done = true ∧ d.timeRuns = true ∧
      d.glb.avsBusy = none ∧ want ≠ d.avsVolts ∧ Mode.isPrint d.mode = false ∧ want = d.fld Reg.GLB_AVS_IDLE.avs_idle_mv) ∧
    (∃ (d : Dev) (want : Nat), d.flag Reg.GLB_AVS_CFG.avs_en = true ∧ d.flag Reg.GLB_STATUS.fill_done = true ∧ d.timeRuns = true ∧
      d.glb.avsBusy = none ∧ want ≠ d.avsVolts ∧ Mode.isPrint d.mode = true ∧ d.avsSlack < d.fld Reg.GLB_SLACK_CFG.slack_target ∧
      want = min (d.avsVolts + d.fld Reg.GLB_AVS_CFG.avs_step_mv) (d.fld Reg.GLB_AVS_LIMITS.avs_vmax_mv)) ∧
    (∃ (d : Dev) (want : Nat), d.flag Reg.GLB_AVS_CFG.avs_en = true ∧ d.flag Reg.GLB_STATUS.fill_done = true ∧ d.timeRuns = true ∧
      d.glb.avsBusy = none ∧ want ≠ d.avsVolts ∧ Mode.isPrint d.mode = true ∧
      d.fld Reg.GLB_SLACK_CFG.slack_target + d.fld Reg.GLB_SLACK_CFG.slack_hyst ≤ d.avsSlack ∧
      d.fld Reg.GLB_AVS_CFG.avs_calm ≤ d.glb.calm + 1 ∧
      want = max (d.avsVolts - d.fld Reg.GLB_AVS_CFG.avs_step_mv) (d.fld Reg.GLB_AVS_LIMITS.avs_vmin_mv)) ∧
    (∃ (d : Dev), Mode.isPrint d.mode = true ∧ d.fld Reg.GLB_SLACK_CFG.slack_target ≤ d.avsSlack ∧
      d.avsSlack < d.fld Reg.GLB_SLACK_CFG.slack_target + d.fld Reg.GLB_SLACK_CFG.slack_hyst) ∧
    (∃ (d : Dev) (v : Nat), d.glb.avsBusy = some v) :=
  ⟨⟨(put [(Reg.SEQ_CTX_STAT.state 7, CtxState.running)] ((inMode 6).modFlt fun f => { f with safeReq := some ⟨2, 0x0D02, 0x68, 5, 1⟩ })),
     7, by decide +kernel⟩,
   ⟨(put [(Reg.SEQ_CTX_STAT.state 7, CtxState.running)] ((inMode 6).modGlb fun g => { g with sleepTrigger := some 1 })), 7,
     by decide +kernel⟩,
   ⟨(inMode 6), 7, by decide +kernel⟩,
   ⟨(inMode 6), by decide +kernel⟩,
   ⟨(put [(Reg.GLB_AVS_CFG.avs_en, 1), (Reg.GLB_STATUS.fill_done, 1), (Reg.GLB_AVS_VOUT.cmd_mv, 700)] (inMode 6)),
     ((put [(Reg.GLB_AVS_CFG.avs_en, 1), (Reg.GLB_STATUS.fill_done, 1), (Reg.GLB_AVS_VOUT.cmd_mv,
     700)] (inMode 6)).fld Reg.GLB_AVS_IDLE.avs_idle_mv), by decide +kernel⟩,
   ⟨(put [(Reg.GLB_AVS_CFG.avs_en, 1), (Reg.GLB_STATUS.fill_done, 1), (Reg.GLB_AVS_VOUT.cmd_mv, 700), (Reg.GLB_SLACK_CFG.slack_target,
     100), (Reg.GLB_AVS_CFG.avs_step_mv, 5), (Reg.GLB_AVS_LIMITS.avs_vmax_mv, 900)] (web.modGlb fun g => { g with minSlack := 99 })),
     (min ((put [(Reg.GLB_AVS_CFG.avs_en, 1), (Reg.GLB_STATUS.fill_done, 1), (Reg.GLB_AVS_VOUT.cmd_mv, 700),
     (Reg.GLB_SLACK_CFG.slack_target, 100), (Reg.GLB_AVS_CFG.avs_step_mv, 5), (Reg.GLB_AVS_LIMITS.avs_vmax_mv,
     900)] (web.modGlb fun g => { g with minSlack := 99 })).avsVolts + (put [(Reg.GLB_AVS_CFG.avs_en, 1), (Reg.GLB_STATUS.fill_done, 1),
     (Reg.GLB_AVS_VOUT.cmd_mv, 700), (Reg.GLB_SLACK_CFG.slack_target, 100), (Reg.GLB_AVS_CFG.avs_step_mv, 5),
     (Reg.GLB_AVS_LIMITS.avs_vmax_mv,
     900)] (web.modGlb fun g => { g with minSlack := 99 })).fld Reg.GLB_AVS_CFG.avs_step_mv) ((put [(Reg.GLB_AVS_CFG.avs_en, 1),
     (Reg.GLB_STATUS.fill_done, 1), (Reg.GLB_AVS_VOUT.cmd_mv, 700), (Reg.GLB_SLACK_CFG.slack_target, 100), (Reg.GLB_AVS_CFG.avs_step_mv,
     5), (Reg.GLB_AVS_LIMITS.avs_vmax_mv, 900)] (web.modGlb fun g => { g with minSlack := 99 })).fld Reg.GLB_AVS_LIMITS.avs_vmax_mv)),
     by decide +kernel⟩,
   ⟨(put [(Reg.GLB_AVS_CFG.avs_en, 1), (Reg.GLB_STATUS.fill_done, 1), (Reg.GLB_AVS_VOUT.cmd_mv, 700), (Reg.GLB_SLACK_CFG.slack_target,
     100), (Reg.GLB_SLACK_CFG.slack_hyst, 20), (Reg.GLB_AVS_CFG.avs_step_mv, 5), (Reg.GLB_AVS_CFG.avs_calm, 1),
     (Reg.GLB_AVS_LIMITS.avs_vmin_mv, 600)] (web.modGlb fun g => { g with minSlack := 120 })), (max ((put [(Reg.GLB_AVS_CFG.avs_en, 1),
     (Reg.GLB_STATUS.fill_done, 1), (Reg.GLB_AVS_VOUT.cmd_mv, 700), (Reg.GLB_SLACK_CFG.slack_target, 100), (Reg.GLB_SLACK_CFG.slack_hyst,
     20), (Reg.GLB_AVS_CFG.avs_step_mv, 5), (Reg.GLB_AVS_CFG.avs_calm, 1), (Reg.GLB_AVS_LIMITS.avs_vmin_mv,
     600)] (web.modGlb fun g => { g with minSlack := 120 })).avsVolts - (put [(Reg.GLB_AVS_CFG.avs_en, 1), (Reg.GLB_STATUS.fill_done, 1),
     (Reg.GLB_AVS_VOUT.cmd_mv, 700), (Reg.GLB_SLACK_CFG.slack_target, 100), (Reg.GLB_SLACK_CFG.slack_hyst, 20),
     (Reg.GLB_AVS_CFG.avs_step_mv, 5), (Reg.GLB_AVS_CFG.avs_calm, 1), (Reg.GLB_AVS_LIMITS.avs_vmin_mv,
     600)] (web.modGlb fun g => { g with minSlack := 120 })).fld Reg.GLB_AVS_CFG.avs_step_mv) ((put [(Reg.GLB_AVS_CFG.avs_en, 1),
     (Reg.GLB_STATUS.fill_done, 1), (Reg.GLB_AVS_VOUT.cmd_mv, 700), (Reg.GLB_SLACK_CFG.slack_target, 100), (Reg.GLB_SLACK_CFG.slack_hyst,
     20), (Reg.GLB_AVS_CFG.avs_step_mv, 5), (Reg.GLB_AVS_CFG.avs_calm, 1), (Reg.GLB_AVS_LIMITS.avs_vmin_mv,
     600)] (web.modGlb fun g => { g with minSlack := 120 })).fld Reg.GLB_AVS_LIMITS.avs_vmin_mv)), by decide +kernel⟩,
   ⟨(put [(Reg.GLB_SLACK_CFG.slack_target, 100), (Reg.GLB_SLACK_CFG.slack_hyst, 20)] (web.modGlb fun g => { g with minSlack := 119 })),
     by decide +kernel⟩,
   ⟨((inMode 6).modGlb fun g => { g with avsBusy := some 750 }),
     ((((inMode 6).modGlb fun g => { g with avsBusy := some 750 }).glb.avsBusy).getD 0), by decide +kernel⟩⟩

end ContextsStopAndTheVoltageLoopGoesOn

namespace FlashCommandsStartRunAndEnd

/-- Each clause's hypotheses are met together. -/
theorem witness :
    (∃ (d : Dev), d.bar0 = true ∧ d.mode ≠ Mode.load ∧ d.cfg.cmd = none) ∧
    (∃ (d : Dev) (n : Nat) (i : Instr), d.bar0 = true ∧ d.mode = Mode.load ∧
      (i = .flashRead n ∨ i = .flashProgram n ∨ i = .flashErase64k ∨ i = .flashCheckSlot)) ∧
    (∃ (d : Dev) (n : Nat) (i : Instr), d.bar0 = true ∧ d.cfg.cmd.isSome = true ∧
      (i = .flashRead n ∨ i = .flashProgram n ∨ i = .flashErase64k ∨ i = .flashCheckSlot)) ∧
    (∃ (d : Dev) (n : Nat) (i : Instr), d.bar0 = true ∧ (d.mode = Mode.load ∨ d.cfg.cmd.isSome = true) ∧ i = .flashRead n) ∧
    (∃ (d : Dev) (n : Nat) (i : Instr), d.bar0 = true ∧ (d.mode = Mode.load ∨ d.cfg.cmd.isSome = true) ∧ i = .flashProgram n) ∧
    (∃ (d : Dev) (i : Instr), d.bar0 = true ∧ (d.mode = Mode.load ∨ d.cfg.cmd.isSome = true) ∧ i = .flashErase64k) ∧
    (∃ (d : Dev) (i : Instr), d.bar0 = true ∧ (d.mode = Mode.load ∨ d.cfg.cmd.isSome = true) ∧ i = .flashCheckSlot) ∧
    (∃ (d : Dev) (c : FlashCmd), d.cfg.cmd = some c) :=
  ⟨⟨((inMode 6).setReg 0x200030 0x10000), by decide +kernel⟩,
   ⟨(inMode 1), 3, (.flashRead (3 : Nat)), by decide +kernel⟩,
   ⟨((inMode 6).modCfg fun c => { c with cmd := some ⟨1, 0, 4, 0⟩ }), 0, .flashErase64k, by decide +kernel⟩,
   ⟨(inMode 1), 3, (.flashRead (3 : Nat)), by decide +kernel⟩,
   ⟨((inMode 6).modCfg fun c => { c with cmd := some ⟨1, 0, 4, 0⟩ }), 5, (.flashProgram (5 : Nat)), by decide +kernel⟩,
   ⟨((inMode 6).modCfg fun c => { c with cmd := some ⟨1, 0, 4, 0⟩ }), .flashErase64k, by decide +kernel⟩,
   ⟨((inMode 6).modCfg fun c => { c with cmd := some ⟨1, 0, 4, 0⟩ }), .flashCheckSlot, by decide +kernel⟩,
   ⟨((inMode 6).modCfg fun c => { c with cmd := some ⟨1, 0, 4, 0⟩ }),
     ((((inMode 6).modCfg fun c => { c with cmd := some ⟨1, 0, 4, 0⟩ }).cfg.cmd).getD (⟨0, 0, 0, 0⟩ : FlashCmd)), by decide +kernel⟩⟩

end FlashCommandsStartRunAndEnd

namespace RingsAreEnabledAndDisabledOnlyWhenTheyMay

/-- Each clause's hypotheses are met together. -/
theorem witness :
    (∃ (d : Dev) (n : Nat), n < 64 ∧ d.alone = true ∧ d.responds (Reg.HDMA_RING_CTL.addr n) = true ∧ d.ringEnabled n = false ∧
      d.ringOff n = false ∧ (n < 56 → d.marginImage = false)) ∧
    (∃ (d : Dev) (n : Nat), n < 64 ∧ d.alone = true ∧ d.responds (Reg.HDMA_RING_CTL.addr n) = true ∧ d.ringEnabled n = false ∧
      d.ringOff n = true) ∧
    (∃ (d : Dev) (n : Nat), n < 64 ∧ d.alone = true ∧ d.responds (Reg.HDMA_RING_CTL.addr n) = true ∧ d.ringEnabled n = true ∧ 56 ≤ n) ∧
    (∃ (d : Dev) (n : Nat), n < 64 ∧ d.alone = true ∧ d.responds (Reg.HDMA_RING_CTL.addr n) = true ∧ d.ringEnabled n = true ∧
      d.ringState n = RingState.idle) ∧
    (∃ (d : Dev) (n : Nat), n < 64 ∧ d.alone = true ∧ d.responds (Reg.HDMA_RING_CTL.addr n) = true ∧ d.ringEnabled n = true ∧
      d.ringState n = RingState.stopped) ∧
    (∃ (d : Dev) (n : Nat), n < 64 ∧ d.alone = true ∧ d.responds (Reg.HDMA_RING_CTL.addr n) = true ∧ d.ringEnabled n = true ∧ n < 56 ∧
      d.ringState n ≠ RingState.idle ∧ d.ringState n ≠ RingState.stopped) :=
  ⟨⟨(inMode 6), 0, by decide +kernel⟩,
   ⟨(put [(Reg.HDMA_RING_CFG.type_ 55, 0)] (inMode 6)), 55, by decide +kernel⟩,
   ⟨(put [(Reg.HDMA_RING_CTL.enable 63, 1), (Reg.HDMA_RING_STAT.state 63, 1)] (inMode 6)), 63, by decide +kernel⟩,
   ⟨(put [(Reg.HDMA_RING_CTL.enable 63, 1), (Reg.HDMA_RING_STAT.state 63, 1)] (inMode 6)), 63, by decide +kernel⟩,
   ⟨(put [(Reg.HDMA_RING_CTL.enable 0, 1), (Reg.HDMA_RING_STAT.state 0, RingState.stopped)] (inMode 6)), 0, by decide +kernel⟩,
   ⟨(put [(Reg.HDMA_RING_CTL.enable 55, 1), (Reg.HDMA_RING_STAT.state 55, RingState.running)] (inMode 6)), 55, by decide +kernel⟩⟩

end RingsAreEnabledAndDisabledOnlyWhenTheyMay

namespace DoorbellsPostAndFreeSlotsOrAreDiscarded

def rung (n s h t : Nat) : Dev := put [(Reg.HDMA_RING_CTL.enable n, 1), (Reg.HDMA_RING_STAT.state n, s), (Reg.HDMA_RING_PTR.head n, h), (Reg.HDMA_RING_PTR.tail n, t)] (inMode 6)

/-- Each clause's hypotheses are met together. -/
theorem witness :
    (∃ (d : Dev) (n : Nat), d.alone = true ∧ d.responds (Reg.HDMA_RING_DB.addr n) = true ∧ n < 56 ∧ d.ringEnabled n = false) ∧
    (∃ (d : Dev) (n idx : Nat), d.alone = true ∧ d.responds (Reg.HDMA_RING_DB.addr n) = true ∧ n < 56 ∧ idx = d.ringTail n) ∧
    (∃ (d : Dev) (n : Nat), d.alone = true ∧ d.responds (Reg.HDMA_RING_DB.addr n) = true ∧ 56 ≤ n ∧ n < 64 ∧ d.ringEnabled n = false) ∧
    (∃ (d : Dev) (n idx : Nat), d.alone = true ∧ d.responds (Reg.HDMA_RING_DB.addr n) = true ∧ d.ringEnabled n = true ∧ n < 56 ∧
      idx ≠ d.ringTail n ∧ idx < d.ringSlots n ∧ idx < 65536 ∧
      d.ringDiff n idx (d.ringTail n) ≤ d.ringSlots n - 1 - d.ringDiff n (d.ringTail n) (d.ringHead n)) ∧
    (∃ (d : Dev) (n idx : Nat), d.alone = true ∧ d.responds (Reg.HDMA_RING_DB.addr n) = true ∧ d.ringEnabled n = true ∧ n < 56 ∧
      idx ≠ d.ringTail n ∧ d.ringSlots n ≤ idx) ∧
    (∃ (d : Dev) (n idx : Nat), d.alone = true ∧ d.responds (Reg.HDMA_RING_DB.addr n) = true ∧ d.ringEnabled n = true ∧ n < 56 ∧
      idx ≠ d.ringTail n ∧ d.ringSlots n - 1 - d.ringDiff n (d.ringTail n) (d.ringHead n) < d.ringDiff n idx (d.ringTail n)) ∧
    (∃ (d : Dev) (n idx : Nat), d.alone = true ∧ d.responds (Reg.HDMA_RING_DB.addr n) = true ∧ d.ringEnabled n = true ∧ 56 ≤ n ∧ n < 64 ∧
      idx < d.ringSlots n ∧ idx < 65536 ∧ d.ringDiff n idx (d.ringTail n) ≤ d.ringDiff n (d.ringHead n) (d.ringTail n)) ∧
    (∃ (d : Dev) (n idx : Nat), d.alone = true ∧ d.responds (Reg.HDMA_RING_DB.addr n) = true ∧ d.ringEnabled n = true ∧ 56 ≤ n ∧ n < 64 ∧
      d.ringSlots n ≤ idx) ∧
    (∃ (d : Dev) (n idx : Nat), d.alone = true ∧ d.responds (Reg.HDMA_RING_DB.addr n) = true ∧ d.ringEnabled n = true ∧ 56 ≤ n ∧ n < 64 ∧
      d.ringDiff n (d.ringHead n) (d.ringTail n) < d.ringDiff n idx (d.ringTail n)) :=
  ⟨⟨(put [(Reg.HDMA_RING_CTL.enable 0, 0)] (rung 0 RingState.disabled 0 0)), 0, by decide +kernel⟩,
   ⟨(rung 0 RingState.running 3 7), 0, 7, by decide +kernel⟩,
   ⟨(put [(Reg.HDMA_RING_CTL.enable 63, 0)] (rung 63 RingState.disabled 0 0)), 63, by decide +kernel⟩,
   ⟨(rung 0 RingState.idle 0 0), 0, 255, by decide +kernel⟩,
   ⟨(rung 0 RingState.idle 3 0), 0, 256, by decide +kernel⟩,
   ⟨(rung 0 RingState.running 3 2), 0, 3, by decide +kernel⟩,
   ⟨(rung 63 RingState.idle 3 0), 63, 3, by decide +kernel⟩,
   ⟨(rung 56 RingState.idle 3 0), 56, 256, by decide +kernel⟩,
   ⟨(rung 56 RingState.idle 3 0), 56, 4, by decide +kernel⟩⟩

end DoorbellsPostAndFreeSlotsOrAreDiscarded

namespace DescriptorsAreFetchedAndTaken

def rung (n s h t : Nat) : Dev := put [(Reg.HDMA_RING_CTL.enable n, 1), (Reg.HDMA_RING_STAT.state n, s), (Reg.HDMA_RING_PTR.head n, h), (Reg.HDMA_RING_PTR.tail n, t)] standby
def own : List Byte := List.replicate 31 0#8 ++ [0x80#8]
def ownLen : List Byte := List.replicate 16 0#8 ++ [4#8] ++ List.replicate 14 0#8 ++ [0x80#8]
def ownFar : List Byte := List.replicate 12 0#8 ++ [0xFF#8, 0#8, 0#8, 0#8, 4#8] ++ List.replicate 14 0#8 ++ [0x80#8]
def ownBad : List Byte := List.replicate 13 0#8 ++ [0xFF#8] ++ List.replicate 17 0#8 ++ [0x80#8]

/-- Each clause's hypotheses are met together. -/
theorem witness :
    (∃ (d : Dev) (n : Nat), n < 56 ∧ d.ringEnabled n = true ∧ d.ringState n ≠ RingState.stopped ∧ d.ringHead n ≠ d.ringTail n ∧
      (d.ring n).copy = none ∧ (d.ring n).job = none ∧ (d.ring n).fetchAgain = false) ∧
    (∃ (d : Dev) (n : Nat), n < 56 ∧ d.ringEnabled n = true ∧ d.ringState n ≠ RingState.stopped ∧ d.ringHead n ≠ d.ringTail n ∧
      (d.ring n).copy = none ∧ (d.ring n).job = none ∧ (d.ring n).fetchAgain = true) ∧
    (∃ (d : Dev) (n : Nat) (bs : List Byte), n < 56 ∧ d.ringEnabled n = true ∧ d.ringState n ≠ RingState.stopped ∧
      d.ringHead n ≠ d.ringTail n ∧ (d.ring n).copy = none ∧ (d.ring n).job = none ∧ leAt bs 31 1 / 128 = 0) ∧
    (∃ (d : Dev) (n : Nat) (bs : List Byte), n < 56 ∧ d.ringEnabled n = true ∧ d.ringState n ≠ RingState.stopped ∧
      d.ringHead n ≠ d.ringTail n ∧ (d.ring n).copy = none ∧ (d.ring n).job = none ∧ leAt bs 31 1 / 128 ≠ 0 ∧ 48 ≤ n) ∧
    (∃ (d : Dev) (n : Nat) (bs : List Byte), n < 56 ∧ d.ringEnabled n = true ∧ d.ringState n ≠ RingState.stopped ∧
      d.ringHead n ≠ d.ringTail n ∧ (d.ring n).copy = none ∧ (d.ring n).job = none ∧ leAt bs 31 1 / 128 ≠ 0 ∧ n < 48) ∧
    (∃ (d : Dev) (k : Nat) (j : JobDesc), k < 8 ∧ (d.ring (48 + k)).job = some j ∧ j.taken = false ∧ j.reservedBad = false ∧
      d.inFitted j.head 4096 = true ∧ d.ctxState k = CtxState.idle ∧ d.seqRuns = true ∧ d.ringState (48 + k) ≠ RingState.stopped ∧
      d.hdma.abort = none ∧ d.cfg.bootPending = false ∧ d.blockBad j.head = false) :=
  ⟨⟨(rung 0 RingState.running 0 1), 0, by decide +kernel⟩,
   ⟨((rung 55 RingState.running 255 0).modHdma fun h => { h with rings := [(55, { Ring.idle with fetchAgain := true })] }), 55,
     by decide +kernel⟩,
   ⟨(rung 0 RingState.running 0 1), 0, (List.replicate 32 0#8), by decide +kernel⟩,
   ⟨(rung 55 RingState.running 255 0), 55, own, by decide +kernel⟩,
   ⟨(rung 47 RingState.running 255 0), 47, own, by decide +kernel⟩,
   ⟨((rung 55 RingState.running 0 1).modHdma fun h => { h with rings := [(55, { Ring.idle with job := some ⟨0, 0x1000, 7, 0, false, false, []⟩ })] }),
     7,
     (((((rung 55 RingState.running 0 1).modHdma fun h => { h with rings := [(55, { Ring.idle with job := some ⟨0, 0x1000, 7, 0, false, false, []⟩ })] }).ring (48 + (7 : Nat))).job).getD (⟨0,
     0, 0, 0, false, false, []⟩ : JobDesc)), by decide +kernel⟩⟩

end DescriptorsAreFetchedAndTaken

namespace CopiesMoveTheirBytesAndComplete

def cj : CopyJob := ⟨0, 0x1000, 0x3C, 4, 1, 0, 0, 0xFFFFFFFF, [], [], none, [], none, [], []⟩
def crung (n : Nat) (c : CopyJob) : Dev :=
  (put [(Reg.HDMA_RING_CTL.enable n, 1), (Reg.HDMA_RING_STAT.state n, RingState.running), (Reg.HDMA_RING_PTR.head n, 0), (Reg.HDMA_RING_PTR.tail n, 1)] standby).modHdma fun h => { h with rings := [(n, { Ring.idle with copy := some c })] }

/-- Each clause's hypotheses are met together. -/
theorem witness :
    (∃ (d : Dev) (n : Nat) (bs : List Byte) (c : CopyJob), (d.ring n).copy = some c ∧ c.status = none ∧ c.toDevice = true ∧ c.moved = 0 ∧
      c.buf = [] ∧ c.staged = [] ∧ 0 < c.length ∧ bs.length = c.length ∧ c.devAddr % 64 + c.length ≤ 64 ∧
      d.lineBad (c.devAddr / 64) = false ∧ d.waitsRefetch (.copy n) = false) ∧
    (∃ (d : Dev) (n : Nat) (c : CopyJob), (d.ring n).copy = some c ∧ c.status = none ∧ c.toDevice = true ∧
      c.moved + c.buf.length < c.length ∧ c.failAt = none) ∧
    (∃ (d : Dev) (n : Nat) (c : CopyJob), (d.ring n).copy = some c ∧ c.status = none ∧ d.alone = true ∧ c.moved = c.length ∧
      c.failAt = none ∧ d.completionHeld n = false ∧ d.waitsRefetch (.copy n) = false) :=
  ⟨⟨(crung 0 cj), 0, [1#8, 2#8, 3#8, 4#8], ((((crung 0 cj).ring (0 : Nat)).copy).getD (⟨0, 0, 0, 0, 0, 0, 0, 0, [], [], none, [], none,
     [], []⟩ : CopyJob)), by decide +kernel⟩,
   ⟨(crung 0 cj), 0, ((((crung 0 cj).ring (0 : Nat)).copy).getD (⟨0, 0, 0, 0, 0, 0, 0, 0, [], [], none, [], none, [], []⟩ : CopyJob)),
     by decide +kernel⟩,
   ⟨(crung 47 { cj with moved := 4 }), 47, ((((crung 47 { cj with moved := 4 }).ring (47 : Nat)).copy).getD (⟨0, 0, 0, 0, 0, 0, 0, 0, [],
     [], none, [], none, [], []⟩ : CopyJob)), by decide +kernel⟩⟩

end CopiesMoveTheirBytesAndComplete

namespace TheBar2WindowReadsAndWritesDeviceMemory

/-- Each clause's hypotheses are met together. -/
theorem witness :
    (∃ (d : Dev) (o n : Nat), d.bar0 = true ∧ d.mode ≠ Mode.load ∧ d.mode ≠ Mode.fill ∧ d.marginImage = false ∧
      d.inFitted (d.winAddr o) n = true ∧ (linesOf (d.winAddr o) n).any d.notReady = false ∧ d.bar2Waits = false ∧ d.hdma.bar2Held = [] ∧
      d.rangePoisoned (d.winAddr o) n = false ∧ (linesOf (d.winAddr o) n).any (fun l => (d.refetchOf l).isSome) = false) ∧
    (∃ (d : Dev) (o n : Nat), d.bar0 = true ∧ d.mode ≠ Mode.load ∧ d.mode ≠ Mode.fill ∧ d.marginImage = false ∧
      d.inFitted (d.winAddr o) n = true ∧ (linesOf (d.winAddr o) n).any d.notReady = false ∧ d.bar2Waits = false ∧ d.hdma.bar2Held = [] ∧
      d.rangePoisoned (d.winAddr o) n = true ∧ d.fld Reg.MIG_LOG_LEN.len = 0) ∧
    (∃ (d : Dev) (o n : Nat), d.bar0 = true ∧ d.mode ≠ Mode.load ∧ d.mode ≠ Mode.fill ∧ d.marginImage = false ∧
      d.inFitted (d.winAddr o) n = false) ∧
    (∃ (d : Dev) (o : Nat) (bs : List Byte), d.bar0 = true ∧ d.mode ≠ Mode.load ∧ d.mode ≠ Mode.fill ∧ d.marginImage = false ∧
      d.alone = true ∧ d.inFitted (d.winAddr o) bs.length = true ∧ d.winAddr o % 64 + bs.length ≤ 64 ∧ 0 < bs.length ∧
      d.lineBad (d.winAddr o / 64) = false) ∧
    (∃ (d : Dev) (o : Nat) (bs : List Byte), d.bar0 = true ∧ d.mode ≠ Mode.load ∧ d.mode ≠ Mode.fill ∧ d.marginImage = false ∧
      d.alone = true ∧ d.inFitted (d.winAddr o) bs.length = false) ∧
    (∃ (d : Dev), d.bar0 = true ∧ d.mode ≠ Mode.load ∧ d.mode ≠ Mode.fill ∧ d.marginImage = false ∧ d.badEcrc = true) ∧
    (∃ (d : Dev), d.bar0 = true ∧ d.mode ≠ Mode.load ∧ d.mode ≠ Mode.fill ∧ d.marginImage = false ∧ d.shadowServes = true) :=
  ⟨⟨standby, 0x3F, 4, by decide +kernel⟩,
   ⟨({ standby with mem := { standby.mem with lines := [(0, ⟨true, 2, 0x18, 0⟩)] } }), 0x3F, 1, by decide +kernel⟩,
   ⟨(inMode 6), 0, 1, by decide +kernel⟩,
   ⟨standby, 0x3F, [1#8], by decide +kernel⟩,
   ⟨(inMode 6), 0, [1#8], by decide +kernel⟩,
   ⟨(put [(Reg.HDMA_PCI_STAT.ecrc_chk, 1)] standby), by decide +kernel⟩,
   ⟨(put [(Reg.GLB_SHADOW_OF.sub_state, 1)] (inMode 11)), by decide +kernel⟩⟩

end TheBar2WindowReadsAndWritesDeviceMemory

namespace AbortsTakeTheirScopeAndAreRecorded

def rung (n s h t : Nat) : Dev := put [(Reg.HDMA_RING_CTL.enable n, 1), (Reg.HDMA_RING_STAT.state n, s), (Reg.HDMA_RING_PTR.head n, h), (Reg.HDMA_RING_PTR.tail n, t)] standby

/-- Each clause's hypotheses are met together. -/
theorem witness :
    (∃ (d : Dev) (n idx : Nat), d.alone = true ∧ d.responds Reg.HDMA_ABORT.addr = true ∧ d.hdma.abort = none ∧ n < 56 ∧
      d.ringEnabled n = true ∧ idx < d.ringSlots n ∧ d.ringDiff n idx (d.ringHead n) < d.ringDiff n (d.ringTail n) (d.ringHead n)) ∧
    (∃ (d : Dev) (n idx : Nat) (i : Instr), d.alone = true ∧ d.responds Reg.HDMA_ABORT.addr = true ∧ d.hdma.abort = none ∧ n < 64 ∧
      56 ≤ n ∧ (i = .abortOne n idx ∨ i = .abortScope n idx)) ∧
    (∃ (d : Dev) (n idx : Nat) (i : Instr), d.alone = true ∧ d.responds Reg.HDMA_ABORT.addr = true ∧ d.hdma.abort = none ∧ n < 64 ∧
      d.ringEnabled n = false ∧ (i = .abortOne n idx ∨ i = .abortScope n idx)) ∧
    (∃ (d : Dev) (n idx : Nat) (i : Instr), d.alone = true ∧ d.responds Reg.HDMA_ABORT.addr = true ∧ d.hdma.abort = none ∧ n < 64 ∧
      d.ringSlots n ≤ idx ∧ (i = .abortOne n idx ∨ i = .abortScope n idx)) ∧
    (∃ (d : Dev) (n idx : Nat) (i : Instr), d.alone = true ∧ d.responds Reg.HDMA_ABORT.addr = true ∧ d.hdma.abort = none ∧ n < 64 ∧
      d.ringDiff n (d.ringTail n) (d.ringHead n) ≤ d.ringDiff n idx (d.ringHead n) ∧ (i = .abortOne n idx ∨ i = .abortScope n idx)) ∧
    (∃ (d : Dev) (n idx : Nat) (i : Instr), d.alone = true ∧ d.responds Reg.HDMA_ABORT.addr = true ∧ d.hdma.abort = none ∧ n < 64 ∧
      (56 ≤ n ∨ d.ringEnabled n = false ∨ d.ringSlots n ≤ idx ∨ d.ringDiff n (d.ringTail n) (d.ringHead n) ≤ d.ringDiff n idx (d.ringHead n)) ∧
      i = .abortOne n idx) ∧
    (∃ (d : Dev) (n idx : Nat) (i : Instr), d.alone = true ∧ d.responds Reg.HDMA_ABORT.addr = true ∧ d.hdma.abort = none ∧ n < 64 ∧
      (56 ≤ n ∨ d.ringEnabled n = false ∨ d.ringSlots n ≤ idx ∨ d.ringDiff n (d.ringTail n) (d.ringHead n) ≤ d.ringDiff n idx (d.ringHead n)) ∧
      i = .abortScope n idx) ∧
    (∃ (d : Dev) (n idx : Nat) (a : Abort) (i : Instr), d.alone = true ∧ d.responds Reg.HDMA_ABORT.addr = true ∧ d.hdma.abort = some a ∧
      n < 64 ∧ i = .abortOne n idx) ∧
    (∃ (d : Dev) (n idx : Nat) (a : Abort) (i : Instr), d.alone = true ∧ d.responds Reg.HDMA_ABORT.addr = true ∧ d.hdma.abort = some a ∧
      n < 64 ∧ i = .abortScope n idx) ∧
    (∃ (d : Dev) (a : Abort), d.alone = true ∧ d.responds Reg.HDMA_ABORT.addr = true ∧ d.hdma.abort = some a ∧ a.slots = [] ∧
      a.ring < 48 ∧ (d.ctx 0).stopping = none) ∧
    (∃ (d : Dev) (n idx : Nat), d.alone = true ∧ d.responds Reg.HDMA_ABORT.addr = true ∧ d.hdma.abort = some ⟨n, idx, [idx], 0⟩ ∧ n < 48 ∧
      (d.ctx 0).stopping = none ∧ idx = d.ringHead n ∧ idx ≠ d.ringTail n ∧ d.completionHeld n = false ∧ (d.ring n).copy = none ∧
      d.ringState n = RingState.stopped) ∧
    (∃ (d : Dev) (n idx : Nat) (c : CopyJob), d.alone = true ∧ d.responds Reg.HDMA_ABORT.addr = true ∧ d.hdma.abort = some ⟨n, idx, [idx],
      0⟩ ∧ n < 48 ∧ (d.ctx 0).stopping = none ∧ idx = d.ringHead n ∧ idx ≠ d.ringTail n ∧ d.completionHeld n = false ∧
      (d.ring n).copy = some c) :=
  ⟨⟨(rung 0 RingState.running 0 3), 0, 2, by decide +kernel⟩,
   ⟨(rung 63 RingState.running 0 3), 63, 0, (.abortScope (63 : Nat) (0 : Nat)), by decide +kernel⟩,
   ⟨(put [(Reg.HDMA_RING_CTL.enable 0, 0)] (rung 0 RingState.running 0 3)), 0, 2, (.abortOne (0 : Nat) (2 : Nat)), by decide +kernel⟩,
   ⟨(put [(Reg.HDMA_RING_CFG.size_log2 0, 4)] (rung 0 RingState.running 0 3)), 0, 16, (.abortOne (0 : Nat) (16 : Nat)), by decide +kernel⟩,
   ⟨(rung 0 RingState.running 0 3), 0, 3, (.abortOne (0 : Nat) (3 : Nat)), by decide +kernel⟩,
   ⟨(rung 0 RingState.running 0 3), 0, 3, (.abortOne (0 : Nat) (3 : Nat)), by decide +kernel⟩,
   ⟨(rung 63 RingState.running 0 3), 63, 0, (.abortScope (63 : Nat) (0 : Nat)), by decide +kernel⟩,
   ⟨((rung 0 RingState.running 0 3).modHdma fun h => { h with abort := some ⟨0, 0, [], 0⟩ }), 0, 0,
     ((((rung 0 RingState.running 0 3).modHdma fun h => { h with abort := some ⟨0, 0, [], 0⟩ }).hdma.abort).getD (⟨0, 0, [], 0⟩ : Abort)),
     (.abortOne (0 : Nat) (0 : Nat)), by decide +kernel⟩,
   ⟨((rung 0 RingState.running 0 3).modHdma fun h => { h with abort := some ⟨0, 0, [], 0⟩ }), 0, 0,
     ((((rung 0 RingState.running 0 3).modHdma fun h => { h with abort := some ⟨0, 0, [], 0⟩ }).hdma.abort).getD (⟨0, 0, [], 0⟩ : Abort)),
     (.abortScope (0 : Nat) (0 : Nat)), by decide +kernel⟩,
   ⟨((rung 0 RingState.running 0 3).modHdma fun h => { h with abort := some ⟨0, 0, [], 0⟩ }),
     ((((rung 0 RingState.running 0 3).modHdma fun h => { h with abort := some ⟨0, 0, [], 0⟩ }).hdma.abort).getD (⟨0, 0, [], 0⟩ : Abort)),
     by decide +kernel⟩,
   ⟨((rung 47 RingState.stopped 0 3).modHdma fun h => { h with abort := some ⟨47, 0, [0], 0⟩ }), 47, 0, by decide +kernel⟩,
   ⟨((rung 47 RingState.running 0 3).modHdma fun h => { h with abort := some ⟨47, 0, [0], 0⟩, rings := [(47, { Ring.idle with copy := some (copyOf 0 (List.replicate 32 0#8)) })] }),
     47, 0,
     (((((rung 47 RingState.running 0 3).modHdma fun h => { h with abort := some ⟨47, 0, [0], 0⟩, rings := [(47, { Ring.idle with copy := some (copyOf 0 (List.replicate 32 0#8)) })] }).ring (47 : Nat)).copy).getD (⟨0,
     0, 0, 0, 0, 0, 0, 0, [], [], none, [], none, [], []⟩ : CopyJob)), by decide +kernel⟩⟩

end AbortsTakeTheirScopeAndAreRecorded

namespace NopSignalAndTheParametersSetAndGoOn

/-- Each clause's hypotheses are met together. -/
theorem witness :
    (∃ (d : Dev) (k : Nat) (w : BitVec 56), d.canRun k 1 = true ∧ reservedBad w.toNat 0xF8001FFFFFFFFF = false) ∧
    (∃ (d : Dev) (k : Nat) (v : BitVec 48), d.canRun k 1 = true ∧ v.toNat < 2 ^ 40 ∧ d.openJob k = none ∧ v.toNat % 64 = 0) ∧
    (∃ (d : Dev) (k : Nat) (v : BitVec 48), d.canRun k 1 = true ∧ v.toNat < 2 ^ 40 ∧ d.openJob k = none ∧ v.toNat ≠ 1) ∧
    (∃ (d : Dev) (k : Nat) (v : BitVec 48), d.canRun k 1 = true ∧ v.toNat < 2 ^ 40 ∧ k = 0 ∧ d.pageIsOpen = false ∧ v.toNat % 4096 = 0) ∧
    (∃ (d : Dev) (k : Nat) (v : BitVec 48), d.canRun k 1 = true ∧ v.toNat < 2 ^ 40 ∧ v.toNat < 8) ∧
    (∃ (d : Dev) (k : Nat) (v : BitVec 48), d.canRun k 1 = true ∧ v.toNat < 2 ^ 40 ∧ v.toNat % 64 = 0 ∧
      d.inFitted v.toNat (2 ^ 20) = true) ∧
    (∃ (d : Dev) (k : Nat) (v : BitVec 48), d.canRun k 1 = true ∧ v.toNat < 2 ^ 40 ∧ v.toNat % 4096 = 0 ∧
      d.inFitted v.toNat defectTableBytes = true) ∧
    (∃ (d : Dev) (k : Nat) (v : BitVec 48), d.canRun k 1 = true ∧ v.toNat < 2 ^ 40 ∧ v.toNat < 2 ^ 17) ∧
    (∃ (d : Dev) (k : Nat) (v : BitVec 48), d.canRun k 1 = true ∧ v.toNat < 2 ^ 40 ∧ v.toNat < 2 ^ 12) ∧
    (∃ (d : Dev) (k : Nat) (v : BitVec 48), d.canRun k 1 = true ∧ v.toNat < 2 ^ 40 ∧ d.mode = Mode.service ∧ v.toNat < 2 ^ 36 ∧
      v.toNat % 2 ^ 16 ≠ 0 ∧ v.toNat / 2 ^ 32 % 16 ≠ 0 ∧ (d.fld Reg.PAC_RECOVERY.rec_ns + 999) / 1000 ≤ v.toNat / 2 ^ 16 % 2 ^ 16) :=
  ⟨⟨(runs 7), 7, 0x08001F00000000#56, by decide +kernel⟩,
   ⟨(runs 7), 7, 0#48, by decide +kernel⟩,
   ⟨(runs 7), 7, 0#48, by decide +kernel⟩,
   ⟨(runs 0), 0, 0x3FFF000#48, by decide +kernel⟩,
   ⟨(runs 7), 7, 0#48, by decide +kernel⟩,
   ⟨(runs 7), 7, 0#48, by decide +kernel⟩,
   ⟨(runs 7), 7, 0#48, by decide +kernel⟩,
   ⟨(runs 7), 7, 0#48, by decide +kernel⟩,
   ⟨(runs 7), 7, 0#48, by decide +kernel⟩,
   ⟨(runs 7 service), 7, 0xFFFFFFFFF#48, by decide +kernel⟩⟩

end NopSignalAndTheParametersSetAndGoOn

namespace ACommandThatFailsACheckEndsItsContext

/-- Each clause's hypotheses are met together. -/
theorem witness :
    (∃ (d : Dev) (k op : Nat), d.canRun k 1 = true ∧ op = 0x07) ∧
    (∃ (d : Dev) (k op : Nat), d.canRun k 1 = true ∧ op = 0x10) ∧
    (∃ (d : Dev) (k op : Nat), d.canRun k 1 = true ∧ op = 0x7F) ∧
    (∃ (d : Dev) (k op : Nat), d.canRun k 1 = true ∧ op = 0xFF) ∧
    (∃ (d : Dev) (k : Nat) (w : BitVec 56), d.canRun k 1 = true ∧ w ≠ 0) ∧
    (∃ (d : Dev) (k : Nat), d.canRun k 1 = true ∧ d.ctxPc k % 4096 = 0xFF0) ∧
    (∃ (d : Dev) (k : Nat) (w : BitVec 56), d.canRun k 1 = true ∧ k ≠ 0 ∧ reservedBad w.toNat 0 = false) ∧
    (∃ (d : Dev) (k : Nat), d.canRun k 1 = true ∧ d.openJob k = none) ∧
    (∃ (d : Dev) (k : Nat) (v : BitVec 48), d.canRun k 1 = true ∧ v.toNat < 2 ^ 40 ∧ 8 ≤ v.toNat) ∧
    (∃ (d : Dev) (k : Nat) (v : BitVec 48) (p : BitVec 8), d.canRun k 1 = true ∧ v.toNat < 2 ^ 40 ∧ paramDefined p.toNat = false) ∧
    (∃ (d : Dev) (k : Nat) (v : BitVec 48), d.canRun k 1 = true ∧ v.toNat < 2 ^ 40 ∧ k ≠ 0) ∧
    (∃ (d : Dev) (k : Nat) (w : BitVec 56), d.canRun k 1 = true ∧ reservedBad w.toNat 0xFFFFFFFFF8 = false ∧ d.inFitted w.toNat 8 = true ∧
      w.toNat % 4096 ≠ 0xFF8 ∧ 8 ≤ (d.ctx k).stack.length) ∧
    (∃ (d : Dev) (k : Nat), d.canRun k 1 = true ∧ (d.ctx k).stack = []) :=
  ⟨⟨(runs 7), 7, 0x07, by decide +kernel⟩,
   ⟨(runs 7), 7, 0x10, by decide +kernel⟩,
   ⟨(runs 7), 7, 0x7F, by decide +kernel⟩,
   ⟨(ctxAt 0 CtxState.running 0x10FF0 standby), 0, 0xFF, by decide +kernel⟩,
   ⟨(runs 7), 7, 1#56, by decide +kernel⟩,
   ⟨(ctxAt 0 CtxState.running 0x10FF0 standby), 0, by decide +kernel⟩,
   ⟨(setCtx 7 { Ctx.idle with stack := List.replicate 8 (0, 0) } (runs 7)), 7, 0#56, by decide +kernel⟩,
   ⟨(runs 7), 7, by decide +kernel⟩,
   ⟨(runs 7), 7, 8#48, by decide +kernel⟩,
   ⟨(runs 7), 7, 8#48, 0xFF#8, by decide +kernel⟩,
   ⟨(runs 7), 7, 8#48, by decide +kernel⟩,
   ⟨(setCtx 7 { Ctx.idle with stack := List.replicate 8 (0, 0) } (runs 7)), 7, 0x11000#56, by decide +kernel⟩,
   ⟨(runs 7), 7, by decide +kernel⟩⟩

end ACommandThatFailsACheckEndsItsContext

namespace CallReturnAndBarrierSteerTheContext

/-- Each clause's hypotheses are met together. -/
theorem witness :
    (∃ (d : Dev) (k : Nat) (w : BitVec 56), d.canRun k 1 = true ∧ reservedBad w.toNat 0xFFFFFFFFF8 = false ∧ d.inFitted w.toNat 8 = true ∧
      w.toNat % 4096 ≠ 0xFF8 ∧ (d.ctx k).stack.length < 8 ∧ d.blockBad w.toNat = false) ∧
    (∃ (d : Dev) (k a g : Nat) (rest : List (Nat × Nat)), d.canRun k 1 = true ∧ (d.ctx k).stack = (a, g) :: rest) ∧
    (∃ (d : Dev) (k : Nat), d.canRun k 1 = true ∧ d.inPage k = false ∧ d.barrierMet k = true) ∧
    (∃ (d : Dev) (k : Nat), d.canRun k 1 = true ∧ d.inPage k = false ∧ d.barrierMet k = false) :=
  ⟨⟨(setCtx 7 { Ctx.idle with stack := List.replicate 7 (0x2000, 3) } (runs 7)), 7, 0x11FF0#56, by decide +kernel⟩,
   ⟨(setCtx 7 { Ctx.idle with stack := List.replicate 7 (0x2000, 3) } (runs 7)), 7, 0x2000, 3, (List.replicate 6 (0x2000, 3)),
     by decide +kernel⟩,
   ⟨(setCtx 7 { Ctx.idle with stack := List.replicate 7 (0x2000, 3) } (runs 7)), 7, by decide +kernel⟩,
   ⟨(setCtx 7 { Ctx.idle with drops := [1] } ((runs 7).modRun fun r => { r with defs := [(1, TileDef.empty)] })), 7, by decide +kernel⟩⟩

end CallReturnAndBarrierSteerTheContext

namespace WaitsGoOnWaitAndEndWithTheirCondition

def isTile : Waiting → Bool
  | .tile _ => true
  | _ => false

/-- Each clause's hypotheses are met together. -/
theorem witness :
    (∃ (d : Dev) (k : Nat) (w : BitVec 52) (i : Instr) (x : Waiting), d.canRun k 1 = true ∧ (w.toNat < 2 ^ 32 ∧ i = .waitTime k w ∧
      x = .time (d.tb2ns + w.toNat * 1000)) ∧ d.waitState k x = .holds) ∧
    (∃ (d : Dev) (k : Nat) (w : BitVec 52) (i : Instr) (x : Waiting), d.canRun k 1 = true ∧ (w.toNat < 2 ^ 37 ∧ i = .waitSync k w ∧
      x = .sync (w.toNat / 2 ^ 32) (w.toNat % 2 ^ 32)) ∧ d.waitState k x = .holds) ∧
    (∃ (d : Dev) (k : Nat) (w : BitVec 52) (i : Instr) (x : Waiting), d.canRun k 1 = true ∧ (w.toNat < 64 ∧ i = .waitAxis k w ∧
      x = .axis w.toNat 0) ∧ d.waitState k x = .holds) ∧
    (∃ (d : Dev) (k : Nat) (w : BitVec 52) (i : Instr) (x : Waiting), d.canRun k 1 = true ∧ (w = 0 ∧ i = .waitMsr k w ∧ x = .msr) ∧
      d.waitState k x = .holds) ∧
    (∃ (d : Dev) (k : Nat) (w : BitVec 52) (i : Instr) (x : Waiting), d.canRun k 1 = true ∧ (w.toNat < 2 ^ 32 ∧ i = .waitPage k w ∧
      x = .page (d.openJob 0) w.toNat) ∧ d.waitState k x = .holds) ∧
    (∃ (d : Dev) (k : Nat) (w : BitVec 52) (i : Instr) (x : Waiting), d.canRun k 1 = true ∧ (w.toNat < 2 ^ 32 ∧ i = .waitTime k w ∧
      x = .time (d.tb2ns + w.toNat * 1000)) ∧ d.waitState k x = .notYet) ∧
    (∃ (d : Dev) (k : Nat) (w : BitVec 52) (i : Instr) (x : Waiting), d.canRun k 1 = true ∧ (w.toNat < 2 ^ 37 ∧ i = .waitSync k w ∧
      x = .sync (w.toNat / 2 ^ 32) (w.toNat % 2 ^ 32)) ∧ d.waitState k x = .notYet) ∧
    (∃ (d : Dev) (k : Nat) (w : BitVec 52) (i : Instr) (x : Waiting), d.canRun k 1 = true ∧ (w.toNat < 64 ∧ i = .waitAxis k w ∧
      x = .axis w.toNat 0) ∧ d.waitState k x = .notYet) ∧
    (∃ (d : Dev) (k : Nat) (w : BitVec 52) (i : Instr) (x : Waiting), d.canRun k 1 = true ∧ (w = 0 ∧ i = .waitMsr k w ∧ x = .msr) ∧
      d.waitState k x = .notYet) ∧
    (∃ (d : Dev) (k : Nat) (w : BitVec 52) (i : Instr) (x : Waiting), d.canRun k 1 = true ∧ (w.toNat < 2 ^ 32 ∧ i = .waitPage k w ∧
      x = .page (d.openJob 0) w.toNat) ∧ d.waitState k x = .notYet) ∧
    (∃ (d : Dev) (k : Nat) (w : BitVec 52) (c : Nat), d.canRun k 1 = true ∧ w.toNat < 2 ^ 24 ∧ Tab.find d.run.dir w.toNat = some c ∧
      (d.tileDef c).failed = none ∧ d.cached c = true) ∧
    (∃ (d : Dev) (k : Nat) (w : BitVec 52) (c : Nat), d.canRun k 1 = true ∧ w.toNat < 2 ^ 24 ∧ Tab.find d.run.dir w.toNat = some c ∧
      (d.tileDef c).failed = none ∧ d.cached c = false) ∧
    (∃ (d : Dev) (k : Nat) (w : BitVec 52), d.canRun k 1 = true ∧ w.toNat < 2 ^ 24 ∧ Tab.find d.run.dir w.toNat = none) ∧
    (∃ (d : Dev) (k : Nat), k < 8 ∧ d.seqGoes = true ∧ d.waitsRefetch (.seqBlock k) = false ∧ d.ctxState k = CtxState.stalled ∧
      (d.ctx k).held = some ⟨0x24 * 2 ^ 56, 0, 0⟩ ∧ d.barrierMet k = true) ∧
    (∃ (d : Dev) (k : Nat), k < 8 ∧ d.seqGoes = true ∧ d.waitsRefetch (.seqBlock k) = false ∧ d.ctxState k = CtxState.waiting ∧
      (d.ctx k).held = none ∧ d.waitState k (d.ctx k).wait = .holds) ∧
    (∃ (d : Dev) (k c : Nat), k < 8 ∧ d.seqGoes = true ∧ d.waitsRefetch (.seqBlock k) = false ∧ c < 256 ∧
      d.ctxState k = CtxState.waiting ∧ (d.ctx k).held = none ∧ d.waitState k (d.ctx k).wait = .fails c) ∧
    (∃ (d : Dev) (k : Nat), k < 8 ∧ d.seqGoes = true ∧ d.waitsRefetch (.seqBlock k) = false ∧ d.ctxState k = CtxState.waiting ∧
      (d.ctx k).held = none ∧ d.waitState k (d.ctx k).wait = .notYet ∧ (∀ t, (d.ctx k).wait ≠ .tile t)) :=
  ⟨⟨(runs 7), 7, 0#52, (.waitTime (7 : Nat) (0#52)), (.time ((runs 7).tb2ns + (0#52).toNat * 1000)), by decide +kernel⟩,
   ⟨(put [(Reg.GLB_MODE.mode, 6)] (runs 7)), 7, 0x1F00000000#52, (.waitSync (7 : Nat) (0x1F00000000#52)),
     (.sync ((0x1F00000000#52).toNat / 2 ^ 32) ((0x1F00000000#52).toNat % 2 ^ 32)), by decide +kernel⟩,
   ⟨(runs 7), 7, 63#52, (.waitAxis (7 : Nat) (63#52)), (.axis (63#52).toNat 0), by decide +kernel⟩,
   ⟨(runs 7), 7, 0#52, (.waitMsr (7 : Nat) (0#52)), .msr, by decide +kernel⟩,
   ⟨(withPage { pg with recorded := true } (withJob 0 Ctx.idle { Job.empty with closed := false } (runs 7))), 7, 0#52,
     (.waitPage (7 : Nat) (0#52)),
     (.page ((withPage { pg with recorded := true } (withJob 0 Ctx.idle { Job.empty with closed := false } (runs 7))).openJob 0) (0#52).toNat),
     by decide +kernel⟩,
   ⟨(runs 7), 7, 0xFFFFFFFF#52, (.waitTime (7 : Nat) (0xFFFFFFFF#52)), (.time ((runs 7).tb2ns + (0xFFFFFFFF#52).toNat * 1000)),
     by decide +kernel⟩,
   ⟨(runs 7), 7, 0x1F00000001#52, (.waitSync (7 : Nat) (0x1F00000001#52)),
     (.sync ((0x1F00000001#52).toNat / 2 ^ 32) ((0x1F00000001#52).toNat % 2 ^ 32)), by decide +kernel⟩,
   ⟨((put [(Reg.MOT_AX_CFG.en 5,
     1)] (runs 7)).modMot fun t => { t with axes := Tab.set [] Axis.rest 5 { Axis.rest with moving := true } }), 7, 0x20#52,
     (.waitAxis (7 : Nat) (0x20#52)), (.axis (0x20#52).toNat 0), by decide +kernel⟩,
   ⟨((runs 7).modMsr fun m => { m with vsets := [⟨7, 1, 0, false⟩] }), 7, 0#52, (.waitMsr (7 : Nat) (0#52)), .msr, by decide +kernel⟩,
   ⟨(runs 7), 7, 5#52, (.waitPage (7 : Nat) (5#52)), (.page ((runs 7).openJob 0) (5#52).toNat), by decide +kernel⟩,
   ⟨((runs 7).modRun fun r => { r with dir := [(5, 1)], defs := [(1, { TileDef.empty with current := true })], cache := [(1, ⟨[], false, 0⟩)] }),
     7, 5#52, 1, by decide +kernel⟩,
   ⟨((runs 7).modRun fun r => { r with dir := [(5, 1)], defs := [(1, { TileDef.empty with current := true })], cache := [] }), 7, 5#52, 1,
     by decide +kernel⟩,
   ⟨(runs 7), 7, 0#52, by decide +kernel⟩,
   ⟨(setCtx 0 { Ctx.idle with held := some ⟨0x24 * 2 ^ 56, 0, 0⟩ } (ctxAt 0 CtxState.stalled 0x10000 standby)), 0, by decide +kernel⟩,
   ⟨(setCtx 7 { Ctx.idle with wait := .axis 1 0 } (ctxAt 7 CtxState.waiting 0x10000 standby)), 7, by decide +kernel⟩,
   ⟨(setCtx 7 { Ctx.idle with wait := .axis 1 1 } (ctxAt 7 CtxState.waiting 0x10000 standby)), 7, Detail.axisState, by decide +kernel⟩,
   ⟨(setCtx 7 { Ctx.idle with wait := .page none 3 } (ctxAt 7 CtxState.waiting 0x10000 standby)), 7, by decide +kernel, by decide +kernel,
     by decide +kernel, by decide +kernel, by decide +kernel, by decide +kernel,
     (fun _ h => absurd ((Eq.symm (by decide +kernel)).trans (congrArg isTile h)) Bool.false_ne_true)⟩⟩

end WaitsGoOnWaitAndEndWithTheirCondition

namespace JobsBeginEndAndKeepTheirLog

/-- Each clause's hypotheses are met together. -/
theorem witness :
    (∃ (d : Dev) (k : Nat) (w : BitVec 56), d.canRun k 1 = true ∧ reservedBad w.toNat 0xFFFFFFFF = false ∧ d.openJob k = none ∧
      (d.ctx k).logLen = 0 ∧ k ≠ 0) ∧
    (∃ (d : Dev) (k : Nat) (w : BitVec 56), d.canRun k 1 = true ∧ reservedBad w.toNat 0xFFFFFFFF = false ∧ d.openJob k = none ∧
      d.inFitted (d.ctx k).logBase (32 * (d.ctx k).logLen) = true ∧ k ≠ 0) ∧
    (∃ (d : Dev) (k : Nat) (w : BitVec 56), d.canRun k 1 = true ∧ reservedBad w.toNat 0xFFFFFFFF = false ∧ d.openJob k = none ∧
      (d.ctx k).logLen = 0 ∧ k = 0 ∧ d.mode = Mode.standby ∧ d.marginImage = false) ∧
    (∃ (d : Dev) (k : Nat) (w : BitVec 56), d.canRun k 1 = true ∧ reservedBad w.toNat 0xFFFFFFFF = false ∧ d.openJob k = none ∧
      d.inFitted (d.ctx k).logBase (32 * (d.ctx k).logLen) = true ∧ k = 0 ∧ d.mode = Mode.standby ∧ d.marginImage = false) ∧
    (∃ (d : Dev) (k : Nat) (w : BitVec 56), d.canRun k 1 = true ∧ reservedBad w.toNat 0xFFFFFFFF = false ∧ d.openJob k = none ∧
      (d.ctx k).logLen = 0 ∧ k = 0 ∧ (d.mode = Mode.service ∨ d.mode = Mode.calibrate ∨ d.exitDue = true)) ∧
    (∃ (d : Dev) (k : Nat) (w : BitVec 56), d.canRun k 1 = true ∧ reservedBad w.toNat 0xFFFFFFFF = false ∧ d.openJob k = none ∧
      d.inFitted (d.ctx k).logBase (32 * (d.ctx k).logLen) = true ∧ k = 0 ∧
      (d.mode = Mode.service ∨ d.mode = Mode.calibrate ∨ d.exitDue = true)) ∧
    (∃ (d : Dev) (k : Nat) (w : BitVec 56), d.canRun k 1 = true ∧ reservedBad w.toNat 0xFFFFFFFF = false ∧ d.openJob k = none ∧
      ((d.ctx k).logLen = 0 ∨ d.inFitted (d.ctx k).logBase (32 * (d.ctx k).logLen) = true) ∧ k = 0 ∧ d.mode = Mode.service) ∧
    (∃ (d : Dev) (k : Nat) (w : BitVec 56), d.canRun k 1 = true ∧ reservedBad w.toNat 0xFFFFFFFF = false ∧ d.openJob k = none ∧
      ((d.ctx k).logLen = 0 ∨ d.inFitted (d.ctx k).logBase (32 * (d.ctx k).logLen) = true) ∧ k = 0 ∧ d.mode = Mode.calibrate) ∧
    (∃ (d : Dev) (k : Nat) (w : BitVec 56), d.canRun k 1 = true ∧ reservedBad w.toNat 0xFFFFFFFF = false ∧ d.openJob k = none ∧
      ((d.ctx k).logLen = 0 ∨ d.inFitted (d.ctx k).logBase (32 * (d.ctx k).logLen) = true) ∧ k = 0 ∧ d.exitDue = true) ∧
    (∃ (d : Dev) (k : Nat) (w : BitVec 56), d.canRun k 1 = true ∧ reservedBad w.toNat 0xFFFFFFFF = false ∧ d.openJob k = none ∧
      (d.ctx k).logLen = 0 ∧ k = 0 ∧ Mode.isPrint d.mode = true ∧ d.exitDue = false) ∧
    (∃ (d : Dev) (k : Nat) (w : BitVec 56), d.canRun k 1 = true ∧ reservedBad w.toNat 0xFFFFFFFF = false ∧ d.openJob k = none ∧
      d.inFitted (d.ctx k).logBase (32 * (d.ctx k).logLen) = true ∧ k = 0 ∧ Mode.isPrint d.mode = true ∧ d.exitDue = false) ∧
    (∃ (d : Dev) (k js : Nat), d.canRun k 1 = true ∧ d.openJob k = some js ∧ d.inPage k = false) ∧
    (∃ (d : Dev) (k js : Nat) (w : BitVec 56), d.canRun k 1 = true ∧ d.openJob k = some js ∧ reservedBad w.toNat 0xFFFFFFFFFFFF = false ∧
      (d.job js).log.written + 1 < (d.job js).log.len) ∧
    (∃ (d : Dev) (k js : Nat) (w : BitVec 56), d.canRun k 1 = true ∧ d.openJob k = some js ∧ reservedBad w.toNat 0xFFFFFFFFFFFF = false ∧
      (d.job js).log.len = 0) :=
  ⟨⟨(runs 7), 7, 0xFFFFFFFF#56, by decide +kernel⟩,
   ⟨(runs 7), 7, 0xFFFFFFFF#56, by decide +kernel⟩,
   ⟨(runs 0), 0, 7#56, by decide +kernel⟩,
   ⟨(runs 0), 0, 7#56, by decide +kernel⟩,
   ⟨(runs 0 service), 0, 7#56, by decide +kernel⟩,
   ⟨(runs 0 service), 0, 7#56, by decide +kernel⟩,
   ⟨(runs 0 service), 0, 7#56, by decide +kernel⟩,
   ⟨(runs 0 ((inMode 3).setFld Reg.MEM_SIZE.fitted_64m 1024)), 0, 7#56, by decide +kernel⟩,
   ⟨(runs 0 web), 0, 7#56, by decide +kernel⟩,
   ⟨(withPage pg (runs 0 web)), 0, 0xFFFFFFFF#56, by decide +kernel⟩,
   ⟨(withPage pg (runs 0 web)), 0, 0xFFFFFFFF#56, by decide +kernel⟩,
   ⟨(withJob 7 Ctx.idle { Job.empty with closed := false, log := ⟨0x1000, 2, 0, 0, false⟩ } (runs 7)), 7,
     (((withJob 7 Ctx.idle { Job.empty with closed := false, log := ⟨0x1000, 2, 0, 0, false⟩ } (runs 7)).openJob (7 : Nat)).getD 0),
     by decide +kernel⟩,
   ⟨(withJob 7 Ctx.idle { Job.empty with closed := false, log := ⟨0x1000, 2, 0, 0, false⟩ } (runs 7)), 7,
     (((withJob 7 Ctx.idle { Job.empty with closed := false, log := ⟨0x1000, 2, 0, 0, false⟩ } (runs 7)).openJob (7 : Nat)).getD 0),
     0xFFFFFFFFFFFF#56, by decide +kernel⟩,
   ⟨(withJob 0 Ctx.idle { Job.empty with closed := false } (runs 0)), 0,
     (((withJob 0 Ctx.idle { Job.empty with closed := false } (runs 0)).openJob (0 : Nat)).getD 0), 1#56, by decide +kernel⟩⟩

end JobsBeginEndAndKeepTheirLog

namespace PagesOpenCloseAndTakeTheirPasses

/-- Each clause's hypotheses are met together. -/
theorem witness :
    (∃ (d : Dev) (js : Nat) (w : BitVec 56), d.canRun 0 1 = true ∧ d.openJob 0 = some js ∧ d.seq.openPage = none ∧
      reservedBad w.toNat 0xF80000FFFFFFFF = false ∧ w.toNat % 2 ^ 32 ≠ 0 ∧ w.toNat.testBit 54 = false) ∧
    (∃ (d : Dev) (js n : Nat) (g : Staging), d.canRun 0 1 = true ∧ d.openJob 0 = some js ∧ d.seq.openPage = some n ∧ d.isScan = false ∧
      d.cmp.staging = some g ∧ g.page = n ∧ bandsOf (d.page n).length ≤ g.band + 1) ∧
    (∃ (d : Dev) (js n : Nat), d.canRun 0 1 = true ∧ d.openJob 0 = some js ∧ d.seq.openPage = some n ∧ d.isScan = false ∧
      d.cmp.staging = none) ∧
    (∃ (d : Dev) (js : Nat) (w : BitVec 56), d.canRun 0 1 = true ∧ d.openJob 0 = some js ∧ d.seq.openPage = none ∧ d.isScan = false ∧
      d.isWeb = true ∧ reservedBad w.toNat 0xFFFFFFFF = false ∧ w.toNat % 2 ^ 32 ≠ 0) ∧
    (∃ (d : Dev) (js : Nat) (w : BitVec 56), d.canRun 0 1 = true ∧ d.openJob 0 = some js ∧ d.seq.openPage = none ∧
      reservedBad w.toNat 0xFFFFFFFF = false ∧ w.toNat % 2 ^ 32 ≠ 0 ∧ d.flag Reg.RUN_PCACHE_STAT.overflow = false ∧
      d.flag Reg.RUN_PCACHE_STAT.committed = true ∧ d.unfinishedPage = none) ∧
    (∃ (d : Dev) (js n : Nat) (w : BitVec 56), d.canRun 0 1 = true ∧ d.openJob 0 = some js ∧ d.seq.openPage = some n ∧ d.isScan = true ∧
      w.toNat < 64 ∧ (d.page n).covered < (d.page n).length) ∧
    (∃ (d : Dev) (js n first : Nat), d.canRun 0 1 = true ∧ d.openJob 0 = some js ∧ d.seq.openPage = some n ∧ d.isScan = true ∧
      (d.page n).lastPass = some first) :=
  ⟨⟨(withJob 0 Ctx.idle { Job.empty with closed := false } (runs 0 web)),
     (((withJob 0 Ctx.idle { Job.empty with closed := false } (runs 0 web)).openJob 0).getD 0), 0x00000000000001#56, by decide +kernel⟩,
   ⟨(withPage pg (withJob 0 Ctx.idle { Job.empty with closed := false } ((runs 0 web).modCmp fun c => { c with staging := some stg }))),
     (((withPage pg (withJob 0 Ctx.idle { Job.empty with closed := false } ((runs 0 web).modCmp fun c => { c with staging := some stg }))).openJob 0).getD 0),
     (((withPage pg (withJob 0 Ctx.idle { Job.empty with closed := false } ((runs 0 web).modCmp fun c => { c with staging := some stg }))).seq.openPage).getD 0),
     (((withPage pg (withJob 0 Ctx.idle { Job.empty with closed := false } ((runs 0 web).modCmp fun c => { c with staging := some stg }))).cmp.staging).getD (⟨0,
     0, 0, false, [], false, [], [], 0, [], [], false⟩ : Staging)), by decide +kernel⟩,
   ⟨(withPage pg (withJob 0 Ctx.idle { Job.empty with closed := false } (runs 0 web))),
     (((withPage pg (withJob 0 Ctx.idle { Job.empty with closed := false } (runs 0 web))).openJob 0).getD 0),
     (((withPage pg (withJob 0 Ctx.idle { Job.empty with closed := false } (runs 0 web))).seq.openPage).getD 0), by decide +kernel⟩,
   ⟨(withJob 0 Ctx.idle { Job.empty with closed := false } (runs 0 web)),
     (((withJob 0 Ctx.idle { Job.empty with closed := false } (runs 0 web)).openJob 0).getD 0), 0x00000000000001#56, by decide +kernel⟩,
   ⟨(put [(Reg.RUN_PCACHE_STAT.committed, 1)] (withJob 0 Ctx.idle { Job.empty with closed := false } (runs 0 web))),
     (((put [(Reg.RUN_PCACHE_STAT.committed, 1)] (withJob 0 Ctx.idle { Job.empty with closed := false } (runs 0 web))).openJob 0).getD 0),
     1#56, by decide +kernel⟩,
   ⟨(put [(Reg.PAC_CFG.print_mode, 2)] (withPage pg (withJob 0 Ctx.idle { Job.empty with closed := false } (runs 0 web)))),
     (((put [(Reg.PAC_CFG.print_mode,
     2)] (withPage pg (withJob 0 Ctx.idle { Job.empty with closed := false } (runs 0 web)))).openJob 0).getD 0),
     (((put [(Reg.PAC_CFG.print_mode,
     2)] (withPage pg (withJob 0 Ctx.idle { Job.empty with closed := false } (runs 0 web)))).seq.openPage).getD 0), 63#56,
     by decide +kernel⟩,
   ⟨(put [(Reg.PAC_CFG.print_mode,
     2)] (withPage { pg with lastPass := some 0 } (withJob 0 Ctx.idle { Job.empty with closed := false } ((runs 0 web).modPac fun p => { p with passes := [⟨3, 0, 0, 1, 0, false, false⟩] })))),
     (((put [(Reg.PAC_CFG.print_mode,
     2)] (withPage { pg with lastPass := some 0 } (withJob 0 Ctx.idle { Job.empty with closed := false } ((runs 0 web).modPac fun p => { p with passes := [⟨3, 0, 0, 1, 0, false, false⟩] })))).openJob 0).getD 0),
     (((put [(Reg.PAC_CFG.print_mode,
     2)] (withPage { pg with lastPass := some 0 } (withJob 0 Ctx.idle { Job.empty with closed := false } ((runs 0 web).modPac fun p => { p with passes := [⟨3, 0, 0, 1, 0, false, false⟩] })))).seq.openPage).getD 0),
     ((((put [(Reg.PAC_CFG.print_mode,
     2)] (withPage { pg with lastPass := some 0 } (withJob 0 Ctx.idle { Job.empty with closed := false } ((runs 0 web).modPac fun p => { p with passes := [⟨3, 0, 0, 1, 0, false, false⟩] })))).page (((put [(Reg.PAC_CFG.print_mode,
     2)] (withPage { pg with lastPass := some 0 } (withJob 0 Ctx.idle { Job.empty with closed := false } ((runs 0 web).modPac fun p => { p with passes := [⟨3, 0, 0, 1, 0, false, false⟩] })))).seq.openPage).getD 0)).lastPass).getD 0),
     by decide +kernel⟩⟩

end PagesOpenCloseAndTakeTheirPasses

namespace TilesAreDefinedAndDroppedAndDefectTablesTaken

def syncing (f : Bool) : Dev := setCtx 0 { Ctx.idle with held := some ⟨0x5000000000001000, 0, 0⟩ } (((ctxAt 0 CtxState.stalled 0x10000 web).modDcr fun x => { x with sync := some (0x1000, 0, f) }))
/-- The header of a defect table of version 0 whose first 32 elements are defective. -/
def defHead : List Byte :=
  let h := leBytes 2 0x5444 ++ [1#8, 0#8] ++ leBytes 4 262144 ++ leBytes 4 0 ++ leBytes 4 32 ++ leBytes 4 0xFFFFFFFF ++ List.replicate 40 0#8
  h ++ leBytes 4 (crc32c h)
theorem elements_of_zeros (l : List Byte) (n : Nat) : bitmapElements (l ++ List.replicate n 0#8) = bitmapElements l := by
  unfold bitmapElements
  rw [List.zipIdx_append, List.flatMap_append]
  refine (congrArg _ (List.flatMap_eq_nil_iff.mpr ?_)).trans (List.append_nil _)
  rintro ⟨b, i⟩ h
  obtain rfl : b = 0#8 := List.eq_of_mem_replicate (List.fst_mem_of_mem_zipIdx h)
  have e : (List.range 8).filter (fun j => (0#8).toNat.testBit j) = [] := by decide
  exact (congrArg _ e).trans rfl
/-- The table passes every check of Table 8-4. -/
theorem table_passes (h : List Byte) (l : List Byte) (n v : Nat) (hh : h.length = 64) (hl : l.length + n = 32768)
    (hc : crc32cRun 0xFFFFFFFF l = 0) (hk : leAt h 0 2 = 0x5444 ∧ leAt h 2 1 = 1 ∧ crc32c (h.take 60) = leAt h 60 4 ∧ leAt h 4 4 = 262144 ∧
      leAt h 3 1 = 0 ∧ leAt h 10 2 = 0 ∧ leAt h 20 40 = 0 ∧ leAt h 8 2 = v ∧ leAt h 16 4 = 0xFFFFFFFF ∧ leAt h 12 4 = (bitmapElements l).length) :
    defectCheck (h ++ (l ++ List.replicate n 0#8)) (some v) = 0 := by
  have at_ : ∀ i m, i + m ≤ 64 → leAt (h ++ (l ++ List.replicate n 0#8)) i m = leAt h i m := by
    intro i m him
    unfold leAt
    rw [List.drop_append_of_le_length (by omega), List.take_append_of_le_length (by simp; omega)]
  have m : ((h ++ (l ++ List.replicate n 0#8)).drop 64).take 32768 = l ++ List.replicate n 0#8 := by
    rw [List.drop_left' hh, List.take_of_length_le (by simp; omega)]
  obtain ⟨h1, h2, h3, h4, h5, h6, h7, h8, h9, h10⟩ := hk
  unfold defectCheck
  rw [m, List.take_append_of_le_length (by omega), crc_padded _ _ hc, elements_of_zeros]
  simp [at_, h1, h2, h3, h4, h5, h6, h7, h8, h9, h10]
/-- A device with bytes stored from address 0x1000 on. -/
def withTable (d : Dev) (bs : List Byte) : Dev := { d with mem := d.mem.writeBytes 0x1000 bs }
theorem table_reads_back (d : Dev) (n : Nat) (bs : List Byte) (h : bs.length = n) : (withTable d bs).mem.readBytes 0x1000 n = bs :=
  h ▸ Mem.readBytes_writeBytes d.mem 0x1000 bs
theorem table_meets (d : Dev) (h : Held) (v n : Nat) (bs : List Byte) (h1 : d.dcr.sync = some (0x1000, v, false)) (h2 : (d.ctx 0).held = some h)
    (h3 : d.waitsRefetch .defectSync = false) (hw : d.waitsRefetch (.seqBlock 0) = false) (hg : d.seqGoes = true) (h4 : d.rangePoisoned 0x1000 n = false) (hb : bs.length = n) (hc : defectCheck bs (some v) = 0) :
    ∃ (d : Dev) (h : Held) (a v : Nat), d.dcr.sync = some (a, v, false) ∧ (d.ctx 0).held = some h ∧ d.waitsRefetch .defectSync = false ∧
      d.waitsRefetch (.seqBlock 0) = false ∧ d.seqGoes = true ∧ d.rangePoisoned a n = false ∧ defectCheck (d.mem.readBytes a n) (some v) = 0 := by
  refine ⟨withTable d bs, h, 0x1000, v, h1, h2, h3, hw, hg, ?_, ?_⟩
  · exact (d.rangePoisoned_writeBytes 0x1000 bs 0x1000 n).trans h4
  · rw [table_reads_back d n bs hb]; exact hc
theorem synced_meets : ∃ (d : Dev) (h : Held) (a v : Nat), d.dcr.sync = some (a, v, false) ∧ (d.ctx 0).held = some h ∧
    d.waitsRefetch .defectSync = false ∧ d.waitsRefetch (.seqBlock 0) = false ∧ d.seqGoes = true ∧ d.rangePoisoned a defectTableBytes = false ∧
    defectCheck (d.mem.readBytes a defectTableBytes) (some v) = 0 := by
  refine table_meets (syncing false) ⟨0x5000000000001000, 0, 0⟩ 0 _ (defHead ++ (List.replicate 4 255#8 ++ List.replicate 32764 0#8))
    (by decide +kernel) (by decide +kernel) (by decide +kernel) (by decide +kernel) (by decide +kernel) (by decide +kernel) ?_
    (table_passes _ _ _ _ (by decide +kernel) (by simp) (by decide +kernel) (by decide +kernel))
  rw [List.length_append, List.length_append, List.length_replicate, List.length_replicate]; decide +kernel

/-- Each clause's hypotheses are met together. -/
theorem witness :
    (∃ (d : Dev) (k : Nat) (w : BitVec 56) (w1 : BitVec 64), d.canRun k 2 = true ∧ reservedBad w.toNat 0xC0000000FFFFFF = false ∧
      32 ≤ w1.toNat / 2 ^ 40 ∧ w1.toNat % 2 ^ 40 % 8 = 0 ∧ d.inFitted (w1.toNat % 2 ^ 40) (w1.toNat / 2 ^ 40) = true ∧
      (Tab.find d.run.dir (w.toNat % 2 ^ 24)).isSome = true) ∧
    (∃ (d : Dev) (k : Nat) (w : BitVec 56) (w1 : BitVec 64), d.canRun k 2 = true ∧ reservedBad w.toNat 0xC0000000FFFFFF = false ∧
      32 ≤ w1.toNat / 2 ^ 40 ∧ w1.toNat % 2 ^ 40 % 8 = 0 ∧ d.inFitted (w1.toNat % 2 ^ 40) (w1.toNat / 2 ^ 40) = true ∧
      d.run.dir.length < 131072) ∧
    (∃ (d : Dev) (k : Nat) (w : BitVec 56), d.canRun k 1 = true ∧ reservedBad w.toNat 0xFFFFFF = false) ∧
    (∃ (d : Dev) (w : BitVec 56), d.canRun 0 1 = true ∧ (d.openJob 0).isSome = true ∧ reservedBad w.toNat 0xFFFFFFFFFFF000 = false ∧
      d.inFitted (w.toNat % 2 ^ 40) defectTableBytes = true) ∧
    (∃ (d : Dev) (h : Held) (a v : Nat), d.dcr.sync = some (a, v, false) ∧ (d.ctx 0).held = some h ∧ d.waitsRefetch .defectSync = false ∧
      d.waitsRefetch (.seqBlock 0) = false ∧ d.seqGoes = true ∧ d.rangePoisoned a defectTableBytes = false ∧
      defectCheck (d.mem.readBytes a defectTableBytes) (some v) = 0) ∧
    (∃ (d : Dev) (h : Held) (a v : Nat), d.dcr.sync = some (a, v, true) ∧ (d.ctx 0).held = some h ∧ d.waitsRefetch .defectSync = false ∧
      d.seqGoes = true) :=
  ⟨⟨((runs 7).modRun fun r => { r with dir := [(0xFFFFFF, 1)] }), 7, 0xC0000000FFFFFF#56, 0x0000200000001000#64, by decide +kernel⟩,
   ⟨(runs 7), 7, 0xC0000000FFFFFF#56, 0x0000200000001000#64, by decide +kernel⟩,
   ⟨(withJob 0 Ctx.idle Job.empty (runs 0 web)), 0, 0xFFFF#56, by decide +kernel⟩,
   ⟨(withJob 0 Ctx.idle Job.empty (runs 0 web)), 0x1000#56, by decide +kernel⟩,
   synced_meets,
   ⟨(syncing true), ((((syncing true).ctx 0).held).getD (⟨0, 0, 0⟩ : Held)), 0x1000, 0, by decide +kernel⟩⟩

end TilesAreDefinedAndDroppedAndDefectTablesTaken

namespace PlacementsJoinTheBandInProgramOrder

def plc0 : Dev := put [(Reg.CMP_PAGE_W.page_w, 64), (Reg.ASM_PORT_CFG.elems_m1 0, 63)] (withPage pg (withJob 0 { Ctx.idle with placed := [(0x81000400001F803F, 0, 0x10000)] } { Job.empty with closed := false } ((runs 0 web).modCmp fun c => { c with staging := some stg })))
def plc1 : Dev := plc0.modRun fun r => { r with dir := [(5, 1)], nextDef := 2, defs := [(1, { TileDef.empty with tile := 5, current := true, header := some ⟨8, 8, 0, 32, 0, 0, false⟩ })], cache := [(1, ⟨List.replicate 32 0#8, false, 0⟩)] }

/-- Each clause's hypotheses are met together. -/
theorem witness :
    (∃ (d : Dev) (n : Nat) (w : BitVec 56) (w1 : BitVec 64) (i : Instr) (op serial : Nat), d.canRun 0 2 = true ∧ d.seq.openPage = some n ∧
      (i = .place 0 w w1 ∧ op = 0x80) ∧
      firstFail (d.placeChecks 0 w.toNat (if op = 0x80 then 0xFFFC0000FFFFFF else if op = 0x81 then 0xE3FFFFFFFFFFFF else 0x9FFFC000FFFFFF) (op != 0x82) (op == 0x82 && w.toNat / 2 ^ 38 % 16 == 0)) = none ∧
      (if op = 0x81 then some 0 else Tab.find d.run.dir (w.toNat % 2 ^ 24)) = some serial ∧
      (op ≠ 0x81 → (d.tileDef serial).failed = none ∧ (d.tileDef serial).header.isSome = true ∧ d.cached serial = true) ∧
      (d.plcOf (op - 0x80) (word0 op w.toNat) serial (d.tileDef serial).header (coord32 (w1.toNat / 2 ^ 32)) (coord32 w1.toNat) (d.ctxPc 0)).coversPage d.pageW (d.page n).length = false) ∧
    (∃ (d : Dev) (n : Nat) (w : BitVec 56) (w1 : BitVec 64) (i : Instr) (op serial : Nat), d.canRun 0 2 = true ∧ d.seq.openPage = some n ∧
      (i = .fill 0 w w1 ∧ op = 0x81) ∧
      firstFail (d.placeChecks 0 w.toNat (if op = 0x80 then 0xFFFC0000FFFFFF else if op = 0x81 then 0xE3FFFFFFFFFFFF else 0x9FFFC000FFFFFF) (op != 0x82) (op == 0x82 && w.toNat / 2 ^ 38 % 16 == 0)) = none ∧
      (if op = 0x81 then some 0 else Tab.find d.run.dir (w.toNat % 2 ^ 24)) = some serial ∧
      (op ≠ 0x81 → (d.tileDef serial).failed = none ∧ (d.tileDef serial).header.isSome = true ∧ d.cached serial = true) ∧
      (d.plcOf (op - 0x80) (word0 op w.toNat) serial (d.tileDef serial).header (coord32 (w1.toNat / 2 ^ 32)) (coord32 w1.toNat) (d.ctxPc 0)).coversPage d.pageW (d.page n).length = false) ∧
    (∃ (d : Dev) (n : Nat) (w : BitVec 56) (w1 : BitVec 64) (i : Instr) (op serial : Nat), d.canRun 0 2 = true ∧ d.seq.openPage = some n ∧
      (i = .mask 0 w w1 ∧ op = 0x82) ∧
      firstFail (d.placeChecks 0 w.toNat (if op = 0x80 then 0xFFFC0000FFFFFF else if op = 0x81 then 0xE3FFFFFFFFFFFF else 0x9FFFC000FFFFFF) (op != 0x82) (op == 0x82 && w.toNat / 2 ^ 38 % 16 == 0)) = none ∧
      (if op = 0x81 then some 0 else Tab.find d.run.dir (w.toNat % 2 ^ 24)) = some serial ∧
      (op ≠ 0x81 → (d.tileDef serial).failed = none ∧ (d.tileDef serial).header.isSome = true ∧ d.cached serial = true) ∧
      (d.plcOf (op - 0x80) (word0 op w.toNat) serial (d.tileDef serial).header (coord32 (w1.toNat / 2 ^ 32)) (coord32 w1.toNat) (d.ctxPc 0)).coversPage d.pageW (d.page n).length = false) ∧
    (∃ (d : Dev) (n : Nat) (w : BitVec 56) (w1 : BitVec 64) (g : Staging) (i : Instr) (op serial : Nat), d.canRun 0 2 = true ∧
      d.seq.openPage = some n ∧ (i = .place 0 w w1 ∧ op = 0x80) ∧
      firstFail (d.placeChecks 0 w.toNat (if op = 0x80 then 0xFFFC0000FFFFFF else if op = 0x81 then 0xE3FFFFFFFFFFFF else 0x9FFFC000FFFFFF) (op != 0x82) (op == 0x82 && w.toNat / 2 ^ 38 % 16 == 0)) = none ∧
      (if op = 0x81 then some 0 else Tab.find d.run.dir (w.toNat % 2 ^ 24)) = some serial ∧
      (op ≠ 0x81 → (d.tileDef serial).failed = none ∧ (d.tileDef serial).header.isSome = true ∧ d.cached serial = true) ∧
      (d.plcOf (op - 0x80) (word0 op w.toNat) serial (d.tileDef serial).header (coord32 (w1.toNat / 2 ^ 32)) (coord32 w1.toNat) (d.ctxPc 0)).coversPage d.pageW (d.page n).length = true ∧
      (d.plcOf (op - 0x80) (word0 op w.toNat) serial (d.tileDef serial).header (coord32 (w1.toNat / 2 ^ 32)) (coord32 w1.toNat) (d.ctxPc 0)).topBand = g.band ∧
      d.cmp.staging = some g ∧ g.page = n ∧ d.outstanding g < 256 ∧
      d.plcWrites (d.plcOf (op - 0x80) (word0 op w.toNat) serial (d.tileDef serial).header (coord32 (w1.toNat / 2 ^ 32)) (coord32 w1.toNat) (d.ctxPc 0)) g.band g.lines = true) ∧
    (∃ (d : Dev) (n : Nat) (w : BitVec 56) (w1 : BitVec 64) (g : Staging) (i : Instr) (op serial : Nat), d.canRun 0 2 = true ∧
      d.seq.openPage = some n ∧ (i = .fill 0 w w1 ∧ op = 0x81) ∧
      firstFail (d.placeChecks 0 w.toNat (if op = 0x80 then 0xFFFC0000FFFFFF else if op = 0x81 then 0xE3FFFFFFFFFFFF else 0x9FFFC000FFFFFF) (op != 0x82) (op == 0x82 && w.toNat / 2 ^ 38 % 16 == 0)) = none ∧
      (if op = 0x81 then some 0 else Tab.find d.run.dir (w.toNat % 2 ^ 24)) = some serial ∧
      (op ≠ 0x81 → (d.tileDef serial).failed = none ∧ (d.tileDef serial).header.isSome = true ∧ d.cached serial = true) ∧
      (d.plcOf (op - 0x80) (word0 op w.toNat) serial (d.tileDef serial).header (coord32 (w1.toNat / 2 ^ 32)) (coord32 w1.toNat) (d.ctxPc 0)).coversPage d.pageW (d.page n).length = true ∧
      (d.plcOf (op - 0x80) (word0 op w.toNat) serial (d.tileDef serial).header (coord32 (w1.toNat / 2 ^ 32)) (coord32 w1.toNat) (d.ctxPc 0)).topBand = g.band ∧
      d.cmp.staging = some g ∧ g.page = n ∧ d.outstanding g < 256 ∧
      d.plcWrites (d.plcOf (op - 0x80) (word0 op w.toNat) serial (d.tileDef serial).header (coord32 (w1.toNat / 2 ^ 32)) (coord32 w1.toNat) (d.ctxPc 0)) g.band g.lines = true) ∧
    (∃ (d : Dev) (n : Nat) (w : BitVec 56) (w1 : BitVec 64) (g : Staging) (i : Instr) (op serial : Nat), d.canRun 0 2 = true ∧
      d.seq.openPage = some n ∧ (i = .mask 0 w w1 ∧ op = 0x82) ∧
      firstFail (d.placeChecks 0 w.toNat (if op = 0x80 then 0xFFFC0000FFFFFF else if op = 0x81 then 0xE3FFFFFFFFFFFF else 0x9FFFC000FFFFFF) (op != 0x82) (op == 0x82 && w.toNat / 2 ^ 38 % 16 == 0)) = none ∧
      (if op = 0x81 then some 0 else Tab.find d.run.dir (w.toNat % 2 ^ 24)) = some serial ∧
      (op ≠ 0x81 → (d.tileDef serial).failed = none ∧ (d.tileDef serial).header.isSome = true ∧ d.cached serial = true) ∧
      (d.plcOf (op - 0x80) (word0 op w.toNat) serial (d.tileDef serial).header (coord32 (w1.toNat / 2 ^ 32)) (coord32 w1.toNat) (d.ctxPc 0)).coversPage d.pageW (d.page n).length = true ∧
      (d.plcOf (op - 0x80) (word0 op w.toNat) serial (d.tileDef serial).header (coord32 (w1.toNat / 2 ^ 32)) (coord32 w1.toNat) (d.ctxPc 0)).topBand = g.band ∧
      d.cmp.staging = some g ∧ g.page = n ∧ d.outstanding g < 256 ∧
      d.plcWrites (d.plcOf (op - 0x80) (word0 op w.toNat) serial (d.tileDef serial).header (coord32 (w1.toNat / 2 ^ 32)) (coord32 w1.toNat) (d.ctxPc 0)) g.band g.lines = true) ∧
    (∃ (d : Dev) (n : Nat) (w : BitVec 56) (w1 : BitVec 64) (i : Instr) (op : Nat), d.canRun 0 2 = true ∧ d.seq.openPage = some n ∧
      (i = .place 0 w w1 ∧ op = 0x80) ∧
      firstFail (d.placeChecks 0 w.toNat (if op = 0x80 then 0xFFFC0000FFFFFF else if op = 0x81 then 0xE3FFFFFFFFFFFF else 0x9FFFC000FFFFFF) (op != 0x82) (op == 0x82 && w.toNat / 2 ^ 38 % 16 == 0)) = none ∧
      op ≠ 0x81 ∧ Tab.find d.run.dir (w.toNat % 2 ^ 24) = none) ∧
    (∃ (d : Dev) (n : Nat) (w : BitVec 56) (w1 : BitVec 64) (i : Instr) (op : Nat), d.canRun 0 2 = true ∧ d.seq.openPage = some n ∧
      (i = .mask 0 w w1 ∧ op = 0x82) ∧
      firstFail (d.placeChecks 0 w.toNat (if op = 0x80 then 0xFFFC0000FFFFFF else if op = 0x81 then 0xE3FFFFFFFFFFFF else 0x9FFFC000FFFFFF) (op != 0x82) (op == 0x82 && w.toNat / 2 ^ 38 % 16 == 0)) = none ∧
      op ≠ 0x81 ∧ Tab.find d.run.dir (w.toNat % 2 ^ 24) = none) ∧
    (∃ (d : Dev) (n : Nat) (w : BitVec 56) (w1 : BitVec 64) (a b c : Nat) (ps : List (Nat × Nat × Nat)) (e' : Dev), d.canRun 0 2 = true ∧
      d.seq.openPage = some n ∧ w.toNat = 2 ^ 48 + 1 ∧ (d.ctx 0).placed = ps ++ [(a, b, c)] ∧
      coord32 (b / 2 ^ 32) + coord32 (w1.toNat / 2 ^ 32) < 2 ^ 31 ∧ -(2 ^ 31) ≤ coord32 (b / 2 ^ 32) + coord32 (w1.toNat / 2 ^ 32) ∧
      coord32 b + coord32 w1.toNat < 2 ^ 31 ∧ -(2 ^ 31) ≤ coord32 b + coord32 w1.toNat ∧
      (d.modCtx 0 fun x => { x with lastCmd := d.ctxPc 0, lastWord := word0 0x83 w.toNat }).placeOne a (coord32 (b / 2 ^ 32) + coord32 (w1.toNat / 2 ^ 32)) (coord32 b + coord32 w1.toNat) c = .done e') ∧
    (∃ (d : Dev) (n : Nat) (w : BitVec 56) (w1 : BitVec 64) (e' : Dev), d.canRun 0 2 = true ∧ d.seq.openPage = some n ∧
      reservedBad w.toNat 0xFF00000000FFFF = false ∧ w.toNat / 2 ^ 48 ≠ 0 ∧ w.toNat % 2 ^ 16 ≠ 0 ∧
      (d.modCtx 0 fun x => { x with lastCmd := d.ctxPc 0, lastWord := word0 0x83 w.toNat }).repeatBody w.toNat w1.toNat 0 = .done e') :=
  ⟨⟨plc1, ((plc1.seq.openPage).getD 0), 0x00040000000005#56, 0x7FFFFFFF80000000#64,
     (.place 0 (0x00040000000005#56) (0x7FFFFFFF80000000#64)), 0x80, 1, by decide +kernel⟩,
   ⟨plc0, ((plc0.seq.openPage).getD 0), 0x0004000000003F#56, 0x0000004000000000#64,
     (.fill 0 (0x0004000000003F#56) (0x0000004000000000#64)), 0x81, 0, by decide +kernel⟩,
   ⟨plc1, ((plc1.seq.openPage).getD 0), 0x00044000000005#56, 0x7FFFFFFF80000000#64,
     (.mask 0 (0x00044000000005#56) (0x7FFFFFFF80000000#64)), 0x82, 1, by decide +kernel⟩,
   ⟨plc1, ((plc1.seq.openPage).getD 0), 0x00040000000005#56, 0x0000000000000000#64, stg,
     (.place 0 (0x00040000000005#56) (0x0000000000000000#64)), 0x80, 1, by decide +kernel⟩,
   ⟨plc0, ((plc0.seq.openPage).getD 0), 0x0004000000003F#56, 0x0000000000000000#64, stg,
     (.fill 0 (0x0004000000003F#56) (0x0000000000000000#64)), 0x81, 0, by decide +kernel⟩,
   ⟨plc1, ((plc1.seq.openPage).getD 0), 0x00044000000005#56, 0x0000000000000000#64, stg,
     (.mask 0 (0x00044000000005#56) (0x0000000000000000#64)), 0x82, 1, by decide +kernel⟩,
   ⟨plc1, ((plc1.seq.openPage).getD 0), 0x00040000000006#56, 0x0000000000000000#64,
     (.place 0 (0x00040000000006#56) (0x0000000000000000#64)), 0x80, by decide +kernel⟩,
   ⟨plc1, ((plc1.seq.openPage).getD 0), 0x00044000000006#56, 0x0000000000000000#64,
     (.mask 0 (0x00044000000006#56) (0x0000000000000000#64)), 0x82, by decide +kernel⟩,
   ⟨plc0, ((plc0.seq.openPage).getD 0), 0x01000000000001#56, 0x0000000100000001#64, 0x81000400001F803F, 0, 0x10000, [],
     (match (plc0.modCtx 0 fun x => { x with lastCmd := plc0.ctxPc 0, lastWord := word0 0x83 (0x01000000000001#56).toNat }).placeOne (0x81000400001F803F : Nat) (coord32 ((0 : Nat) / 2 ^ 32) + coord32 ((0x0000000100000001#64).toNat / 2 ^ 32)) (coord32 (0 : Nat) + coord32 (0x0000000100000001#64).toNat) (0x10000 : Nat) with | .done e => e | _ => plc0),
     by decide +kernel⟩,
   ⟨plc0, ((plc0.seq.openPage).getD 0), 0x01000000000003#56, 0x0000000100000001#64,
     (match (plc0.modCtx 0 fun x => { x with lastCmd := plc0.ctxPc 0, lastWord := word0 0x83 (0x01000000000003#56).toNat }).repeatBody (0x01000000000003#56).toNat (0x0000000100000001#64).toNat 0 with | .done e => e | _ => plc0),
     by decide +kernel⟩⟩

end PlacementsJoinTheBandInProgramOrder

namespace MotionParametersActOnTheirAxisAlone

def axd (m : Nat) (x : Axis) : Dev := put [(Reg.MOT_AX_CFG.en 0, 1), (Reg.MOT_AX_CFG.en 5, 1)] ((runs 7 ((inMode m).setFld Reg.MEM_SIZE.fitted_64m 1024)).modMot fun t => { t with axes := Tab.set [] Axis.rest 5 x })
def ax (f : Axis → Axis) : Axis := f { Axis.rest with valid := true, powered := true }

/-- Each clause's hypotheses are met together. -/
theorem witness :
    (∃ (d : Dev) (k n x : Nat) (v : BitVec 48) (i : Instr) (y : Axis), d.canRun k 1 = true ∧ v.toNat < 2 ^ 40 ∧ n = v.toNat / 2 ^ 37 ∧
      x = v.toNat % 2 ^ 37 ∧ x < 2 ^ 32 ∧ d.axisOn n = true ∧ d.feedOwns n = false ∧ (i = .moveAbs k v ∧ (d.axis n).valid = true ∧
      (d.axis n).phase = 0 ∧ (d.axis n).fault = 0 ∧ y = (d.axis n).goTo (signed 32 x)) ∧ d.isShadow = false) ∧
    (∃ (d : Dev) (k n x : Nat) (v : BitVec 48) (i : Instr) (y : Axis), d.canRun k 1 = true ∧ v.toNat < 2 ^ 40 ∧ n = v.toNat / 2 ^ 37 ∧
      x = v.toNat % 2 ^ 37 ∧ x < 2 ^ 32 ∧ d.axisOn n = true ∧ d.feedOwns n = false ∧ (i = .moveRel k v ∧ (d.axis n).phase = 0 ∧
      -(2 ^ 31) ≤ (d.axis n).target + signed 32 x ∧ (d.axis n).target + signed 32 x < 2 ^ 31 ∧
      y = { d.axis n with fault := 0 }.goTo ((d.axis n).target + signed 32 x)) ∧ d.isShadow = false) ∧
    (∃ (d : Dev) (k n x : Nat) (v : BitVec 48) (i : Instr) (y : Axis), d.canRun k 1 = true ∧ v.toNat < 2 ^ 40 ∧ n = v.toNat / 2 ^ 37 ∧
      x = v.toNat % 2 ^ 37 ∧ x < 2 ^ 32 ∧ d.axisOn n = true ∧ d.feedOwns n = false ∧ (i = .setVmax k v ∧ x ≠ 0 ∧
      y = { d.axis n with vmax := x }) ∧ d.isShadow = false) ∧
    (∃ (d : Dev) (k n x : Nat) (v : BitVec 48) (i : Instr) (y : Axis), d.canRun k 1 = true ∧ v.toNat < 2 ^ 40 ∧ n = v.toNat / 2 ^ 37 ∧
      x = v.toNat % 2 ^ 37 ∧ x < 2 ^ 32 ∧ d.axisOn n = true ∧ d.feedOwns n = false ∧ (i = .setAccel k v ∧ x ≠ 0 ∧ x < 2 ^ 24 ∧
      y = { d.axis n with accel := x }) ∧ d.isShadow = false) ∧
    (∃ (d : Dev) (k n x : Nat) (v : BitVec 48) (i : Instr) (y : Axis), d.canRun k 1 = true ∧ v.toNat < 2 ^ 40 ∧ n = v.toNat / 2 ^ 37 ∧
      x = v.toNat % 2 ^ 37 ∧ x < 2 ^ 32 ∧ d.axisOn n = true ∧ d.feedOwns n = false ∧ (i = .setDecel k v ∧ x ≠ 0 ∧ x < 2 ^ 24 ∧
      y = { d.axis n with decel := x }) ∧ d.isShadow = false) ∧
    (∃ (d : Dev) (k n x : Nat) (v : BitVec 48) (i : Instr) (y : Axis), d.canRun k 1 = true ∧ v.toNat < 2 ^ 40 ∧ n = v.toNat / 2 ^ 37 ∧
      x = v.toNat % 2 ^ 37 ∧ x < 2 ^ 32 ∧ d.axisOn n = true ∧ d.feedOwns n = false ∧ (i = .setJerk k v ∧
      y = { d.axis n with jerk := x }) ∧ d.isShadow = false) ∧
    (∃ (d : Dev) (k n x : Nat) (v : BitVec 48) (i : Instr) (y : Axis), d.canRun k 1 = true ∧ v.toNat < 2 ^ 40 ∧ n = v.toNat / 2 ^ 37 ∧
      x = v.toNat % 2 ^ 37 ∧ x < 2 ^ 32 ∧ d.axisOn n = true ∧ d.feedOwns n = false ∧ (i = .home k v ∧ x = 0 ∧
      y = { d.axis n with fault := 0, phase := 1, seek := false, valid := false, powered := true, holding := false, moving := true, target := (d.axis n).stopTarget }) ∧
      d.isShadow = false) ∧
    (∃ (d : Dev) (k n x : Nat) (v : BitVec 48) (i : Instr) (y : Axis), d.canRun k 1 = true ∧ v.toNat < 2 ^ 40 ∧ n = v.toNat / 2 ^ 37 ∧
      x = v.toNat % 2 ^ 37 ∧ x < 2 ^ 32 ∧ d.axisOn n = true ∧ d.feedOwns n = false ∧ (i = .stop k v ∧ x = 0 ∧
      y = { d.axis n with target := (d.axis n).stopTarget, valid := (d.axis n).valid && (d.axis n).phase == 0, phase := 0, seek := false }) ∧
      d.isShadow = false) ∧
    (∃ (d : Dev) (k n x : Nat) (v : BitVec 48) (i : Instr) (y : Axis), d.canRun k 1 = true ∧ v.toNat < 2 ^ 40 ∧ n = v.toNat / 2 ^ 37 ∧
      x = v.toNat % 2 ^ 37 ∧ x < 2 ^ 32 ∧ d.axisOn n = true ∧ d.feedOwns n = false ∧ (i = .setPos k v ∧ (d.axis n).moving = false ∧
      (d.axis n).phase = 0 ∧ y = { d.axis n with p := signed 32 x * microstep, target := signed 32 x, valid := true }) ∧
      d.isShadow = false) ∧
    (∃ (d : Dev) (k n x : Nat) (v : BitVec 48) (i : Instr) (y : Axis), d.canRun k 1 = true ∧ v.toNat < 2 ^ 40 ∧ n = v.toNat / 2 ^ 37 ∧
      x = v.toNat % 2 ^ 37 ∧ x < 2 ^ 32 ∧ d.axisOn n = true ∧ d.feedOwns n = false ∧ (i = .power k v ∧ x = 1 ∧ (d.axis n).moving = false ∧
      (d.axis n).phase = 0 ∧ y = { d.axis n with powered := true }) ∧ d.isShadow = false) ∧
    (∃ (d : Dev) (k n x : Nat) (v : BitVec 48) (i : Instr) (y : Axis), d.canRun k 1 = true ∧ v.toNat < 2 ^ 40 ∧ n = v.toNat / 2 ^ 37 ∧
      x = v.toNat % 2 ^ 37 ∧ x < 2 ^ 32 ∧ d.axisOn n = true ∧ d.feedOwns n = false ∧ (i = .power k v ∧ x = 0 ∧ (d.axis n).moving = false ∧
      (d.axis n).phase = 0 ∧
      y = { d.axis n with powered := false, valid := (d.axis n).valid && !(d.flag (Reg.MOT_AX_CFG.hold n)), iA := 0, iB := 0 }) ∧
      d.isShadow = false) ∧
    (∃ (d : Dev) (k n x : Nat) (v : BitVec 48) (i : Instr) (y : Axis), d.canRun k 1 = true ∧ v.toNat < 2 ^ 40 ∧ n = v.toNat / 2 ^ 37 ∧
      x = v.toNat % 2 ^ 37 ∧ x < 2 ^ 32 ∧ d.axisOn n = true ∧ d.feedOwns n = false ∧ (i = .table k v ∧ x < 4 ∧ (d.axis n).moving = false ∧
      (d.axis n).phase = 0 ∧ y = { d.axis n with table := x }) ∧ d.isShadow = false) ∧
    (∃ (d : Dev) (k n x : Nat) (v : BitVec 48) (i : Instr) (y : Axis), d.canRun k 1 = true ∧ v.toNat < 2 ^ 40 ∧ n = v.toNat / 2 ^ 37 ∧
      x = v.toNat % 2 ^ 37 ∧ x < 2 ^ 32 ∧ d.axisOn n = true ∧ d.feedOwns n = false ∧ (i = .moveAbs k v ∧ (d.axis n).valid = true ∧
      (d.axis n).phase = 0 ∧ (d.axis n).fault = 0 ∧ y = (d.axis n).goTo (signed 32 x)) ∧ d.isShadow = true) ∧
    (∃ (d : Dev) (k n x : Nat) (v : BitVec 48) (i : Instr) (y : Axis), d.canRun k 1 = true ∧ v.toNat < 2 ^ 40 ∧ n = v.toNat / 2 ^ 37 ∧
      x = v.toNat % 2 ^ 37 ∧ x < 2 ^ 32 ∧ d.axisOn n = true ∧ d.feedOwns n = false ∧ (i = .moveRel k v ∧ (d.axis n).phase = 0 ∧
      -(2 ^ 31) ≤ (d.axis n).target + signed 32 x ∧ (d.axis n).target + signed 32 x < 2 ^ 31 ∧
      y = { d.axis n with fault := 0 }.goTo ((d.axis n).target + signed 32 x)) ∧ d.isShadow = true) ∧
    (∃ (d : Dev) (k n x : Nat) (v : BitVec 48) (i : Instr) (y : Axis), d.canRun k 1 = true ∧ v.toNat < 2 ^ 40 ∧ n = v.toNat / 2 ^ 37 ∧
      x = v.toNat % 2 ^ 37 ∧ x < 2 ^ 32 ∧ d.axisOn n = true ∧ d.feedOwns n = false ∧ (i = .setVmax k v ∧ x ≠ 0 ∧
      y = { d.axis n with vmax := x }) ∧ d.isShadow = true) ∧
    (∃ (d : Dev) (k n x : Nat) (v : BitVec 48) (i : Instr) (y : Axis), d.canRun k 1 = true ∧ v.toNat < 2 ^ 40 ∧ n = v.toNat / 2 ^ 37 ∧
      x = v.toNat % 2 ^ 37 ∧ x < 2 ^ 32 ∧ d.axisOn n = true ∧ d.feedOwns n = false ∧ (i = .setAccel k v ∧ x ≠ 0 ∧ x < 2 ^ 24 ∧
      y = { d.axis n with accel := x }) ∧ d.isShadow = true) ∧
    (∃ (d : Dev) (k n x : Nat) (v : BitVec 48) (i : Instr) (y : Axis), d.canRun k 1 = true ∧ v.toNat < 2 ^ 40 ∧ n = v.toNat / 2 ^ 37 ∧
      x = v.toNat % 2 ^ 37 ∧ x < 2 ^ 32 ∧ d.axisOn n = true ∧ d.feedOwns n = false ∧ (i = .setDecel k v ∧ x ≠ 0 ∧ x < 2 ^ 24 ∧
      y = { d.axis n with decel := x }) ∧ d.isShadow = true) ∧
    (∃ (d : Dev) (k n x : Nat) (v : BitVec 48) (i : Instr) (y : Axis), d.canRun k 1 = true ∧ v.toNat < 2 ^ 40 ∧ n = v.toNat / 2 ^ 37 ∧
      x = v.toNat % 2 ^ 37 ∧ x < 2 ^ 32 ∧ d.axisOn n = true ∧ d.feedOwns n = false ∧ (i = .setJerk k v ∧
      y = { d.axis n with jerk := x }) ∧ d.isShadow = true) ∧
    (∃ (d : Dev) (k n x : Nat) (v : BitVec 48) (i : Instr) (y : Axis), d.canRun k 1 = true ∧ v.toNat < 2 ^ 40 ∧ n = v.toNat / 2 ^ 37 ∧
      x = v.toNat % 2 ^ 37 ∧ x < 2 ^ 32 ∧ d.axisOn n = true ∧ d.feedOwns n = false ∧ (i = .home k v ∧ x = 0 ∧
      y = { d.axis n with fault := 0, phase := 1, seek := false, valid := false, powered := true, holding := false, moving := true, target := (d.axis n).stopTarget }) ∧
      d.isShadow = true) ∧
    (∃ (d : Dev) (k n x : Nat) (v : BitVec 48) (i : Instr) (y : Axis), d.canRun k 1 = true ∧ v.toNat < 2 ^ 40 ∧ n = v.toNat / 2 ^ 37 ∧
      x = v.toNat % 2 ^ 37 ∧ x < 2 ^ 32 ∧ d.axisOn n = true ∧ d.feedOwns n = false ∧ (i = .stop k v ∧ x = 0 ∧
      y = { d.axis n with target := (d.axis n).stopTarget, valid := (d.axis n).valid && (d.axis n).phase == 0, phase := 0, seek := false }) ∧
      d.isShadow = true) ∧
    (∃ (d : Dev) (k n x : Nat) (v : BitVec 48) (i : Instr) (y : Axis), d.canRun k 1 = true ∧ v.toNat < 2 ^ 40 ∧ n = v.toNat / 2 ^ 37 ∧
      x = v.toNat % 2 ^ 37 ∧ x < 2 ^ 32 ∧ d.axisOn n = true ∧ d.feedOwns n = false ∧ (i = .setPos k v ∧ (d.axis n).moving = false ∧
      (d.axis n).phase = 0 ∧ y = { d.axis n with p := signed 32 x * microstep, target := signed 32 x, valid := true }) ∧
      d.isShadow = true) ∧
    (∃ (d : Dev) (k n x : Nat) (v : BitVec 48) (i : Instr) (y : Axis), d.canRun k 1 = true ∧ v.toNat < 2 ^ 40 ∧ n = v.toNat / 2 ^ 37 ∧
      x = v.toNat % 2 ^ 37 ∧ x < 2 ^ 32 ∧ d.axisOn n = true ∧ d.feedOwns n = false ∧ (i = .power k v ∧ x = 1 ∧ (d.axis n).moving = false ∧
      (d.axis n).phase = 0 ∧ y = { d.axis n with powered := true }) ∧ d.isShadow = true) ∧
    (∃ (d : Dev) (k n x : Nat) (v : BitVec 48) (i : Instr) (y : Axis), d.canRun k 1 = true ∧ v.toNat < 2 ^ 40 ∧ n = v.toNat / 2 ^ 37 ∧
      x = v.toNat % 2 ^ 37 ∧ x < 2 ^ 32 ∧ d.axisOn n = true ∧ d.feedOwns n = false ∧ (i = .power k v ∧ x = 0 ∧ (d.axis n).moving = false ∧
      (d.axis n).phase = 0 ∧
      y = { d.axis n with powered := false, valid := (d.axis n).valid && !(d.flag (Reg.MOT_AX_CFG.hold n)), iA := 0, iB := 0 }) ∧
      d.isShadow = true) ∧
    (∃ (d : Dev) (k n x : Nat) (v : BitVec 48) (i : Instr) (y : Axis), d.canRun k 1 = true ∧ v.toNat < 2 ^ 40 ∧ n = v.toNat / 2 ^ 37 ∧
      x = v.toNat % 2 ^ 37 ∧ x < 2 ^ 32 ∧ d.axisOn n = true ∧ d.feedOwns n = false ∧ (i = .table k v ∧ x < 4 ∧ (d.axis n).moving = false ∧
      (d.axis n).phase = 0 ∧ y = { d.axis n with table := x }) ∧ d.isShadow = true) :=
  ⟨⟨(axd 6 { Axis.rest with valid := true }), 7, ((0xA0FFFFFFFF#48).toNat / 2 ^ 37), ((0xA0FFFFFFFF#48).toNat % 2 ^ 37), 0xA0FFFFFFFF#48,
     (.moveAbs (7 : Nat) (0xA0FFFFFFFF#48)),
     (((axd 6 { Axis.rest with valid := true }).axis ((0xA0FFFFFFFF#48).toNat / 2 ^ 37)).goTo (signed 32 ((0xA0FFFFFFFF#48).toNat % 2 ^ 37))),
     by decide +kernel⟩,
   ⟨(axd 6 { Axis.rest with valid := true, fault := 2, target := -1 }), 7, ((0xA080000001#48).toNat / 2 ^ 37),
     ((0xA080000001#48).toNat % 2 ^ 37), 0xA080000001#48, (.moveRel (7 : Nat) (0xA080000001#48)),
     ({ (axd 6 { Axis.rest with valid := true, fault := 2, target := -1 }).axis ((0xA080000001#48).toNat / 2 ^ 37) with fault := 0 }.goTo (((axd 6 { Axis.rest with valid := true, fault := 2, target := -1 }).axis ((0xA080000001#48).toNat / 2 ^ 37)).target + signed 32 ((0xA080000001#48).toNat % 2 ^ 37))),
     by decide +kernel⟩,
   ⟨(axd 6 Axis.rest), 7, ((0xA0FFFFFFFF#48).toNat / 2 ^ 37), ((0xA0FFFFFFFF#48).toNat % 2 ^ 37), 0xA0FFFFFFFF#48,
     (.setVmax (7 : Nat) (0xA0FFFFFFFF#48)),
     ({ (axd 6 Axis.rest).axis ((0xA0FFFFFFFF#48).toNat / 2 ^ 37) with vmax := ((0xA0FFFFFFFF#48).toNat % 2 ^ 37) }), by decide +kernel⟩,
   ⟨(axd 6 Axis.rest), 7, ((0xA000FFFFFF#48).toNat / 2 ^ 37), ((0xA000FFFFFF#48).toNat % 2 ^ 37), 0xA000FFFFFF#48,
     (.setAccel (7 : Nat) (0xA000FFFFFF#48)),
     ({ (axd 6 Axis.rest).axis ((0xA000FFFFFF#48).toNat / 2 ^ 37) with accel := ((0xA000FFFFFF#48).toNat % 2 ^ 37) }), by decide +kernel⟩,
   ⟨(axd 6 Axis.rest), 7, ((0xA000000001#48).toNat / 2 ^ 37), ((0xA000000001#48).toNat % 2 ^ 37), 0xA000000001#48,
     (.setDecel (7 : Nat) (0xA000000001#48)),
     ({ (axd 6 Axis.rest).axis ((0xA000000001#48).toNat / 2 ^ 37) with decel := ((0xA000000001#48).toNat % 2 ^ 37) }), by decide +kernel⟩,
   ⟨(axd 6 Axis.rest), 7, ((0xA000000000#48).toNat / 2 ^ 37), ((0xA000000000#48).toNat % 2 ^ 37), 0xA000000000#48,
     (.setJerk (7 : Nat) (0xA000000000#48)),
     ({ (axd 6 Axis.rest).axis ((0xA000000000#48).toNat / 2 ^ 37) with jerk := ((0xA000000000#48).toNat % 2 ^ 37) }), by decide +kernel⟩,
   ⟨(axd 6 { Axis.rest with valid := true, fault := 2, v := 0x1000000, p := 0x5000000 }), 7, ((0xA000000000#48).toNat / 2 ^ 37),
     ((0xA000000000#48).toNat % 2 ^ 37), 0xA000000000#48, (.home (7 : Nat) (0xA000000000#48)),
     ({ (axd 6 { Axis.rest with valid := true, fault := 2, v := 0x1000000, p := 0x5000000 }).axis ((0xA000000000#48).toNat / 2 ^ 37) with fault := 0, phase := 1, seek := false, valid := false, powered := true, holding := false, moving := true, target := ((axd 6 { Axis.rest with valid := true, fault := 2, v := 0x1000000, p := 0x5000000 }).axis ((0xA000000000#48).toNat / 2 ^ 37)).stopTarget }),
     by decide +kernel⟩,
   ⟨(axd 6 { Axis.rest with valid := true, phase := 1, seek := true, v := -0x1000000, p := 0x5000000 }), 7,
     ((0xA000000000#48).toNat / 2 ^ 37), ((0xA000000000#48).toNat % 2 ^ 37), 0xA000000000#48, (.stop (7 : Nat) (0xA000000000#48)),
     ({ (axd 6 { Axis.rest with valid := true, phase := 1, seek := true, v := -0x1000000, p := 0x5000000 }).axis ((0xA000000000#48).toNat / 2 ^ 37) with target := ((axd 6 { Axis.rest with valid := true, phase := 1, seek := true, v := -0x1000000, p := 0x5000000 }).axis ((0xA000000000#48).toNat / 2 ^ 37)).stopTarget, valid := ((axd 6 { Axis.rest with valid := true, phase := 1, seek := true, v := -0x1000000, p := 0x5000000 }).axis ((0xA000000000#48).toNat / 2 ^ 37)).valid && ((axd 6 { Axis.rest with valid := true, phase := 1, seek := true, v := -0x1000000, p := 0x5000000 }).axis ((0xA000000000#48).toNat / 2 ^ 37)).phase == 0, phase := 0, seek := false }),
     by decide +kernel⟩,
   ⟨(axd 6 Axis.rest), 7, ((0xA080000000#48).toNat / 2 ^ 37), ((0xA080000000#48).toNat % 2 ^ 37), 0xA080000000#48,
     (.setPos (7 : Nat) (0xA080000000#48)),
     ({ (axd 6 Axis.rest).axis ((0xA080000000#48).toNat / 2 ^ 37) with p := signed 32 ((0xA080000000#48).toNat % 2 ^ 37) * microstep, target := signed 32 ((0xA080000000#48).toNat % 2 ^ 37), valid := true }),
     by decide +kernel⟩,
   ⟨(axd 6 Axis.rest), 7, ((0xA000000001#48).toNat / 2 ^ 37), ((0xA000000001#48).toNat % 2 ^ 37), 0xA000000001#48,
     (.power (7 : Nat) (0xA000000001#48)), ({ (axd 6 Axis.rest).axis ((0xA000000001#48).toNat / 2 ^ 37) with powered := true }),
     by decide +kernel⟩,
   ⟨(axd 6 { Axis.rest with valid := true, powered := true }), 7, ((0xA000000000#48).toNat / 2 ^ 37), ((0xA000000000#48).toNat % 2 ^ 37),
     0xA000000000#48, (.power (7 : Nat) (0xA000000000#48)),
     ({ (axd 6 { Axis.rest with valid := true, powered := true }).axis ((0xA000000000#48).toNat / 2 ^ 37) with powered := false, valid := ((axd 6 { Axis.rest with valid := true, powered := true }).axis ((0xA000000000#48).toNat / 2 ^ 37)).valid && !((axd 6 { Axis.rest with valid := true, powered := true }).flag (Reg.MOT_AX_CFG.hold ((0xA000000000#48).toNat / 2 ^ 37))) }),
     by decide +kernel⟩,
   ⟨(axd 6 Axis.rest), 7, ((0xA000000003#48).toNat / 2 ^ 37), ((0xA000000003#48).toNat % 2 ^ 37), 0xA000000003#48,
     (.table (7 : Nat) (0xA000000003#48)),
     ({ (axd 6 Axis.rest).axis ((0xA000000003#48).toNat / 2 ^ 37) with table := ((0xA000000003#48).toNat % 2 ^ 37) }), by decide +kernel⟩,
   ⟨(axd 11 { Axis.rest with valid := true }), 7, ((0xA0FFFFFFFF#48).toNat / 2 ^ 37), ((0xA0FFFFFFFF#48).toNat % 2 ^ 37), 0xA0FFFFFFFF#48,
     (.moveAbs (7 : Nat) (0xA0FFFFFFFF#48)),
     (((axd 11 { Axis.rest with valid := true }).axis ((0xA0FFFFFFFF#48).toNat / 2 ^ 37)).goTo (signed 32 ((0xA0FFFFFFFF#48).toNat % 2 ^ 37))),
     by decide +kernel⟩,
   ⟨(axd 11 { Axis.rest with valid := true, fault := 2, target := -1 }), 7, ((0xA080000001#48).toNat / 2 ^ 37),
     ((0xA080000001#48).toNat % 2 ^ 37), 0xA080000001#48, (.moveRel (7 : Nat) (0xA080000001#48)),
     ({ (axd 11 { Axis.rest with valid := true, fault := 2, target := -1 }).axis ((0xA080000001#48).toNat / 2 ^ 37) with fault := 0 }.goTo (((axd 11 { Axis.rest with valid := true, fault := 2, target := -1 }).axis ((0xA080000001#48).toNat / 2 ^ 37)).target + signed 32 ((0xA080000001#48).toNat % 2 ^ 37))),
     by decide +kernel⟩,
   ⟨(axd 11 Axis.rest), 7, ((0xA0FFFFFFFF#48).toNat / 2 ^ 37), ((0xA0FFFFFFFF#48).toNat % 2 ^ 37), 0xA0FFFFFFFF#48,
     (.setVmax (7 : Nat) (0xA0FFFFFFFF#48)),
     ({ (axd 11 Axis.rest).axis ((0xA0FFFFFFFF#48).toNat / 2 ^ 37) with vmax := ((0xA0FFFFFFFF#48).toNat % 2 ^ 37) }), by decide +kernel⟩,
   ⟨(axd 11 Axis.rest), 7, ((0xA000FFFFFF#48).toNat / 2 ^ 37), ((0xA000FFFFFF#48).toNat % 2 ^ 37), 0xA000FFFFFF#48,
     (.setAccel (7 : Nat) (0xA000FFFFFF#48)),
     ({ (axd 11 Axis.rest).axis ((0xA000FFFFFF#48).toNat / 2 ^ 37) with accel := ((0xA000FFFFFF#48).toNat % 2 ^ 37) }), by decide +kernel⟩,
   ⟨(axd 11 Axis.rest), 7, ((0xA000000001#48).toNat / 2 ^ 37), ((0xA000000001#48).toNat % 2 ^ 37), 0xA000000001#48,
     (.setDecel (7 : Nat) (0xA000000001#48)),
     ({ (axd 11 Axis.rest).axis ((0xA000000001#48).toNat / 2 ^ 37) with decel := ((0xA000000001#48).toNat % 2 ^ 37) }), by decide +kernel⟩,
   ⟨(axd 11 Axis.rest), 7, ((0xA000000000#48).toNat / 2 ^ 37), ((0xA000000000#48).toNat % 2 ^ 37), 0xA000000000#48,
     (.setJerk (7 : Nat) (0xA000000000#48)),
     ({ (axd 11 Axis.rest).axis ((0xA000000000#48).toNat / 2 ^ 37) with jerk := ((0xA000000000#48).toNat % 2 ^ 37) }), by decide +kernel⟩,
   ⟨(axd 11 { Axis.rest with valid := true, fault := 2, v := 0x1000000, p := 0x5000000 }), 7, ((0xA000000000#48).toNat / 2 ^ 37),
     ((0xA000000000#48).toNat % 2 ^ 37), 0xA000000000#48, (.home (7 : Nat) (0xA000000000#48)),
     ({ (axd 11 { Axis.rest with valid := true, fault := 2, v := 0x1000000, p := 0x5000000 }).axis ((0xA000000000#48).toNat / 2 ^ 37) with fault := 0, phase := 1, seek := false, valid := false, powered := true, holding := false, moving := true, target := ((axd 11 { Axis.rest with valid := true, fault := 2, v := 0x1000000, p := 0x5000000 }).axis ((0xA000000000#48).toNat / 2 ^ 37)).stopTarget }),
     by decide +kernel⟩,
   ⟨(axd 11 { Axis.rest with valid := true, phase := 1, seek := true, v := -0x1000000, p := 0x5000000 }), 7,
     ((0xA000000000#48).toNat / 2 ^ 37), ((0xA000000000#48).toNat % 2 ^ 37), 0xA000000000#48, (.stop (7 : Nat) (0xA000000000#48)),
     ({ (axd 11 { Axis.rest with valid := true, phase := 1, seek := true, v := -0x1000000, p := 0x5000000 }).axis ((0xA000000000#48).toNat / 2 ^ 37) with target := ((axd 11 { Axis.rest with valid := true, phase := 1, seek := true, v := -0x1000000, p := 0x5000000 }).axis ((0xA000000000#48).toNat / 2 ^ 37)).stopTarget, valid := ((axd 11 { Axis.rest with valid := true, phase := 1, seek := true, v := -0x1000000, p := 0x5000000 }).axis ((0xA000000000#48).toNat / 2 ^ 37)).valid && ((axd 11 { Axis.rest with valid := true, phase := 1, seek := true, v := -0x1000000, p := 0x5000000 }).axis ((0xA000000000#48).toNat / 2 ^ 37)).phase == 0, phase := 0, seek := false }),
     by decide +kernel⟩,
   ⟨(axd 11 Axis.rest), 7, ((0xA080000000#48).toNat / 2 ^ 37), ((0xA080000000#48).toNat % 2 ^ 37), 0xA080000000#48,
     (.setPos (7 : Nat) (0xA080000000#48)),
     ({ (axd 11 Axis.rest).axis ((0xA080000000#48).toNat / 2 ^ 37) with p := signed 32 ((0xA080000000#48).toNat % 2 ^ 37) * microstep, target := signed 32 ((0xA080000000#48).toNat % 2 ^ 37), valid := true }),
     by decide +kernel⟩,
   ⟨(axd 11 Axis.rest), 7, ((0xA000000001#48).toNat / 2 ^ 37), ((0xA000000001#48).toNat % 2 ^ 37), 0xA000000001#48,
     (.power (7 : Nat) (0xA000000001#48)), ({ (axd 11 Axis.rest).axis ((0xA000000001#48).toNat / 2 ^ 37) with powered := true }),
     by decide +kernel⟩,
   ⟨(axd 11 { Axis.rest with valid := true, powered := true }), 7, ((0xA000000000#48).toNat / 2 ^ 37), ((0xA000000000#48).toNat % 2 ^ 37),
     0xA000000000#48, (.power (7 : Nat) (0xA000000000#48)),
     ({ (axd 11 { Axis.rest with valid := true, powered := true }).axis ((0xA000000000#48).toNat / 2 ^ 37) with powered := false, valid := ((axd 11 { Axis.rest with valid := true, powered := true }).axis ((0xA000000000#48).toNat / 2 ^ 37)).valid && !((axd 11 { Axis.rest with valid := true, powered := true }).flag (Reg.MOT_AX_CFG.hold ((0xA000000000#48).toNat / 2 ^ 37))) }),
     by decide +kernel⟩,
   ⟨(axd 11 Axis.rest), 7, ((0xA000000003#48).toNat / 2 ^ 37), ((0xA000000003#48).toNat % 2 ^ 37), 0xA000000003#48,
     (.table (7 : Nat) (0xA000000003#48)),
     ({ (axd 11 Axis.rest).axis ((0xA000000003#48).toNat / 2 ^ 37) with table := ((0xA000000003#48).toNat % 2 ^ 37) }), by decide +kernel⟩⟩

end MotionParametersActOnTheirAxisAlone

namespace MeasurementRequestsStartOrWait

/-- Each clause's hypotheses are met together. -/
theorem witness :
    (∃ (d : Dev) (k : Nat) (v : BitVec 48), d.canRun k 1 = true ∧ v.toNat ≠ 0 ∧ v.toNat < 2 ^ 32 ∧ d.requestLegal true = true ∧
      d.msr.sweeps.any (·.ctx == k) = false ∧ d.mode = Mode.calibrate) ∧
    (∃ (d : Dev) (k : Nat) (v : BitVec 48), d.canRun k 1 = true ∧ v.toNat ≠ 0 ∧ v.toNat < 2 ^ 32 ∧ d.requestLegal true = true ∧
      d.msr.sweeps = [] ∧ d.mode = Mode.standby ∧ (∃ p, p < 32 ∧ v.toNat.testBit p = true ∧ d.portEnabled p = true)) ∧
    (∃ (d : Dev) (k : Nat) (v : BitVec 48), d.canRun k 1 = true ∧ v.toNat ≠ 0 ∧ v.toNat < 2 ^ 32 ∧ d.requestLegal true = true ∧
      d.msr.sweeps = [] ∧ d.mode = Mode.service ∧ (∃ p, p < 32 ∧ v.toNat.testBit p = true ∧ d.portEnabled p = true)) ∧
    (∃ (d : Dev) (k : Nat) (v : BitVec 48), d.canRun k 1 = true ∧ v.toNat ≠ 0 ∧ v.toNat < 2 ^ 32 ∧ d.requestLegal true = true ∧
      d.msr.sweeps.any (·.ctx == k) = true) ∧
    (∃ (d : Dev) (k : Nat) (v : BitVec 48), d.canRun k 1 = true ∧ v.toNat < 2 ^ 40 ∧ v.toNat / 2 ^ 32 % 16 ≤ 4 ∧
      d.requestLegal false = true ∧ d.msr.samples.any (·.ctx == k) = false ∧ d.isShadow = false) ∧
    (∃ (d : Dev) (k : Nat) (v : BitVec 48), d.canRun k 1 = true ∧ v.toNat < 2 ^ 40 ∧ v.toNat / 2 ^ 32 % 16 ≤ 4 ∧
      d.requestLegal false = true ∧ d.msr.samples.any (·.ctx == k) = false ∧ d.isShadow = true) ∧
    (∃ (d : Dev) (k : Nat) (v : BitVec 48), d.canRun k 1 = true ∧ v.toNat < 2 ^ 32 ∧ d.requestLegal true = true ∧
      d.msr.vsets.any (·.ctx == k) = false ∧ d.mode = Mode.standby) ∧
    (∃ (d : Dev) (k : Nat) (v : BitVec 48), d.canRun k 1 = true ∧ v.toNat < 2 ^ 32 ∧ d.requestLegal true = true ∧
      d.msr.vsets.any (·.ctx == k) = false ∧ d.mode = Mode.service) ∧
    (∃ (d : Dev) (k : Nat) (v : BitVec 48), d.canRun k 1 = true ∧ v.toNat < 2 ^ 32 ∧ d.requestLegal true = true ∧
      d.msr.vsets.any (·.ctx == k) = false ∧ d.mode = Mode.calibrate) ∧
    (∃ (d : Dev) (k : Nat) (v : BitVec 48), d.canRun k 1 = true ∧ v.toNat < 2 ^ 32 ∧ d.mode = Mode.service ∧ (d.ctx k).spitCfg ≠ 0) :=
  ⟨⟨(runs 7 ((inMode 3).setFld Reg.MEM_SIZE.fitted_64m 1024)), 7, 0xFFFFFFFF#48, by decide +kernel⟩,
   ⟨(put [(Reg.HLK_PORT_EN.en, 0x80000000)] (runs 7)), 7, 0x80000000#48, by decide +kernel⟩,
   ⟨(setCtx 7 { Ctx.idle with spitCfg := 0x100010001 } (put [(Reg.HLK_PORT_EN.en, 0x80000001), (Reg.HLK_PORT_STAT.state 31,
     5)] (runs 7 service))), 7, 0x80000001#48, by decide +kernel⟩,
   ⟨((runs 7).modMsr fun m => { m with sweeps := [⟨7, 1, 0, 0, 0, false, [], 0, [], false, false, []⟩] }), 7, 1#48, by decide +kernel⟩,
   ⟨(runs 7 ((inMode 3).setFld Reg.MEM_SIZE.fitted_64m 1024)), 7, 0xFFFFFFFF#48, by decide +kernel⟩,
   ⟨(runs 7 (inMode 11)), 7, 0xF480000001#48, by decide +kernel⟩,
   ⟨(put [(Reg.HLK_PORT_EN.en, 0x80000000)] (runs 7)), 7, 0x80000000#48, by decide +kernel⟩,
   ⟨(setCtx 7 { Ctx.idle with spitCfg := 0x100010001 } (put [(Reg.HLK_PORT_EN.en, 0x80000001), (Reg.HLK_PORT_STAT.state 31,
     5)] (runs 7 service))), 7, 0x80000001#48, by decide +kernel⟩,
   ⟨(runs 7 ((inMode 3).setFld Reg.MEM_SIZE.fitted_64m 1024)), 7, 0xFFFFFFFF#48, by decide +kernel⟩,
   ⟨(setCtx 7 { Ctx.idle with spitCfg := 0x100010001 } (put [(Reg.HLK_PORT_EN.en, 0x80000001), (Reg.HLK_PORT_STAT.state 31,
     5)] (runs 7 service))), 7, 0x80000001#48, by decide +kernel⟩⟩

end MeasurementRequestsStartOrWait

namespace SweepsSamplesAndSetpointsReportWhatTheyFound

def swd (x : Sweep) : Dev := put [(Reg.HLK_PORT_EN.en, 1), (Reg.HLK_PORT_STAT.state 0, 5), (Reg.ASM_PORT_CFG.elems_m1 0, 63)] (standby.modMsr fun m => { m with sweeps := [x] })

/-- Each clause's hypotheses are met together. -/
theorem witness :
    (∃ (d : Dev) (c p n a : Nat) (rest : List Nat) (s : Sweep) (ss : List Sweep), d.msr.sweeps = s :: ss ∧ s.started = true ∧
      s.cut = false ∧ c < 8 ∧ s.chans.getD c ([], 0) = (p :: rest, n) ∧ d.portUp p = true ∧ d.slotsTriggered = false ∧
      d.spitting p = false ∧ n + 1 < d.portElems p ∧ a = s.base + 4 * (p * 8192 + n) ∧ a % 64 ≤ 60 ∧ d.lineBad (a / 64) = false) ∧
    (∃ (d : Dev) (c p n a : Nat) (rest : List Nat) (s : Sweep) (ss : List Sweep), d.msr.sweeps = s :: ss ∧ s.started = true ∧
      s.cut = false ∧ c < 8 ∧ s.chans.getD c ([], 0) = (p :: rest, n) ∧ d.portUp p = true ∧ s.due.contains c = true ∧
      d.spitting p = false ∧ n + 1 < d.portElems p ∧ a = s.base + 4 * (p * 8192 + n) ∧ a % 64 ≤ 60 ∧ d.lineBad (a / 64) = false) ∧
    (∃ (d : Dev) (s : Sweep), d.msr.sweeps = [s] ∧ s.cut = true) ∧
    (∃ (d : Dev) (s : Sweep), d.msr.sweeps = [s] ∧ s.cut = false) ∧
    (∃ (d : Dev) (k : Nat) (r : SampleReq), d.msr.samples.find? (fun x => x.ctx == k) = some r ∧ d.isShadow = false) ∧
    (∃ (d : Dev) (k : Nat), d.msr.vsets.any (fun x => x.ctx == k && x.written) = true) :=
  ⟨⟨(swd ⟨7, 1, 0x1000, 0, 0, false, [([0], 0)], 0, [], true, false, [0]⟩), 0, 0, 0, ((((swd ⟨7, 1, 0x1000, 0, 0, false, [([0], 0)], 0,
     [], true, false, [0]⟩).msr.sweeps).headD (⟨0, 0, 0, 0, 0, false, [], 0, [], false, false,
     []⟩ : Sweep)).base + 4 * ((0 : Nat) * 8192 + (0 : Nat))), [], (((swd ⟨7, 1, 0x1000, 0, 0, false, [([0], 0)], 0, [], true, false,
     [0]⟩).msr.sweeps).headD (⟨0, 0, 0, 0, 0, false, [], 0, [], false, false, []⟩ : Sweep)), [], by decide +kernel⟩,
   ⟨(swd ⟨7, 1, 0x1000, 0, 0, false, [([0], 0)], 0, [], true, false, [0]⟩), 0, 0, 0, ((((swd ⟨7, 1, 0x1000, 0, 0, false, [([0], 0)], 0,
     [], true, false, [0]⟩).msr.sweeps).headD (⟨0, 0, 0, 0, 0, false, [], 0, [], false, false,
     []⟩ : Sweep)).base + 4 * ((0 : Nat) * 8192 + (0 : Nat))), [], (((swd ⟨7, 1, 0x1000, 0, 0, false, [([0], 0)], 0, [], true, false,
     [0]⟩).msr.sweeps).headD (⟨0, 0, 0, 0, 0, false, [], 0, [], false, false, []⟩ : Sweep)), [], by decide +kernel⟩,
   ⟨(swd ⟨7, 1, 0x1000, 0, 0, false, [([0], 0)], 0, [], true, true, []⟩), (((swd ⟨7, 1, 0x1000, 0, 0, false, [([0], 0)], 0, [], true,
     true, []⟩).msr.sweeps).headD (⟨0, 0, 0, 0, 0, false, [], 0, [], false, false, []⟩ : Sweep)), by decide +kernel⟩,
   ⟨(swd ⟨7, 1, 0x1000, 0, 0, false, [([0], 0)], 0, [], true, false, [0]⟩), (((swd ⟨7, 1, 0x1000, 0, 0, false, [([0], 0)], 0, [], true,
     false, [0]⟩).msr.sweeps).headD (⟨0, 0, 0, 0, 0, false, [], 0, [], false, false, []⟩ : Sweep)), by decide +kernel⟩,
   ⟨(standby.modMsr fun m => { m with samples := [⟨7, 1, 0, 4, [], 0, [(0, [1, 2])]⟩] }), 7,
     (((standby.modMsr fun m => { m with samples := [⟨7, 1, 0, 4, [], 0, [(0, [1, 2])]⟩] }).msr.samples.find? (fun x => x.ctx == (7 : Nat))).getD (⟨0,
     0, 0, 0, [], 0, []⟩ : SampleReq)), by decide +kernel⟩,
   ⟨(standby.modMsr fun m => { m with vsets := [⟨7, 1, 0x123, true⟩] }), 7, by decide +kernel⟩⟩

end SweepsSamplesAndSetpointsReportWhatTheyFound

namespace CalibrationStepsRunInOrderAndApplyAtOnce

/-- Each clause's hypotheses are met together. -/
theorem witness :
    (∃ (d : Dev) (s : Nat) (i : Instr), d.flt.safeReq = none ∧ d.mode = Mode.calibrate ∧ d.msr.step = none ∧ (i = Instr.zero ∧ s = 1) ∧
      (∀ t, 1 ≤ t → t < s → d.calDone t = true)) ∧
    (∃ (d : Dev) (s : Nat) (i : Instr), d.flt.safeReq = none ∧ d.mode = Mode.calibrate ∧ d.msr.step = none ∧ (i = Instr.vref ∧ s = 2) ∧
      (∀ t, 1 ≤ t → t < s → d.calDone t = true)) ∧
    (∃ (d : Dev) (s : Nat) (i : Instr), d.flt.safeReq = none ∧ d.mode = Mode.calibrate ∧ d.msr.step = none ∧ (i = Instr.rref ∧ s = 3) ∧
      (∀ t, 1 ≤ t → t < s → d.calDone t = true)) ∧
    (∃ (d : Dev) (s : Nat) (i : Instr), d.flt.safeReq = none ∧ d.mode = Mode.calibrate ∧ d.msr.step = none ∧ (i = Instr.vref ∧ s = 2) ∧
      (∃ t, 1 ≤ t ∧ t < s ∧ d.calDone t = false)) ∧
    (∃ (d : Dev) (s : Nat) (i : Instr), d.flt.safeReq = none ∧ d.mode = Mode.calibrate ∧ d.msr.step = none ∧ (i = Instr.rref ∧ s = 3) ∧
      (∃ t, 1 ≤ t ∧ t < s ∧ d.calDone t = false)) ∧
    (∃ (d : Dev), d.flt.safeReq = none ∧ d.mode = Mode.calibrate ∧ d.msr.step = none ∧ d.calDone 1 = true ∧ d.calDone 2 = true ∧
      d.calDone 3 = true ∧ d.calWorst ≤ d.fld Reg.MSR_CAL_CFG.qual_max_ppm) ∧
    (∃ (d : Dev), d.flt.safeReq = none ∧ d.mode = Mode.calibrate ∧ d.msr.step = none ∧ d.calDone 1 = true ∧ d.calDone 2 = true ∧
      d.calDone 3 = true ∧ d.fld Reg.MSR_CAL_CFG.qual_max_ppm < d.calWorst) ∧
    (∃ (d : Dev), d.flt.safeReq = none ∧ d.mode = Mode.calibrate ∧ d.msr.step = none ∧ d.calDone 1 = false) ∧
    (∃ (d : Dev), d.flt.safeReq = none ∧ d.mode = Mode.calibrate ∧ d.msr.step = none ∧ d.calDone 2 = false) ∧
    (∃ (d : Dev), d.flt.safeReq = none ∧ d.mode = Mode.calibrate ∧ d.msr.step = none ∧ d.calDone 3 = false) ∧
    (∃ (d : Dev) (s : Nat) (readings : List Nat), d.flt.safeReq = none ∧ d.msr.step = some s ∧
      (List.range (calReadings s)).any (fun j => refBad s j (readings.getD j 0)) = true) ∧
    (∃ (d : Dev) (s : Nat) (readings : List Nat) (trims : List Int), d.flt.safeReq = none ∧ d.msr.step = some s ∧
      (List.range (calReadings s)).any (fun j => refBad s j (readings.getD j 0)) = false ∧ trimsFit s trims = false) ∧
    (∃ (d : Dev) (s : Nat) (readings : List Nat) (trims : List Int), d.flt.safeReq = none ∧ d.msr.step = some s ∧
      (List.range (calReadings s)).any (fun j => refBad s j (readings.getD j 0)) = false ∧ trimsFit s trims = true) :=
  ⟨⟨(inMode 3), 1, Instr.zero, by decide +kernel⟩,
   ⟨(put [(Reg.MSR_CAL_STAT.done, 3)] (inMode 3)), 2, Instr.vref, by decide +kernel⟩,
   ⟨(put [(Reg.MSR_CAL_STAT.done, 3)] (inMode 3)), 3, Instr.rref, by decide +kernel⟩,
   ⟨(inMode 3), 2, Instr.vref, by decide +kernel, by decide +kernel, by decide +kernel, by decide +kernel, ⟨1, by decide, by decide,
     by decide +kernel⟩⟩,
   ⟨(inMode 3), 3, Instr.rref, by decide +kernel, by decide +kernel, by decide +kernel, by decide +kernel, ⟨1, by decide, by decide,
     by decide +kernel⟩⟩,
   ⟨(put [(Reg.MSR_CAL_STAT.done, 7)] ((inMode 3).modMsr fun m => { m with trims := [(1, [-1, 2])] })), by decide +kernel⟩,
   ⟨(put [(Reg.MSR_CAL_STAT.done, 7)] ((inMode 3).modMsr fun m => { m with quals := [(2, [60000, 0, 0, 0, 0, 0, 0, 0])] })),
     by decide +kernel⟩,
   ⟨(inMode 3), by decide +kernel⟩,
   ⟨(inMode 3), by decide +kernel⟩,
   ⟨(inMode 3), by decide +kernel⟩,
   ⟨((inMode 3).modMsr fun m => { m with step := some 2 }), 2, [], by decide +kernel⟩,
   ⟨((inMode 3).modMsr fun m => { m with step := some 1 }), 1, [], [512], by decide +kernel⟩,
   ⟨((inMode 3).modMsr fun m => { m with step := some 1 }), 1, [], [511, -512], by decide +kernel⟩⟩

end CalibrationStepsRunInOrderAndApplyAtOnce

namespace LinkWordsContinueEndOrHoldTheChain

def atLink (w nextw : Nat) (s : Nat) (d : Dev := standby) : Dev :=
  let d := ctxAt 7 s (if s = CtxState.tail then 0x10FF8 else 0x10FF8) d
  put [(Reg.SEQ_CTX_GEN.gen 7, 3)] { d with mem := (d.mem.writeBytes 0x10FF8 (leBytes 8 w)).writeBytes 0x20FF8 (leBytes 8 nextw) }
def lk (e : Nat) (g : Nat := 3) : Nat := 0x20000 + e * 2 ^ 47 + g * 2 ^ 48

/-- Each clause's hypotheses are met together. -/
theorem witness :
    (∃ (d : Dev) (k w next : Nat) (i : Instr), k < 8 ∧ (i = .linkWord k ∧ d.ctxState k = CtxState.running ∧ d.ctxPc k % 4096 = 0xFF8) ∧
      d.seqGoes = true ∧ d.rangePoisoned (d.ctxPc k) 8 = false ∧ w = d.linkWord (d.ctxPc k) ∧ next = w % 2 ^ 40 ∧ w / 2 ^ 40 % 128 = 0 ∧
      w % 4096 = 0 ∧ w.testBit 47 = false ∧ d.inFitted next 4096 = true ∧ w / 2 ^ 48 = d.fld (Reg.SEQ_CTX_GEN.gen k) ∧
      d.blockBad next = false ∧ d.linkWord next / 2 ^ 48 = d.fld (Reg.SEQ_CTX_GEN.gen k)) ∧
    (∃ (d : Dev) (k w next : Nat) (i : Instr), k < 8 ∧ (i = .waitTailReread k ∧ d.ctxState k = CtxState.tail ∧
      (d.ctx k).doorbell = true) ∧ d.seqGoes = true ∧ d.rangePoisoned (d.ctxPc k) 8 = false ∧ w = d.linkWord (d.ctxPc k) ∧
      next = w % 2 ^ 40 ∧ w / 2 ^ 40 % 128 = 0 ∧ w % 4096 = 0 ∧ w.testBit 47 = false ∧ d.inFitted next 4096 = true ∧
      w / 2 ^ 48 = d.fld (Reg.SEQ_CTX_GEN.gen k) ∧ d.blockBad next = false ∧ d.linkWord next / 2 ^ 48 = d.fld (Reg.SEQ_CTX_GEN.gen k)) ∧
    (∃ (d : Dev) (k w next : Nat) (i : Instr), k < 8 ∧ (i = .waitTailPoll k ∧ d.ctxState k = CtxState.tail) ∧ d.seqGoes = true ∧
      d.rangePoisoned (d.ctxPc k) 8 = false ∧ w = d.linkWord (d.ctxPc k) ∧ next = w % 2 ^ 40 ∧ w / 2 ^ 40 % 128 = 0 ∧ w % 4096 = 0 ∧
      w.testBit 47 = false ∧ d.inFitted next 4096 = true ∧ w / 2 ^ 48 = d.fld (Reg.SEQ_CTX_GEN.gen k) ∧ d.blockBad next = false ∧
      d.linkWord next / 2 ^ 48 = d.fld (Reg.SEQ_CTX_GEN.gen k)) ∧
    (∃ (d : Dev) (k w next : Nat) (i : Instr), k < 8 ∧ (i = .linkWord k ∧ d.ctxState k = CtxState.running ∧ d.ctxPc k % 4096 = 0xFF8) ∧
      d.seqGoes = true ∧ d.rangePoisoned (d.ctxPc k) 8 = false ∧ w = d.linkWord (d.ctxPc k) ∧ next = w % 2 ^ 40 ∧ w / 2 ^ 40 % 128 = 0 ∧
      w % 4096 = 0 ∧ w.testBit 47 = false ∧ d.inFitted next 4096 = true ∧ w / 2 ^ 48 = d.fld (Reg.SEQ_CTX_GEN.gen k) ∧
      d.blockBad next = false ∧ d.linkWord next / 2 ^ 48 ≠ d.fld (Reg.SEQ_CTX_GEN.gen k)) ∧
    (∃ (d : Dev) (k w next : Nat) (i : Instr), k < 8 ∧ (i = .waitTailReread k ∧ d.ctxState k = CtxState.tail ∧
      (d.ctx k).doorbell = true) ∧ d.seqGoes = true ∧ d.rangePoisoned (d.ctxPc k) 8 = false ∧ w = d.linkWord (d.ctxPc k) ∧
      next = w % 2 ^ 40 ∧ w / 2 ^ 40 % 128 = 0 ∧ w % 4096 = 0 ∧ w.testBit 47 = false ∧ d.inFitted next 4096 = true ∧
      w / 2 ^ 48 = d.fld (Reg.SEQ_CTX_GEN.gen k) ∧ d.blockBad next = false ∧ d.linkWord next / 2 ^ 48 ≠ d.fld (Reg.SEQ_CTX_GEN.gen k)) ∧
    (∃ (d : Dev) (k w next : Nat) (i : Instr), k < 8 ∧ (i = .waitTailPoll k ∧ d.ctxState k = CtxState.tail) ∧ d.seqGoes = true ∧
      d.rangePoisoned (d.ctxPc k) 8 = false ∧ w = d.linkWord (d.ctxPc k) ∧ next = w % 2 ^ 40 ∧ w / 2 ^ 40 % 128 = 0 ∧ w % 4096 = 0 ∧
      w.testBit 47 = false ∧ d.inFitted next 4096 = true ∧ w / 2 ^ 48 = d.fld (Reg.SEQ_CTX_GEN.gen k) ∧ d.blockBad next = false ∧
      d.linkWord next / 2 ^ 48 ≠ d.fld (Reg.SEQ_CTX_GEN.gen k)) ∧
    (∃ (d : Dev) (k w next : Nat) (i : Instr), k < 8 ∧ (i = .linkWord k ∧ d.ctxState k = CtxState.running ∧ d.ctxPc k % 4096 = 0xFF8) ∧
      d.seqGoes = true ∧ d.rangePoisoned (d.ctxPc k) 8 = false ∧ w = d.linkWord (d.ctxPc k) ∧ next = w % 2 ^ 40 ∧ w / 2 ^ 40 % 128 = 0 ∧
      w % 4096 = 0 ∧ (w.testBit 47 = true ∨ d.inFitted next 4096 = true) ∧ w / 2 ^ 48 ≠ d.fld (Reg.SEQ_CTX_GEN.gen k)) ∧
    (∃ (d : Dev) (k w next : Nat) (i : Instr), k < 8 ∧ (i = .waitTailReread k ∧ d.ctxState k = CtxState.tail ∧
      (d.ctx k).doorbell = true) ∧ d.seqGoes = true ∧ d.rangePoisoned (d.ctxPc k) 8 = false ∧ w = d.linkWord (d.ctxPc k) ∧
      next = w % 2 ^ 40 ∧ w / 2 ^ 40 % 128 = 0 ∧ w % 4096 = 0 ∧ (w.testBit 47 = true ∨ d.inFitted next 4096 = true) ∧
      w / 2 ^ 48 ≠ d.fld (Reg.SEQ_CTX_GEN.gen k)) ∧
    (∃ (d : Dev) (k w next : Nat) (i : Instr), k < 8 ∧ (i = .waitTailPoll k ∧ d.ctxState k = CtxState.tail) ∧ d.seqGoes = true ∧
      d.rangePoisoned (d.ctxPc k) 8 = false ∧ w = d.linkWord (d.ctxPc k) ∧ next = w % 2 ^ 40 ∧ w / 2 ^ 40 % 128 = 0 ∧ w % 4096 = 0 ∧
      (w.testBit 47 = true ∨ d.inFitted next 4096 = true) ∧ w / 2 ^ 48 ≠ d.fld (Reg.SEQ_CTX_GEN.gen k)) ∧
    (∃ (d : Dev) (k w next : Nat) (i : Instr), k < 8 ∧ (i = .linkWord k ∧ d.ctxState k = CtxState.running ∧
      d.ctxPc k % 4096 = 0xFF8 ∨ i = .waitTailReread k ∧ d.ctxState k = CtxState.tail ∧ (d.ctx k).doorbell = true ∨ i = .waitTailPoll k ∧
      d.ctxState k = CtxState.tail) ∧ d.seqGoes = true ∧ d.rangePoisoned (d.ctxPc k) 8 = false ∧ w = d.linkWord (d.ctxPc k) ∧
      next = w % 2 ^ 40 ∧ w / 2 ^ 40 % 128 = 0 ∧ w % 4096 = 0 ∧ w.testBit 47 = true ∧ w / 2 ^ 48 ≠ d.fld (Reg.SEQ_CTX_GEN.gen k)) ∧
    (∃ (d : Dev) (k w next : Nat) (i : Instr), k < 8 ∧ (i = .linkWord k ∧ d.ctxState k = CtxState.running ∧
      d.ctxPc k % 4096 = 0xFF8 ∨ i = .waitTailReread k ∧ d.ctxState k = CtxState.tail ∧ (d.ctx k).doorbell = true ∨ i = .waitTailPoll k ∧
      d.ctxState k = CtxState.tail) ∧ d.seqGoes = true ∧ d.rangePoisoned (d.ctxPc k) 8 = false ∧ w = d.linkWord (d.ctxPc k) ∧
      next = w % 2 ^ 40 ∧ w / 2 ^ 40 % 128 = 0 ∧ w % 4096 = 0 ∧ d.inFitted next 4096 = true ∧ w / 2 ^ 48 ≠ d.fld (Reg.SEQ_CTX_GEN.gen k)) ∧
    (∃ (d : Dev) (k w next : Nat) (i : Instr), k < 8 ∧ (i = .linkWord k ∧ d.ctxState k = CtxState.running ∧ d.ctxPc k % 4096 = 0xFF8) ∧
      d.seqGoes = true ∧ d.rangePoisoned (d.ctxPc k) 8 = false ∧ w = d.linkWord (d.ctxPc k) ∧ next = w % 2 ^ 40 ∧ w / 2 ^ 40 % 128 = 0 ∧
      w % 4096 = 0 ∧ w.testBit 47 = true ∧ w / 2 ^ 48 = d.fld (Reg.SEQ_CTX_GEN.gen k) ∧ (d.ctx k).stack ≠ []) ∧
    (∃ (d : Dev) (k w next : Nat) (i : Instr), k < 8 ∧ (i = .waitTailReread k ∧ d.ctxState k = CtxState.tail ∧
      (d.ctx k).doorbell = true) ∧ d.seqGoes = true ∧ d.rangePoisoned (d.ctxPc k) 8 = false ∧ w = d.linkWord (d.ctxPc k) ∧
      next = w % 2 ^ 40 ∧ w / 2 ^ 40 % 128 = 0 ∧ w % 4096 = 0 ∧ w.testBit 47 = true ∧ w / 2 ^ 48 = d.fld (Reg.SEQ_CTX_GEN.gen k) ∧
      (d.ctx k).stack ≠ []) ∧
    (∃ (d : Dev) (k w next : Nat) (i : Instr), k < 8 ∧ (i = .waitTailPoll k ∧ d.ctxState k = CtxState.tail) ∧ d.seqGoes = true ∧
      d.rangePoisoned (d.ctxPc k) 8 = false ∧ w = d.linkWord (d.ctxPc k) ∧ next = w % 2 ^ 40 ∧ w / 2 ^ 40 % 128 = 0 ∧ w % 4096 = 0 ∧
      w.testBit 47 = true ∧ w / 2 ^ 48 = d.fld (Reg.SEQ_CTX_GEN.gen k) ∧ (d.ctx k).stack ≠ []) ∧
    (∃ (d : Dev) (k w next : Nat) (i : Instr), k < 8 ∧ (i = .linkWord k ∧ d.ctxState k = CtxState.running ∧ d.ctxPc k % 4096 = 0xFF8) ∧
      d.seqGoes = true ∧ d.rangePoisoned (d.ctxPc k) 8 = false ∧ w = d.linkWord (d.ctxPc k) ∧ next = w % 2 ^ 40 ∧ w / 2 ^ 40 % 128 = 0 ∧
      w % 4096 = 0 ∧ w.testBit 47 = true ∧ w / 2 ^ 48 = d.fld (Reg.SEQ_CTX_GEN.gen k) ∧ (d.ctx k).stack = [] ∧
      (d.openJob k).isSome = true ∧ d.flag (Reg.SEQ_CTX_STAT.boot k) = false) ∧
    (∃ (d : Dev) (k w next : Nat) (i : Instr), k < 8 ∧ (i = .waitTailReread k ∧ d.ctxState k = CtxState.tail ∧
      (d.ctx k).doorbell = true) ∧ d.seqGoes = true ∧ d.rangePoisoned (d.ctxPc k) 8 = false ∧ w = d.linkWord (d.ctxPc k) ∧
      next = w % 2 ^ 40 ∧ w / 2 ^ 40 % 128 = 0 ∧ w % 4096 = 0 ∧ w.testBit 47 = true ∧ w / 2 ^ 48 = d.fld (Reg.SEQ_CTX_GEN.gen k) ∧
      (d.ctx k).stack = [] ∧ (d.openJob k).isSome = true ∧ d.flag (Reg.SEQ_CTX_STAT.boot k) = false) ∧
    (∃ (d : Dev) (k w next : Nat) (i : Instr), k < 8 ∧ (i = .waitTailPoll k ∧ d.ctxState k = CtxState.tail) ∧ d.seqGoes = true ∧
      d.rangePoisoned (d.ctxPc k) 8 = false ∧ w = d.linkWord (d.ctxPc k) ∧ next = w % 2 ^ 40 ∧ w / 2 ^ 40 % 128 = 0 ∧ w % 4096 = 0 ∧
      w.testBit 47 = true ∧ w / 2 ^ 48 = d.fld (Reg.SEQ_CTX_GEN.gen k) ∧ (d.ctx k).stack = [] ∧ (d.openJob k).isSome = true ∧
      d.flag (Reg.SEQ_CTX_STAT.boot k) = false) ∧
    (∃ (d : Dev) (k w next : Nat) (i : Instr), k < 8 ∧ (i = .linkWord k ∧ d.ctxState k = CtxState.running ∧ d.ctxPc k % 4096 = 0xFF8) ∧
      d.seqGoes = true ∧ d.rangePoisoned (d.ctxPc k) 8 = false ∧ w = d.linkWord (d.ctxPc k) ∧ next = w % 2 ^ 40 ∧ w / 2 ^ 40 % 128 = 0 ∧
      w % 4096 = 0 ∧ w.testBit 47 = true ∧ w / 2 ^ 48 = d.fld (Reg.SEQ_CTX_GEN.gen k) ∧ (d.ctx k).stack = [] ∧
      (d.openJob k).isSome = true ∧ d.flag (Reg.SEQ_CTX_STAT.boot k) = true) ∧
    (∃ (d : Dev) (k w next : Nat) (i : Instr), k < 8 ∧ (i = .waitTailReread k ∧ d.ctxState k = CtxState.tail ∧
      (d.ctx k).doorbell = true) ∧ d.seqGoes = true ∧ d.rangePoisoned (d.ctxPc k) 8 = false ∧ w = d.linkWord (d.ctxPc k) ∧
      next = w % 2 ^ 40 ∧ w / 2 ^ 40 % 128 = 0 ∧ w % 4096 = 0 ∧ w.testBit 47 = true ∧ w / 2 ^ 48 = d.fld (Reg.SEQ_CTX_GEN.gen k) ∧
      (d.ctx k).stack = [] ∧ (d.openJob k).isSome = true ∧ d.flag (Reg.SEQ_CTX_STAT.boot k) = true) ∧
    (∃ (d : Dev) (k w next : Nat) (i : Instr), k < 8 ∧ (i = .waitTailPoll k ∧ d.ctxState k = CtxState.tail) ∧ d.seqGoes = true ∧
      d.rangePoisoned (d.ctxPc k) 8 = false ∧ w = d.linkWord (d.ctxPc k) ∧ next = w % 2 ^ 40 ∧ w / 2 ^ 40 % 128 = 0 ∧ w % 4096 = 0 ∧
      w.testBit 47 = true ∧ w / 2 ^ 48 = d.fld (Reg.SEQ_CTX_GEN.gen k) ∧ (d.ctx k).stack = [] ∧ (d.openJob k).isSome = true ∧
      d.flag (Reg.SEQ_CTX_STAT.boot k) = true) ∧
    (∃ (d : Dev) (k w next : Nat) (i : Instr), k < 8 ∧ (i = .linkWord k ∧ d.ctxState k = CtxState.running ∧ d.ctxPc k % 4096 = 0xFF8) ∧
      d.seqGoes = true ∧ d.rangePoisoned (d.ctxPc k) 8 = false ∧ w = d.linkWord (d.ctxPc k) ∧ next = w % 2 ^ 40 ∧ w / 2 ^ 40 % 128 = 0 ∧
      w % 4096 = 0 ∧ w.testBit 47 = true ∧ w / 2 ^ 48 = d.fld (Reg.SEQ_CTX_GEN.gen k) ∧ (d.ctx k).stack = [] ∧ d.openJob k = none) ∧
    (∃ (d : Dev) (k w next : Nat) (i : Instr), k < 8 ∧ (i = .waitTailReread k ∧ d.ctxState k = CtxState.tail ∧
      (d.ctx k).doorbell = true) ∧ d.seqGoes = true ∧ d.rangePoisoned (d.ctxPc k) 8 = false ∧ w = d.linkWord (d.ctxPc k) ∧
      next = w % 2 ^ 40 ∧ w / 2 ^ 40 % 128 = 0 ∧ w % 4096 = 0 ∧ w.testBit 47 = true ∧ w / 2 ^ 48 = d.fld (Reg.SEQ_CTX_GEN.gen k) ∧
      (d.ctx k).stack = [] ∧ d.openJob k = none) ∧
    (∃ (d : Dev) (k w next : Nat) (i : Instr), k < 8 ∧ (i = .waitTailPoll k ∧ d.ctxState k = CtxState.tail) ∧ d.seqGoes = true ∧
      d.rangePoisoned (d.ctxPc k) 8 = false ∧ w = d.linkWord (d.ctxPc k) ∧ next = w % 2 ^ 40 ∧ w / 2 ^ 40 % 128 = 0 ∧ w % 4096 = 0 ∧
      w.testBit 47 = true ∧ w / 2 ^ 48 = d.fld (Reg.SEQ_CTX_GEN.gen k) ∧ (d.ctx k).stack = [] ∧ d.openJob k = none) ∧
    (∃ (d : Dev) (k w next : Nat) (i : Instr), k < 8 ∧ (i = .linkWord k ∧ d.ctxState k = CtxState.running ∧ d.ctxPc k % 4096 = 0xFF8) ∧
      d.seqGoes = true ∧ d.rangePoisoned (d.ctxPc k) 8 = false ∧ w = d.linkWord (d.ctxPc k) ∧ next = w % 2 ^ 40 ∧
      (w / 2 ^ 40 % 128 ≠ 0 ∨ w % 4096 ≠ 0)) ∧
    (∃ (d : Dev) (k w next : Nat) (i : Instr), k < 8 ∧ (i = .waitTailReread k ∧ d.ctxState k = CtxState.tail ∧
      (d.ctx k).doorbell = true) ∧ d.seqGoes = true ∧ d.rangePoisoned (d.ctxPc k) 8 = false ∧ w = d.linkWord (d.ctxPc k) ∧
      next = w % 2 ^ 40 ∧ (w / 2 ^ 40 % 128 ≠ 0 ∨ w % 4096 ≠ 0)) ∧
    (∃ (d : Dev) (k w next : Nat) (i : Instr), k < 8 ∧ (i = .waitTailPoll k ∧ d.ctxState k = CtxState.tail) ∧ d.seqGoes = true ∧
      d.rangePoisoned (d.ctxPc k) 8 = false ∧ w = d.linkWord (d.ctxPc k) ∧ next = w % 2 ^ 40 ∧ (w / 2 ^ 40 % 128 ≠ 0 ∨ w % 4096 ≠ 0)) ∧
    (∃ (d : Dev) (k w next : Nat) (i : Instr), k < 8 ∧ (i = .linkWord k ∧ d.ctxState k = CtxState.running ∧
      d.ctxPc k % 4096 = 0xFF8 ∨ i = .waitTailReread k ∧ d.ctxState k = CtxState.tail ∧ (d.ctx k).doorbell = true ∨ i = .waitTailPoll k ∧
      d.ctxState k = CtxState.tail) ∧ d.seqGoes = true ∧ d.rangePoisoned (d.ctxPc k) 8 = false ∧ w = d.linkWord (d.ctxPc k) ∧
      next = w % 2 ^ 40 ∧ w / 2 ^ 40 % 128 ≠ 0) ∧
    (∃ (d : Dev) (k w next : Nat) (i : Instr), k < 8 ∧ (i = .linkWord k ∧ d.ctxState k = CtxState.running ∧
      d.ctxPc k % 4096 = 0xFF8 ∨ i = .waitTailReread k ∧ d.ctxState k = CtxState.tail ∧ (d.ctx k).doorbell = true ∨ i = .waitTailPoll k ∧
      d.ctxState k = CtxState.tail) ∧ d.seqGoes = true ∧ d.rangePoisoned (d.ctxPc k) 8 = false ∧ w = d.linkWord (d.ctxPc k) ∧
      next = w % 2 ^ 40 ∧ w % 4096 ≠ 0) :=
  ⟨⟨(atLink (lk 0) (lk 1) CtxState.running), 7,
     ((atLink (lk 0) (lk 1) CtxState.running).linkWord ((atLink (lk 0) (lk 1) CtxState.running).ctxPc (7 : Nat))),
     (((atLink (lk 0) (lk 1) CtxState.running).linkWord ((atLink (lk 0) (lk 1) CtxState.running).ctxPc (7 : Nat))) % 2 ^ 40),
     (.linkWord (7 : Nat)), by decide +kernel⟩,
   ⟨(setCtx 7 { Ctx.idle with doorbell := true } (atLink (lk 0) (lk 1) CtxState.tail)), 7,
     ((setCtx 7 { Ctx.idle with doorbell := true } (atLink (lk 0) (lk 1) CtxState.tail)).linkWord ((setCtx 7 { Ctx.idle with doorbell := true } (atLink (lk 0) (lk 1) CtxState.tail)).ctxPc (7 : Nat))),
     (((setCtx 7 { Ctx.idle with doorbell := true } (atLink (lk 0) (lk 1) CtxState.tail)).linkWord ((setCtx 7 { Ctx.idle with doorbell := true } (atLink (lk 0) (lk 1) CtxState.tail)).ctxPc (7 : Nat))) % 2 ^ 40),
     (.waitTailReread (7 : Nat)), by decide +kernel⟩,
   ⟨(setCtx 7 Ctx.idle (atLink (lk 0) (lk 1) CtxState.tail)), 7,
     ((setCtx 7 Ctx.idle (atLink (lk 0) (lk 1) CtxState.tail)).linkWord ((setCtx 7 Ctx.idle (atLink (lk 0) (lk 1) CtxState.tail)).ctxPc (7 : Nat))),
     (((setCtx 7 Ctx.idle (atLink (lk 0) (lk 1) CtxState.tail)).linkWord ((setCtx 7 Ctx.idle (atLink (lk 0) (lk 1) CtxState.tail)).ctxPc (7 : Nat))) % 2 ^ 40),
     (.waitTailPoll (7 : Nat)), by decide +kernel⟩,
   ⟨(setCtx 7 Ctx.idle (atLink (lk 0) (lk 1 4) CtxState.running)), 7,
     ((setCtx 7 Ctx.idle (atLink (lk 0) (lk 1 4) CtxState.running)).linkWord ((setCtx 7 Ctx.idle (atLink (lk 0) (lk 1 4) CtxState.running)).ctxPc (7 : Nat))),
     (((setCtx 7 Ctx.idle (atLink (lk 0) (lk 1 4) CtxState.running)).linkWord ((setCtx 7 Ctx.idle (atLink (lk 0) (lk 1 4) CtxState.running)).ctxPc (7 : Nat))) % 2 ^ 40),
     (.linkWord (7 : Nat)), by decide +kernel⟩,
   ⟨(setCtx 7 { Ctx.idle with doorbell := true } (atLink (lk 0) (lk 1 4) CtxState.tail)), 7,
     ((setCtx 7 { Ctx.idle with doorbell := true } (atLink (lk 0) (lk 1 4) CtxState.tail)).linkWord ((setCtx 7 { Ctx.idle with doorbell := true } (atLink (lk 0) (lk 1 4) CtxState.tail)).ctxPc (7 : Nat))),
     (((setCtx 7 { Ctx.idle with doorbell := true } (atLink (lk 0) (lk 1 4) CtxState.tail)).linkWord ((setCtx 7 { Ctx.idle with doorbell := true } (atLink (lk 0) (lk 1 4) CtxState.tail)).ctxPc (7 : Nat))) % 2 ^ 40),
     (.waitTailReread (7 : Nat)), by decide +kernel⟩,
   ⟨(setCtx 7 Ctx.idle (atLink (lk 0) (lk 1 4) CtxState.tail)), 7,
     ((setCtx 7 Ctx.idle (atLink (lk 0) (lk 1 4) CtxState.tail)).linkWord ((setCtx 7 Ctx.idle (atLink (lk 0) (lk 1 4) CtxState.tail)).ctxPc (7 : Nat))),
     (((setCtx 7 Ctx.idle (atLink (lk 0) (lk 1 4) CtxState.tail)).linkWord ((setCtx 7 Ctx.idle (atLink (lk 0) (lk 1 4) CtxState.tail)).ctxPc (7 : Nat))) % 2 ^ 40),
     (.waitTailPoll (7 : Nat)), by decide +kernel⟩,
   ⟨(setCtx 7 Ctx.idle (atLink (lk 0 65535) (lk 1) CtxState.running)), 7,
     ((setCtx 7 Ctx.idle (atLink (lk 0 65535) (lk 1) CtxState.running)).linkWord ((setCtx 7 Ctx.idle (atLink (lk 0 65535) (lk 1) CtxState.running)).ctxPc (7 : Nat))),
     (((setCtx 7 Ctx.idle (atLink (lk 0 65535) (lk 1) CtxState.running)).linkWord ((setCtx 7 Ctx.idle (atLink (lk 0 65535) (lk 1) CtxState.running)).ctxPc (7 : Nat))) % 2 ^ 40),
     (.linkWord (7 : Nat)), by decide +kernel⟩,
   ⟨(setCtx 7 { Ctx.idle with doorbell := true } (atLink (lk 0 65535) (lk 1) CtxState.tail)), 7,
     ((setCtx 7 { Ctx.idle with doorbell := true } (atLink (lk 0 65535) (lk 1) CtxState.tail)).linkWord ((setCtx 7 { Ctx.idle with doorbell := true } (atLink (lk 0 65535) (lk 1) CtxState.tail)).ctxPc (7 : Nat))),
     (((setCtx 7 { Ctx.idle with doorbell := true } (atLink (lk 0 65535) (lk 1) CtxState.tail)).linkWord ((setCtx 7 { Ctx.idle with doorbell := true } (atLink (lk 0 65535) (lk 1) CtxState.tail)).ctxPc (7 : Nat))) % 2 ^ 40),
     (.waitTailReread (7 : Nat)), by decide +kernel⟩,
   ⟨(atLink (lk 0 65535) (lk 1) CtxState.tail), 7,
     ((atLink (lk 0 65535) (lk 1) CtxState.tail).linkWord ((atLink (lk 0 65535) (lk 1) CtxState.tail).ctxPc (7 : Nat))),
     (((atLink (lk 0 65535) (lk 1) CtxState.tail).linkWord ((atLink (lk 0 65535) (lk 1) CtxState.tail).ctxPc (7 : Nat))) % 2 ^ 40),
     (.waitTailPoll (7 : Nat)), by decide +kernel⟩,
   ⟨(setCtx 7 Ctx.idle (atLink (lk 1 4) (lk 1) CtxState.running)), 7,
     ((setCtx 7 Ctx.idle (atLink (lk 1 4) (lk 1) CtxState.running)).linkWord ((setCtx 7 Ctx.idle (atLink (lk 1 4) (lk 1) CtxState.running)).ctxPc (7 : Nat))),
     (((setCtx 7 Ctx.idle (atLink (lk 1 4) (lk 1) CtxState.running)).linkWord ((setCtx 7 Ctx.idle (atLink (lk 1 4) (lk 1) CtxState.running)).ctxPc (7 : Nat))) % 2 ^ 40),
     (.linkWord (7 : Nat)), by decide +kernel⟩,
   ⟨(atLink (lk 0 65535) (lk 1) CtxState.tail), 7,
     ((atLink (lk 0 65535) (lk 1) CtxState.tail).linkWord ((atLink (lk 0 65535) (lk 1) CtxState.tail).ctxPc (7 : Nat))),
     (((atLink (lk 0 65535) (lk 1) CtxState.tail).linkWord ((atLink (lk 0 65535) (lk 1) CtxState.tail).ctxPc (7 : Nat))) % 2 ^ 40),
     (.waitTailPoll (7 : Nat)), by decide +kernel⟩,
   ⟨(setCtx 7 { Ctx.idle with stack := [(0, 0)] } (atLink (lk 1) (lk 1) CtxState.running)), 7,
     ((setCtx 7 { Ctx.idle with stack := [(0, 0)] } (atLink (lk 1) (lk 1) CtxState.running)).linkWord ((setCtx 7 { Ctx.idle with stack := [(0, 0)] } (atLink (lk 1) (lk 1) CtxState.running)).ctxPc (7 : Nat))),
     (((setCtx 7 { Ctx.idle with stack := [(0, 0)] } (atLink (lk 1) (lk 1) CtxState.running)).linkWord ((setCtx 7 { Ctx.idle with stack := [(0, 0)] } (atLink (lk 1) (lk 1) CtxState.running)).ctxPc (7 : Nat))) % 2 ^ 40),
     (.linkWord (7 : Nat)), by decide +kernel⟩,
   ⟨(setCtx 7 { Ctx.idle with doorbell := true, stack := [(0, 0)] } (atLink (lk 1) (lk 1) CtxState.tail)), 7,
     ((setCtx 7 { Ctx.idle with doorbell := true, stack := [(0, 0)] } (atLink (lk 1) (lk 1) CtxState.tail)).linkWord ((setCtx 7 { Ctx.idle with doorbell := true, stack := [(0, 0)] } (atLink (lk 1) (lk 1) CtxState.tail)).ctxPc (7 : Nat))),
     (((setCtx 7 { Ctx.idle with doorbell := true, stack := [(0, 0)] } (atLink (lk 1) (lk 1) CtxState.tail)).linkWord ((setCtx 7 { Ctx.idle with doorbell := true, stack := [(0, 0)] } (atLink (lk 1) (lk 1) CtxState.tail)).ctxPc (7 : Nat))) % 2 ^ 40),
     (.waitTailReread (7 : Nat)), by decide +kernel⟩,
   ⟨(setCtx 7 { Ctx.idle with stack := [(0, 0)] } (atLink (lk 1) (lk 1) CtxState.tail)), 7,
     ((setCtx 7 { Ctx.idle with stack := [(0, 0)] } (atLink (lk 1) (lk 1) CtxState.tail)).linkWord ((setCtx 7 { Ctx.idle with stack := [(0, 0)] } (atLink (lk 1) (lk 1) CtxState.tail)).ctxPc (7 : Nat))),
     (((setCtx 7 { Ctx.idle with stack := [(0, 0)] } (atLink (lk 1) (lk 1) CtxState.tail)).linkWord ((setCtx 7 { Ctx.idle with stack := [(0, 0)] } (atLink (lk 1) (lk 1) CtxState.tail)).ctxPc (7 : Nat))) % 2 ^ 40),
     (.waitTailPoll (7 : Nat)), by decide +kernel⟩,
   ⟨(withJob 7 Ctx.idle Job.empty (atLink (lk 1) (lk 1) CtxState.running)), 7,
     ((withJob 7 Ctx.idle Job.empty (atLink (lk 1) (lk 1) CtxState.running)).linkWord ((withJob 7 Ctx.idle Job.empty (atLink (lk 1) (lk 1) CtxState.running)).ctxPc (7 : Nat))),
     (((withJob 7 Ctx.idle Job.empty (atLink (lk 1) (lk 1) CtxState.running)).linkWord ((withJob 7 Ctx.idle Job.empty (atLink (lk 1) (lk 1) CtxState.running)).ctxPc (7 : Nat))) % 2 ^ 40),
     (.linkWord (7 : Nat)), by decide +kernel⟩,
   ⟨(withJob 7 ({ Ctx.idle with doorbell := true }) Job.empty (atLink (lk 1) (lk 1) CtxState.tail)), 7,
     ((withJob 7 ({ Ctx.idle with doorbell := true }) Job.empty (atLink (lk 1) (lk 1) CtxState.tail)).linkWord ((withJob 7 ({ Ctx.idle with doorbell := true }) Job.empty (atLink (lk 1) (lk 1) CtxState.tail)).ctxPc (7 : Nat))),
     (((withJob 7 ({ Ctx.idle with doorbell := true }) Job.empty (atLink (lk 1) (lk 1) CtxState.tail)).linkWord ((withJob 7 ({ Ctx.idle with doorbell := true }) Job.empty (atLink (lk 1) (lk 1) CtxState.tail)).ctxPc (7 : Nat))) % 2 ^ 40),
     (.waitTailReread (7 : Nat)), by decide +kernel⟩,
   ⟨(withJob 7 Ctx.idle Job.empty (atLink (lk 1) (lk 1) CtxState.tail)), 7,
     ((withJob 7 Ctx.idle Job.empty (atLink (lk 1) (lk 1) CtxState.tail)).linkWord ((withJob 7 Ctx.idle Job.empty (atLink (lk 1) (lk 1) CtxState.tail)).ctxPc (7 : Nat))),
     (((withJob 7 Ctx.idle Job.empty (atLink (lk 1) (lk 1) CtxState.tail)).linkWord ((withJob 7 Ctx.idle Job.empty (atLink (lk 1) (lk 1) CtxState.tail)).ctxPc (7 : Nat))) % 2 ^ 40),
     (.waitTailPoll (7 : Nat)), by decide +kernel⟩,
   ⟨(put [(Reg.SEQ_CTX_STAT.boot 7, 1)] (withJob 7 Ctx.idle Job.empty (atLink (lk 1) (lk 1) CtxState.running))), 7,
     ((put [(Reg.SEQ_CTX_STAT.boot 7,
     1)] (withJob 7 Ctx.idle Job.empty (atLink (lk 1) (lk 1) CtxState.running))).linkWord ((put [(Reg.SEQ_CTX_STAT.boot 7,
     1)] (withJob 7 Ctx.idle Job.empty (atLink (lk 1) (lk 1) CtxState.running))).ctxPc (7 : Nat))), (((put [(Reg.SEQ_CTX_STAT.boot 7,
     1)] (withJob 7 Ctx.idle Job.empty (atLink (lk 1) (lk 1) CtxState.running))).linkWord ((put [(Reg.SEQ_CTX_STAT.boot 7,
     1)] (withJob 7 Ctx.idle Job.empty (atLink (lk 1) (lk 1) CtxState.running))).ctxPc (7 : Nat))) % 2 ^ 40), (.linkWord (7 : Nat)),
     by decide +kernel⟩,
   ⟨(put [(Reg.SEQ_CTX_STAT.boot 7, 1)] (withJob 7 { Ctx.idle with doorbell := true } Job.empty (atLink (lk 1) (lk 1) CtxState.tail))), 7,
     ((put [(Reg.SEQ_CTX_STAT.boot 7,
     1)] (withJob 7 { Ctx.idle with doorbell := true } Job.empty (atLink (lk 1) (lk 1) CtxState.tail))).linkWord ((put [(Reg.SEQ_CTX_STAT.boot 7,
     1)] (withJob 7 { Ctx.idle with doorbell := true } Job.empty (atLink (lk 1) (lk 1) CtxState.tail))).ctxPc (7 : Nat))),
     (((put [(Reg.SEQ_CTX_STAT.boot 7,
     1)] (withJob 7 { Ctx.idle with doorbell := true } Job.empty (atLink (lk 1) (lk 1) CtxState.tail))).linkWord ((put [(Reg.SEQ_CTX_STAT.boot 7,
     1)] (withJob 7 { Ctx.idle with doorbell := true } Job.empty (atLink (lk 1) (lk 1) CtxState.tail))).ctxPc (7 : Nat))) % 2 ^ 40),
     (.waitTailReread (7 : Nat)), by decide +kernel⟩,
   ⟨(put [(Reg.SEQ_CTX_STAT.boot 7, 1)] (withJob 7 Ctx.idle Job.empty (atLink (lk 1) (lk 1) CtxState.tail))), 7,
     ((put [(Reg.SEQ_CTX_STAT.boot 7,
     1)] (withJob 7 Ctx.idle Job.empty (atLink (lk 1) (lk 1) CtxState.tail))).linkWord ((put [(Reg.SEQ_CTX_STAT.boot 7,
     1)] (withJob 7 Ctx.idle Job.empty (atLink (lk 1) (lk 1) CtxState.tail))).ctxPc (7 : Nat))), (((put [(Reg.SEQ_CTX_STAT.boot 7,
     1)] (withJob 7 Ctx.idle Job.empty (atLink (lk 1) (lk 1) CtxState.tail))).linkWord ((put [(Reg.SEQ_CTX_STAT.boot 7,
     1)] (withJob 7 Ctx.idle Job.empty (atLink (lk 1) (lk 1) CtxState.tail))).ctxPc (7 : Nat))) % 2 ^ 40), (.waitTailPoll (7 : Nat)),
     by decide +kernel⟩,
   ⟨(atLink (lk 1) (lk 1) CtxState.running), 7,
     ((atLink (lk 1) (lk 1) CtxState.running).linkWord ((atLink (lk 1) (lk 1) CtxState.running).ctxPc (7 : Nat))),
     (((atLink (lk 1) (lk 1) CtxState.running).linkWord ((atLink (lk 1) (lk 1) CtxState.running).ctxPc (7 : Nat))) % 2 ^ 40),
     (.linkWord (7 : Nat)), by decide +kernel⟩,
   ⟨(setCtx 7 { Ctx.idle with doorbell := true } (atLink (lk 1) (lk 1) CtxState.tail)), 7,
     ((setCtx 7 { Ctx.idle with doorbell := true } (atLink (lk 1) (lk 1) CtxState.tail)).linkWord ((setCtx 7 { Ctx.idle with doorbell := true } (atLink (lk 1) (lk 1) CtxState.tail)).ctxPc (7 : Nat))),
     (((setCtx 7 { Ctx.idle with doorbell := true } (atLink (lk 1) (lk 1) CtxState.tail)).linkWord ((setCtx 7 { Ctx.idle with doorbell := true } (atLink (lk 1) (lk 1) CtxState.tail)).ctxPc (7 : Nat))) % 2 ^ 40),
     (.waitTailReread (7 : Nat)), by decide +kernel⟩,
   ⟨(setCtx 7 Ctx.idle (atLink (lk 1) (lk 1) CtxState.tail)), 7,
     ((setCtx 7 Ctx.idle (atLink (lk 1) (lk 1) CtxState.tail)).linkWord ((setCtx 7 Ctx.idle (atLink (lk 1) (lk 1) CtxState.tail)).ctxPc (7 : Nat))),
     (((setCtx 7 Ctx.idle (atLink (lk 1) (lk 1) CtxState.tail)).linkWord ((setCtx 7 Ctx.idle (atLink (lk 1) (lk 1) CtxState.tail)).ctxPc (7 : Nat))) % 2 ^ 40),
     (.waitTailPoll (7 : Nat)), by decide +kernel⟩,
   ⟨(atLink (lk 1 + 8) (lk 1) CtxState.running), 7,
     ((atLink (lk 1 + 8) (lk 1) CtxState.running).linkWord ((atLink (lk 1 + 8) (lk 1) CtxState.running).ctxPc (7 : Nat))),
     (((atLink (lk 1 + 8) (lk 1) CtxState.running).linkWord ((atLink (lk 1 + 8) (lk 1) CtxState.running).ctxPc (7 : Nat))) % 2 ^ 40),
     (.linkWord (7 : Nat)), by decide +kernel⟩,
   ⟨(setCtx 7 { Ctx.idle with doorbell := true } (atLink (lk 1 + 8) (lk 1) CtxState.tail)), 7,
     ((setCtx 7 { Ctx.idle with doorbell := true } (atLink (lk 1 + 8) (lk 1) CtxState.tail)).linkWord ((setCtx 7 { Ctx.idle with doorbell := true } (atLink (lk 1 + 8) (lk 1) CtxState.tail)).ctxPc (7 : Nat))),
     (((setCtx 7 { Ctx.idle with doorbell := true } (atLink (lk 1 + 8) (lk 1) CtxState.tail)).linkWord ((setCtx 7 { Ctx.idle with doorbell := true } (atLink (lk 1 + 8) (lk 1) CtxState.tail)).ctxPc (7 : Nat))) % 2 ^ 40),
     (.waitTailReread (7 : Nat)), by decide +kernel⟩,
   ⟨(atLink (lk 1 + 2 ^ 46) (lk 1) CtxState.tail), 7,
     ((atLink (lk 1 + 2 ^ 46) (lk 1) CtxState.tail).linkWord ((atLink (lk 1 + 2 ^ 46) (lk 1) CtxState.tail).ctxPc (7 : Nat))),
     (((atLink (lk 1 + 2 ^ 46) (lk 1) CtxState.tail).linkWord ((atLink (lk 1 + 2 ^ 46) (lk 1) CtxState.tail).ctxPc (7 : Nat))) % 2 ^ 40),
     (.waitTailPoll (7 : Nat)), by decide +kernel⟩,
   ⟨(atLink (lk 1 + 2 ^ 46) (lk 1) CtxState.tail), 7,
     ((atLink (lk 1 + 2 ^ 46) (lk 1) CtxState.tail).linkWord ((atLink (lk 1 + 2 ^ 46) (lk 1) CtxState.tail).ctxPc (7 : Nat))),
     (((atLink (lk 1 + 2 ^ 46) (lk 1) CtxState.tail).linkWord ((atLink (lk 1 + 2 ^ 46) (lk 1) CtxState.tail).ctxPc (7 : Nat))) % 2 ^ 40),
     (.waitTailPoll (7 : Nat)), by decide +kernel⟩,
   ⟨(atLink (lk 1 + 8) (lk 1) CtxState.running), 7,
     ((atLink (lk 1 + 8) (lk 1) CtxState.running).linkWord ((atLink (lk 1 + 8) (lk 1) CtxState.running).ctxPc (7 : Nat))),
     (((atLink (lk 1 + 8) (lk 1) CtxState.running).linkWord ((atLink (lk 1 + 8) (lk 1) CtxState.running).ctxPc (7 : Nat))) % 2 ^ 40),
     (.linkWord (7 : Nat)), by decide +kernel⟩⟩

end LinkWordsContinueEndOrHoldTheChain

namespace ContextsAreNudgedCountedAndAborted

def ab (k : Nat) (d : Dev) : Dev := d.modHdma fun h => { h with abort := some ⟨48 + k, 0, [0], 0⟩, rings := [(48 + k, { Ring.idle with job := some ⟨0, 0x10000, 7, 0, false, true, []⟩ })] }

/-- Each clause's hypotheses are met together. -/
theorem witness :
    (∃ (d : Dev) (k : Nat), d.responds (Reg.SEQ_CTX_DB.addr k) = true ∧ d.alone = true) ∧
    (∃ (d : Dev), d.responds Reg.SEQ_SYNC_INC.addr = true ∧ d.alone = true) ∧
    (∃ (d : Dev) (k : Nat) (a : Abort) (j : JobDesc), d.hdma.abort = some a ∧ (d.ring (48 + k)).job = some j ∧ a.ring = 48 + k ∧
      a.slots.contains j.index = true ∧ j.taken = true ∧ k < 8 ∧ d.flag (Reg.SEQ_CTX_STAT.boot k) = false ∧ d.ctxState k ≠ CtxState.idle ∧
      d.ctxState k ≠ CtxState.stopping ∧ k ≠ 0) ∧
    (∃ (d : Dev) (k : Nat) (a : Abort) (j : JobDesc), d.hdma.abort = some a ∧ (d.ring (48 + k)).job = some j ∧ a.ring = 48 + k ∧
      a.slots.contains j.index = true ∧ j.taken = true ∧ k < 8 ∧ d.flag (Reg.SEQ_CTX_STAT.boot k) = false ∧ d.ctxState k ≠ CtxState.idle ∧
      d.ctxState k ≠ CtxState.stopping ∧ d.openJob k = none) ∧
    (∃ (d : Dev) (k : Nat) (a : Abort) (j : JobDesc) (js : Nat), d.hdma.abort = some a ∧ (d.ring (48 + k)).job = some j ∧
      a.ring = 48 + k ∧ a.slots.contains j.index = true ∧ j.taken = true ∧ k < 8 ∧ d.flag (Reg.SEQ_CTX_STAT.boot k) = false ∧
      d.ctxState k ≠ CtxState.idle ∧ d.ctxState k ≠ CtxState.stopping ∧ k = 0 ∧ d.openJob 0 = some js ∧
      ((d.holdEnd (.seqBlock 0)).abortJob 0).jobFired js = false) ∧
    (∃ (d : Dev) (n : Nat) (p : Page), d.seq.pages.find? (fun e => !e.2.recorded) = some (n, p) ∧ p = d.page n ∧ d.pageComplete p = true) ∧
    (∃ (d : Dev) (n : Nat) (p : Page), d.seq.pages.find? (fun e => !e.2.recorded) = some (n, p) ∧ d.pageComplete p = false) :=
  ⟨⟨standby, 7, by decide +kernel⟩,
   ⟨standby, by decide +kernel⟩,
   ⟨(ab 7 (runs 7)), 7, (((ab 7 (runs 7)).hdma.abort).getD (⟨0, 0, [], 0⟩ : Abort)),
     ((((ab 7 (runs 7)).ring (48 + (7 : Nat))).job).getD (⟨0, 0, 0, 0, false, false, []⟩ : JobDesc)), by decide +kernel⟩,
   ⟨(ab 7 (runs 7)), 7, (((ab 7 (runs 7)).hdma.abort).getD (⟨0, 0, [], 0⟩ : Abort)),
     ((((ab 7 (runs 7)).ring (48 + (7 : Nat))).job).getD (⟨0, 0, 0, 0, false, false, []⟩ : JobDesc)), by decide +kernel⟩,
   ⟨(ab 0 (withPage { pg with segs := [⟨0, 64, some 0, false, 0⟩], bands := 1 } (withJob 0 Ctx.idle { Job.empty with closed := false } (runs 0 web)))),
     0,
     (((ab 0 (withPage { pg with segs := [⟨0, 64, some 0, false, 0⟩], bands := 1 } (withJob 0 Ctx.idle { Job.empty with closed := false } (runs 0 web)))).hdma.abort).getD (⟨0,
     0, [], 0⟩ : Abort)),
     ((((ab 0 (withPage { pg with segs := [⟨0, 64, some 0, false, 0⟩], bands := 1 } (withJob 0 Ctx.idle { Job.empty with closed := false } (runs 0 web)))).ring (48 + (0 : Nat))).job).getD (⟨0,
     0, 0, 0, false, false, []⟩ : JobDesc)), 5, by decide +kernel⟩,
   ⟨(withPage { pg with closed := true, corrected := 64, blanks := 2 } (withJob 0 Ctx.idle { Job.empty with closed := false } (runs 0 web))),
     3,
     ((withPage { pg with closed := true, corrected := 64, blanks := 2 } (withJob 0 Ctx.idle { Job.empty with closed := false } (runs 0 web))).page (3 : Nat)),
     by decide +kernel⟩,
   ⟨(withPage pg (withJob 0 Ctx.idle { Job.empty with closed := false } (runs 0 web))), 3,
     ((withPage pg (withJob 0 Ctx.idle { Job.empty with closed := false } (runs 0 web))).page (3 : Nat)), by decide +kernel⟩⟩

end ContextsAreNudgedCountedAndAborted

namespace BandsClearComposeAndCommit

def staged (g : Staging) (s : Nat) : Dev := put [(Reg.CMP_STAGE_STAT.state, s)] (withPage pg (withJob 0 Ctx.idle { Job.empty with closed := false } ((runs 0 web).modCmp fun c => { c with staging := some g })))

/-- Each clause's hypotheses are met together. -/
theorem witness :
    (∃ (d : Dev) (g : Staging), d.cmp.staging = some g ∧ d.stageState = Stage.clearing ∧ g.copy = false ∧ d.ctxState 0 ≠ CtxState.stalled) ∧
    (∃ (d : Dev) (g : Staging), d.cmp.staging = some g ∧ d.stageState = Stage.clearing ∧ g.copy = true ∧ d.ctxState 0 ≠ CtxState.stalled) ∧
    (∃ (d : Dev) (g : Staging), d.cmp.staging = some g ∧ d.stageState ≠ Stage.clearing) ∧
    (∃ (d : Dev) (g : Staging), d.cmp.staging = some g ∧ d.commitReady g = true ∧ d.ctxState 0 ≠ CtxState.stalled) ∧
    (∃ (d : Dev) (g : Staging), d.cmp.staging = some g ∧ d.commitReady g = false) ∧
    (∃ (d : Dev) (g : Staging) (l q c0 : Nat) (rest : List (Nat × Nat × Nat × Nat)), d.cmp.staging = some g ∧ d.cmp.failed = (1, l, q,
      c0) :: rest) :=
  ⟨⟨(staged stg Stage.clearing), stg, by decide +kernel⟩,
   ⟨(staged { stg with copy := true } Stage.clearing), ({ stg with copy := true }), by decide +kernel⟩,
   ⟨(staged { stg with confirmed := true } Stage.confirmed), ({ stg with confirmed := true }), by decide +kernel⟩,
   ⟨(staged { stg with confirmed := true } Stage.confirmed), ({ stg with confirmed := true }), by decide +kernel⟩,
   ⟨(staged stg Stage.clearing), stg, by decide +kernel⟩,
   ⟨((staged stg Stage.composing).modCmp fun c => { c with failed := [(1, 63, 3, 128)] }), stg, 63, 3, 128, [], by decide +kernel⟩⟩

end BandsClearComposeAndCommit

namespace DecodesStartCheckAndEnd

def frame0 : List Byte :=
  let h := leBytes 2 0x4654 ++ [1#8, 0#8] ++ leBytes 2 64 ++ leBytes 2 64 ++ leBytes 4 2048 ++ leBytes 4 0xa489834f ++ leBytes 3 0 ++ [0#8] ++ leBytes 8 0
  h ++ leBytes 4 (crc32c h) ++ List.replicate 2048 0#8
def tl (t : TileDef) (q : List Decode) (bs : List Byte) : Dev :=
  let d := (withJob 0 Ctx.idle { Job.empty with closed := false } (runs 0 web)).modRun fun r => { r with dir := [(5, 1)], nextDef := 2, defs := [(1, t)], decodes := q }
  { d with mem := d.mem.writeBytes 0x1000 bs }
def td : TileDef := ⟨5, 0x1000, 32 + 2048, false, false, 0, none, none, false, true, true, 0, 0⟩
def th : TileDef := { td with header := some (headerOf frame0) }

/-- Each clause's hypotheses are met together. -/
theorem witness :
    (∃ (d : Dev) (u n tile s : Nat) (q : Decode), d.nextDecode u d.run.decodes = some q ∧ d.decoderFree u = true ∧ q.first = none ∧
      q.item = .seg n tile s) ∧
    (∃ (d : Dev) (u n : Nat) (q : Decode), d.nextDecode u d.run.decodes = some q ∧ d.decoderFree u = true ∧ q.first = none ∧
      (q.item = .tile n ∧ d.fld Reg.RUN_CACHE_USED.used + d.tileGranules n ≤ 65536 ∧
      d.run.decodes.any (fun x => x.item == q.item) = true)) ∧
    (∃ (d : Dev) (u : Nat), d.decoderFree u = false) ∧
    (∃ (d : Dev) (u : Nat), d.nextDecode u d.run.decodes = none) ∧
    (∃ (d : Dev) (n tile : Nat), Tab.find d.run.dir tile = some n ∧ (d.tileDef n).header = none ∧ (d.tileDef n).failed = none ∧
      (d.tileDef n).busy = true ∧ d.ctxState 0 ≠ CtxState.stalled) ∧
    (∃ (d : Dev) (u n : Nat) (q : Decode) (bs : List Byte), d.run.decodes.find? (fun q => q.decoder == some u) = some q ∧
      q.item = .tile n ∧ d.waitsRefetch (.decoder (d.tileDef n).tile) = false ∧ d.ctxState 0 ≠ CtxState.stalled ∧
      (d.tileDef n).current = true ∧ d.decodeTile n = .ok bs ∧ q.first = none) ∧
    (∃ (d : Dev) (u n st : Nat) (q : Decode), d.run.decodes.find? (fun q => q.decoder == some u) = some q ∧ q.item = .tile n ∧
      d.waitsRefetch (.decoder (d.tileDef n).tile) = false ∧ d.ctxState 0 ≠ CtxState.stalled ∧ (d.tileDef n).current = true ∧
      q.first = none ∧ st ≠ DecStat.mem ∧ st ≠ DecStat.dict) ∧
    (∃ (d : Dev) (u n st : Nat) (q : Decode) (v : Nat), d.run.decodes.find? (fun q => q.decoder == some u) = some q ∧ q.item = .tile n ∧
      d.waitsRefetch (.decoder (d.tileDef n).tile) = false ∧ d.ctxState 0 ≠ CtxState.stalled ∧ (d.tileDef n).current = true ∧
      q.first = some (v, st) ∧ d.cmp.staging = none) ∧
    (∃ (d : Dev) (n e' s : Nat) (c : Committed), d.run.segments.find? (fun x => x.2 == e') = some (s, e') ∧ d.cmp.committed = some c ∧
      d.run.pcachePage = some n ∧ d.flag Reg.RUN_PCACHE_STAT.overflow = true) ∧
    (∃ (d : Dev) (n e' s : Nat) (c : Committed), d.run.segments.find? (fun x => x.2 == e') = some (s, e') ∧ d.cmp.committed = some c ∧
      d.run.pcachePage = some n ∧ d.flag Reg.RUN_PCACHE_STAT.overflow = false) :=
  ⟨⟨(tl td [⟨.seg 3 0 1, none, none, none⟩] []), 23, 3, 0, 1, (((tl td [⟨.seg 3 0 1, none, none,
     none⟩] []).nextDecode (23 : Nat) (tl td [⟨.seg 3 0 1, none, none, none⟩] []).run.decodes).getD (⟨(DecItem.tile 0), none, none,
     none⟩ : Decode)), by decide +kernel⟩,
   ⟨(tl td [⟨.tile 1, none, none, none⟩] []), 23, 1, (((tl td [⟨.tile 1, none, none, none⟩] []).nextDecode (23 : Nat) (tl td [⟨.tile 1,
     none, none, none⟩] []).run.decodes).getD (⟨(DecItem.tile 0), none, none, none⟩ : Decode)), by decide +kernel⟩,
   ⟨(tl td [⟨.tile 1, none, none, none⟩, ⟨.seg 3 0 1, some 23, none, none⟩] []), 23, by decide +kernel⟩,
   ⟨(tl th [⟨.tile 1, some 23, none, none⟩] frame0), 23, by decide +kernel⟩,
   ⟨(tl td [⟨.tile 1, none, none, none⟩] frame0), 1, 5, by decide +kernel⟩,
   ⟨(tl th [⟨.tile 1, some 23, none, none⟩] frame0), 23, 1, (((tl th [⟨.tile 1, some 23, none,
     none⟩] frame0).run.decodes.find? (fun q => q.decoder == some (23 : Nat))).getD (⟨(DecItem.tile 0), none, none, none⟩ : Decode)),
     (List.replicate 2048 0#8), by decide +kernel⟩,
   ⟨(tl th [⟨.tile 1, some 23, none, none⟩] frame0), 23, 1, 0, (((tl th [⟨.tile 1, some 23, none,
     none⟩] frame0).run.decodes.find? (fun q => q.decoder == some (23 : Nat))).getD (⟨(DecItem.tile 0), none, none, none⟩ : Decode)),
     by decide +kernel⟩,
   ⟨(tl th [⟨.tile 1, some 23, some (22, DecStat.tileCrc), none⟩] frame0), 23, 1, DecStat.tileCrc, (((tl th [⟨.tile 1, some 23, some (22,
     DecStat.tileCrc), none⟩] frame0).run.decodes.find? (fun q => q.decoder == some (23 : Nat))).getD (⟨(DecItem.tile 0), none, none,
     none⟩ : Decode)), 22, by decide +kernel⟩,
   ⟨(put [(Reg.CMP_GEOM.i_log2, 2), (Reg.RUN_PCACHE_STAT.overflow,
     1)] (((tl th [] []).modRun fun r => { r with segments := [(0, 2)], pcachePage := some 3 }).modCmp fun c => { c with committed := some ⟨3, 0, 1, 0, false, [], false, [(3, 5)], 1, []⟩ })),
     3, 2, 0, (((put [(Reg.CMP_GEOM.i_log2, 2), (Reg.RUN_PCACHE_STAT.overflow,
     1)] (((tl th [] []).modRun fun r => { r with segments := [(0, 2)], pcachePage := some 3 }).modCmp fun c => { c with committed := some ⟨3, 0, 1, 0, false, [], false, [(3, 5)], 1, []⟩ })).cmp.committed).getD (⟨0,
     0, 0, 0, false, [], false, [], 0, []⟩ : Committed)), by decide +kernel⟩,
   ⟨(put [(Reg.CMP_GEOM.i_log2,
     2)] <| ((withPage { pg with cached := true, length := 1 } (tl th [] [])).modRun fun r => { r with segments := [(0, 2)], pcachePage := some 3 }).modCmp fun c => { c with committed := some ⟨3, 0, 1, 0, false, [], false, [(3, 5)], 1, []⟩ }),
     3, 2, 0, (((put [(Reg.CMP_GEOM.i_log2,
     2)] <| ((withPage { pg with cached := true, length := 1 } (tl th [] [])).modRun fun r => { r with segments := [(0, 2)], pcachePage := some 3 }).modCmp fun c => { c with committed := some ⟨3, 0, 1, 0, false, [], false, [(3, 5)], 1, []⟩ }).cmp.committed).getD (⟨0,
     0, 0, 0, false, [], false, [], 0, []⟩ : Committed)), by decide +kernel⟩⟩

end DecodesStartCheckAndEnd

namespace TheExportStreamRunsFillsSuspendsAndEnds

def xp (st : Nat) (x : Option Export) : Dev := put [(Reg.RUN_XP_STAT.state, st), (Reg.RUN_XP_LEN.len, 64), (Reg.RUN_XP_DLEN.len, 64), (Reg.RUN_XP_DST_LO.addr_lo, 0x2000)] (standby.modRun fun r => { r with export_ := x })
def x1 : Export := ⟨1, false, 0x1000, 64, List.replicate 64 7#8, 0, 0, 0x2000, 64, 0, false, 0, false⟩
/-- A context record: its first four bytes bring the CRC register to 0, the rest of it is zero but for the check value that fits. -/
def recordHead : List Byte := List.replicate 4 255#8 ++ List.replicate 0x803C 0#8
def record : List Byte := recordHead ++ (List.replicate 4 255#8 ++ List.replicate 0x7BC 0#8)
theorem recordHead_length : recordHead.length = 0x8040 := by rw [recordHead, List.length_append, List.length_replicate, List.length_replicate]
theorem record_length : record.length = ctxRecordBytes := by
  rw [record, List.length_append, recordHead_length, List.length_append, List.length_replicate, List.length_replicate]
def withRecord (d : Dev) : Dev := { d with mem := d.mem.writeBytes (d.ctxRecord 0) record }
theorem written_reads_back (m : Mem) (a n : Nat) (bs : List Byte) (h : bs.length = n) : (m.writeBytes a bs).readBytes a n = bs :=
  h ▸ Mem.readBytes_writeBytes m a bs
theorem check_parts (p m y : List Byte) (hp : p.length = 0x8040) (hm : m.length = 4) : (p ++ (m ++ y)).take 0x8040 = p ∧
    (p ++ (m ++ y)).drop 0x8044 = y ∧ leAt (p ++ (m ++ y)) 0x8040 4 = ofLe m := by
  refine ⟨List.take_left' hp, ?_, ?_⟩
  · rw [← List.append_assoc]; exact List.drop_left' (by rw [List.length_append, hp, hm])
  · unfold leAt; rw [List.drop_left' hp, List.take_left' hm]
theorem check_padded (l : List Byte) (a b c : Nat) (h : crc32cRun 0xFFFFFFFF l = 0) :
    crc32c (l ++ List.replicate a 0#8 ++ List.replicate b 0#8 ++ List.replicate c 0#8) = 0xFFFFFFFF := by
  rw [List.append_assoc, List.append_assoc, List.replicate_append_replicate, List.replicate_append_replicate]
  exact crc_padded _ _ h
theorem record_crc : crc32c (record.take 0x8040 ++ leBytes 4 0 ++ record.drop 0x8044) = leAt record 0x8040 4 := by
  obtain ⟨t, r, l⟩ := check_parts recordHead (List.replicate 4 255#8) (List.replicate 0x7BC 0#8) recordHead_length List.length_replicate
  unfold record
  rw [t, r, l, show leBytes 4 0 = List.replicate 4 0#8 by decide +kernel]
  exact (check_padded _ _ _ _ (by decide +kernel)).trans (by decide +kernel)
theorem record_passes (d : Dev) (a n : Nat) (hn : record.length = n) (h : d.rangePoisoned a n = false) :
    (Dev.rangePoisoned { d with mem := d.mem.writeBytes a record } a n ||
      crc32c (((d.mem.writeBytes a record).readBytes a n).take 0x8040 ++ leBytes 4 0 ++ ((d.mem.writeBytes a record).readBytes a n).drop 0x8044) !=
        leAt ((d.mem.writeBytes a record).readBytes a n) 0x8040 4) = false := by
  rw [d.rangePoisoned_writeBytes, h, written_reads_back d.mem a n record hn, record_crc]
  simp
theorem bad_of_other_memory (d : Dev) (m : Mem) : Dev.ctxRecordBad { d with mem := m } 0 =
    (Dev.rangePoisoned { d with mem := m } (d.ctxRecord 0) ctxRecordBytes ||
      crc32c ((m.readBytes (d.ctxRecord 0) ctxRecordBytes).take 0x8040 ++ leBytes 4 0 ++ (m.readBytes (d.ctxRecord 0) ctxRecordBytes).drop 0x8044) !=
        leAt (m.readBytes (d.ctxRecord 0) ctxRecordBytes) 0x8040 4) := rfl
theorem record_is_good (d : Dev) (h : d.rangePoisoned (d.ctxRecord 0) ctxRecordBytes = false) : (withRecord d).ctxRecordBad 0 = false :=
  (bad_of_other_memory d _).trans (record_passes d (d.ctxRecord 0) ctxRecordBytes record_length h)
theorem record_meets : ∃ (d : Dev) (u : Nat) (x : Export), d.run.export_ = some x ∧ d.freeEncoder = some u ∧
    d.fld Reg.RUN_XP_STAT.state = 2 ∧ d.run.segments = [] ∧ x.saved = true ∧ d.ctxRecordBad 0 = false :=
  ⟨withRecord (xp 2 (some { x1 with encoder := 4, saved := true })), 0, { x1 with encoder := 4, saved := true }, by decide +kernel,
    by decide +kernel, by decide +kernel, by decide +kernel, by decide +kernel, record_is_good _ (by decide +kernel)⟩

/-- Each clause's hypotheses are met together. -/
theorem witness :
    (∃ (d : Dev), d.responds Reg.RUN_XP_CMD.addr = true ∧ d.xpOpen = false ∧ d.xpLen ≠ 0 ∧ d.xpDlen ≠ 0 ∧
      overlaps d.xpSrc d.xpLen d.xpDst d.xpDlen = false ∧ d.inFitted d.xpSrc d.xpLen = true ∧ d.inFitted d.xpDst d.xpDlen = true ∧
      d.run.segments = [] ∧ d.run.rejoin = none) ∧
    (∃ (d : Dev) (x : Export), d.responds Reg.RUN_XP_CMD.addr = true ∧ d.run.export_ = some x ∧ d.fld Reg.RUN_XP_STAT.state = 3 ∧
      d.xpDlen ≠ 0 ∧ overlaps x.src x.len d.xpDst d.xpDlen = false ∧ d.inFitted d.xpDst d.xpDlen = true) ∧
    (∃ (d : Dev), d.responds Reg.RUN_XP_CMD.addr = true ∧ d.fld Reg.RUN_XP_STAT.state ≠ 3) ∧
    (∃ (d : Dev) (x : Export), d.responds Reg.RUN_XP_CMD.addr = true ∧ d.xpOpen = true ∧ d.run.export_ = some x) ∧
    (∃ (d : Dev) (n : Nat) (x : Export), d.run.export_ = some x ∧ d.fld Reg.RUN_XP_STAT.state = 1 ∧ d.waitsRefetch .exportSource = false ∧
      x.memFail = false ∧ d.exportRoom x < x.rest.length ∧ d.fld Reg.RUN_XP_OUT.written ≤ x.area ∧ x.area < 2 ^ 32 ∧ x.consumed ≤ n ∧
      n ≤ x.len ∧ d.rangePoisoned (x.src + x.consumed) (n - x.consumed) = false) ∧
    (∃ (d : Dev) (x : Export), d.run.export_ = some x ∧ d.fld Reg.RUN_XP_STAT.state = 1 ∧ d.waitsRefetch .exportSource = false ∧
      x.memFail = false ∧ x.rest.length ≤ d.exportRoom x ∧ d.rangePoisoned (x.src + x.consumed) (x.len - x.consumed) = false) ∧
    (∃ (d : Dev) (x : Export), d.run.export_ = some x ∧ d.fld Reg.RUN_XP_STAT.state = 1 ∧ d.waitsRefetch .exportSource = false ∧
      x.memFail = true) ∧
    (∃ (d : Dev) (x : Export), d.run.export_ = some x ∧ d.fld Reg.RUN_XP_STAT.state = 1 ∧ d.waitsRefetch .exportSource = false ∧
      (d.rangePoisoned (x.src + x.consumed) (x.len - x.consumed) = true ∧ d.fld Reg.MIG_LOG_LEN.len = 0)) ∧
    (∃ (d : Dev) (x : Export), d.run.export_ = some x ∧ d.fld Reg.RUN_XP_STAT.state = 1 ∧ d.run.segments.any (fun s => s.2 == 4) = true ∧
      x.encoder ≠ 4) ∧
    (∃ (d : Dev) (u : Nat) (x : Export), d.run.export_ = some x ∧ d.freeEncoder = some u ∧ d.fld Reg.RUN_XP_STAT.state = 2 ∧
      d.run.segments = [] ∧ x.saved = false) ∧
    (∃ (d : Dev) (u : Nat) (x : Export), d.run.export_ = some x ∧ d.freeEncoder = some u ∧ d.fld Reg.RUN_XP_STAT.state = 2 ∧
      d.run.segments = [] ∧ x.saved = true ∧ d.ctxRecordBad 0 = false) ∧
    (∃ (d : Dev) (u : Nat) (x : Export), d.run.export_ = some x ∧ d.freeEncoder = some u ∧ d.fld Reg.RUN_XP_STAT.state = 2 ∧
      d.run.segments = [] ∧ x.saved = true ∧ d.ctxRecordBad 0 = true) :=
  ⟨⟨(xp 0 none), by decide +kernel⟩,
   ⟨(xp 3 (some { x1 with area := 0 })), (((xp 3 (some { x1 with area := 0 })).run.export_).getD (⟨0, false, 0, 0, [], 0, 0, 0, 0, 0,
     false, 0, false⟩ : Export)), by decide +kernel⟩,
   ⟨(xp 0 none), by decide +kernel⟩,
   ⟨(xp 1 (some { x1 with area := 32 })), (((xp 1 (some { x1 with area := 32 })).run.export_).getD (⟨0, false, 0, 0, [], 0, 0, 0, 0, 0,
     false, 0, false⟩ : Export)), by decide +kernel⟩,
   ⟨(xp 1 (some { x1 with area := 32 })), 0, (((xp 1 (some { x1 with area := 32 })).run.export_).getD (⟨0, false, 0, 0, [], 0, 0, 0, 0, 0,
     false, 0, false⟩ : Export)), by decide +kernel⟩,
   ⟨(xp 1 (some x1)), (((xp 1 (some x1)).run.export_).getD (⟨0, false, 0, 0, [], 0, 0, 0, 0, 0, false, 0, false⟩ : Export)),
     by decide +kernel⟩,
   ⟨(xp 1 (some { x1 with memFail := true })), (((xp 1 (some { x1 with memFail := true })).run.export_).getD (⟨0, false, 0, 0, [], 0, 0,
     0, 0, 0, false, 0, false⟩ : Export)), by decide +kernel⟩,
   ⟨(let d := xp 1 (some { x1 with src := 320 }); { d with mem := { d.mem with lines := [(5, ⟨true, 2, 0x18, 0⟩)] } }),
     (((let d := xp 1 (some { x1 with src := 320 }); { d with mem := { d.mem with lines := [(5, ⟨true, 2, 0x18, 0⟩)] } }).run.export_).getD (⟨0,
     false, 0, 0, [], 0, 0, 0, 0, 0, false, 0, false⟩ : Export)), by decide +kernel⟩,
   ⟨((xp 1 (some x1)).modRun fun r => { r with segments := [(0, 4)] }),
     ((((xp 1 (some x1)).modRun fun r => { r with segments := [(0, 4)] }).run.export_).getD (⟨0, false, 0, 0, [], 0, 0, 0, 0, 0, false, 0,
     false⟩ : Export)), by decide +kernel⟩,
   ⟨(xp 2 (some { x1 with encoder := 4 })), 0, (((xp 2 (some { x1 with encoder := 4 })).run.export_).getD (⟨0, false, 0, 0, [], 0, 0, 0,
     0, 0, false, 0, false⟩ : Export)), by decide +kernel⟩,
   record_meets,
   ⟨(let d := xp 2 (some { x1 with encoder := 4, saved := true }); { d with mem := { d.mem with lines := [(d.ctxRecord 0 / 64, ⟨true, 1, 0x2C, 0⟩)] } }),
     0,
     (((let d := xp 2 (some { x1 with encoder := 4, saved := true }); { d with mem := { d.mem with lines := [(d.ctxRecord 0 / 64, ⟨true, 1, 0x2C, 0⟩)] } }).run.export_).getD (⟨0,
     false, 0, 0, [], 0, 0, 0, 0, 0, false, 0, false⟩ : Export)), by decide +kernel⟩⟩

end TheExportStreamRunsFillsSuspendsAndEnds

namespace TokensApplyAndLinesPassTheStore

def fillP : Plc := ⟨1, 0x81000400001F803F, 0, 64, 64, 0, 0, 0x10000, none⟩
def comp (s : Nat) : Dev := put [(Reg.CMP_PAGE_W.page_w, 64), (Reg.CMP_STAGE_STAT.state, s), (Reg.ASM_PORT_CFG.elems_m1 0, 63), (Reg.HLK_PORT_EN.en, 1)] (withPage pg (withJob 0 Ctx.idle { Job.empty with closed := false } ((runs 0 web).modCmp fun c => { c with staging := some { stg with entries := [fillP] } })))
def lin : PortLine := ⟨3, 0, 0, 5, false, 0, none, [], 0, []⟩
def corr (segs : List Seg) : Dev := put [(Reg.CMP_GEOM.i_log2, 2), (Reg.CMP_GEOM.p_log2, 3)] <| (withPage { pg with segs := segs } (comp 0)).modCmp fun c => { c with staging := none, committed := some ⟨3, 0, 64, 0, false, [], false, [], 0, []⟩ }

/-- Each clause's hypotheses are met together. -/
theorem witness :
    (∃ (d : Dev) (k n : Nat) (g : Staging) (en : Nat) (p : Plc) (t : Token) (tile : List Byte), d.cmp.staging = some g ∧
      d.stageState = Stage.composing ∧ n = Tab.get g.lanes 0 k ∧ d.nextToken k g.band g.lines g.entries 0 n = some (en, p, t) ∧
      d.plcTile p = some tile ∧ d.stageHeld t = false ∧ d.laneBehind g (d.fld (laneFld k)) en = false) ∧
    (∃ (d : Dev) (k n : Nat) (g : Staging) (en : Nat) (p : Plc) (t : Token) (tile : List Byte), d.cmp.staging = some g ∧
      d.stageState = Stage.confirmed ∧ n = Tab.get g.lanes 0 k ∧ d.nextToken k g.band g.lines g.entries 0 n = some (en, p, t) ∧
      d.plcTile p = some tile ∧ d.stageHeld t = false ∧ d.laneBehind g (d.fld (laneFld k)) en = false) ∧
    (∃ (d : Dev) (z : Nat) (c : Committed), d.cmp.committed = some c ∧ c.next < c.lines ∧ d.cmp.failed = [] ∧
      d.asm.repairs.any (fun r => !r.1) = false ∧ (d.page c.page).zOf (64 * c.band + c.next) = some z ∧ d.storeStall c.page z = false) ∧
    (∃ (d : Dev) (z : Nat) (c : Committed), d.cmp.committed = some c ∧ c.next < c.lines ∧ d.cmp.failed = [] ∧
      d.asm.repairs.any (fun r => !r.1) = false ∧ (d.page c.page).zOf (64 * c.band + c.next) = some z ∧ d.storeStall c.page z = true) ∧
    (∃ (d : Dev) (k : Nat) (l : PortLine) (rest : List PortLine), d.storeLines k = l :: rest ∧ (d.lookLines k).length < 16 ∧
      d.repairHolds k = false ∧ d.isMirror = false ∧ d.slotBad k l.z = false) :=
  ⟨⟨(comp Stage.composing), 0, 0, ({ stg with entries := [fillP] }), 0, fillP, (0, 0, 0), [], by decide +kernel⟩,
   ⟨(comp Stage.confirmed), 1, 0, ({ stg with entries := [fillP] }), 0, fillP, (0, 0, 1), [], by decide +kernel⟩,
   ⟨(corr [⟨0, 64, some 0, false, 0⟩]), 0, (((corr [⟨0, 64, some 0, false, 0⟩]).cmp.committed).getD (⟨0, 0, 0, 0, false, [], false, [], 0,
     []⟩ : Committed)), by decide +kernel⟩,
   ⟨((corr [⟨0, 64, some 0, false, 0⟩]).modAsm fun x => { x with store := [(0, [lin])] }), 0, ((((corr [⟨0, 64, some 0, false,
     0⟩]).modAsm fun x => { x with store := [(0, [lin])] }).cmp.committed).getD (⟨0, 0, 0, 0, false, [], false, [], 0, []⟩ : Committed)),
     by decide +kernel⟩,
   ⟨((corr [⟨0, 64, some 0, false, 0⟩]).modAsm fun x => { x with store := [(0, [lin])] }), 0, lin, [], by decide +kernel⟩⟩

end TokensApplyAndLinesPassTheStore

namespace ParityAndPackedDosesGiveLinesBack

def parD : Dev := put [(Reg.HLK_PORT_EN.en, 3), (Reg.ASM_PORT_CFG.elems_m1 0, 63), (Reg.ASM_PORT_CFG.elems_m1 1, 63), (Reg.CMP_PAGE_W.page_w, 64)] standby
def parE : Dev := { parD with mem := ((parD.mem.writeBytes (parD.slotOf 0 0) [1#8, 2#8]).writeBytes (parD.slotOf 1 0) [4#8, 6#8]).writeBytes (parD.slotOf 32 0) [5#8, 4#8] }

/-- Each clause's hypotheses are met together. -/
theorem witness :
    (∃ (d : Dev) (k z y : Nat), k < 32 ∧ k ∈ d.parityGroup y ∧ (∀ j, j ∈ d.parityGroup y → j < 32 ∧ d.portBytes j ≤ 4096) ∧
      (d.parityGroup y).Nodup ∧ d.slotBad 32 z = false ∧ (∀ j, j ∈ d.parityGroup y → j ≠ k → d.slotBad j z = false) ∧
      d.slotBytes 32 z = (d.parityGroup y).foldl (fun a j => xorBytes a (d.slotBytes j z)) (List.replicate 4096 0#8)) ∧
    (∃ (ds : List Nat), ds.length % 2 = 0 ∧ (∀ x, x ∈ ds → x < 16)) :=
  ⟨⟨parE, 0, 0, 0, by decide +kernel⟩,
   ⟨[3, 15], by decide +kernel⟩⟩

end ParityAndPackedDosesGiveLinesBack

namespace CountsMoveThePositionsAndIndexEdgesAreChecked

def enc (src : Nat) (grid : Bool) (h : Nat) (lvl : Bool := true) : Dev := (put [(Reg.PAC_CFG.line_src, src), (Reg.PAC_ENC_CFG_A.filt_n, 1), (Reg.PAC_ENC_CFG_A.idx_n, 1), (Reg.PAC_IDX_CFG.idx_chk_en, 1), (Reg.PAC_REVERSE.reverse_limit, 2)] (web.setPair Reg.PAC_HWM_LO.addr h)).modPac fun p => { p with grid := grid, enc := [(0, ⟨0, some 5⟩)], balls := [(0, ⟨some false, false, 255, 0⟩), (1, ⟨some lvl, lvl, 255, 0⟩), (2, ⟨some false, false, 255, 0⟩)] }

/-- Each clause's hypotheses are met together. -/
theorem witness :
    (∃ (d : Dev) (c : Nat) (step dir : Bool) (p1 : Nat), c < 2 ∧ d.mode ≠ Mode.reset ∧ d.mode ≠ Mode.sleep ∧
      p1 = unsigned 48 ((d.pair (posAddr c) : Int) + d.counted c step dir) ∧ d.counted c step dir = 0) ∧
    (∃ (d : Dev) (c : Nat) (step dir : Bool) (p1 : Nat), c < 2 ∧ d.mode ≠ Mode.reset ∧ d.mode ≠ Mode.sleep ∧
      p1 = unsigned 48 ((d.pair (posAddr c) : Int) + d.counted c step dir) ∧ d.counted c step dir ≠ 0 ∧ d.fld Reg.PAC_CFG.line_src ≠ c) ∧
    (∃ (d : Dev) (c : Nat) (step dir : Bool) (p1 : Nat), c < 2 ∧ d.mode ≠ Mode.reset ∧ d.mode ≠ Mode.sleep ∧
      p1 = unsigned 48 ((d.pair (posAddr c) : Int) + d.counted c step dir) ∧ d.counted c step dir ≠ 0 ∧ d.fld Reg.PAC_CFG.line_src = c ∧
      d.pac.grid = false) ∧
    (∃ (d : Dev) (c : Nat) (step dir : Bool) (p1 : Nat), c < 2 ∧ d.mode ≠ Mode.reset ∧ d.mode ≠ Mode.sleep ∧
      p1 = unsigned 48 ((d.pair (posAddr c) : Int) + d.counted c step dir) ∧ d.counted c step dir ≠ 0 ∧ d.fld Reg.PAC_CFG.line_src = c ∧
      d.pac.grid = true ∧ d.ahead p1 d.hwm ≤ 0) ∧
    (∃ (d : Dev) (c : Nat) (step dir : Bool) (p1 : Nat), c < 2 ∧ d.mode ≠ Mode.reset ∧ d.mode ≠ Mode.sleep ∧
      p1 = unsigned 48 ((d.pair (posAddr c) : Int) + d.counted c step dir) ∧ d.counted c step dir ≠ 0 ∧ d.fld Reg.PAC_CFG.line_src = c ∧
      d.pac.grid = true ∧ 0 < d.ahead p1 d.hwm ∧ d.isShadow = false) ∧
    (∃ (d : Dev) (c : Nat) (level : Bool), d.mode ≠ Mode.reset ∧ d.mode ≠ Mode.sleep ∧ c < 2 ∧ d.ballEdge (Ball.idx c) level = false) ∧
    (∃ (d : Dev) (c : Nat) (level : Bool), d.mode ≠ Mode.reset ∧ d.mode ≠ Mode.sleep ∧ c < 2 ∧ level = (d.encCfg c).getLsbD 4) ∧
    (∃ (d : Dev) (c : Nat) (level : Bool), d.mode ≠ Mode.reset ∧ d.mode ≠ Mode.sleep ∧ c < 2 ∧ d.ballEdge (Ball.idx c) level = true ∧
      level ≠ (d.encCfg c).getLsbD 4 ∧ d.fld Reg.PAC_CFG.line_src ≠ c) ∧
    (∃ (d : Dev) (c : Nat) (level : Bool), d.mode ≠ Mode.reset ∧ d.mode ≠ Mode.sleep ∧ c < 2 ∧ d.ballEdge (Ball.idx c) level = true ∧
      level ≠ (d.encCfg c).getLsbD 4 ∧ d.flag Reg.PAC_IDX_CFG.idx_chk_en = false) ∧
    (∃ (d : Dev) (c p0 : Nat) (level : Bool), d.mode ≠ Mode.reset ∧ d.mode ≠ Mode.sleep ∧ c < 2 ∧ d.ballEdge (Ball.idx c) level = true ∧
      level ≠ (d.encCfg c).getLsbD 4 ∧ d.fld Reg.PAC_CFG.line_src = c ∧ d.flag Reg.PAC_IDX_CFG.idx_chk_en = true ∧
      d.flag Reg.PAC_STAT.dir_rev = false ∧ (d.encoder c).lastIndex = some p0) ∧
    (∃ (d : Dev) (c n : Nat) (s : Bool) (rest : List Bool) (o : EncOut), d.mode ≠ Mode.reset ∧ d.mode ≠ Mode.sleep ∧ c < 2 ∧
      o = Tab.get d.pac.outs EncOut.rest n ∧ o.waiting = s :: rest) ∧
    (∃ (d : Dev) (c n : Nat), d.mode ≠ Mode.reset ∧ d.mode ≠ Mode.sleep ∧ c < 2 ∧ (Tab.get d.pac.outs EncOut.rest n).waiting = []) :=
  ⟨⟨(enc 0 true 0 false), 0, false, false,
     (unsigned 48 (((enc 0 true 0 false).pair (posAddr (0 : Nat)) : Int) + (enc 0 true 0 false).counted (0 : Nat) false false)),
     by decide +kernel⟩,
   ⟨(enc 1 false 0), 0, true, true,
     (unsigned 48 (((enc 1 false 0).pair (posAddr (0 : Nat)) : Int) + (enc 1 false 0).counted (0 : Nat) true true)), by decide +kernel⟩,
   ⟨(enc 0 false 0 false), 0, true, false,
     (unsigned 48 (((enc 0 false 0 false).pair (posAddr (0 : Nat)) : Int) + (enc 0 false 0 false).counted (0 : Nat) true false)),
     by decide +kernel⟩,
   ⟨(enc 0 true 0 false), 0, true, false,
     (unsigned 48 (((enc 0 true 0 false).pair (posAddr (0 : Nat)) : Int) + (enc 0 true 0 false).counted (0 : Nat) true false)),
     by decide +kernel⟩,
   ⟨(enc 0 true 0), 0, true, true,
     (unsigned 48 (((enc 0 true 0).pair (posAddr (0 : Nat)) : Int) + (enc 0 true 0).counted (0 : Nat) true true)), by decide +kernel⟩,
   ⟨(enc 1 false 0), 0, false, by decide +kernel⟩,
   ⟨(enc 1 false 0), 0, false, by decide +kernel⟩,
   ⟨(enc 1 false 0), 0, true, by decide +kernel⟩,
   ⟨(put [(Reg.PAC_IDX_CFG.idx_chk_en, 0)] (enc 0 false 0)), 0, true, by decide +kernel⟩,
   ⟨(enc 0 false 0), 0, 5, true, by decide +kernel⟩,
   ⟨((enc 0 false 0).modPac fun p => { p with outs := [(1, ⟨[true, false], 0, false, [], 0⟩)] }), 1, 1, true, [false],
     (Tab.get ((enc 0 false 0).modPac fun p => { p with outs := [(1, ⟨[true, false], 0, false, [], 0⟩)] }).pac.outs EncOut.rest (1 : Nat)),
     by decide +kernel⟩,
   ⟨(enc 1 false 0), 0, 0, by decide +kernel⟩⟩

end CountsMoveThePositionsAndIndexEdgesAreChecked

namespace TheGridAdvancesWithoutCumulativeError

def scan : Dev := put [(Reg.PAC_CFG.print_mode, 2)] (inMode 10)
def pq : Pass := ⟨3, 63, 0, 1, 0, false, false⟩
def gridded (p : Nat) (h : Nat) (interp : Nat) (f : Pac → Pac) (lvl : Bool := true) : Dev :=
  (put [(Reg.PAC_CFG.line_src, 0), (Reg.PAC_ENC_CFG_A.filt_n, 1), (Reg.PAC_CFG.interp_en, interp), (Reg.PAC_FIRE_DLY.interp_cap_ns, 400), (Reg.PAC_LINE_NUM.value, 75000), (Reg.PAC_LINE_DEN.value, 1771)]
    ((web.setPair Reg.PAC_POS_A_LO.addr p).setPair Reg.PAC_HWM_LO.addr h)).modPac fun p => f { p with grid := true, q := 42, rem := 618, j := 1, balls := [(0, ⟨some false, false, 255, 0⟩), (1, ⟨some lvl, lvl, 255, 0⟩)] }

/-- Each clause's hypotheses are met together. -/
theorem witness :
    (∃ (num den : Nat) (a : Pac), 0 < den ∧ a.q * den + a.rem = a.j * num ∧ a.rem < den) ∧
    (∃ (d : Dev) (w : BitVec 56), d.canRun 0 1 = true ∧ reservedBad w.toNat 0xFFFFFFFF = false ∧ d.openJob 0 = none ∧
      (d.ctx 0).logLen = 0 ∧ d.mode = Mode.standby ∧ d.marginImage = false ∧ d.isScan = false ∧ 0 < d.fld Reg.PAC_LINE_DEN.value) ∧
    (∃ (d : Dev) (rising : Bool) (q : Pass) (rest : List Pass), d.mode = Mode.printScan ∧ d.ballEdge Ball.sos rising = true ∧
      rising ≠ d.flag Reg.PAC_DET_CFG.sos_pol ∧ d.fld Reg.PAC_CFG.line_src < 2 ∧ d.passArmed = true ∧ d.pac.passes = q :: rest) ∧
    (∃ (d : Dev) (c : Nat) (step dir : Bool) (ns frac t p1 : Nat), c < 2 ∧ d.mode ≠ Mode.reset ∧ d.mode ≠ Mode.sleep ∧
      t = d.countTime c step dir (ns * 65536 + frac) ∧ p1 = unsigned 48 ((d.pair (posAddr c) : Int) + d.counted c step dir) ∧
      d.counted c step dir ≠ 0 ∧ d.fld Reg.PAC_CFG.line_src = c ∧ d.pac.grid = true ∧ 0 < d.ahead p1 d.hwm ∧ d.isShadow = false ∧
      (d.pac.q : Int) + (if d.pac.rem = 0 then 0 else 1) ≤ d.ahead p1 d.pac.p0) ∧
    (∃ (d : Dev) (c : Nat) (step dir : Bool) (ns frac t p1 : Nat), c < 2 ∧ d.mode ≠ Mode.reset ∧ d.mode ≠ Mode.sleep ∧
      t = d.countTime c step dir (ns * 65536 + frac) ∧ p1 = unsigned 48 ((d.pair (posAddr c) : Int) + d.counted c step dir) ∧
      d.counted c step dir ≠ 0 ∧ d.fld Reg.PAC_CFG.line_src = c ∧ d.pac.grid = true ∧ 0 < d.ahead p1 d.hwm ∧ d.isShadow = false ∧
      d.ahead p1 d.pac.p0 < (d.pac.q : Int) + (if d.pac.rem = 0 then 0 else 1)) :=
  ⟨⟨7, 3, ({ Dev.reset.pac with q := 4, rem := 2, j := 2 }), by decide +kernel⟩,
   ⟨(put [(Reg.PAC_LINE_NUM.value, 75000), (Reg.PAC_LINE_DEN.value, 1771)] (runs 0)), 0xFFFFFFFF#56, by decide +kernel⟩,
   ⟨(put [(Reg.PAC_DET_CFG.sos_n, 1)] (scan.modPac fun p => { p with passes := [pq], balls := [(7, ⟨some false, false, 255, 0⟩)] })),
     true, pq, [], by decide +kernel⟩,
   ⟨(gridded 42 42 0 id true), 0, true, true, 1000, 0,
     ((gridded 42 42 0 id true).countTime (0 : Nat) true true ((1000 : Nat) * 65536 + (0 : Nat))),
     (unsigned 48 (((gridded 42 42 0 id true).pair (posAddr (0 : Nat)) : Int) + (gridded 42 42 0 id true).counted (0 : Nat) true true)),
     by decide +kernel⟩,
   ⟨(gridded 41 41 1 id true), 0, true, true, 1000, 0,
     ((gridded 41 41 1 id true).countTime (0 : Nat) true true ((1000 : Nat) * 65536 + (0 : Nat))),
     (unsigned 48 (((gridded 41 41 1 id true).pair (posAddr (0 : Nat)) : Int) + (gridded 41 41 1 id true).counted (0 : Nat) true true)),
     by decide +kernel⟩⟩

end TheGridAdvancesWithoutCumulativeError

namespace SheetsPassesAndFeedsFollowTheirEdges

def balls (t : Nat) (lvl : Bool) (d : Dev) : Dev := put [(Reg.PAC_DET_CFG.tos_n, 1), (Reg.PAC_DET_CFG.sos_n, 1)] (d.modPac fun p => { p with balls := [(t, ⟨some lvl, lvl, 255, 0⟩)] })
def sheet (n : Nat) : Dev := withJob 0 Ctx.idle { Job.empty with closed := false } (put [(Reg.PAC_CFG.print_mode, 1)] ((inMode 9).modPac fun p => { p with datums := List.replicate n 3 }))
def scan : Dev := put [(Reg.PAC_CFG.print_mode, 2)] (inMode 10)
def pq : Pass := ⟨3, 63, 0, 1, 0, false, false⟩

/-- Each clause's hypotheses are met together. -/
theorem witness :
    (∃ (d : Dev) (rising : Bool), d.mode = Mode.printSheet ∧ d.ballEdge Ball.tos rising = true ∧ rising ≠ d.flag Reg.PAC_DET_CFG.tos_pol ∧
      d.pac.tosPos = none ∧ (d.openJob 0).isSome = true ∧
      d.seq.pages.any (fun e => !e.2.recorded && e.2.segs.any fun s => s.z.isNone) = false ∧ d.pac.datums.length < 8) ∧
    (∃ (d : Dev) (rising : Bool), d.mode = Mode.printSheet ∧ d.ballEdge Ball.tos rising = true ∧ rising ≠ d.flag Reg.PAC_DET_CFG.tos_pol ∧
      d.pac.tosPos = none ∧ (d.openJob 0).isSome = true ∧
      d.seq.pages.any (fun e => !e.2.recorded && e.2.segs.any fun s => s.z.isNone) = false ∧ 8 ≤ d.pac.datums.length) ∧
    (∃ (d : Dev), d.mode ≠ Mode.printSheet) ∧
    (∃ (d : Dev) (rising : Bool), d.ballEdge Ball.tos rising = false) ∧
    (∃ (d : Dev) (rising : Bool), rising = d.flag Reg.PAC_DET_CFG.tos_pol) ∧
    (∃ (d : Dev) (rising : Bool) (q : Pass) (rest : List Pass), d.mode = Mode.printScan ∧ d.ballEdge Ball.sos rising = true ∧
      rising ≠ d.flag Reg.PAC_DET_CFG.sos_pol ∧ d.passArmed = true ∧ d.pac.passes = q :: rest) ∧
    (∃ (d : Dev) (rising : Bool), d.mode = Mode.printScan ∧ d.ballEdge Ball.sos rising = true ∧ rising ≠ d.flag Reg.PAC_DET_CFG.sos_pol ∧
      d.passArmed = false) ∧
    (∃ (d : Dev), d.mode ≠ Mode.printScan) ∧
    (∃ (d : Dev) (rising : Bool), d.ballEdge Ball.sos rising = false) ∧
    (∃ (d : Dev) (rising : Bool), rising = d.flag Reg.PAC_DET_CFG.sos_pol) ∧
    (∃ (d : Dev) (page entry lines t : Nat), d.pac.feed = some (page, entry, lines, t) ∧ d.fld Reg.PAC_PASS_STAT.feed = 0) ∧
    (∃ (d : Dev) (rising : Bool) (page entry lines t : Nat), d.pac.feed = some (page, entry, lines, t) ∧ d.pac.feedReq = true ∧
      d.ballEdge Ball.feedDone rising = true ∧ rising ≠ d.flag Reg.PAC_DET_CFG.sos_pol) ∧
    (∃ (d : Dev), d.fld Reg.PAC_PASS_STAT.feed = 2 ∧ d.timeRuns = true ∧
      d.levelAfter Ball.feedDone (d.flag Reg.PAC_DET_CFG.sos_pol) = some (d.flag Reg.PAC_DET_CFG.sos_pol)) ∧
    (∃ (d : Dev), d.fld Reg.PAC_PASS_STAT.feed ≠ 2) :=
  ⟨⟨(balls 6 false (sheet 7)), true, by decide +kernel⟩,
   ⟨(balls 6 false (sheet 8)), true, by decide +kernel⟩,
   ⟨(balls 7 false (scan.modPac fun p => { p with passes := [pq] })), by decide +kernel⟩,
   ⟨(balls 6 false (sheet 8)), false, by decide +kernel⟩,
   ⟨(balls 6 false (sheet 8)), false, by decide +kernel⟩,
   ⟨(balls 7 false (scan.modPac fun p => { p with passes := [pq] })), true, pq, [], by decide +kernel⟩,
   ⟨(balls 7 false scan), true, by decide +kernel⟩,
   ⟨(balls 6 false (sheet 7)), by decide +kernel⟩,
   ⟨(balls 6 false (sheet 7)), true, by decide +kernel⟩,
   ⟨(balls 6 false (sheet 8)), false, by decide +kernel⟩,
   ⟨(scan.modPac fun p => { p with feed := some (3, 0, 5, 0) }), 3, 0, 5, 0, by decide +kernel⟩,
   ⟨(balls 8 false <| put [(Reg.PAC_PASS_STAT.feed, 1)] (scan.modPac fun p => { p with feed := some (3, 0, 5, 0), feedReq := true })),
     true, 3, 0, 5, 0, by decide +kernel⟩,
   ⟨(balls 8 true (put [(Reg.PAC_PASS_STAT.feed, 2)] scan)), by decide +kernel⟩,
   ⟨(balls 6 false (sheet 7)), by decide +kernel⟩⟩

end SheetsPassesAndFeedsFollowTheirEdges

namespace EventsAreQueuedAcceptedAndRouted

def q1 (r : EvRec) (n : Nat := 1) (m : Nat := 6) : Dev := (inMode m).modFlt fun f => { f with queues := [(r.src, ⟨List.replicate n r, 0⟩)] }
def er (code sev : Nat) (ring : Option Nat := none) : EvRec := ⟨5, 0x18, sev, code, 1, 2, ring, false, false, false⟩

/-- Each clause's hypotheses are met together. -/
theorem witness :
    (∃ (sev j : Nat), sev < 6 ∧ j < 8 ∧ sev = 5) ∧
    (∃ (d : Dev) (sev src j : Nat), sev < 6 ∧ j < 8 ∧ d.hasRoom src = true) ∧
    (∃ (d : Dev) (sev src j : Nat), sev < 6 ∧ j < 8 ∧ sev ≠ 5 ∧ d.hasRoom src = false) ∧
    (∃ (d : Dev) (sev src j : Nat) (r : EvRec) (rest : List EvRec), sev < 6 ∧ j < 8 ∧ d.raisedBy src = r :: rest ∧ r.sev = sev ∧
      d.shadowServes = false) ∧
    (∃ (d : Dev) (sev src j : Nat) (r : EvRec) (rest : List EvRec), sev < 6 ∧ j < 8 ∧ d.raisedBy src = r :: rest ∧ d.shadowServes = true) ∧
    (∃ (d : Dev) (sev src j : Nat), sev < 6 ∧ j < 8 ∧ d.raisedBy src = []) ∧
    (∃ (d : Dev) (sev j : Nat), sev < 6 ∧ j < 8 ∧ d.flt.droppedTotal ≠ 0 ∧ d.hasRoom 0x78 = true ∧
      d.flt.queues.any (fun e => e.2.dropped != 0 && Nat.ble evQueueRoom e.2.waiting.length) = false) ∧
    (∃ (d : Dev) (sev j : Nat), sev < 6 ∧ j < 8 ∧ d.flt.droppedTotal = 0) ∧
    (∃ (d : Dev) (sev j : Nat), sev < 6 ∧ j < 8 ∧ d.hasRoom 0x78 = false) ∧
    (∃ (d : Dev) (sev j : Nat), sev < 6 ∧ j < 8 ∧
      d.flt.queues.any (fun e => e.2.dropped != 0 && Nat.ble evQueueRoom e.2.waiting.length) = true) :=
  ⟨⟨5, 0, by decide +kernel⟩,
   ⟨(inMode 6), 3, 0x18, 7, by decide +kernel⟩,
   ⟨(q1 (er 0x0303 3) 63), 4, 0x18, 0, by decide +kernel⟩,
   ⟨(q1 (er 0x0303 3 (some 7))), 3, 0x18, 7, (er 0x0303 3 (some 7)), [], by decide +kernel⟩,
   ⟨(put [(Reg.GLB_SHADOW_OF.sub_state, 1)] (q1 (er 0x0303 3) 1 11)), 3, 0x18, 7, (er 0x0303 3), [], by decide +kernel⟩,
   ⟨(inMode 6), 3, 0x18, 7, by decide +kernel⟩,
   ⟨((inMode 6).modFlt fun f => { f with droppedTotal := 3, droppedSrc := 0x18 }), 0, 0, by decide +kernel⟩,
   ⟨(inMode 6), 3, 7, by decide +kernel⟩,
   ⟨((inMode 6).modFlt fun f => { f with droppedTotal := 3, droppedSrc := 0x18, queues := [(0x78, ⟨List.replicate 63 (er 0x0303 3), 0⟩)] }),
     0, 0, by decide +kernel⟩,
   ⟨((inMode 6).modFlt fun f => { f with droppedTotal := 3, droppedSrc := 0x18, queues := [(0x18, ⟨List.replicate 63 (er 0x0303 3), 3⟩)] }),
     0, 0, by decide +kernel⟩⟩

end EventsAreQueuedAcceptedAndRouted

namespace EventRecordsAndMessagesReachTheHost

def evo (f : EvRing) : Dev := put [(Reg.HDMA_RING_CTL.enable 63, 1), (Reg.HDMA_RING_STAT.state 63, 1), (Reg.HDMA_PCI_STAT.link_up, 1), (Reg.HDMA_RING_PTR.head 63, 254)] ((inMode 6).modFlt fun x => { x with rings := [(7, f)] })
def er : EvRec := ⟨5, 0x18, 3, 0x0303, 1, 2, none, false, false, false⟩
def held (c : Bool) : Dev := (put [(Reg.HDMA_RING_CTL.holdoff_us 0, 5), (Reg.HDMA_RING_CFG.vector 0, 127)] (inMode 6)).modHdma fun h => { h with msixEnable := true, rings := [(0, ⟨none, none, false, true, c, false⟩)] }

/-- Each clause's hypotheses are met together. -/
theorem witness :
    (∃ (d : Dev) (j n : Nat), j < 8 ∧ n < 64 ∧ d.evOpen j = true ∧ d.evSpace j ≠ 0 ∧ d.shadowServes = false ∧ d.pairServes = false ∧
      d.linkRecordOwed j = true) ∧
    (∃ (d : Dev) (j n : Nat) (r : EvRec) (rest : List EvRec), j < 8 ∧ n < 64 ∧ d.evOpen j = true ∧ d.evSpace j ≠ 0 ∧
      d.shadowServes = false ∧ d.pairServes = false ∧ d.linkRecordOwed j = false ∧ (Tab.get d.flt.rings EvRing.empty j).lost = 0 ∧
      (Tab.get d.flt.rings EvRing.empty j).waiting = r :: rest) ∧
    (∃ (d : Dev) (j n : Nat), j < 8 ∧ n < 64 ∧ d.evOpen j = true ∧ d.evSpace j ≠ 0 ∧ d.shadowServes = false ∧ d.pairServes = false ∧
      d.linkRecordOwed j = false ∧ (Tab.get d.flt.rings EvRing.empty j).lost ≠ 0) ∧
    (∃ (d : Dev) (j n : Nat), j < 8 ∧ n < 64 ∧ d.evOpen j = false) ∧
    (∃ (d : Dev) (j n : Nat), j < 8 ∧ n < 64 ∧ d.evSpace j = 0) ∧
    (∃ (d : Dev) (j n : Nat), j < 8 ∧ n < 64 ∧ (d.ring n).holdoff = false) ∧
    (∃ (d : Dev) (j n : Nat), j < 8 ∧ n < 64 ∧ (d.ring n).holdoff = true ∧ (d.ring n).holdoffCause = false) ∧
    (∃ (d : Dev) (j n v : Nat), j < 8 ∧ n < 64 ∧ (d.ring n).holdoff = true ∧ (d.ring n).holdoffCause = true ∧ d.ringOff n = false ∧
      d.hdma.msixEnable = true ∧ d.shadowServes = false ∧ v = d.fld (Reg.HDMA_RING_CFG.vector n)) ∧
    (∃ (d : Dev) (j n v : Nat), j < 8 ∧ n < 64 ∧ v < 128 ∧ d.bar0 = true ∧ d.responds (Reg.HDMA_MSIX_CTRL.addr v) = true) :=
  ⟨⟨((put [(Reg.HDMA_RING_CTL.enable 56, 1), (Reg.HDMA_RING_STAT.state 56, 1), (Reg.HDMA_PCI_STAT.link_up,
     1)] (inMode 6)).modHdma fun h => { h with linkResets := 2 }), 0, 0, by decide +kernel⟩,
   ⟨(evo ⟨[er], 0, 0, 0xFFFFFFFF⟩), 7, 0, er, [], by decide +kernel⟩,
   ⟨(evo ⟨[er], 3, 2, 1⟩), 7, 0, by decide +kernel⟩,
   ⟨(inMode 6), 0, 63, by decide +kernel⟩,
   ⟨(put [(Reg.HDMA_RING_PTR.tail 63, 255)] (evo ⟨[er], 0, 0, 3⟩)), 7, 0, by decide +kernel⟩,
   ⟨(evo ⟨[er], 0, 0, 0xFFFFFFFF⟩), 7, 0, by decide +kernel⟩,
   ⟨(held false), 0, 0, by decide +kernel⟩,
   ⟨(held true), 0, 0, 127, by decide +kernel⟩,
   ⟨(evo ⟨[er], 0, 0, 0xFFFFFFFF⟩), 7, 0, 0, by decide +kernel⟩⟩

end EventRecordsAndMessagesReachTheHost

namespace TheLinkAndTheWatchedConditionsAreReported

/-- Each clause's hypotheses are met together. -/
theorem witness :
    (∃ (d : Dev), d.bar0 = true) ∧
    (∃ (d : Dev), (d.raisedBy 0x78).length + 2 ≤ evQueueRoom) ∧
    (∃ (d : Dev), d.hasRoom 0x78 = true) ∧
    (∃ (d : Dev), d.timeRuns = true) ∧
    (∃ (d : Dev), d.timeRuns = false) :=
  ⟨⟨(put [(Reg.HDMA_RING_CTL.enable 63, 1), (Reg.HDMA_PCI_STAT.link_up, 1), (Reg.HDMA_WIN_BASE.win_base, 3)] (inMode 6)),
     by decide +kernel⟩,
   ⟨(put [(Reg.HDMA_RING_CTL.enable 63, 1), (Reg.HDMA_PCI_STAT.link_up, 1), (Reg.HDMA_WIN_BASE.win_base, 3)] (inMode 6)),
     by decide +kernel⟩,
   ⟨(put [(Reg.HDMA_RING_CTL.enable 63, 1), (Reg.HDMA_PCI_STAT.link_up, 1), (Reg.HDMA_WIN_BASE.win_base, 3)] (inMode 6)),
     by decide +kernel⟩,
   ⟨(put [(Reg.HDMA_RING_CTL.enable 63, 1), (Reg.HDMA_PCI_STAT.link_up, 1), (Reg.HDMA_WIN_BASE.win_base, 3)] (inMode 6)),
     by decide +kernel⟩,
   ⟨(inMode 5), by decide +kernel⟩⟩

end TheLinkAndTheWatchedConditionsAreReported

namespace PortsAreBroughtUpAndLost

def port (s : Nat) (h : HPort := HPort.off) (k : Nat := 31) (d : Dev := standby) : Dev := put [(Reg.HLK_PORT_EN.en, 0x80000001), (Reg.HLK_PORT_STAT.state k, s)] (d.modHlk fun x => { x with ports := Tab.set [] HPort.off k h })
def capOk : List Byte := [1#8] ++ leBytes 4 0x11223344 ++ List.replicate 4 0#8 ++ [127#8, 2#8, 2#8, 1#8] ++ leBytes 2 50 ++ leBytes 2 102 ++ leBytes 2 100 ++ [1#8, 0#8]
def syn (n : Nat) (r : Nat) (last : Nat) : Dev := put [(Reg.PAC_FIRE_DLY.fire_dly_ns, 20000)] (port PortState.delay { HPort.off with syncs := [0x1FF], rtts := (List.range n).map fun i => if i = 0 then last else r })

/-- Each clause's hypotheses are met together. -/
theorem witness :
    (∃ (d : Dev) (k : Nat), k < 32 ∧ d.portEnabled k = true ∧ d.portState k = PortState.fault) ∧
    (∃ (d : Dev) (k : Nat), k < 32 ∧ d.portEnabled k = true ∧ d.portState k ≠ PortState.fault) ∧
    (∃ (d : Dev) (k : Nat) (v : Word), k < 32 ∧ d.portEnabled k = true ∧ d.responds (Reg.HLK_PORT_CTL.addr k) = true ∧
      v.getLsbD 0 = true ∧ d.portState k ≠ PortState.off ∧ d.portUp k = false) ∧
    (∃ (d : Dev) (k : Nat) (v : Word), k < 32 ∧ d.portEnabled k = true ∧ d.responds (Reg.HLK_PORT_CTL.addr k) = true ∧
      v.getLsbD 0 = true ∧ d.portState k ≠ PortState.off ∧ d.portUp k = true ∧ (d.hport k).due = [] ∧ d.spitting k = false ∧
      d.hasRoom 0x58 = true) ∧
    (∃ (d : Dev) (k : Nat) (v : Word), k < 32 ∧ d.portEnabled k = true ∧ v.getLsbD 0 = false) ∧
    (∃ (d : Dev) (k : Nat), k < 32 ∧ d.portEnabled k = true ∧ d.portState k = PortState.train) ∧
    (∃ (d : Dev) (k : Nat), k < 32 ∧ d.portEnabled k = true ∧ d.portState k = PortState.shape) ∧
    (∃ (d : Dev) (k : Nat), k < 32 ∧ d.portEnabled k = true ∧ d.portState k = PortState.delay) ∧
    (∃ (d : Dev) (k : Nat), k < 32 ∧ d.portEnabled k = true ∧ d.portState k = PortState.off) ∧
    (∃ (d : Dev) (k : Nat), k < 32 ∧ d.portEnabled k = true ∧ PortState.up ≤ d.portState k) ∧
    (∃ (d : Dev) (k valid : Nat), k < 32 ∧ d.portEnabled k = true ∧ valid < 32) ∧
    (∃ (d : Dev) (k errors silent : Nat), k < 32 ∧ d.portEnabled k = true ∧ silent < 10000 ∧ errors < 16 ∧ (d.hport k).charErrs = []) ∧
    (∃ (d : Dev) (k silent : Nat), k < 32 ∧ d.portEnabled k = true ∧ 10000 ≤ silent ∧ d.portUp k = false) ∧
    (∃ (d : Dev) (k errors : Nat), k < 32 ∧ d.portEnabled k = true ∧ 16 ≤ errors ∧ d.portUp k = false) ∧
    (∃ (d : Dev) (k silent : Nat), k < 32 ∧ d.portEnabled k = true ∧ 10000 ≤ silent ∧ d.portUp k = true ∧ (d.hport k).due = [] ∧
      d.spitting k = false) ∧
    (∃ (d : Dev) (k errors : Nat), k < 32 ∧ d.portEnabled k = true ∧ 16 ≤ errors ∧ d.portUp k = true ∧ (d.hport k).due = [] ∧
      d.spitting k = false) ∧
    (∃ (d : Dev) (k silent : Nat), k < 32 ∧ d.portEnabled k = true ∧ 10000 ≤ silent ∧ d.portUp k = true ∧ d.pairLines = true) ∧
    (∃ (d : Dev) (k errors : Nat), k < 32 ∧ d.portEnabled k = true ∧ 16 ≤ errors ∧ d.portUp k = true ∧ d.pairLines = true) ∧
    (∃ (d : Dev) (k : Nat) (b : List Byte), k < 32 ∧ d.portEnabled k = true ∧ d.portState k = PortState.cap ∧ d.capPasses k b = true) ∧
    (∃ (d : Dev) (k : Nat) (b : List Byte), k < 32 ∧ d.portEnabled k = true ∧ d.portState k = PortState.cap ∧ d.capPasses k b = false) ∧
    (∃ (d : Dev) (k : Nat), k < 32 ∧ d.portEnabled k = true ∧ d.portState k ≠ PortState.cap) ∧
    (∃ (d : Dev) (k : Nat), k < 32 ∧ d.portEnabled k = true ∧ d.portState k = PortState.delay ∧
      (d.hport k).syncs.length + (d.hport k).rtts.length < 16) ∧
    (∃ (d : Dev) (k : Nat), k < 32 ∧ d.portEnabled k = true ∧ d.portState k ≠ PortState.delay) ∧
    (∃ (d : Dev) (k seq n : Nat), k < 32 ∧ d.portEnabled k = true ∧ d.portState k = PortState.delay ∧
      (d.hport k).syncs.find? (fun n => n % 256 == seq) = some n ∧ (d.hport k).rtts.length < 15) ∧
    (∃ (d : Dev) (k seq rtt n : Nat) (m : Dev) (spread : Nat), k < 32 ∧ d.portEnabled k = true ∧ d.portState k = PortState.delay ∧
      (d.hport k).syncs.find? (fun n => n % 256 == seq) = some n ∧ 15 ≤ (d.hport k).rtts.length ∧
      m = d.modPort k (fun h => { h with syncs := h.syncs.erase n, rtts := h.rtts ++ [rtt] }) ∧
      spread = (m.hport k).rtts.foldl max 0 - (m.hport k).rtts.foldl min rtt ∧ 2000 < spread * 640) ∧
    (∃ (d : Dev) (k seq rtt n : Nat) (m : Dev) (spread : Nat), k < 32 ∧ d.portEnabled k = true ∧ d.portState k = PortState.delay ∧
      (d.hport k).syncs.find? (fun n => n % 256 == seq) = some n ∧ 15 ≤ (d.hport k).rtts.length ∧
      m = d.modPort k (fun h => { h with syncs := h.syncs.erase n, rtts := h.rtts ++ [rtt] }) ∧
      spread = (m.hport k).rtts.foldl max 0 - (m.hport k).rtts.foldl min rtt ∧ spread * 640 ≤ 2000 ∧ m.latencyFits k = false) ∧
    (∃ (d : Dev) (k seq rtt n : Nat) (m : Dev) (spread : Nat), k < 32 ∧ d.portEnabled k = true ∧ d.portState k = PortState.delay ∧
      (d.hport k).syncs.find? (fun n => n % 256 == seq) = some n ∧ 15 ≤ (d.hport k).rtts.length ∧
      m = d.modPort k (fun h => { h with syncs := h.syncs.erase n, rtts := h.rtts ++ [rtt] }) ∧
      spread = (m.hport k).rtts.foldl max 0 - (m.hport k).rtts.foldl min rtt ∧ spread * 640 ≤ 2000 ∧ m.latencyFits k = true) :=
  ⟨⟨(port PortState.fault), 31, by decide +kernel⟩,
   ⟨(port PortState.up), 31, by decide +kernel⟩,
   ⟨(port PortState.fault { HPort.off with locked := true }), 31, 1#32, by decide +kernel⟩,
   ⟨(port PortState.up), 31, 1#32, by decide +kernel⟩,
   ⟨(port PortState.fault), 31, 0#32, by decide +kernel⟩,
   ⟨(port PortState.train), 31, by decide +kernel⟩,
   ⟨(port PortState.shape), 31, by decide +kernel⟩,
   ⟨(syn 14 40 40), 31, by decide +kernel⟩,
   ⟨(port PortState.off), 31, by decide +kernel⟩,
   ⟨(port PortState.fault), 31, by decide +kernel⟩,
   ⟨(port PortState.fault), 31, 0, by decide +kernel⟩,
   ⟨(port PortState.fault), 31, 0, 0, by decide +kernel⟩,
   ⟨(port PortState.train), 31, 10000, by decide +kernel⟩,
   ⟨(port PortState.train), 31, 16, by decide +kernel⟩,
   ⟨(port PortState.up), 31, 10000, by decide +kernel⟩,
   ⟨(port PortState.up), 31, 16, by decide +kernel⟩,
   ⟨(put [(Reg.GLB_SHADOW_OF.sub_state,
     1)] (port PortState.up { HPort.off with due := [⟨3, 0, 1, 5, 0, 0, true, none, false, false⟩] } 31 (inMode 11))), 31, 10000,
     by decide +kernel⟩,
   ⟨(put [(Reg.GLB_SHADOW_OF.sub_state,
     1)] (port PortState.up { HPort.off with due := [⟨3, 0, 1, 5, 0, 0, true, none, false, false⟩] } 31 (inMode 11))), 31, 16,
     by decide +kernel⟩,
   ⟨(port PortState.cap), 31, capOk, by decide +kernel⟩,
   ⟨(port PortState.cap), 31, [], by decide +kernel⟩,
   ⟨(port PortState.fault), 31, by decide +kernel⟩,
   ⟨(syn 14 40 40), 31, by decide +kernel⟩,
   ⟨(port PortState.fault), 31, by decide +kernel⟩,
   ⟨(syn 14 40 40), 31, 0xFF, 0x1FF, by decide +kernel⟩,
   ⟨(syn 15 40 44), 31, 0xFF, 40, 0x1FF,
     ((syn 15 40 44).modPort (31 : Nat) (fun h => { h with syncs := h.syncs.erase (0x1FF : Nat), rtts := h.rtts ++ [(40 : Nat)] })),
     ((((syn 15 40 44).modPort (31 : Nat) (fun h => { h with syncs := h.syncs.erase (0x1FF : Nat), rtts := h.rtts ++ [(40 : Nat)] })).hport (31 : Nat)).rtts.foldl max 0 - (((syn 15 40 44).modPort (31 : Nat) (fun h => { h with syncs := h.syncs.erase (0x1FF : Nat), rtts := h.rtts ++ [(40 : Nat)] })).hport (31 : Nat)).rtts.foldl min (40 : Nat)),
     by decide +kernel⟩,
   ⟨(put [(Reg.PAC_FIRE_DLY.fire_dly_ns, 0)] (syn 15 40 43)), 31, 0xFF, 40, 0x1FF, ((put [(Reg.PAC_FIRE_DLY.fire_dly_ns,
     0)] (syn 15 40 43)).modPort (31 : Nat) (fun h => { h with syncs := h.syncs.erase (0x1FF : Nat), rtts := h.rtts ++ [(40 : Nat)] })),
     ((((put [(Reg.PAC_FIRE_DLY.fire_dly_ns,
     0)] (syn 15 40 43)).modPort (31 : Nat) (fun h => { h with syncs := h.syncs.erase (0x1FF : Nat), rtts := h.rtts ++ [(40 : Nat)] })).hport (31 : Nat)).rtts.foldl max 0 - (((put [(Reg.PAC_FIRE_DLY.fire_dly_ns,
     0)] (syn 15 40 43)).modPort (31 : Nat) (fun h => { h with syncs := h.syncs.erase (0x1FF : Nat), rtts := h.rtts ++ [(40 : Nat)] })).hport (31 : Nat)).rtts.foldl min (40 : Nat)),
     by decide +kernel⟩,
   ⟨(syn 15 40 43), 31, 0xFF, 40, 0x1FF,
     ((syn 15 40 43).modPort (31 : Nat) (fun h => { h with syncs := h.syncs.erase (0x1FF : Nat), rtts := h.rtts ++ [(40 : Nat)] })),
     ((((syn 15 40 43).modPort (31 : Nat) (fun h => { h with syncs := h.syncs.erase (0x1FF : Nat), rtts := h.rtts ++ [(40 : Nat)] })).hport (31 : Nat)).rtts.foldl max 0 - (((syn 15 40 43).modPort (31 : Nat) (fun h => { h with syncs := h.syncs.erase (0x1FF : Nat), rtts := h.rtts ++ [(40 : Nat)] })).hport (31 : Nat)).rtts.foldl min (40 : Nat)),
     by decide +kernel⟩⟩

end PortsAreBroughtUpAndLost

namespace LinesLeaveInFramesAndFireBlocks

def lport (h : HPort) (buf : Nat) (look : List PortLine) : Dev := put [(Reg.HLK_PORT_EN.en, 0x80000001), (Reg.HLK_PORT_STAT.state 31, 5), (Reg.HLK_PORT_CAP2.buf_lines 31, buf), (Reg.ASM_PORT_CFG.elems_m1 31, 63)] ((web.modHlk fun x => { x with ports := Tab.set [] HPort.off 31 h }).modAsm fun x => { x with look := [(31, look)] })
def pl : PortLine := ⟨3, 7, 7, 40, false, 0, none, List.replicate 64 3, lineDigest (List.replicate 64 3), []⟩
def sh (c : Nat) (f : Bool) : Shot := ⟨3, 7, 40, 100000 * 65536, c, 0, f, none, false, false⟩

/-- Each clause's hypotheses are met together. -/
theorem witness :
    (∃ (d : Dev) (k : Nat) (l : PortLine) (rest : List PortLine), k < 32 ∧ d.lookLines k = l :: rest ∧ l.mem = none ∧
      (d.hport k).due = [] ∧ d.framesRun = true ∧ d.senseHeld = false ∧ d.portServes k l.start = true ∧
      (d.hport k).frames.length < d.fld (Reg.HLK_PORT_CAP2.buf_lines k)) ∧
    (∃ (d : Dev) (k : Nat) (l : PortLine) (rest : List PortLine), k < 32 ∧ d.lookLines k = l :: rest ∧ l.mem = none ∧
      (d.hport k).due = [] ∧ d.framesRun = true ∧ d.senseHeld = false ∧ d.portServes k l.start = true ∧
      d.fld (Reg.HLK_PORT_CAP2.buf_lines k) ≤ (d.hport k).frames.length) ∧
    (∃ (d : Dev) (k : Nat), k < 32 ∧ d.lookLines k = []) ∧
    (∃ (d : Dev) (k phase : Nat) (s : Shot) (due : List Shot), k < 32 ∧ (d.hport k).due = s :: due ∧ d.portUp k = true ∧
      d.framesRun = true ∧ d.pairLines = false ∧ d.isShadow = false ∧ d.flag Reg.PAIR_STAT.partner_lost = false ∧ s.cause = 0 ∧
      d.frameInTime k s (firePlace (phase % blockTime) (d.txTime k s)).1 = true) ∧
    (∃ (d : Dev) (k : Nat) (s : Shot) (due : List Shot) (cause : Nat), k < 32 ∧ (d.hport k).due = s :: due ∧ d.portUp k = true ∧
      d.framesRun = true ∧ d.pairLines = false ∧ d.isShadow = false ∧ d.flag Reg.PAIR_STAT.partner_lost = false ∧ cause < 8 ∧
      (s.cause = cause ∧ cause ≠ 0 ∧ ¬(cause = Blank.nak ∧ s.detail = 0x11)) ∧ due = []) ∧
    (∃ (d : Dev) (k phase : Nat) (s : Shot) (due : List Shot) (cause : Nat), k < 32 ∧ (d.hport k).due = s :: due ∧ d.portUp k = true ∧
      d.framesRun = true ∧ d.pairLines = false ∧ d.isShadow = false ∧ d.flag Reg.PAIR_STAT.partner_lost = false ∧ cause < 8 ∧
      (s.cause = 0 ∧ d.frameInTime k s (firePlace (phase % blockTime) (d.txTime k s)).1 = false ∧ cause = Blank.late) ∧ due = []) ∧
    (∃ (d : Dev) (k : Nat) (s : Shot) (due : List Shot), k < 32 ∧ (d.hport k).due = s :: due ∧ d.portUp k = false) :=
  ⟨⟨(lport HPort.off 2 [pl]), 31, pl, [], by decide +kernel⟩,
   ⟨(lport { HPort.off with frames := [pl, pl] } 2 [pl]), 31, pl, [], by decide +kernel⟩,
   ⟨(lport HPort.off 2 []), 31, by decide +kernel⟩,
   ⟨(lport { HPort.off with due := [sh 0 true, sh 0 false], ends := [(3, 7, 0)] } 2 []), 31, 1055, (sh 0 true), [sh 0 false],
     by decide +kernel⟩,
   ⟨(lport { HPort.off with due := [sh 7 true] } 2 []), 31, (sh 7 true), [], 7, by decide +kernel⟩,
   ⟨(lport { HPort.off with due := [sh 0 false], lastFire := 10000000000 } 2 []), 31, 0, (sh 0 false), [], Blank.late, by decide +kernel⟩,
   ⟨(put [(Reg.HLK_PORT_STAT.state 31, 6)] (lport { HPort.off with due := [sh 0 false] } 2 [])), 31, (sh 0 false), [], by decide +kernel⟩⟩

end LinesLeaveInFramesAndFireBlocks

namespace ReturnRecordsSettleWhatTheyAnswer

def rport (h : HPort) (st : Nat := 5) : Dev := withPage pg (withJob 0 Ctx.idle { Job.empty with closed := false } (put [(Reg.HLK_PORT_EN.en, 0x80000001), (Reg.HLK_PORT_STAT.state 31, st)] (web.modHlk fun x => { x with ports := Tab.set [] HPort.off 31 h })))
def sh (b c : Bool) : Shot := ⟨3, 0x1000007, 40, 100000 * 65536, 0, 0, true, none, b, c⟩
def smp (n : Nat) : Dev := (rport HPort.off).modMsr fun m => { m with samples := [⟨7, 0x80000000, 0, n, [(31, 0x105)], 0, [(31, [9])]⟩] }

/-- Each clause's hypotheses are met together. -/
theorem witness :
    (∃ (d : Dev) (k pseq id result : Nat) (s : Shot) (rest : List Shot), k < 32 ∧ d.portEnabled k = true ∧ (d.hport k).sent = s :: rest ∧
      id = s.line % 2 ^ 24 ∧ pseq = d.pseq s.page ∧ s.blank = false ∧ result < 2) ∧
    (∃ (d : Dev) (k pseq id result : Nat) (s : Shot) (rest : List Shot), k < 32 ∧ d.portEnabled k = true ∧ (d.hport k).sent = s :: rest ∧
      id = s.line % 2 ^ 24 ∧ pseq = d.pseq s.page ∧ result ≠ 0 ∧ result < 2) ∧
    (∃ (d : Dev) (k pseq id result : Nat) (s : Shot) (rest : List Shot), k < 32 ∧ d.portEnabled k = true ∧ (d.hport k).sent = s :: rest ∧
      id = s.line % 2 ^ 24 ∧ pseq = d.pseq s.page ∧ s.blank = false ∧ 2 ≤ result ∧ s.counted = false) ∧
    (∃ (d : Dev) (k pseq id result : Nat) (s : Shot) (rest : List Shot), k < 32 ∧ d.portEnabled k = true ∧ (d.hport k).sent = s :: rest ∧
      id = s.line % 2 ^ 24 ∧ pseq = d.pseq s.page ∧ result ≠ 0 ∧ 2 ≤ result ∧ s.counted = false) ∧
    (∃ (d : Dev) (k id : Nat) (s : Shot) (rest : List Shot), k < 32 ∧ d.portEnabled k = true ∧ (d.hport k).sent = s :: rest ∧
      id ≠ s.line % 2 ^ 24 ∧ d.portUp k = false) ∧
    (∃ (d : Dev) (k pseq : Nat) (s : Shot) (rest : List Shot), k < 32 ∧ d.portEnabled k = true ∧ (d.hport k).sent = s :: rest ∧
      pseq ≠ d.pseq s.page ∧ d.portUp k = false) ∧
    (∃ (d : Dev) (k id result : Nat) (x : Nat × Nat × Nat), k < 32 ∧ d.portEnabled k = true ∧
      (d.hport k).expect.find? (fun e => e.1 % 2 ^ 24 == id && e.2.1 == 1) = some x ∧ d.portState k = PortState.shape ∧ result ≠ 0) ∧
    (∃ (d : Dev) (k : Nat) (s : Shot) (rest : List Shot), k < 32 ∧ d.portEnabled k = true ∧ (d.hport k).sent = s :: rest ∧
      s.blank = false ∧ s.counted = false) ∧
    (∃ (d : Dev) (k : Nat) (s : Shot) (rest : List Shot), k < 32 ∧ d.portEnabled k = true ∧ (d.hport k).sent = s :: rest ∧
      s.counted = false ∧ s.counted = false) ∧
    (∃ (d : Dev) (k : Nat), k < 32 ∧ d.portEnabled k = true ∧ (d.hport k).sent = []) ∧
    (∃ (d : Dev) (k mask : Nat), k < 32 ∧ d.portEnabled k = true ∧ mask.testBit 0 = true) ∧
    (∃ (d : Dev) (k mask : Nat), k < 32 ∧ d.portEnabled k = true ∧ mask % 16 = 0) ∧
    (∃ (d : Dev) (k : Nat), k < 32 ∧ d.portEnabled k = true ∧ d.portUp k = false) ∧
    (∃ (d : Dev) (k : Nat) (w : Word), k < 32 ∧ d.portEnabled k = true ∧ (w.getLsbD 7 = false ∧
      w.getLsbD (2 + d.fld (Reg.HLK_PORT_CFG.input k)) = true)) ∧
    (∃ (d : Dev) (k : Nat) (w : Word), k < 32 ∧ d.portEnabled k = true ∧ d.portUp k = true ∧ (d.hport k).due = [] ∧ d.spitting k = false ∧
      w.getLsbD 7 = true) ∧
    (∃ (d : Dev) (k : Nat) (w : Word), k < 32 ∧ d.portEnabled k = true ∧ d.portUp k = true ∧ (d.hport k).due = [] ∧ d.spitting k = false ∧
      w.getLsbD 7 = false ∧ w.getLsbD (2 + d.fld (Reg.HLK_PORT_CFG.input k)) = false) ∧
    (∃ (d : Dev) (k t value tag : Nat) (r u : SampleReq), k < 32 ∧ d.portEnabled k = true ∧ d.msr.samples = [r] ∧
      Tab.find r.tags k = some t ∧ t % 256 = tag ∧ (Tab.get r.values [] k).length < r.count ∧ r.refused.testBit k = false ∧
      u = { r with values := Tab.put r.values k (Tab.get r.values [] k ++ [value % 2 ^ 16]) } ∧ u.complete = false) ∧
    (∃ (d : Dev) (k t value tag : Nat) (r u : SampleReq), k < 32 ∧ d.portEnabled k = true ∧ d.msr.samples = [r] ∧
      Tab.find r.tags k = some t ∧ t % 256 = tag ∧ (Tab.get r.values [] k).length < r.count ∧ r.refused.testBit k = false ∧
      u = { r with values := Tab.put r.values k (Tab.get r.values [] k ++ [value % 2 ^ 16]) } ∧ u.complete = true) ∧
    (∃ (d : Dev) (k : Nat), k < 32 ∧ d.portEnabled k = true ∧ d.msr.samples = []) ∧
    (∃ (d : Dev) (k : Nat) (rd : RecordRead), k < 32 ∧ d.portEnabled k = true ∧ recordBad rd.chars rd.data rd.crc = false) ∧
    (∃ (d : Dev) (k : Nat) (rd : RecordRead), k < 32 ∧ d.portEnabled k = true ∧ recordBad rd.chars rd.data rd.crc = true ∧
      d.portUp k = false) ∧
    (∃ (d : Dev) (k : Nat) (sp : Spit), k < 32 ∧ d.portEnabled k = true ∧ d.hlk.spits = [sp]) :=
  ⟨⟨(rport { HPort.off with sent := [sh false false] }), 31, 0, 7, 1, (sh false false), [], by decide +kernel⟩,
   ⟨(rport { HPort.off with sent := [sh false false] }), 31, 0, 7, 1, (sh false false), [], by decide +kernel⟩,
   ⟨(rport { HPort.off with sent := [sh false false] }), 31, 0, 7, 2, (sh false false), [], by decide +kernel⟩,
   ⟨(rport { HPort.off with sent := [sh true false] }), 31, 0, 7, 2, (sh true false), [], by decide +kernel⟩,
   ⟨(rport { HPort.off with sent := [sh false false] } 6), 31, 8, (sh false false), [], by decide +kernel⟩,
   ⟨(rport { HPort.off with sent := [sh false false] } 6), 31, 9, (sh false false), [], by decide +kernel⟩,
   ⟨(rport { HPort.off with expect := [(0x1000005, 1, 0)] } PortState.shape), 31, 5, 2, (0x1000005, 1, 0), by decide +kernel⟩,
   ⟨(rport { HPort.off with sent := [sh false false] }), 31, (sh false false), [], by decide +kernel⟩,
   ⟨(rport { HPort.off with sent := [sh false false] }), 31, (sh false false), [], by decide +kernel⟩,
   ⟨(rport { HPort.off with expect := [(0x1000005, 1, 0)] } PortState.shape), 31, by decide +kernel⟩,
   ⟨(rport HPort.off), 31, 15, by decide +kernel⟩,
   ⟨(rport { HPort.off with sent := [sh false false] }), 31, 0, by decide +kernel⟩,
   ⟨(rport { HPort.off with sent := [sh false false] } 6), 31, by decide +kernel⟩,
   ⟨(rport HPort.off), 31, 0x4#32, by decide +kernel⟩,
   ⟨(rport HPort.off), 31, 0xFF#32, by decide +kernel⟩,
   ⟨(rport { HPort.off with sent := [sh false false] }), 31, 0#32, by decide +kernel⟩,
   ⟨(smp 4), 31, 0x105, 0x1FFFF, 5, ⟨7, 0x80000000, 0, 4, [(31, 0x105)], 0, [(31, [9])]⟩,
     ({ (⟨7, 0x80000000, 0, 4, [(31, 0x105)], 0, [(31, [9])]⟩ : SampleReq) with values := Tab.put (⟨7, 0x80000000, 0, 4, [(31, 0x105)], 0, [(31, [9])]⟩ : SampleReq).values (31 : Nat) (Tab.get (⟨7, 0x80000000, 0, 4, [(31, 0x105)], 0, [(31, [9])]⟩ : SampleReq).values [] (31 : Nat) ++ [(0x1FFFF : Nat) % 2 ^ 16]) }),
     by decide +kernel⟩,
   ⟨(smp 2), 31, 0x105, 0x1FFFF, 5, ⟨7, 0x80000000, 0, 2, [(31, 0x105)], 0, [(31, [9])]⟩,
     ({ (⟨7, 0x80000000, 0, 2, [(31, 0x105)], 0, [(31, [9])]⟩ : SampleReq) with values := Tab.put (⟨7, 0x80000000, 0, 2, [(31, 0x105)], 0, [(31, [9])]⟩ : SampleReq).values (31 : Nat) (Tab.get (⟨7, 0x80000000, 0, 2, [(31, 0x105)], 0, [(31, [9])]⟩ : SampleReq).values [] (31 : Nat) ++ [(0x1FFFF : Nat) % 2 ^ 16]) }),
     by decide +kernel⟩,
   ⟨(rport { HPort.off with sent := [sh false false] }), 31, by decide +kernel⟩,
   ⟨(rport { HPort.off with sent := [sh false false] }), 31, (⟨0, [], 0⟩ : RecordRead), by decide +kernel⟩,
   ⟨(rport HPort.off 6), 31, ⟨70000, [], 0⟩, by decide +kernel⟩,
   ⟨(put [(Reg.HLK_SPIT_BUSY.busy, 0x80000000)] ((rport HPort.off).modHlk fun x => { x with spits := [⟨some 7, 0x80000000, 0, 0⟩] })), 31,
     ⟨some 7, 0x80000000, 0, 0⟩, by decide +kernel⟩⟩

end ReturnRecordsSettleWhatTheyAnswer

namespace WritesAreVisibleAndReadsRecovered

def zeros : List Byte := List.replicate 64 0#8
def rl (poison : Bool) (cls : Nat) (line : Nat) (bs : List Byte := zeros) : ReadLine := ⟨bs, checkWord ⟨poison, cls, 0x68, 0⟩ bs (64 * line), false⟩
def badL (cls : Nat) : ReadLine := ⟨zeros, cls * 2 ^ 88 + 1, false⟩
def refd (wr po : Bool) : Dev := standby.modMig fun m => { m with refetches := [⟨5, [(.bar2 320 4, 0)], wr, false, po, List.replicate 64 9#8, 0⟩] }
def poisoned : Dev := { standby with mem := { standby.mem with lines := [(5, ⟨true, 2, 0x18, 0⟩)] } }

/-- Each clause's hypotheses are met together. -/
theorem witness :
    (∃ (d : Dev) (a : Nat) (bs : List Byte), d.fld Reg.MIG_LOG_LEN.len = 0 ∧ d.inFitted a bs.length = false) ∧
    (∃ (d : Dev) (a : Nat) (bs : List Byte), d.fld Reg.MIG_LOG_LEN.len = 0 ∧ (linesOf a bs.length).any d.writeHeld = true) ∧
    (∃ (d : Dev) (a : Nat) (bs : List Byte), d.fld Reg.MIG_LOG_LEN.len = 0 ∧ d.inFitted a bs.length = true ∧
      (linesOf a bs.length).any d.writeHeld = false ∧ (linesOf a bs.length).any d.lineBad = false) ∧
    (∃ (d : Dev) (a line : Nat) (bs : List Byte), d.fld Reg.MIG_LOG_LEN.len = 0 ∧ d.inFitted a bs.length = true ∧
      (linesOf a bs.length).any d.writeHeld = false ∧ a = 64 * line ∧ bs.length = 64) ∧
    (∃ (d : Dev) (src a line : Nat) (bs : List Byte), d.fld Reg.MIG_LOG_LEN.len = 0 ∧ d.inFitted a bs.length = true ∧
      (linesOf a bs.length).any d.writeHeld = false ∧ a / 64 = line ∧ 0 < bs.length ∧ a % 64 + bs.length ≤ 64 ∧ bs.length < 64 ∧
      d.lineBad line = true ∧ hostSource src = true) ∧
    (∃ (d : Dev) (src a line : Nat) (bs : List Byte), d.fld Reg.MIG_LOG_LEN.len = 0 ∧ d.inFitted a bs.length = true ∧
      (linesOf a bs.length).any d.writeHeld = false ∧ a / 64 = line ∧ 0 < bs.length ∧ a % 64 + bs.length ≤ 64 ∧ bs.length < 64 ∧
      d.lineBad line = true ∧ hostSource src = false) ∧
    (∃ (d : Dev) (a line m : Nat) (first g : ReadLine) (again : List ReadLine), d.fld Reg.MIG_LOG_LEN.len = 0 ∧ d.timeRuns = true ∧
      d.mode ≠ Mode.load ∧ d.mode ≠ Mode.fill ∧ d.inFitted (64 * line) 64 = true ∧ d.lineStopped line = false ∧
      d.pcacheLine line = false ∧ d.refetchOf line = none ∧ d.readOutcome line none first again = .clean g ∧ a / 64 = line ∧ 0 < m ∧
      a % 64 + m ≤ 64 ∧ (d.lineMeta line).poison = false) ∧
    (∃ (d : Dev) (line n : Nat) (first g : ReadLine) (again : List ReadLine), d.fld Reg.MIG_LOG_LEN.len = 0 ∧ d.timeRuns = true ∧
      d.mode ≠ Mode.load ∧ d.mode ≠ Mode.fill ∧ d.inFitted (64 * line) 64 = true ∧ d.lineStopped line = false ∧
      d.pcacheLine line = false ∧ d.refetchOf line = none ∧ d.readOutcome line none first again = .reread g n) ∧
    (∃ (d : Dev) (line n : Nat) (first : ReadLine) (again : List ReadLine), d.fld Reg.MIG_LOG_LEN.len = 0 ∧ d.timeRuns = true ∧
      d.mode ≠ Mode.load ∧ d.mode ≠ Mode.fill ∧ d.inFitted (64 * line) 64 = true ∧ d.lineStopped line = false ∧
      d.pcacheLine line = false ∧ d.refetchOf line = none ∧ d.readOutcome line none first again = .failed n) ∧
    (∃ (d : Dev) (line n : Nat) (first : ReadLine) (again : List ReadLine), d.fld Reg.MIG_LOG_LEN.len = 0 ∧ d.timeRuns = true ∧
      d.mode ≠ Mode.load ∧ d.mode ≠ Mode.fill ∧ d.inFitted (64 * line) 64 = true ∧ d.lineStopped line = false ∧
      d.pcacheLine line = false ∧ d.refetchOf line = none ∧ d.readOutcome line none first again = .recompute n) ∧
    (∃ (d : Dev) (line n : Nat) (first : ReadLine) (again : List ReadLine), d.fld Reg.MIG_LOG_LEN.len = 0 ∧ d.timeRuns = true ∧
      d.mode ≠ Mode.load ∧ d.mode ≠ Mode.fill ∧ d.inFitted (64 * line) 64 = true ∧ d.lineStopped line = false ∧
      d.pcacheLine line = false ∧ d.refetchOf line = none ∧ d.readOutcome line none first again = .poisoned n) ∧
    (∃ (d : Dev) (line n : Nat) (req : Requester) (first : ReadLine) (again : List ReadLine), d.fld Reg.MIG_LOG_LEN.len = 0 ∧
      d.timeRuns = true ∧ d.mode ≠ Mode.load ∧ d.mode ≠ Mode.fill ∧ d.inFitted (64 * line) 64 = true ∧ d.lineStopped line = false ∧
      d.pcacheLine line = false ∧ d.refetchOf line = none ∧ d.readOutcome line req.expects first again = .refetch n ∧
      (∀ x ∈ d.mig.refetches, x.posted = true) ∧ d.mig.refetches.length < 256 ∧ d.hasRoom 0x70 = true) ∧
    (∃ (d : Dev) (line : Nat) (q : Refetch), d.fld Reg.MIG_LOG_LEN.len = 0 ∧ d.timeRuns = true ∧ d.mode ≠ Mode.load ∧ d.mode ≠ Mode.fill ∧
      d.inFitted (64 * line) 64 = true ∧ d.lineStopped line = false ∧ d.pcacheLine line = false ∧ d.refetchOf line = some q) ∧
    (∃ (d : Dev) (line : Nat), d.fld Reg.MIG_LOG_LEN.len = 0 ∧ d.timeRuns = true ∧ d.mode ≠ Mode.load ∧ d.mode ≠ Mode.fill ∧
      d.inFitted (64 * line) 64 = true ∧ d.lineStopped line = false ∧ d.pcacheLine line = true ∧
      d.flag Reg.RUN_PCACHE_STAT.committed = false) ∧
    (∃ (d : Dev), d.fld Reg.MIG_LOG_LEN.len = 0 ∧ d.timeRuns = false) ∧
    (∃ (d : Dev) (line : Nat), d.fld Reg.MIG_LOG_LEN.len = 0 ∧ d.lineStopped line = true) ∧
    (∃ (d : Dev) (a line m : Nat) (q : Refetch) (w : Requester × Nat), d.fld Reg.MIG_LOG_LEN.len = 0 ∧ d.refetchOf line = some q ∧
      q.waiting = [w] ∧ w.1 = .bar2 a m ∧ d.hdma.bar2Held = [] ∧ q.written = true ∧ a / 64 = line ∧ 0 < m ∧ a % 64 + m ≤ 64 ∧
      (d.lineMeta line).poison = false ∧ d.pcacheLine line = false) ∧
    (∃ (d : Dev) (a line m : Nat) (q : Refetch) (w : Requester × Nat), d.fld Reg.MIG_LOG_LEN.len = 0 ∧ d.refetchOf line = some q ∧
      q.waiting = [w] ∧ w.1 = .bar2 a m ∧ d.hdma.bar2Held = [] ∧ q.posted = true ∧ q.touched = false) ∧
    (∃ (d : Dev) (line : Nat) (q : Refetch), d.fld Reg.MIG_LOG_LEN.len = 0 ∧ d.refetchOf line = some q ∧ q.written = false) ∧
    (∃ (d : Dev) (line : Nat) (q : Refetch), d.fld Reg.MIG_LOG_LEN.len = 0 ∧ d.refetchOf line = some q ∧ q.posted = false) :=
  ⟨⟨(inMode 6), 0, [1#8], by decide +kernel⟩,
   ⟨(standby.modMem fun m => { m with chans := Tab.set m.chans Chan.idle (standby.coord (standby.physAddr 320)).chan { Chan.idle with stopped := [((standby.coord (standby.physAddr 320)).sub, 1)] } }),
     320, [1#8], by decide +kernel⟩,
   ⟨standby, 320, (List.replicate 64 7#8), by decide +kernel⟩,
   ⟨standby, 320, 5, (List.replicate 64 7#8), by decide +kernel⟩,
   ⟨poisoned, 0x18, 383, 5, [7#8], by decide +kernel⟩,
   ⟨poisoned, 0x40, 383, 5, [7#8], by decide +kernel⟩,
   ⟨standby, 320, 5, 4, (rl false 2 5), (rl false 2 5), [], by decide +kernel⟩,
   ⟨standby, 5, 2, (badL 1), (rl false 2 5 (List.replicate 64 3#8)), [badL 1, rl false 2 5 (List.replicate 64 3#8)], by decide +kernel⟩,
   ⟨standby, 5, 0, (⟨[], 0, false⟩ : ReadLine), [], by decide +kernel⟩,
   ⟨standby, 5, 2, (badL 3), [badL 1, badL 1], by decide +kernel⟩,
   ⟨standby, 5, 0, (rl true 2 5), [], by decide +kernel⟩,
   ⟨standby, 5, 2, (.copy (0 : Nat)), (badL 2), [badL 1, badL 1], by decide +kernel⟩,
   ⟨(refd false true), 5, ⟨5, [(.bar2 320 4, 0)], false, false, true, List.replicate 64 9#8, 0⟩, by decide +kernel⟩,
   ⟨(standby.modSeq fun s => { s with pcacheBase := 0, pcacheLen := 4096 }), 5, by decide +kernel⟩,
   ⟨(inMode 5), by decide +kernel⟩,
   ⟨(standby.modMem fun m => { m with chans := Tab.set m.chans Chan.idle (standby.coord (standby.physAddr 320)).chan { Chan.idle with stopped := [((standby.coord (standby.physAddr 320)).sub, 1)] } }),
     5, by decide +kernel⟩,
   ⟨(refd true false), 320, 5, 4, ⟨5, [(.bar2 320 4, 0)], true, false, false, List.replicate 64 9#8, 0⟩, (.bar2 320 4, 0),
     by decide +kernel⟩,
   ⟨(refd false true), 320, 5, 4, ⟨5, [(.bar2 320 4, 0)], false, false, true, List.replicate 64 9#8, 0⟩, (.bar2 320 4, 0),
     by decide +kernel⟩,
   ⟨(refd false true), 5, ⟨5, [(.bar2 320 4, 0)], false, false, true, List.replicate 64 9#8, 0⟩, by decide +kernel⟩,
   ⟨(refd true false), 5, ⟨5, [(.bar2 320 4, 0)], true, false, false, List.replicate 64 9#8, 0⟩, by decide +kernel⟩⟩

end WritesAreVisibleAndReadsRecovered

namespace ChannelsMarginsAndScrubbingFollowTheirRules

def zeros : List Byte := List.replicate 64 0#8
def rl (poison : Bool) (cls : Nat) (line : Nat) (bs : List Byte := zeros) : ReadLine := ⟨bs, checkWord ⟨poison, cls, 0x68, 0⟩ bs (64 * line), false⟩
def badL (cls : Nat) : ReadLine := ⟨zeros, cls * 2 ^ 88 + 1, false⟩
def ch (x : Chan) (wq : Nat) (m : Nat := 6) : Dev := put [(Reg.MEM_SCHED.rt_low, 10), (Reg.MEM_SCHED.rt_high, 20), (Reg.MEM_SCHED.wq_low, 10), (Reg.MEM_SCHED.wq_high, 20), (Reg.MEM_CH_STAT.wq 7, wq)] (((inMode m).setFld Reg.MEM_SIZE.fitted_64m 1024).modMem fun c => { c with chans := Tab.set [] Chan.idle 7 x })
def mar (op : Option (Nat × Nat)) : Dev := put [(Reg.MEM_CFG.margin_en, 1), (Reg.MEM_MARGIN_SEL.channel, 1), (Reg.MEM_MARGIN_SEL.offset, 5)] (standby.modMem fun c => { c with marginOp := op, margins := [(3, 4)] })
def scr (s : Option Scrub) (m : Nat := 6) : Dev := ((((inMode m).setFld Reg.MEM_SIZE.fitted_64m 1024).setPair Reg.MIG_SCRUB_START_LO.addr 0x1000).setPair Reg.MIG_SCRUB_LEN_LO.addr 0x1000 |>.setPair Reg.MIG_SCRUB_REC_LO.addr 0x2000).modMig fun g => { g with scrub := s }
def sc : Scrub := ⟨0x1000, 0x1000, 0x2000, 0x1FC0, 0, 0, 0, 0, 0, 0, 0, 7, false⟩
def chq (x : Chan) (pan : Nat) (fill : Nat) : Dev := put [(Reg.MEM_SCHED.rt_low, 6), (Reg.MEM_SCHED.rt_high, 10), (Reg.MEM_SCHED.wq_low, 10), (Reg.MEM_SCHED.wq_high, 20), (Reg.MEM_STAT.panic, pan), (Reg.HLK_PORT_EN.en, 1), (Reg.ASM_PORT_STAT.fill 0, fill)] (ch x 0)
def endp (p : Bool) (m1 : Nat) : Bool × Nat := (p, m1)

/-- Each clause's hypotheses are met together. -/
theorem witness :
    (∃ (d : Dev) (c low : Nat) (h : Chan) (q : Nat × Nat), c < 8 ∧ h = Tab.get d.memc.chans Chan.idle c ∧ q = (h.queued.1 - h.formed.1,
      h.queued.2 - h.formed.2) ∧ low = d.fld Reg.MEM_SCHED.wq_low ∧ q.1 + q.2 ≤ 128) ∧
    (∃ (d : Dev) (c sub low : Nat) (p : Nat × Nat) (h : Chan) (q : Nat × Nat), c < 8 ∧ h = Tab.get d.memc.chans Chan.idle c ∧
      q = (h.queued.1 - h.formed.1, h.queued.2 - h.formed.2) ∧ low = d.fld Reg.MEM_SCHED.wq_low ∧
      h.stopped.find? (fun p => p.1 == sub) = some p ∧ d.hasRoom 0x68 = true) ∧
    (∃ (d : Dev) (c sub low : Nat) (p : Nat × Nat) (h : Chan) (q : Nat × Nat), c < 8 ∧ h = Tab.get d.memc.chans Chan.idle c ∧
      q = (h.queued.1 - h.formed.1, h.queued.2 - h.formed.2) ∧ low = d.fld Reg.MEM_SCHED.wq_low ∧
      h.stopped.find? (fun p => p.1 == sub) = none) ∧
    (∃ (d : Dev) (c low : Nat) (t : Int) (h : Chan) (q : Nat × Nat), c < 8 ∧ h = Tab.get d.memc.chans Chan.idle c ∧
      q = (h.queued.1 - h.formed.1, h.queued.2 - h.formed.2) ∧ low = d.fld Reg.MEM_SCHED.wq_low ∧ t < 380) ∧
    (∃ (d : Dev) (c low : Nat) (t : Int) (h : Chan) (q : Nat × Nat), c < 8 ∧ h = Tab.get d.memc.chans Chan.idle c ∧
      q = (h.queued.1 - h.formed.1, h.queued.2 - h.formed.2) ∧ low = d.fld Reg.MEM_SCHED.wq_low ∧ 380 ≤ t) ∧
    (∃ (d : Dev) (c low : Nat) (h : Chan) (q : Nat × Nat), c < 8 ∧ h = Tab.get d.memc.chans Chan.idle c ∧ q = (h.queued.1 - h.formed.1,
      h.queued.2 - h.formed.2) ∧ low = d.fld Reg.MEM_SCHED.wq_low ∧ h.silentPolls < 9) ∧
    (∃ (d : Dev) (c low : Nat) (h : Chan) (q : Nat × Nat), c < 8 ∧ h = Tab.get d.memc.chans Chan.idle c ∧ q = (h.queued.1 - h.formed.1,
      h.queued.2 - h.formed.2) ∧ low = d.fld Reg.MEM_SCHED.wq_low ∧ 9 ≤ h.silentPolls) ∧
    (∃ (d : Dev) (c low : Nat) (h : Chan) (q : Nat × Nat), c < 8 ∧ h = Tab.get d.memc.chans Chan.idle c ∧ q = (h.queued.1 - h.formed.1,
      h.queued.2 - h.formed.2) ∧ low = d.fld Reg.MEM_SCHED.wq_low ∧ d.responds Reg.MEM_MARGIN_CTL.addr = true ∧ d.marginOpen = true ∧
      d.marginBase.2 ≠ 0) ∧
    (∃ (d : Dev) (c n low : Nat) (h : Chan) (q : Nat × Nat), c < 8 ∧ h = Tab.get d.memc.chans Chan.idle c ∧ q = (h.queued.1 - h.formed.1,
      h.queued.2 - h.formed.2) ∧ low = d.fld Reg.MEM_SCHED.wq_low ∧ d.responds Reg.MEM_MARGIN_CTL.addr = true ∧ d.marginOpen = true ∧
      d.memc.marginOp = none ∧ n ≠ 0) ∧
    (∃ (d : Dev) (c low : Nat) (h : Chan) (q : Nat × Nat) (i : Instr), c < 8 ∧ h = Tab.get d.memc.chans Chan.idle c ∧
      q = (h.queued.1 - h.formed.1, h.queued.2 - h.formed.2) ∧ low = d.fld Reg.MEM_SCHED.wq_low ∧
      d.responds Reg.MEM_MARGIN_CTL.addr = true ∧ d.marginOpen = false ∧ i = Instr.marginApply) ∧
    (∃ (d : Dev) (c n low : Nat) (h : Chan) (q : Nat × Nat) (i : Instr), c < 8 ∧ h = Tab.get d.memc.chans Chan.idle c ∧
      q = (h.queued.1 - h.formed.1, h.queued.2 - h.formed.2) ∧ low = d.fld Reg.MEM_SCHED.wq_low ∧
      d.responds Reg.MEM_MARGIN_CTL.addr = true ∧ d.marginOpen = false ∧ i = .marginRun n) ∧
    (∃ (d : Dev) (c low : Nat) (h : Chan) (q : Nat × Nat) (i : Instr), c < 8 ∧ h = Tab.get d.memc.chans Chan.idle c ∧
      q = (h.queued.1 - h.formed.1, h.queued.2 - h.formed.2) ∧ low = d.fld Reg.MEM_SCHED.wq_low ∧
      d.responds Reg.MEM_MARGIN_CTL.addr = true ∧ d.marginOpen = false ∧ i = .marginClear) ∧
    (∃ (d : Dev) (c low : Nat) (p : Nat × Nat) (h : Chan) (q : Nat × Nat), c < 8 ∧ h = Tab.get d.memc.chans Chan.idle c ∧
      q = (h.queued.1 - h.formed.1, h.queued.2 - h.formed.2) ∧ low = d.fld Reg.MEM_SCHED.wq_low ∧ d.memc.marginOp = some p) ∧
    (∃ (d : Dev) (c low r : Nat) (h : Chan) (q : Nat × Nat) (a l r : Nat), c < 8 ∧ h = Tab.get d.memc.chans Chan.idle c ∧
      q = (h.queued.1 - h.formed.1, h.queued.2 - h.formed.2) ∧ low = d.fld Reg.MEM_SCHED.wq_low ∧
      d.responds Reg.MIG_SCRUB_CTL.addr = true ∧ d.scrubModes = true ∧ a = d.pair Reg.MIG_SCRUB_START_LO.addr ∧
      l = d.pair Reg.MIG_SCRUB_LEN_LO.addr ∧ r = d.pair Reg.MIG_SCRUB_REC_LO.addr ∧ d.mig.scrub = none ∧ a % 64 = 0 ∧ l % 64 = 0 ∧
      r % 64 = 0 ∧ l ≠ 0 ∧ d.inFitted a l = true ∧ d.inFitted r 64 = true ∧ r < a) ∧
    (∃ (d : Dev) (c low r : Nat) (h : Chan) (q : Nat × Nat) (a l r : Nat), c < 8 ∧ h = Tab.get d.memc.chans Chan.idle c ∧
      q = (h.queued.1 - h.formed.1, h.queued.2 - h.formed.2) ∧ low = d.fld Reg.MEM_SCHED.wq_low ∧
      d.responds Reg.MIG_SCRUB_CTL.addr = true ∧ d.scrubModes = true ∧ a = d.pair Reg.MIG_SCRUB_START_LO.addr ∧
      l = d.pair Reg.MIG_SCRUB_LEN_LO.addr ∧ r = d.pair Reg.MIG_SCRUB_REC_LO.addr ∧ d.mig.scrub = none ∧ a % 64 = 0 ∧ l % 64 = 0 ∧
      r % 64 = 0 ∧ l ≠ 0 ∧ d.inFitted a l = true ∧ d.inFitted r 64 = true ∧ a + l ≤ r) ∧
    (∃ (d : Dev) (c low r : Nat) (s : Scrub) (h : Chan) (q : Nat × Nat) (a l r : Nat), c < 8 ∧ h = Tab.get d.memc.chans Chan.idle c ∧
      q = (h.queued.1 - h.formed.1, h.queued.2 - h.formed.2) ∧ low = d.fld Reg.MEM_SCHED.wq_low ∧
      d.responds Reg.MIG_SCRUB_CTL.addr = true ∧ d.scrubModes = true ∧ a = d.pair Reg.MIG_SCRUB_START_LO.addr ∧
      l = d.pair Reg.MIG_SCRUB_LEN_LO.addr ∧ r = d.pair Reg.MIG_SCRUB_REC_LO.addr ∧ d.mig.scrub = some s) ∧
    (∃ (d : Dev) (c low r : Nat) (h : Chan) (q : Nat × Nat) (a l r : Nat), c < 8 ∧ h = Tab.get d.memc.chans Chan.idle c ∧
      q = (h.queued.1 - h.formed.1, h.queued.2 - h.formed.2) ∧ low = d.fld Reg.MEM_SCHED.wq_low ∧
      d.responds Reg.MIG_SCRUB_CTL.addr = true ∧ d.scrubModes = true ∧ a = d.pair Reg.MIG_SCRUB_START_LO.addr ∧
      l = d.pair Reg.MIG_SCRUB_LEN_LO.addr ∧ r = d.pair Reg.MIG_SCRUB_REC_LO.addr ∧ d.mig.scrub = none ∧ a % 64 ≠ 0) ∧
    (∃ (d : Dev) (c low r : Nat) (h : Chan) (q : Nat × Nat) (a l r : Nat), c < 8 ∧ h = Tab.get d.memc.chans Chan.idle c ∧
      q = (h.queued.1 - h.formed.1, h.queued.2 - h.formed.2) ∧ low = d.fld Reg.MEM_SCHED.wq_low ∧
      d.responds Reg.MIG_SCRUB_CTL.addr = true ∧ d.scrubModes = true ∧ a = d.pair Reg.MIG_SCRUB_START_LO.addr ∧
      l = d.pair Reg.MIG_SCRUB_LEN_LO.addr ∧ r = d.pair Reg.MIG_SCRUB_REC_LO.addr ∧ d.mig.scrub = none ∧ l % 64 ≠ 0) ∧
    (∃ (d : Dev) (c low r : Nat) (h : Chan) (q : Nat × Nat) (a l r : Nat), c < 8 ∧ h = Tab.get d.memc.chans Chan.idle c ∧
      q = (h.queued.1 - h.formed.1, h.queued.2 - h.formed.2) ∧ low = d.fld Reg.MEM_SCHED.wq_low ∧
      d.responds Reg.MIG_SCRUB_CTL.addr = true ∧ d.scrubModes = true ∧ a = d.pair Reg.MIG_SCRUB_START_LO.addr ∧
      l = d.pair Reg.MIG_SCRUB_LEN_LO.addr ∧ r = d.pair Reg.MIG_SCRUB_REC_LO.addr ∧ d.mig.scrub = none ∧ r % 64 ≠ 0) ∧
    (∃ (d : Dev) (c low r : Nat) (h : Chan) (q : Nat × Nat) (a l r : Nat), c < 8 ∧ h = Tab.get d.memc.chans Chan.idle c ∧
      q = (h.queued.1 - h.formed.1, h.queued.2 - h.formed.2) ∧ low = d.fld Reg.MEM_SCHED.wq_low ∧
      d.responds Reg.MIG_SCRUB_CTL.addr = true ∧ d.scrubModes = true ∧ a = d.pair Reg.MIG_SCRUB_START_LO.addr ∧
      l = d.pair Reg.MIG_SCRUB_LEN_LO.addr ∧ r = d.pair Reg.MIG_SCRUB_REC_LO.addr ∧ d.mig.scrub = none ∧ l = 0) ∧
    (∃ (d : Dev) (c low r : Nat) (h : Chan) (q : Nat × Nat) (a l r : Nat), c < 8 ∧ h = Tab.get d.memc.chans Chan.idle c ∧
      q = (h.queued.1 - h.formed.1, h.queued.2 - h.formed.2) ∧ low = d.fld Reg.MEM_SCHED.wq_low ∧
      d.responds Reg.MIG_SCRUB_CTL.addr = true ∧ d.scrubModes = true ∧ a = d.pair Reg.MIG_SCRUB_START_LO.addr ∧
      l = d.pair Reg.MIG_SCRUB_LEN_LO.addr ∧ r = d.pair Reg.MIG_SCRUB_REC_LO.addr ∧ d.mig.scrub = none ∧ d.inFitted a l = false) ∧
    (∃ (d : Dev) (c low r : Nat) (h : Chan) (q : Nat × Nat) (a l r : Nat), c < 8 ∧ h = Tab.get d.memc.chans Chan.idle c ∧
      q = (h.queued.1 - h.formed.1, h.queued.2 - h.formed.2) ∧ low = d.fld Reg.MEM_SCHED.wq_low ∧
      d.responds Reg.MIG_SCRUB_CTL.addr = true ∧ d.scrubModes = true ∧ a = d.pair Reg.MIG_SCRUB_START_LO.addr ∧
      l = d.pair Reg.MIG_SCRUB_LEN_LO.addr ∧ r = d.pair Reg.MIG_SCRUB_REC_LO.addr ∧ d.mig.scrub = none ∧ d.inFitted r 64 = false) ∧
    (∃ (d : Dev) (c low r : Nat) (h : Chan) (q : Nat × Nat) (a l r : Nat), c < 8 ∧ h = Tab.get d.memc.chans Chan.idle c ∧
      q = (h.queued.1 - h.formed.1, h.queued.2 - h.formed.2) ∧ low = d.fld Reg.MEM_SCHED.wq_low ∧
      d.responds Reg.MIG_SCRUB_CTL.addr = true ∧ d.scrubModes = true ∧ a = d.pair Reg.MIG_SCRUB_START_LO.addr ∧
      l = d.pair Reg.MIG_SCRUB_LEN_LO.addr ∧ r = d.pair Reg.MIG_SCRUB_REC_LO.addr ∧ d.mig.scrub = none ∧ (a ≤ r ∧ r < a + l)) ∧
    (∃ (d : Dev) (c low : Nat) (s : Scrub) (h : Chan) (q : Nat × Nat), c < 8 ∧ h = Tab.get d.memc.chans Chan.idle c ∧
      q = (h.queued.1 - h.formed.1, h.queued.2 - h.formed.2) ∧ low = d.fld Reg.MEM_SCHED.wq_low ∧ d.mig.scrub = some s ∧
      s.cancelled = false ∧ s.pos < s.start + s.len ∧ d.scrubOpen < 64 ∧ d.fld Reg.MIG_LOG_LEN.len = 0 ∧
      d.lineStopped (s.pos / 64) = false ∧ d.flag Reg.MEM_STAT.panic = true) ∧
    (∃ (d : Dev) (c low : Nat) (s : Scrub) (h : Chan) (q : Nat × Nat) (first g : ReadLine) (again : List ReadLine), c < 8 ∧
      h = Tab.get d.memc.chans Chan.idle c ∧ q = (h.queued.1 - h.formed.1, h.queued.2 - h.formed.2) ∧ low = d.fld Reg.MEM_SCHED.wq_low ∧
      d.mig.scrub = some s ∧ s.cancelled = false ∧ s.pos < s.start + s.len ∧ d.scrubOpen < 64 ∧ d.fld Reg.MIG_LOG_LEN.len = 0 ∧
      d.lineStopped (s.pos / 64) = false ∧ d.flag Reg.MEM_STAT.panic = false ∧ d.refetchOf (s.pos / 64) = none ∧
      d.readOutcome (s.pos / 64) none first again = .clean g) ∧
    (∃ (d : Dev) (c n low : Nat) (s : Scrub) (h : Chan) (q : Nat × Nat) (first g : ReadLine) (again : List ReadLine), c < 8 ∧
      h = Tab.get d.memc.chans Chan.idle c ∧ q = (h.queued.1 - h.formed.1, h.queued.2 - h.formed.2) ∧ low = d.fld Reg.MEM_SCHED.wq_low ∧
      d.mig.scrub = some s ∧ s.cancelled = false ∧ s.pos < s.start + s.len ∧ d.scrubOpen < 64 ∧ d.fld Reg.MIG_LOG_LEN.len = 0 ∧
      d.lineStopped (s.pos / 64) = false ∧ d.flag Reg.MEM_STAT.panic = false ∧ d.refetchOf (s.pos / 64) = none ∧
      d.readOutcome (s.pos / 64) none first again = .reread g n) ∧
    (∃ (d : Dev) (c n low : Nat) (s : Scrub) (h : Chan) (q : Nat × Nat) (first : ReadLine) (again : List ReadLine), c < 8 ∧
      h = Tab.get d.memc.chans Chan.idle c ∧ q = (h.queued.1 - h.formed.1, h.queued.2 - h.formed.2) ∧ low = d.fld Reg.MEM_SCHED.wq_low ∧
      d.mig.scrub = some s ∧ s.cancelled = false ∧ s.pos < s.start + s.len ∧ d.scrubOpen < 64 ∧ d.fld Reg.MIG_LOG_LEN.len = 0 ∧
      d.lineStopped (s.pos / 64) = false ∧ d.flag Reg.MEM_STAT.panic = false ∧ d.refetchOf (s.pos / 64) = none ∧
      d.readOutcome (s.pos / 64) none first again = .failed n ∧ first.data.length = 64) ∧
    (∃ (d : Dev) (c low : Nat) (s : Scrub) (h : Chan) (q : Nat × Nat), c < 8 ∧ h = Tab.get d.memc.chans Chan.idle c ∧
      q = (h.queued.1 - h.formed.1, h.queued.2 - h.formed.2) ∧ low = d.fld Reg.MEM_SCHED.wq_low ∧ d.mig.scrub = some s ∧
      d.fld Reg.MIG_LOG_LEN.len = 0 ∧ s.cancelled = true ∧ s.record % 64 = 0 ∧ d.lineBad (s.record / 64) = false) ∧
    (∃ (d : Dev) (c low : Nat) (s : Scrub) (h : Chan) (q : Nat × Nat), c < 8 ∧ h = Tab.get d.memc.chans Chan.idle c ∧
      q = (h.queued.1 - h.formed.1, h.queued.2 - h.formed.2) ∧ low = d.fld Reg.MEM_SCHED.wq_low ∧ d.mig.scrub = some s ∧
      d.fld Reg.MIG_LOG_LEN.len = 0 ∧ (s.start + s.len ≤ s.pos ∧ d.scrubOpen = 0) ∧ s.record % 64 = 0 ∧ d.lineBad (s.record / 64) = false) :=
  ⟨⟨(chq { Chan.idle with queued := (20, 2), formed := (16, 2), draining := true } 0 6), 7,
     ((chq { Chan.idle with queued := (20, 2), formed := (16, 2), draining := true } 0 6).fld Reg.MEM_SCHED.wq_low),
     (Tab.get (chq { Chan.idle with queued := (20, 2), formed := (16, 2), draining := true } 0 6).memc.chans Chan.idle (7 : Nat)),
     ((Tab.get (chq { Chan.idle with queued := (20, 2), formed := (16, 2), draining := true } 0 6).memc.chans Chan.idle (7 : Nat)).queued.1 - (Tab.get (chq { Chan.idle with queued := (20, 2), formed := (16, 2), draining := true } 0 6).memc.chans Chan.idle (7 : Nat)).formed.1,
     (Tab.get (chq { Chan.idle with queued := (20, 2), formed := (16, 2), draining := true } 0 6).memc.chans Chan.idle (7 : Nat)).queued.2 - (Tab.get (chq { Chan.idle with queued := (20, 2), formed := (16, 2), draining := true } 0 6).memc.chans Chan.idle (7 : Nat)).formed.2),
     by decide +kernel⟩,
   ⟨(ch { Chan.idle with stopped := [(1, 64)] } 0), 7, 1, ((ch { Chan.idle with stopped := [(1, 64)] } 0).fld Reg.MEM_SCHED.wq_low), (1,
     64), (Tab.get (ch { Chan.idle with stopped := [(1, 64)] } 0).memc.chans Chan.idle (7 : Nat)),
     ((Tab.get (ch { Chan.idle with stopped := [(1, 64)] } 0).memc.chans Chan.idle (7 : Nat)).queued.1 - (Tab.get (ch { Chan.idle with stopped := [(1, 64)] } 0).memc.chans Chan.idle (7 : Nat)).formed.1,
     (Tab.get (ch { Chan.idle with stopped := [(1, 64)] } 0).memc.chans Chan.idle (7 : Nat)).queued.2 - (Tab.get (ch { Chan.idle with stopped := [(1, 64)] } 0).memc.chans Chan.idle (7 : Nat)).formed.2),
     by decide +kernel⟩,
   ⟨(chq { Chan.idle with queued := (20, 2), formed := (16, 2), draining := true } 0 6), 7, 0,
     ((chq { Chan.idle with queued := (20, 2), formed := (16, 2), draining := true } 0 6).fld Reg.MEM_SCHED.wq_low), (0, 0),
     (Tab.get (chq { Chan.idle with queued := (20, 2), formed := (16, 2), draining := true } 0 6).memc.chans Chan.idle (7 : Nat)),
     ((Tab.get (chq { Chan.idle with queued := (20, 2), formed := (16, 2), draining := true } 0 6).memc.chans Chan.idle (7 : Nat)).queued.1 - (Tab.get (chq { Chan.idle with queued := (20, 2), formed := (16, 2), draining := true } 0 6).memc.chans Chan.idle (7 : Nat)).formed.1,
     (Tab.get (chq { Chan.idle with queued := (20, 2), formed := (16, 2), draining := true } 0 6).memc.chans Chan.idle (7 : Nat)).queued.2 - (Tab.get (chq { Chan.idle with queued := (20, 2), formed := (16, 2), draining := true } 0 6).memc.chans Chan.idle (7 : Nat)).formed.2),
     by decide +kernel⟩,
   ⟨(chq { Chan.idle with queued := (20, 2), formed := (16, 2), draining := true } 0 6), 7,
     ((chq { Chan.idle with queued := (20, 2), formed := (16, 2), draining := true } 0 6).fld Reg.MEM_SCHED.wq_low), 0,
     (Tab.get (chq { Chan.idle with queued := (20, 2), formed := (16, 2), draining := true } 0 6).memc.chans Chan.idle (7 : Nat)),
     ((Tab.get (chq { Chan.idle with queued := (20, 2), formed := (16, 2), draining := true } 0 6).memc.chans Chan.idle (7 : Nat)).queued.1 - (Tab.get (chq { Chan.idle with queued := (20, 2), formed := (16, 2), draining := true } 0 6).memc.chans Chan.idle (7 : Nat)).formed.1,
     (Tab.get (chq { Chan.idle with queued := (20, 2), formed := (16, 2), draining := true } 0 6).memc.chans Chan.idle (7 : Nat)).queued.2 - (Tab.get (chq { Chan.idle with queued := (20, 2), formed := (16, 2), draining := true } 0 6).memc.chans Chan.idle (7 : Nat)).formed.2),
     by decide +kernel⟩,
   ⟨(ch { Chan.idle with silentPolls := 9 } 0), 7, ((ch { Chan.idle with silentPolls := 9 } 0).fld Reg.MEM_SCHED.wq_low), 380,
     (Tab.get (ch { Chan.idle with silentPolls := 9 } 0).memc.chans Chan.idle (7 : Nat)),
     ((Tab.get (ch { Chan.idle with silentPolls := 9 } 0).memc.chans Chan.idle (7 : Nat)).queued.1 - (Tab.get (ch { Chan.idle with silentPolls := 9 } 0).memc.chans Chan.idle (7 : Nat)).formed.1,
     (Tab.get (ch { Chan.idle with silentPolls := 9 } 0).memc.chans Chan.idle (7 : Nat)).queued.2 - (Tab.get (ch { Chan.idle with silentPolls := 9 } 0).memc.chans Chan.idle (7 : Nat)).formed.2),
     by decide +kernel⟩,
   ⟨(chq { Chan.idle with queued := (20, 2), formed := (16, 2), draining := true } 0 6), 7,
     ((chq { Chan.idle with queued := (20, 2), formed := (16, 2), draining := true } 0 6).fld Reg.MEM_SCHED.wq_low),
     (Tab.get (chq { Chan.idle with queued := (20, 2), formed := (16, 2), draining := true } 0 6).memc.chans Chan.idle (7 : Nat)),
     ((Tab.get (chq { Chan.idle with queued := (20, 2), formed := (16, 2), draining := true } 0 6).memc.chans Chan.idle (7 : Nat)).queued.1 - (Tab.get (chq { Chan.idle with queued := (20, 2), formed := (16, 2), draining := true } 0 6).memc.chans Chan.idle (7 : Nat)).formed.1,
     (Tab.get (chq { Chan.idle with queued := (20, 2), formed := (16, 2), draining := true } 0 6).memc.chans Chan.idle (7 : Nat)).queued.2 - (Tab.get (chq { Chan.idle with queued := (20, 2), formed := (16, 2), draining := true } 0 6).memc.chans Chan.idle (7 : Nat)).formed.2),
     by decide +kernel⟩,
   ⟨(ch { Chan.idle with silentPolls := 9 } 0), 7, ((ch { Chan.idle with silentPolls := 9 } 0).fld Reg.MEM_SCHED.wq_low),
     (Tab.get (ch { Chan.idle with silentPolls := 9 } 0).memc.chans Chan.idle (7 : Nat)),
     ((Tab.get (ch { Chan.idle with silentPolls := 9 } 0).memc.chans Chan.idle (7 : Nat)).queued.1 - (Tab.get (ch { Chan.idle with silentPolls := 9 } 0).memc.chans Chan.idle (7 : Nat)).formed.1,
     (Tab.get (ch { Chan.idle with silentPolls := 9 } 0).memc.chans Chan.idle (7 : Nat)).queued.2 - (Tab.get (ch { Chan.idle with silentPolls := 9 } 0).memc.chans Chan.idle (7 : Nat)).formed.2),
     by decide +kernel⟩,
   ⟨(mar none), 0, ((mar none).fld Reg.MEM_SCHED.wq_low), (Tab.get (mar none).memc.chans Chan.idle (0 : Nat)),
     ((Tab.get (mar none).memc.chans Chan.idle (0 : Nat)).queued.1 - (Tab.get (mar none).memc.chans Chan.idle (0 : Nat)).formed.1,
     (Tab.get (mar none).memc.chans Chan.idle (0 : Nat)).queued.2 - (Tab.get (mar none).memc.chans Chan.idle (0 : Nat)).formed.2),
     by decide +kernel⟩,
   ⟨(mar none), 0, 1, ((mar none).fld Reg.MEM_SCHED.wq_low), (Tab.get (mar none).memc.chans Chan.idle (0 : Nat)),
     ((Tab.get (mar none).memc.chans Chan.idle (0 : Nat)).queued.1 - (Tab.get (mar none).memc.chans Chan.idle (0 : Nat)).formed.1,
     (Tab.get (mar none).memc.chans Chan.idle (0 : Nat)).queued.2 - (Tab.get (mar none).memc.chans Chan.idle (0 : Nat)).formed.2),
     by decide +kernel⟩,
   ⟨standby, 0, (standby.fld Reg.MEM_SCHED.wq_low), (Tab.get standby.memc.chans Chan.idle (0 : Nat)),
     ((Tab.get standby.memc.chans Chan.idle (0 : Nat)).queued.1 - (Tab.get standby.memc.chans Chan.idle (0 : Nat)).formed.1,
     (Tab.get standby.memc.chans Chan.idle (0 : Nat)).queued.2 - (Tab.get standby.memc.chans Chan.idle (0 : Nat)).formed.2),
     Instr.marginApply, by decide +kernel⟩,
   ⟨standby, 0, 1, (standby.fld Reg.MEM_SCHED.wq_low), (Tab.get standby.memc.chans Chan.idle (0 : Nat)),
     ((Tab.get standby.memc.chans Chan.idle (0 : Nat)).queued.1 - (Tab.get standby.memc.chans Chan.idle (0 : Nat)).formed.1,
     (Tab.get standby.memc.chans Chan.idle (0 : Nat)).queued.2 - (Tab.get standby.memc.chans Chan.idle (0 : Nat)).formed.2),
     (Instr.marginRun (1 : Nat)), by decide +kernel⟩,
   ⟨standby, 0, (standby.fld Reg.MEM_SCHED.wq_low), (Tab.get standby.memc.chans Chan.idle (0 : Nat)),
     ((Tab.get standby.memc.chans Chan.idle (0 : Nat)).queued.1 - (Tab.get standby.memc.chans Chan.idle (0 : Nat)).formed.1,
     (Tab.get standby.memc.chans Chan.idle (0 : Nat)).queued.2 - (Tab.get standby.memc.chans Chan.idle (0 : Nat)).formed.2),
     Instr.marginClear, by decide +kernel⟩,
   ⟨(mar (some (1, 1))), 0, ((mar (some (1, 1))).fld Reg.MEM_SCHED.wq_low), (1, 1), (Tab.get (mar (some (1,
     1))).memc.chans Chan.idle (0 : Nat)), ((Tab.get (mar (some (1,
     1))).memc.chans Chan.idle (0 : Nat)).queued.1 - (Tab.get (mar (some (1, 1))).memc.chans Chan.idle (0 : Nat)).formed.1,
     (Tab.get (mar (some (1, 1))).memc.chans Chan.idle (0 : Nat)).queued.2 - (Tab.get (mar (some (1,
     1))).memc.chans Chan.idle (0 : Nat)).formed.2), by decide +kernel⟩,
   ⟨((scr none).setPair Reg.MIG_SCRUB_START_LO.addr 0x3000), 0,
     (((scr none).setPair Reg.MIG_SCRUB_START_LO.addr 0x3000).fld Reg.MEM_SCHED.wq_low),
     (((scr none).setPair Reg.MIG_SCRUB_START_LO.addr 0x3000).pair Reg.MIG_SCRUB_REC_LO.addr),
     (Tab.get ((scr none).setPair Reg.MIG_SCRUB_START_LO.addr 0x3000).memc.chans Chan.idle (0 : Nat)),
     ((Tab.get ((scr none).setPair Reg.MIG_SCRUB_START_LO.addr 0x3000).memc.chans Chan.idle (0 : Nat)).queued.1 - (Tab.get ((scr none).setPair Reg.MIG_SCRUB_START_LO.addr 0x3000).memc.chans Chan.idle (0 : Nat)).formed.1,
     (Tab.get ((scr none).setPair Reg.MIG_SCRUB_START_LO.addr 0x3000).memc.chans Chan.idle (0 : Nat)).queued.2 - (Tab.get ((scr none).setPair Reg.MIG_SCRUB_START_LO.addr 0x3000).memc.chans Chan.idle (0 : Nat)).formed.2),
     (((scr none).setPair Reg.MIG_SCRUB_START_LO.addr 0x3000).pair Reg.MIG_SCRUB_START_LO.addr),
     (((scr none).setPair Reg.MIG_SCRUB_START_LO.addr 0x3000).pair Reg.MIG_SCRUB_LEN_LO.addr),
     (((scr none).setPair Reg.MIG_SCRUB_START_LO.addr 0x3000).pair Reg.MIG_SCRUB_REC_LO.addr), by decide +kernel⟩,
   ⟨(scr none), 0, ((scr none).fld Reg.MEM_SCHED.wq_low), ((scr none).pair Reg.MIG_SCRUB_REC_LO.addr),
     (Tab.get (scr none).memc.chans Chan.idle (0 : Nat)),
     ((Tab.get (scr none).memc.chans Chan.idle (0 : Nat)).queued.1 - (Tab.get (scr none).memc.chans Chan.idle (0 : Nat)).formed.1,
     (Tab.get (scr none).memc.chans Chan.idle (0 : Nat)).queued.2 - (Tab.get (scr none).memc.chans Chan.idle (0 : Nat)).formed.2),
     ((scr none).pair Reg.MIG_SCRUB_START_LO.addr), ((scr none).pair Reg.MIG_SCRUB_LEN_LO.addr),
     ((scr none).pair Reg.MIG_SCRUB_REC_LO.addr), by decide +kernel⟩,
   ⟨(scr (some sc)), 0, ((scr (some sc)).fld Reg.MEM_SCHED.wq_low), ((scr (some sc)).pair Reg.MIG_SCRUB_REC_LO.addr), sc,
     (Tab.get (scr (some sc)).memc.chans Chan.idle (0 : Nat)),
     ((Tab.get (scr (some sc)).memc.chans Chan.idle (0 : Nat)).queued.1 - (Tab.get (scr (some sc)).memc.chans Chan.idle (0 : Nat)).formed.1,
     (Tab.get (scr (some sc)).memc.chans Chan.idle (0 : Nat)).queued.2 - (Tab.get (scr (some sc)).memc.chans Chan.idle (0 : Nat)).formed.2),
     ((scr (some sc)).pair Reg.MIG_SCRUB_START_LO.addr), ((scr (some sc)).pair Reg.MIG_SCRUB_LEN_LO.addr),
     ((scr (some sc)).pair Reg.MIG_SCRUB_REC_LO.addr), by decide +kernel⟩,
   ⟨((scr none).setPair Reg.MIG_SCRUB_START_LO.addr 0x1001), 0,
     (((scr none).setPair Reg.MIG_SCRUB_START_LO.addr 0x1001).fld Reg.MEM_SCHED.wq_low),
     (((scr none).setPair Reg.MIG_SCRUB_START_LO.addr 0x1001).pair Reg.MIG_SCRUB_REC_LO.addr),
     (Tab.get ((scr none).setPair Reg.MIG_SCRUB_START_LO.addr 0x1001).memc.chans Chan.idle (0 : Nat)),
     ((Tab.get ((scr none).setPair Reg.MIG_SCRUB_START_LO.addr 0x1001).memc.chans Chan.idle (0 : Nat)).queued.1 - (Tab.get ((scr none).setPair Reg.MIG_SCRUB_START_LO.addr 0x1001).memc.chans Chan.idle (0 : Nat)).formed.1,
     (Tab.get ((scr none).setPair Reg.MIG_SCRUB_START_LO.addr 0x1001).memc.chans Chan.idle (0 : Nat)).queued.2 - (Tab.get ((scr none).setPair Reg.MIG_SCRUB_START_LO.addr 0x1001).memc.chans Chan.idle (0 : Nat)).formed.2),
     (((scr none).setPair Reg.MIG_SCRUB_START_LO.addr 0x1001).pair Reg.MIG_SCRUB_START_LO.addr),
     (((scr none).setPair Reg.MIG_SCRUB_START_LO.addr 0x1001).pair Reg.MIG_SCRUB_LEN_LO.addr),
     (((scr none).setPair Reg.MIG_SCRUB_START_LO.addr 0x1001).pair Reg.MIG_SCRUB_REC_LO.addr), by decide +kernel⟩,
   ⟨((scr none).setPair Reg.MIG_SCRUB_LEN_LO.addr 0x41), 0,
     (((scr none).setPair Reg.MIG_SCRUB_LEN_LO.addr 0x41).fld Reg.MEM_SCHED.wq_low),
     (((scr none).setPair Reg.MIG_SCRUB_LEN_LO.addr 0x41).pair Reg.MIG_SCRUB_REC_LO.addr),
     (Tab.get ((scr none).setPair Reg.MIG_SCRUB_LEN_LO.addr 0x41).memc.chans Chan.idle (0 : Nat)),
     ((Tab.get ((scr none).setPair Reg.MIG_SCRUB_LEN_LO.addr 0x41).memc.chans Chan.idle (0 : Nat)).queued.1 - (Tab.get ((scr none).setPair Reg.MIG_SCRUB_LEN_LO.addr 0x41).memc.chans Chan.idle (0 : Nat)).formed.1,
     (Tab.get ((scr none).setPair Reg.MIG_SCRUB_LEN_LO.addr 0x41).memc.chans Chan.idle (0 : Nat)).queued.2 - (Tab.get ((scr none).setPair Reg.MIG_SCRUB_LEN_LO.addr 0x41).memc.chans Chan.idle (0 : Nat)).formed.2),
     (((scr none).setPair Reg.MIG_SCRUB_LEN_LO.addr 0x41).pair Reg.MIG_SCRUB_START_LO.addr),
     (((scr none).setPair Reg.MIG_SCRUB_LEN_LO.addr 0x41).pair Reg.MIG_SCRUB_LEN_LO.addr),
     (((scr none).setPair Reg.MIG_SCRUB_LEN_LO.addr 0x41).pair Reg.MIG_SCRUB_REC_LO.addr), by decide +kernel⟩,
   ⟨((scr none).setPair Reg.MIG_SCRUB_REC_LO.addr 0x2001), 0,
     (((scr none).setPair Reg.MIG_SCRUB_REC_LO.addr 0x2001).fld Reg.MEM_SCHED.wq_low),
     (((scr none).setPair Reg.MIG_SCRUB_REC_LO.addr 0x2001).pair Reg.MIG_SCRUB_REC_LO.addr),
     (Tab.get ((scr none).setPair Reg.MIG_SCRUB_REC_LO.addr 0x2001).memc.chans Chan.idle (0 : Nat)),
     ((Tab.get ((scr none).setPair Reg.MIG_SCRUB_REC_LO.addr 0x2001).memc.chans Chan.idle (0 : Nat)).queued.1 - (Tab.get ((scr none).setPair Reg.MIG_SCRUB_REC_LO.addr 0x2001).memc.chans Chan.idle (0 : Nat)).formed.1,
     (Tab.get ((scr none).setPair Reg.MIG_SCRUB_REC_LO.addr 0x2001).memc.chans Chan.idle (0 : Nat)).queued.2 - (Tab.get ((scr none).setPair Reg.MIG_SCRUB_REC_LO.addr 0x2001).memc.chans Chan.idle (0 : Nat)).formed.2),
     (((scr none).setPair Reg.MIG_SCRUB_REC_LO.addr 0x2001).pair Reg.MIG_SCRUB_START_LO.addr),
     (((scr none).setPair Reg.MIG_SCRUB_REC_LO.addr 0x2001).pair Reg.MIG_SCRUB_LEN_LO.addr),
     (((scr none).setPair Reg.MIG_SCRUB_REC_LO.addr 0x2001).pair Reg.MIG_SCRUB_REC_LO.addr), by decide +kernel⟩,
   ⟨(chq { Chan.idle with queued := (20, 2), formed := (16, 2), draining := true } 0 6), 7,
     ((chq { Chan.idle with queued := (20, 2), formed := (16, 2), draining := true } 0 6).fld Reg.MEM_SCHED.wq_low),
     ((chq { Chan.idle with queued := (20, 2), formed := (16, 2), draining := true } 0 6).pair Reg.MIG_SCRUB_REC_LO.addr),
     (Tab.get (chq { Chan.idle with queued := (20, 2), formed := (16, 2), draining := true } 0 6).memc.chans Chan.idle (7 : Nat)),
     ((Tab.get (chq { Chan.idle with queued := (20, 2), formed := (16, 2), draining := true } 0 6).memc.chans Chan.idle (7 : Nat)).queued.1 - (Tab.get (chq { Chan.idle with queued := (20, 2), formed := (16, 2), draining := true } 0 6).memc.chans Chan.idle (7 : Nat)).formed.1,
     (Tab.get (chq { Chan.idle with queued := (20, 2), formed := (16, 2), draining := true } 0 6).memc.chans Chan.idle (7 : Nat)).queued.2 - (Tab.get (chq { Chan.idle with queued := (20, 2), formed := (16, 2), draining := true } 0 6).memc.chans Chan.idle (7 : Nat)).formed.2),
     ((chq { Chan.idle with queued := (20, 2), formed := (16, 2), draining := true } 0 6).pair Reg.MIG_SCRUB_START_LO.addr),
     ((chq { Chan.idle with queued := (20, 2), formed := (16, 2), draining := true } 0 6).pair Reg.MIG_SCRUB_LEN_LO.addr),
     ((chq { Chan.idle with queued := (20, 2), formed := (16, 2), draining := true } 0 6).pair Reg.MIG_SCRUB_REC_LO.addr),
     by decide +kernel⟩,
   ⟨((scr none).setPair Reg.MIG_SCRUB_LEN_LO.addr (2 ^ 40 - 64)), 0,
     (((scr none).setPair Reg.MIG_SCRUB_LEN_LO.addr (2 ^ 40 - 64)).fld Reg.MEM_SCHED.wq_low),
     (((scr none).setPair Reg.MIG_SCRUB_LEN_LO.addr (2 ^ 40 - 64)).pair Reg.MIG_SCRUB_REC_LO.addr),
     (Tab.get ((scr none).setPair Reg.MIG_SCRUB_LEN_LO.addr (2 ^ 40 - 64)).memc.chans Chan.idle (0 : Nat)),
     ((Tab.get ((scr none).setPair Reg.MIG_SCRUB_LEN_LO.addr (2 ^ 40 - 64)).memc.chans Chan.idle (0 : Nat)).queued.1 - (Tab.get ((scr none).setPair Reg.MIG_SCRUB_LEN_LO.addr (2 ^ 40 - 64)).memc.chans Chan.idle (0 : Nat)).formed.1,
     (Tab.get ((scr none).setPair Reg.MIG_SCRUB_LEN_LO.addr (2 ^ 40 - 64)).memc.chans Chan.idle (0 : Nat)).queued.2 - (Tab.get ((scr none).setPair Reg.MIG_SCRUB_LEN_LO.addr (2 ^ 40 - 64)).memc.chans Chan.idle (0 : Nat)).formed.2),
     (((scr none).setPair Reg.MIG_SCRUB_LEN_LO.addr (2 ^ 40 - 64)).pair Reg.MIG_SCRUB_START_LO.addr),
     (((scr none).setPair Reg.MIG_SCRUB_LEN_LO.addr (2 ^ 40 - 64)).pair Reg.MIG_SCRUB_LEN_LO.addr),
     (((scr none).setPair Reg.MIG_SCRUB_LEN_LO.addr (2 ^ 40 - 64)).pair Reg.MIG_SCRUB_REC_LO.addr), by decide +kernel⟩,
   ⟨((scr none).setPair Reg.MIG_SCRUB_REC_LO.addr (2 ^ 40 - 64)), 0,
     (((scr none).setPair Reg.MIG_SCRUB_REC_LO.addr (2 ^ 40 - 64)).fld Reg.MEM_SCHED.wq_low),
     (((scr none).setPair Reg.MIG_SCRUB_REC_LO.addr (2 ^ 40 - 64)).pair Reg.MIG_SCRUB_REC_LO.addr),
     (Tab.get ((scr none).setPair Reg.MIG_SCRUB_REC_LO.addr (2 ^ 40 - 64)).memc.chans Chan.idle (0 : Nat)),
     ((Tab.get ((scr none).setPair Reg.MIG_SCRUB_REC_LO.addr (2 ^ 40 - 64)).memc.chans Chan.idle (0 : Nat)).queued.1 - (Tab.get ((scr none).setPair Reg.MIG_SCRUB_REC_LO.addr (2 ^ 40 - 64)).memc.chans Chan.idle (0 : Nat)).formed.1,
     (Tab.get ((scr none).setPair Reg.MIG_SCRUB_REC_LO.addr (2 ^ 40 - 64)).memc.chans Chan.idle (0 : Nat)).queued.2 - (Tab.get ((scr none).setPair Reg.MIG_SCRUB_REC_LO.addr (2 ^ 40 - 64)).memc.chans Chan.idle (0 : Nat)).formed.2),
     (((scr none).setPair Reg.MIG_SCRUB_REC_LO.addr (2 ^ 40 - 64)).pair Reg.MIG_SCRUB_START_LO.addr),
     (((scr none).setPair Reg.MIG_SCRUB_REC_LO.addr (2 ^ 40 - 64)).pair Reg.MIG_SCRUB_LEN_LO.addr),
     (((scr none).setPair Reg.MIG_SCRUB_REC_LO.addr (2 ^ 40 - 64)).pair Reg.MIG_SCRUB_REC_LO.addr), by decide +kernel⟩,
   ⟨((scr none).setPair Reg.MIG_SCRUB_REC_LO.addr 0x1FC0), 0,
     (((scr none).setPair Reg.MIG_SCRUB_REC_LO.addr 0x1FC0).fld Reg.MEM_SCHED.wq_low),
     (((scr none).setPair Reg.MIG_SCRUB_REC_LO.addr 0x1FC0).pair Reg.MIG_SCRUB_REC_LO.addr),
     (Tab.get ((scr none).setPair Reg.MIG_SCRUB_REC_LO.addr 0x1FC0).memc.chans Chan.idle (0 : Nat)),
     ((Tab.get ((scr none).setPair Reg.MIG_SCRUB_REC_LO.addr 0x1FC0).memc.chans Chan.idle (0 : Nat)).queued.1 - (Tab.get ((scr none).setPair Reg.MIG_SCRUB_REC_LO.addr 0x1FC0).memc.chans Chan.idle (0 : Nat)).formed.1,
     (Tab.get ((scr none).setPair Reg.MIG_SCRUB_REC_LO.addr 0x1FC0).memc.chans Chan.idle (0 : Nat)).queued.2 - (Tab.get ((scr none).setPair Reg.MIG_SCRUB_REC_LO.addr 0x1FC0).memc.chans Chan.idle (0 : Nat)).formed.2),
     (((scr none).setPair Reg.MIG_SCRUB_REC_LO.addr 0x1FC0).pair Reg.MIG_SCRUB_START_LO.addr),
     (((scr none).setPair Reg.MIG_SCRUB_REC_LO.addr 0x1FC0).pair Reg.MIG_SCRUB_LEN_LO.addr),
     (((scr none).setPair Reg.MIG_SCRUB_REC_LO.addr 0x1FC0).pair Reg.MIG_SCRUB_REC_LO.addr), by decide +kernel⟩,
   ⟨(put [(Reg.MEM_STAT.panic, 1)] (scr (some sc))), 0, ((put [(Reg.MEM_STAT.panic, 1)] (scr (some sc))).fld Reg.MEM_SCHED.wq_low), sc,
     (Tab.get (put [(Reg.MEM_STAT.panic, 1)] (scr (some sc))).memc.chans Chan.idle (0 : Nat)), ((Tab.get (put [(Reg.MEM_STAT.panic,
     1)] (scr (some sc))).memc.chans Chan.idle (0 : Nat)).queued.1 - (Tab.get (put [(Reg.MEM_STAT.panic,
     1)] (scr (some sc))).memc.chans Chan.idle (0 : Nat)).formed.1, (Tab.get (put [(Reg.MEM_STAT.panic,
     1)] (scr (some sc))).memc.chans Chan.idle (0 : Nat)).queued.2 - (Tab.get (put [(Reg.MEM_STAT.panic,
     1)] (scr (some sc))).memc.chans Chan.idle (0 : Nat)).formed.2), by decide +kernel⟩,
   ⟨(scr (some sc)), 0, ((scr (some sc)).fld Reg.MEM_SCHED.wq_low), sc, (Tab.get (scr (some sc)).memc.chans Chan.idle (0 : Nat)),
     ((Tab.get (scr (some sc)).memc.chans Chan.idle (0 : Nat)).queued.1 - (Tab.get (scr (some sc)).memc.chans Chan.idle (0 : Nat)).formed.1,
     (Tab.get (scr (some sc)).memc.chans Chan.idle (0 : Nat)).queued.2 - (Tab.get (scr (some sc)).memc.chans Chan.idle (0 : Nat)).formed.2),
     (rl false 2 (0x1FC0 / 64)), (rl false 2 (0x1FC0 / 64)), [], by decide +kernel⟩,
   ⟨(scr (some sc)), 0, 1, ((scr (some sc)).fld Reg.MEM_SCHED.wq_low), sc, (Tab.get (scr (some sc)).memc.chans Chan.idle (0 : Nat)),
     ((Tab.get (scr (some sc)).memc.chans Chan.idle (0 : Nat)).queued.1 - (Tab.get (scr (some sc)).memc.chans Chan.idle (0 : Nat)).formed.1,
     (Tab.get (scr (some sc)).memc.chans Chan.idle (0 : Nat)).queued.2 - (Tab.get (scr (some sc)).memc.chans Chan.idle (0 : Nat)).formed.2),
     (badL 1), (rl false 2 (0x1FC0 / 64)), [rl false 2 (0x1FC0 / 64) ], by decide +kernel⟩,
   ⟨(scr (some sc)), 0, 0, ((scr (some sc)).fld Reg.MEM_SCHED.wq_low), sc, (Tab.get (scr (some sc)).memc.chans Chan.idle (0 : Nat)),
     ((Tab.get (scr (some sc)).memc.chans Chan.idle (0 : Nat)).queued.1 - (Tab.get (scr (some sc)).memc.chans Chan.idle (0 : Nat)).formed.1,
     (Tab.get (scr (some sc)).memc.chans Chan.idle (0 : Nat)).queued.2 - (Tab.get (scr (some sc)).memc.chans Chan.idle (0 : Nat)).formed.2),
     (badL 0), [], by decide +kernel⟩,
   ⟨(scr (some { sc with cancelled := true })), 0, ((scr (some { sc with cancelled := true })).fld Reg.MEM_SCHED.wq_low),
     ({ sc with cancelled := true }), (Tab.get (scr (some { sc with cancelled := true })).memc.chans Chan.idle (0 : Nat)),
     ((Tab.get (scr (some { sc with cancelled := true })).memc.chans Chan.idle (0 : Nat)).queued.1 - (Tab.get (scr (some { sc with cancelled := true })).memc.chans Chan.idle (0 : Nat)).formed.1,
     (Tab.get (scr (some { sc with cancelled := true })).memc.chans Chan.idle (0 : Nat)).queued.2 - (Tab.get (scr (some { sc with cancelled := true })).memc.chans Chan.idle (0 : Nat)).formed.2),
     by decide +kernel⟩,
   ⟨(scr (some { sc with pos := 0x2000 })), 0, ((scr (some { sc with pos := 0x2000 })).fld Reg.MEM_SCHED.wq_low),
     ({ sc with pos := 0x2000 }), (Tab.get (scr (some { sc with pos := 0x2000 })).memc.chans Chan.idle (0 : Nat)),
     ((Tab.get (scr (some { sc with pos := 0x2000 })).memc.chans Chan.idle (0 : Nat)).queued.1 - (Tab.get (scr (some { sc with pos := 0x2000 })).memc.chans Chan.idle (0 : Nat)).formed.1,
     (Tab.get (scr (some { sc with pos := 0x2000 })).memc.chans Chan.idle (0 : Nat)).queued.2 - (Tab.get (scr (some { sc with pos := 0x2000 })).memc.chans Chan.idle (0 : Nat)).formed.2),
     by decide +kernel⟩⟩

end ChannelsMarginsAndScrubbingFollowTheirRules

namespace ThePairLinkBeatsAndTheShadowTakesOver

def pr (m : Nat) (act : Nat) (p : Peer) (up : Nat := 1) : Dev := put [(Reg.MEM_SIZE.fitted_64m, 1024), (Reg.PAIR_CFG.pair_en, 1), (Reg.PAIR_STAT.link_up, up), (Reg.PAIR_STAT.active, act), (Reg.GLB_SHADOW_OF.sub_state, if m = 11 then 1 else 0)] ((inMode m).modPair fun x => { x with peer := some p, out := [(3, .release 1)] })

/-- Each clause's hypotheses are met together. -/
theorem witness :
    (∃ (d : Dev) (lanes : Nat), d.paired = true ∧ d.timeRuns = true ∧ d.flag Reg.PAIR_STAT.link_up = false ∧ lanesUsed lanes ≠ 0 ∧
      d.hasRoom 0x80 = true) ∧
    (∃ (d : Dev), d.paired = false) ∧
    (∃ (d : Dev), d.flag Reg.PAIR_STAT.link_up = true) ∧
    (∃ (lanes : Nat), lanesUsed lanes = 0) ∧
    (∃ (d : Dev), d.pairUp = true ∧ d.isActive = true ∧ d.duo.held = [] ∧ d.duo.disputes = [] ∧ d.hasRoom 0x80 = true) ∧
    (∃ (d : Dev) (seq : Nat) (m : Nat × PairMsg), d.pairUp = true ∧ d.duo.out.reverse.find? (fun x => x.1 == seq % 2 ^ 16) = some m) ∧
    (∃ (d : Dev), d.paired = true ∧ d.timeRuns = true ∧ d.isShadow = false) ∧
    (∃ (d : Dev) (mode : Nat), d.paired = true ∧ d.timeRuns = true ∧ Mode.gone mode = false) ∧
    (∃ (d : Dev) (mode : Nat), d.paired = true ∧ d.timeRuns = true ∧ d.isShadow = true ∧ d.flt.safeReq = none ∧ Mode.gone mode = true) ∧
    (∃ (d : Dev), d.pairUp = true ∧ (d.isShadow = false ∧ d.pairServes = false)) ∧
    (∃ (d : Dev) (mode : Nat), d.pairUp = true ∧ (d.isShadow = true ∧ d.isActive = false ∧ Mode.gone mode = false ∧
      (Mode.isPrint d.peerMode = false ∨ Mode.isPrint mode = true))) ∧
    (∃ (d : Dev) (mode : Nat), d.pairUp = true ∧ d.isShadow = true ∧ d.isActive = false ∧ d.flt.safeReq = none ∧ Mode.gone mode = true) ∧
    (∃ (d : Dev), d.isShadow = true ∧ d.flt.safeReq ≠ none) ∧
    (∃ (d : Dev), d.isShadow = false) ∧
    (∃ (d : Dev), d.isShadow = true ∧ d.flt.safeReq = none ∧ d.flag Reg.PAIR_STAT.beacon = false ∧ d.duo.otherAck = none) ∧
    (∃ (d : Dev), d.isShadow = true ∧ d.flag Reg.PAIR_STAT.beacon = true ∧ d.pairUp = true) ∧
    (∃ (d : Dev), d.isShadow = true ∧ d.flag Reg.PAIR_STAT.beacon = true ∧ d.pairUp = false) ∧
    (∃ (d : Dev), d.flag Reg.PAIR_STAT.partner_lost = true ∧ d.isActive = true) ∧
    (∃ (d : Dev), d.flag Reg.PAIR_STAT.partner_lost = false) ∧
    (∃ (d : Dev), d.isActive = false) :=
  ⟨⟨(pr 6 0 ⟨0, 6, false⟩ 0), 0x1FF, by decide +kernel⟩,
   ⟨(inMode 6), by decide +kernel⟩,
   ⟨(pr 6 1 ⟨2, 11, false⟩), by decide +kernel⟩,
   ⟨0, by decide +kernel⟩,
   ⟨(pr 6 1 ⟨2, 11, false⟩), by decide +kernel⟩,
   ⟨(pr 6 1 ⟨2, 11, false⟩), 0x10003, (3, .release 1), by decide +kernel⟩,
   ⟨(pr 6 0 ⟨0, 6, false⟩ 0), by decide +kernel⟩,
   ⟨(pr 6 1 ⟨2, 11, false⟩), 11, by decide +kernel⟩,
   ⟨(pr 11 0 ⟨1, 8, true⟩), 4, by decide +kernel⟩,
   ⟨(pr 6 1 ⟨2, 11, false⟩), by decide +kernel⟩,
   ⟨(pr 11 0 ⟨1, 8, true⟩), 8, by decide +kernel⟩,
   ⟨(pr 11 0 ⟨1, 8, true⟩), 4, by decide +kernel⟩,
   ⟨((pr 11 0 ⟨1, 8, true⟩).modFlt fun f => { f with safeReq := some ⟨2, 0x0D02, 0x68, 5, 1⟩ }), by decide +kernel⟩,
   ⟨(pr 6 0 ⟨0, 6, false⟩ 0), by decide +kernel⟩,
   ⟨(pr 11 0 ⟨1, 8, true⟩), by decide +kernel⟩,
   ⟨(put [(Reg.PAIR_STAT.beacon, 1)] (pr 11 0 ⟨1, 8, true⟩)), by decide +kernel⟩,
   ⟨(put [(Reg.PAIR_STAT.beacon, 1)] (pr 11 0 ⟨1, 8, true⟩ 0)), by decide +kernel⟩,
   ⟨(put [(Reg.PAIR_STAT.partner_lost, 1)] (pr 6 1 ⟨2, 11, false⟩)), by decide +kernel⟩,
   ⟨(pr 6 0 ⟨0, 6, false⟩ 0), by decide +kernel⟩,
   ⟨(pr 6 0 ⟨0, 6, false⟩ 0), by decide +kernel⟩⟩

end ThePairLinkBeatsAndTheShadowTakesOver

namespace ThePartnersShareLinesDigestsAndCompletions

def pr (m : Nat) (act : Nat) (p : Peer) : Dev := put [(Reg.MEM_SIZE.fitted_64m, 1024), (Reg.PAIR_CFG.pair_en, 1), (Reg.PAIR_STAT.link_up, 1), (Reg.PAIR_STAT.active, act), (Reg.GLB_SHADOW_OF.sub_state, if m = 11 then 1 else 0)] ((inMode m).modPair fun x => { x with peer := some p })
def shd : Dev := pr 11 0 ⟨1, 8, true⟩
def act : Dev := pr 8 1 ⟨2, 11, true⟩
def cp : Completion := ⟨0, 5, 24, [1#8], 0, 1, 2, [], []⟩
def ev : List Byte := List.replicate 8 5#8 ++ [3#8, 16#8] ++ List.replicate 22 0#8
def sh : Shot := ⟨3, 7, 40, 100000 * 65536, 0, 0, true, none, false, false⟩
def due (d : Dev) : Dev := d.modHlk fun x => { x with ports := Tab.set [] HPort.off 31 { HPort.off with due := [sh] } }
def disp (d : Dev) (o : Option (Option Nat)) : Dev := d.modPair fun x => { x with disputes := [⟨31, 3, 7, 1, 2, o, none⟩] }

/-- Each clause's hypotheses are met together. -/
theorem witness :
    (∃ (d : Dev) (k : Nat), k < 32 ∧ d.shadowServes = true ∧ d.startJob d.pac.starts = none) ∧
    (∃ (d : Dev) (z k : Nat) (jb : Nat × Job), k < 32 ∧ d.shadowServes = true ∧ d.startJob d.pac.starts = some jb ∧
      jb.2.start + z ≤ d.pac.starts) ∧
    (∃ (d : Dev) (k : Nat), k < 32 ∧ d.shadowServes = true ∧ d.seq.pages = []) ∧
    (∃ (d : Dev) (k o : Nat) (bs : List Byte), k < 32 ∧ d.shadowServes = true ∧ d.marginImage = false ∧
      d.inFitted (d.winAddr o) bs.length = true ∧ (linesOf (d.winAddr o) bs.length).any d.lineBad = false) ∧
    (∃ (d : Dev) (k ring : Nat), k < 32 ∧ d.shadowServes = true ∧ 56 ≤ ring ∧ ring < 64 ∧ d.isActive = false) ∧
    (∃ (d : Dev) (k : Nat), k < 32 ∧ d.shadowServes = false) ∧
    (∃ (d : Dev) (k : Nat) (bs : List Byte), k < 32 ∧ d.isActive = true ∧ d.chapterRing (leAt bs 8 2) (leAt bs 16 8) = some 0 ∧
      (Tab.get d.flt.rings EvRing.empty 0).waiting.length < backlogRoom) ∧
    (∃ (d : Dev) (k ring index : Nat) (c : Completion), k < 32 ∧ d.pairServes = true ∧
      d.duo.held.find? (fun c => c.ring == ring && c.index == index) = some c) ∧
    (∃ (d : Dev) (k ring index : Nat) (c : Completion), k < 32 ∧ d.pairServes = true ∧
      d.duo.held.find? (fun c => c.ring == ring && c.index == index) = none) ∧
    (∃ (d : Dev) (k ring index status result : Nat) (c : Completion), k < 32 ∧ d.pairServes = false ∧ d.shadowServes = true ∧
      d.duo.finished.find? (fun c => c.ring == ring && c.index == index) = some c ∧ c.status = status ∧ c.result = result) ∧
    (∃ (d : Dev) (k ring index status : Nat) (c : Completion), k < 32 ∧ d.pairServes = false ∧ d.shadowServes = true ∧
      d.duo.finished.find? (fun c => c.ring == ring && c.index == index) = some c ∧ c.status ≠ status) ∧
    (∃ (d : Dev) (k ring index result : Nat) (c : Completion), k < 32 ∧ d.pairServes = false ∧ d.shadowServes = true ∧
      d.duo.finished.find? (fun c => c.ring == ring && c.index == index) = some c ∧ c.result ≠ result) ∧
    (∃ (d : Dev) (k o : Nat) (bs : List Byte), k < 32 ∧ d.isShadow = true ∧ (linesOf o bs.length).any d.lineBad = false) ∧
    (∃ (d : Dev) (k : Nat) (s : Shot), k < 32 ∧ d.pairLines = true ∧ (d.hport k).due = [s] ∧ s.ready = none ∧ d.isShadow = false) ∧
    (∃ (d : Dev) (k line : Nat), k < 32 ∧ d.pairLines = true ∧ d.lineStands k line = true) ∧
    (∃ (d : Dev) (k line : Nat), k < 32 ∧ d.pairLines = true ∧ d.lineStands k line = false) ∧
    (∃ (d : Dev) (k line pseq : Nat), k < 32 ∧ d.pairLines = true ∧
      d.duo.mine.find? (fun e => e.1 == k && e.2.2.1 == line && d.pseq e.2.1 == pseq) = none) ∧
    (∃ (d : Dev) (k line pseq v : Nat) (n : Nat × Nat × Nat × Nat), k < 32 ∧ d.pairLines = true ∧
      d.duo.mine.find? (fun e => e.1 == k && e.2.2.1 == line && d.pseq e.2.1 == pseq) = some n ∧ n.2.2.2 < 2 ^ 32 ∧ v < 2 ^ 32 ∧
      v = n.2.2.2) ∧
    (∃ (d : Dev) (k line pseq v : Nat) (n : Nat × Nat × Nat × Nat), k < 32 ∧ d.pairLines = true ∧
      d.duo.mine.find? (fun e => e.1 == k && e.2.2.1 == line && d.pseq e.2.1 == pseq) = some n ∧ n.2.2.2 < 2 ^ 32 ∧ v < 2 ^ 32 ∧
      v ≠ n.2.2.2 ∧ d.duo.disputes.length ≤ 16) ∧
    (∃ (d : Dev) (k : Nat), k < 32 ∧ d.pairLines = false) ∧
    (∃ (d : Dev) (k : Nat) (x : Dispute) (r : Option Nat) (fault : Option (Option Nat)), k < 32 ∧ d.duo.disputes = [x] ∧ d.pairUp = true ∧
      x.own = none ∧ x.other = none ∧ r = fault.getD (d.lineAgain x.port x.page x.line)) ∧
    (∃ (d : Dev) (k : Nat), k < 32 ∧ d.duo.disputes = []) ∧
    (∃ (d : Dev) (k : Nat) (x : Dispute) (own : Option Nat), k < 32 ∧ d.duo.disputes = [x] ∧ x.own = some own ∧ d.isShadow = false) :=
  ⟨⟨shd, 31, by decide +kernel⟩,
   ⟨((withJob 0 Ctx.idle { Job.empty with closed := false, start := 1 } shd).modPac fun p => { p with starts := 1 }), 0, 31, (5,
     { Job.empty with closed := false, start := 1 }), by decide +kernel⟩,
   ⟨shd, 31, by decide +kernel⟩,
   ⟨shd, 31, 0x3F, [1#8], by decide +kernel⟩,
   ⟨shd, 31, 63, by decide +kernel⟩,
   ⟨standby, 31, by decide +kernel⟩,
   ⟨act, 31, ev, by decide +kernel⟩,
   ⟨(act.modPair fun x => { x with held := [cp] }), 31, 0, 5, cp, by decide +kernel⟩,
   ⟨act, 31, 63, 5, (⟨0, 0, 0, [], 0, 0, 0, [], []⟩ : Completion), by decide +kernel⟩,
   ⟨(shd.modPair fun x => { x with finished := [cp] }), 31, 0, 5, 1, cp.result, cp, by decide +kernel⟩,
   ⟨(shd.modPair fun x => { x with finished := [cp] }), 31, 0, 5, 2, cp, by decide +kernel⟩,
   ⟨(shd.modPair fun x => { x with finished := [cp] }), 31, 0, 5, 2, cp, by decide +kernel⟩,
   ⟨shd, 31, 0x3F, [1#8], by decide +kernel⟩,
   ⟨(due act), 31, sh, by decide +kernel⟩,
   ⟨(due act), 31, 7, by decide +kernel⟩,
   ⟨shd, 31, 0, by decide +kernel⟩,
   ⟨shd, 31, 0, 0, by decide +kernel⟩,
   ⟨(act.modPair fun x => { x with mine := [(31, 3, 7, 9)] }), 31, 7, 0, 9, (31, 3, 7, 9), by decide +kernel⟩,
   ⟨(act.modPair fun x => { x with mine := [(31, 3, 7, 9)] }), 31, 7, 0, 8, (31, 3, 7, 9), by decide +kernel⟩,
   ⟨standby, 31, by decide +kernel⟩,
   ⟨(disp act none), 31, ⟨31, 3, 7, 1, 2, none, none⟩, (some 1), (some (some 1)), by decide +kernel⟩,
   ⟨shd, 31, by decide +kernel⟩,
   ⟨(disp act (some (some 1))), 31, ⟨31, 3, 7, 1, 2, some (some 1), none⟩, (some 1), by decide +kernel⟩⟩

end ThePartnersShareLinesDigestsAndCompletions

namespace TheRejoinBringsTheShadowIntoMirror

def rj (m : Nat) (act ph : Nat) (p : Option Peer) (up : Nat := 1) : Dev := put [(Reg.MEM_SIZE.fitted_64m, 1024), (Reg.PAIR_CFG.pair_en, 1), (Reg.PAIR_STAT.link_up, up), (Reg.PAIR_STAT.match_ok, 1), (Reg.PAIR_STAT.active, act), (Reg.GLB_SHADOW_OF.sub_state, if m = 11 then 2 else 0), (Reg.PAIR_REJOIN_STAT.phase, ph)] ((inMode m).modPair fun x => { x with peer := p })
def regions (d : Dev) : Dev := d.modCfg fun c => { c with tables := [(0x1001, [(0, 2 ^ 63 + 2 * 2 ^ 24 + 1)])] }
def sn0 : Snap := ⟨Dev.reset.seq, Dev.reset.run, Dev.reset.cmp, Dev.reset.dcr, [], [], [], Dev.reset.pac, [], Dev.reset.msr, [], [], [], []⟩

/-- Each clause's hypotheses are met together. -/
theorem witness :
    (∃ (d : Dev) (mode : Nat), d.isActive = true ∧ d.pairUp = true ∧ d.duo.peer = some ⟨Role.shadow, mode, false⟩ ∧
      d.flag Reg.PAIR_STAT.match_ok = true ∧ d.rejoinPhase = 0) ∧
    (∃ (d : Dev) (mode : Nat), d.isActive = true ∧ d.pairUp = true ∧ d.duo.peer = some ⟨Role.shadow, mode, false⟩ ∧
      d.flag Reg.PAIR_STAT.match_ok = true ∧ d.rejoinPhase = 6) ∧
    (∃ (d : Dev), d.isActive = false) ∧
    (∃ (d : Dev), d.pairUp = false) ∧
    (∃ (d : Dev), d.duo.peer = none) ∧
    (∃ (d : Dev), d.pairUp = true ∧ d.isActive = true ∧ d.rejoinPhase = 1) ∧
    (∃ (d : Dev), d.pairUp = true ∧ d.isActive = true ∧ d.rejoinPhase = 2 ∧ d.duo.dirty.length ≤ 256) ∧
    (∃ (d : Dev), d.pairUp = true ∧ d.isActive = true ∧ d.rejoinPhase = 2 ∧ 8 ≤ d.fld Reg.PAIR_REJOIN_STAT.round) ∧
    (∃ (d : Dev), d.pairUp = true ∧ d.isActive = true ∧ d.rejoinPhase = 2 ∧ 256 < d.duo.dirty.length ∧
      d.fld Reg.PAIR_REJOIN_STAT.round < 8) ∧
    (∃ (d : Dev), d.pairUp = true ∧ d.isActive = true ∧ d.rejoinPhase = 3 ∧ d.pageIsOpen = false) ∧
    (∃ (d : Dev), d.pairUp = true ∧ d.isActive = true ∧ d.rejoinPhase = 3 ∧ d.duo.snap ≠ none) ∧
    (∃ (d : Dev), d.pairUp = true ∧ d.isActive = true ∧ d.rejoinPhase = 4) ∧
    (∃ (d : Dev), d.pairUp = true ∧ d.isActive = true ∧ d.rejoinPhase = 5) ∧
    (∃ (d : Dev), d.pairUp = true ∧ d.isActive = false ∧ d.isShadow = true ∧ d.rejoinPhase = 4) ∧
    (∃ (d : Dev), d.pairUp = true ∧ d.isActive = false ∧ d.isShadow = true ∧ d.rejoinPhase = 5 ∧ d.bandBoundary = true) ∧
    (∃ (d : Dev), d.pairUp = true ∧ d.isActive = false ∧ d.isShadow = true ∧ d.rejoinPhase = 5 ∧ d.bandBoundary = false) ∧
    (∃ (d : Dev) (reason : Nat), 1 ≤ d.rejoinPhase ∧ d.rejoinPhase ≠ 6 ∧ (reason = 1 ∧ d.pairUp = false) ∧ d.isShadow = true ∧
      d.isActive = false) ∧
    (∃ (d : Dev) (reason : Nat), 1 ≤ d.rejoinPhase ∧ d.rejoinPhase ≠ 6 ∧ (reason = 2 ∧ d.duo.beyond = true) ∧ d.isShadow = true ∧
      d.isActive = false) ∧
    (∃ (d : Dev) (reason : Nat), 1 ≤ d.rejoinPhase ∧ d.rejoinPhase ≠ 6 ∧ (reason = 3 ∧
      (if d.isShadow = true then d.peerMode else d.mode) ≠ d.duo.rejoinMode) ∧ d.isShadow = true ∧ d.isActive = false) ∧
    (∃ (d : Dev) (reason : Nat), 1 ≤ d.rejoinPhase ∧ d.rejoinPhase ≠ 6 ∧ (reason = 1 ∧ d.pairUp = false) ∧ d.isShadow = false ∧
      d.pairServes = false ∧ d.hasRoom 0x80 = true) ∧
    (∃ (d : Dev) (reason : Nat), 1 ≤ d.rejoinPhase ∧ d.rejoinPhase ≠ 6 ∧ (reason = 2 ∧ d.duo.beyond = true) ∧ d.isShadow = false ∧
      d.pairServes = false ∧ d.hasRoom 0x80 = true) ∧
    (∃ (d : Dev) (reason : Nat), 1 ≤ d.rejoinPhase ∧ d.rejoinPhase ≠ 6 ∧ (reason = 3 ∧
      (if d.isShadow = true then d.peerMode else d.mode) ≠ d.duo.rejoinMode) ∧ d.isShadow = false ∧ d.pairServes = false ∧
      d.hasRoom 0x80 = true) ∧
    (∃ (d : Dev), d.rejoinPhase = 0) ∧
    (∃ (d : Dev), d.rejoinPhase = 6) ∧
    (∃ (d : Dev) (reason : Nat), (reason = 1 ∧ d.pairUp = true)) ∧
    (∃ (d : Dev) (reason : Nat), (reason = 2 ∧ d.duo.beyond = false)) ∧
    (∃ (d : Dev) (n : Nat) (bytes : List Byte), d.isShadow = true ∧ d.isMirror = false ∧ bytes.length = 65536 ∧
      d.inFitted (65536 * n) 65536 = true) ∧
    (∃ (d : Dev) (n : Nat), d.isShadow = true ∧ d.isMirror = false ∧ d.inFitted (65536 * n) 65536 = false) :=
  ⟨⟨(regions (rj 6 1 0 (some ⟨2, 11, false⟩))), 11, by decide +kernel⟩,
   ⟨(put [(Reg.PAIR_REJOIN_STAT.phase, 6)] (regions (rj 6 1 6 (some ⟨2, 11, false⟩)))), 11, by decide +kernel⟩,
   ⟨(rj 11 0 1 (some ⟨1, 6, false⟩) 0), by decide +kernel⟩,
   ⟨(rj 11 0 1 (some ⟨1, 6, false⟩) 0), by decide +kernel⟩,
   ⟨(rj 6 1 0 none), by decide +kernel⟩,
   ⟨(rj 6 1 1 (some ⟨2, 11, false⟩)), by decide +kernel⟩,
   ⟨(rj 6 1 2 (some ⟨2, 11, false⟩)), by decide +kernel⟩,
   ⟨(put [(Reg.PAIR_REJOIN_STAT.round, 8)] ((rj 6 1 2 (some ⟨2, 11, false⟩)).modPair fun x => { x with dirty := List.range 257 })),
     by decide +kernel⟩,
   ⟨(put [(Reg.PAIR_REJOIN_STAT.round, 7)] ((rj 6 1 2 (some ⟨2, 11, false⟩)).modPair fun x => { x with dirty := List.range 257 })),
     by decide +kernel⟩,
   ⟨((rj 6 1 3 (some ⟨2, 11, false⟩)).modPair fun x => { x with snap := some sn0 }), by decide +kernel⟩,
   ⟨((rj 6 1 3 (some ⟨2, 11, false⟩)).modPair fun x => { x with snap := some sn0 }), by decide +kernel⟩,
   ⟨(rj 6 1 4 (some ⟨2, 11, false⟩)), by decide +kernel⟩,
   ⟨(rj 6 1 5 (some ⟨2, 11, false⟩)), by decide +kernel⟩,
   ⟨(rj 11 0 4 (some ⟨1, 6, false⟩)), by decide +kernel⟩,
   ⟨(rj 11 0 5 (some ⟨1, 6, false⟩)), by decide +kernel⟩,
   ⟨((rj 11 0 5 (some ⟨1, 6, false⟩)).modCmp fun c => { c with committed := some ⟨3, 0, 64, 5, false, [], false, [], 0, []⟩ }),
     by decide +kernel⟩,
   ⟨(rj 11 0 1 (some ⟨1, 6, false⟩) 0), 1, by decide +kernel⟩,
   ⟨((rj 11 0 1 (some ⟨1, 6, false⟩)).modPair fun x => { x with beyond := true }), 2, by decide +kernel⟩,
   ⟨(rj 11 0 4 (some ⟨1, 6, false⟩)), 3, by decide +kernel⟩,
   ⟨(rj 6 1 1 (some ⟨2, 11, false⟩) 0), 1, by decide +kernel⟩,
   ⟨((rj 6 1 1 (some ⟨2, 11, false⟩)).modPair fun x => { x with beyond := true }), 2, by decide +kernel⟩,
   ⟨((rj 6 1 1 (some ⟨2, 11, false⟩)).modPair fun x => { x with rejoinMode := 8 }), 3, by decide +kernel⟩,
   ⟨(rj 6 1 0 none), by decide +kernel⟩,
   ⟨(rj 6 1 6 (some ⟨2, 11, false⟩) 1), by decide +kernel⟩,
   ⟨(rj 6 1 0 none), 1, by decide +kernel⟩,
   ⟨(rj 11 0 5 (some ⟨1, 6, false⟩) 0), 2, by decide +kernel⟩,
   ⟨(rj 11 0 4 (some ⟨1, 6, false⟩)), 1, (List.replicate 65536 0#8), by decide +kernel⟩,
   ⟨(rj 11 0 0 none), 0x1000000, by decide +kernel⟩⟩

end TheRejoinBringsTheShadowIntoMirror

namespace FramesPtpMessagesAndTheServoFollowTheirRules

def cs (g s : Nat) : ClockSet := ⟨128, 248, 0xFE, 0xFFFF, 128, g, 0, s⟩
def eth (st : Nat) (f : Domain → Domain) (x : EthPort → EthPort) : Dev :=
  put [(Reg.TIM_PORT_STAT.link_up 0, 1), (Reg.TIM_PORT_STAT.link_up 1, 1), (Reg.TIM_ETH_CFG.fwd_en, 1), (Reg.TIM_ETH_CFG.tc_mode, 1), (Reg.TIM_DOM_CFG.en 1, 1), (Reg.TIM_DOM_CFG.domain 1, 9), (Reg.TIM_DOM_STAT.state 1, st), (Reg.TIM_DOM_STAT.slave_port 1, 1)]
    ((inMode 6).modTim fun t => { t with doms := Tab.set [] Domain.rest 1 (f Domain.rest), ports := Tab.set [] EthPort.rest 1 (x EthPort.rest) })
def fr (n : Nat) (m : Option Ptp) : EthFrame := ⟨.other, n, 1, false, m, false⟩
def ms (b : PtpBody) : Ptp := ⟨9, 5, 3, 77, b⟩
def par (f : Domain) : Domain := { f with foreign := [(cs 4 77, 1)] }

/-- Each clause's hypotheses are met together. -/
theorem witness :
    (∃ (d : Dev) (p i : Nat) (f : EthFrame), p < 2 ∧ i < 2 ∧ d.ethUp p = true ∧ f.fcsBad = false ∧ 64 ≤ f.len ∧ f.len ≤ 1522 ∧
      f.tags ≤ 1 ∧ f.dst = .other ∧ d.flag Reg.TIM_ETH_CFG.fwd_en = true ∧ d.ethUp (1 - p) = true ∧ f.ptp = none) ∧
    (∃ (d : Dev) (p i : Nat) (f : EthFrame) (m : Ptp), p < 2 ∧ i < 2 ∧ d.ethUp p = true ∧ f.fcsBad = false ∧ 64 ≤ f.len ∧ f.len ≤ 1522 ∧
      f.tags ≤ 1 ∧ f.dst = .other ∧ d.flag Reg.TIM_ETH_CFG.fwd_en = true ∧ d.ethUp (1 - p) = true ∧ f.ptp = some m ∧ m.isEvent = true ∧
      m.isPeer = false ∧ d.fld Reg.TIM_ETH_CFG.tc_mode ≠ 0) ∧
    (∃ (d : Dev) (p i : Nat) (f : EthFrame), p < 2 ∧ i < 2 ∧ d.ethUp p = true ∧ f.fcsBad = false ∧ f.len ≤ 1522 ∧ f.len < 64) ∧
    (∃ (d : Dev) (p i : Nat) (f : EthFrame), p < 2 ∧ i < 2 ∧ d.ethUp p = true ∧ f.fcsBad = false ∧ f.len ≤ 1522 ∧ 1 < f.tags) ∧
    (∃ (d : Dev) (p i : Nat) (f : EthFrame), p < 2 ∧ i < 2 ∧ d.ethUp p = true ∧ f.fcsBad = false ∧ 1522 < f.len) ∧
    (∃ (d : Dev) (p i : Nat) (f : EthFrame), p < 2 ∧ i < 2 ∧ d.ethUp p = true ∧ f.fcsBad = false ∧ 64 ≤ f.len ∧ f.len ≤ 1522 ∧
      f.tags ≤ 1 ∧ f.dst = .own ∧ f.ptp = none ∧ f.beacon = false) ∧
    (∃ (d : Dev) (p i : Nat), p < 2 ∧ i < 2 ∧ d.ethUp p = false) ∧
    (∃ (d : Dev) (p i : Nat) (up : Bool), p < 2 ∧ i < 2 ∧ d.timeRuns = true ∧ d.flag (Reg.TIM_PORT_STAT.link_up p) ≠ up ∧ up = false ∧
      d.hasRoom 0x90 = true) ∧
    (∃ (d : Dev) (p i : Nat) (up : Bool), p < 2 ∧ i < 2 ∧ d.timeRuns = true ∧ d.flag (Reg.TIM_PORT_STAT.link_up p) ≠ up ∧
      d.fld Reg.TIM_ETH_CFG.speed ≠ 2 ∧ d.hasRoom 0x90 = true) ∧
    (∃ (d : Dev) (p i : Nat) (up : Bool), p < 2 ∧ i < 2 ∧ d.flag (Reg.TIM_PORT_STAT.link_up p) = up) ∧
    (∃ (d : Dev) (p i : Nat), p < 2 ∧ i < 2 ∧ (d.ethPort p).own = []) ∧
    (∃ (d : Dev) (p i : Nat) (own : OwnFrame) (rest : List OwnFrame), p < 2 ∧ i < 2 ∧ (d.ethPort p).own = own :: rest) ∧
    (∃ (d : Dev) (p i origin : Nat) (m : Ptp), p < 2 ∧ i < 2 ∧ d.ethUp p = true ∧ d.domsOf m.domain = [i] ∧ d.fromParent i p m = true ∧
      m.body = .sync false origin) ∧
    (∃ (d : Dev) (p i origin : Nat) (m : Ptp), p < 2 ∧ i < 2 ∧ d.ethUp p = true ∧ d.domsOf m.domain = [i] ∧ d.fromParent i p m = true ∧
      m.body = .sync true origin) ∧
    (∃ (d : Dev) (p i origin changes : Nat) (t2 corr : Int) (m : Ptp), p < 2 ∧ i < 2 ∧ d.ethUp p = true ∧ d.domsOf m.domain = [i] ∧
      d.fromParent i p m = true ∧ m.body = .followUp origin ∧ (d.dom i).sync = some (m.seq, m.source, p, t2, corr, changes) ∧
      changes = (d.dom i).changes) ∧
    (∃ (d : Dev) (p i origin changes : Nat) (t2 corr : Int) (m : Ptp), p < 2 ∧ i < 2 ∧ d.ethUp p = true ∧ d.domsOf m.domain = [i] ∧
      d.fromParent i p m = true ∧ m.body = .followUp origin ∧ (d.dom i).sync = some (m.seq, m.source, p, t2, corr, changes) ∧
      changes ≠ (d.dom i).changes) ∧
    (∃ (d : Dev) (p i t4 : Nat) (t2 corr : Int) (m : Ptp), p < 2 ∧ i < 2 ∧ d.ethUp p = true ∧ d.domsOf m.domain = [i] ∧
      d.fromParent i p m = true ∧ m.body = .delayResp t4 (d.portId p) ∧ (d.dom i).req = some (m.seq, t2) ∧ (d.dom i).last = some corr) ∧
    (∃ (d : Dev) (p i : Nat) (m : Ptp), p < 2 ∧ i < 2 ∧ d.ethUp p = true ∧ d.domsOf m.domain = [i] ∧ m.body = .delayReq ∧
      d.domState i = DomState.master) ∧
    (∃ (d : Dev) (p i : Nat) (m : Ptp), p < 2 ∧ i < 2 ∧ d.ethUp p = true ∧ d.domsOf m.domain = [i] ∧ m.body = .delayReq ∧
      d.domState i ≠ DomState.master) ∧
    (∃ (d : Dev) (p i : Nat) (m : Ptp) (set : ClockSet), p < 2 ∧ i < 2 ∧ d.ethUp p = true ∧ d.domsOf m.domain = [i] ∧
      m.body = .announce set ∧ (d.dom i).foreign = [] ∧ d.domState i ≠ DomState.master ∧ d.flag (Reg.TIM_DOM_CFG.master_ok i) = false) ∧
    (∃ (d : Dev) (p i : Nat) (m : Ptp) (set : ClockSet), p < 2 ∧ i < 2 ∧ d.ethUp p = true ∧ d.domsOf m.domain = [i] ∧
      m.body = .announce set ∧ (d.dom i).foreign = [] ∧ d.domState i ≠ DomState.master ∧
      (d.ownSet i).better { set with sender := m.source } = false) ∧
    (∃ (d : Dev) (p i : Nat) (m : Ptp) (set : ClockSet), p < 2 ∧ i < 2 ∧ d.ethUp p = true ∧ d.domsOf m.domain = [i] ∧
      m.body = .announce set ∧ (d.dom i).foreign = [] ∧ d.flag (Reg.TIM_DOM_CFG.master_ok i) = true ∧
      (d.ownSet i).better { set with sender := m.source } = true) ∧
    (∃ (d : Dev) (p i : Nat) (m : Ptp), p < 2 ∧ i < 2 ∧ d.ethUp p = true ∧ m.body = .pdelayReq) ∧
    (∃ (d : Dev) (p i req : Nat) (t2 : Int) (m : Ptp), p < 2 ∧ i < 2 ∧ d.ethUp p = true ∧ m.body = .pdelayResp false req (d.portId p) ∧
      (d.ethPort p).req = some (m.seq, t2)) ∧
    (∃ (d : Dev) (p i req : Nat) (t2 : Int) (m : Ptp), p < 2 ∧ i < 2 ∧ d.ethUp p = true ∧ m.body = .pdelayResp true req (d.portId p) ∧
      (d.ethPort p).req = some (m.seq, t2)) ∧
    (∃ (d : Dev) (p i : Nat), p < 2 ∧ i < 2 ∧ d.timeRuns = true ∧ d.domState i = DomState.master) ∧
    (∃ (d : Dev) (p i : Nat), p < 2 ∧ i < 2 ∧ d.timeRuns = true ∧ d.domState i = DomState.slave ∧
      d.flag (Reg.TIM_DOM_CFG.delay i) = false ∧ d.fld (Reg.TIM_DOM_STAT.slave_port i) = p) ∧
    (∃ (d : Dev) (p i : Nat), p < 2 ∧ i < 2 ∧ d.timeRuns = true ∧ d.domState i ≠ DomState.master) ∧
    (∃ (d : Dev) (p i : Nat) (set : ClockSet), p < 2 ∧ i < 2 ∧ d.timeRuns = true ∧ d.flag (Reg.TIM_DOM_CFG.en i) = true ∧
      (d.dom i).foreign = [(set, p)] ∧ d.domState i = DomState.slave) ∧
    (∃ (d : Dev) (p i : Nat), p < 2 ∧ i < 2 ∧ d.timeRuns = true ∧ d.flag (Reg.TIM_DOM_CFG.en i) = true ∧ (d.dom i).foreign = [] ∧
      d.domState i = DomState.listening ∧ d.flag (Reg.TIM_DOM_CFG.master_ok i) = true) :=
  ⟨⟨(eth 2 par id), 1, 1, (fr 1522 none), by decide +kernel⟩,
   ⟨(eth 2 par id), 1, 1, (fr 64 (some (ms (.sync false 0)))), (ms (.sync false 0)), by decide +kernel⟩,
   ⟨(eth 2 par id), 1, 1, (fr 63 none), by decide +kernel⟩,
   ⟨(eth 2 par id), 1, 1, ⟨.other, 64, 2, false, none, false⟩, by decide +kernel⟩,
   ⟨(eth 2 par id), 1, 1, (fr 1523 none), by decide +kernel⟩,
   ⟨(eth 2 par id), 1, 1, ⟨.own, 64, 0, false, none, false⟩, by decide +kernel⟩,
   ⟨(inMode 6), 1, 1, by decide +kernel⟩,
   ⟨(eth 2 par (fun x => { x with own := [.ptp (some 1) .layer2 (ms (.sync false 0))] })), 1, 1, false, by decide +kernel⟩,
   ⟨(inMode 6), 1, 1, true, by decide +kernel⟩,
   ⟨(eth 2 par (fun x => { x with own := [.ptp (some 1) .layer2 (ms (.sync false 0))] })), 1, 1, true, by decide +kernel⟩,
   ⟨(eth 2 par id), 1, 1, by decide +kernel⟩,
   ⟨(eth 2 par (fun x => { x with own := [.ptp (some 1) .layer2 (ms (.sync false 0))] })), 1, 1,
     (.ptp (some 1) .layer2 (ms (.sync false 0))), [], by decide +kernel⟩,
   ⟨(eth 2 par id), 1, 1, 0, (ms (.sync false 0)), by decide +kernel⟩,
   ⟨(eth 2 par id), 1, 1, 100000, (ms (.sync true 100000)), by decide +kernel⟩,
   ⟨(eth 2 (fun f => { par f with sync := some (5, 77, 1, 200000, 3, 0) }) id), 1, 1, 100000, 0, 200000, 3, (ms (.followUp 100000)),
     by decide +kernel⟩,
   ⟨(eth 2 (fun f => { par f with sync := some (5, 77, 1, 200000, 3, 1) }) id), 1, 1, 100000, 1, 200000, 3, (ms (.followUp 100000)),
     by decide +kernel⟩,
   ⟨(eth 2 (fun f => { par f with req := some (5, 1000), last := some 50 }) id), 1, 1, 2000, 1000, 50,
     (ms (.delayResp 2000 ((eth 2 (fun f => { par f with req := some (5, 1000), last := some 50 }) id).portId (1 : Nat)))),
     by decide +kernel⟩,
   ⟨(eth 3 id id), 1, 1, (ms .delayReq), by decide +kernel⟩,
   ⟨(eth 2 par id), 1, 1, (ms .delayReq), by decide +kernel⟩,
   ⟨(eth 1 id id), 1, 1, (ms (.announce (cs 4 77))), (cs 4 77), by decide +kernel⟩,
   ⟨(eth 1 id id), 1, 1, (ms (.announce (cs 4 77))), (cs 4 77), by decide +kernel⟩,
   ⟨(put [(Reg.TIM_DOM_CFG.master_ok 1, 1), (Reg.TIM_DOM_PRIO.priority1 1, 1)] (eth 1 id id)), 1, 1, (ms (.announce (cs 4 77))),
     (cs 4 77), by decide +kernel⟩,
   ⟨(eth 1 id (fun x => { x with req := some (5, 1000) })), 1, 1, (ms .pdelayReq), by decide +kernel⟩,
   ⟨(eth 1 id (fun x => { x with req := some (5, 1000) })), 1, 1, 7, 1000,
     (ms (.pdelayResp false 7 ((eth 1 id (fun x => { x with req := some (5, 1000) })).portId (1 : Nat)))), by decide +kernel⟩,
   ⟨(eth 1 id (fun x => { x with req := some (5, 1000) })), 1, 1, 7, 1000,
     (ms (.pdelayResp true 7 ((eth 1 id (fun x => { x with req := some (5, 1000) })).portId (1 : Nat)))), by decide +kernel⟩,
   ⟨(eth 3 id id), 1, 1, by decide +kernel⟩,
   ⟨(eth 2 par id), 1, 1, by decide +kernel⟩,
   ⟨(eth 2 par id), 1, 1, by decide +kernel⟩,
   ⟨(eth 2 par id), 1, 1, (cs 4 77), by decide +kernel⟩,
   ⟨(put [(Reg.TIM_DOM_CFG.master_ok 1, 1), (Reg.TIM_DOM_PRIO.priority1 1, 1)] (eth 1 id id)), 1, 1, by decide +kernel⟩⟩

end FramesPtpMessagesAndTheServoFollowTheirRules

namespace CheckValueScansStartOrAreRefused

def crcD (c : CrcUnit) (a n : Nat) : Dev := ((standby.setPair (Reg.CRC_ADDR_LO.addr 7) a).setPair (Reg.CRC_LEN_LO.addr 7) n).modCrc fun _ => Tab.set [] CrcUnit.rest 7 c
def run7 : CrcUnit := ⟨true, 0, 0, 0x1000, 16, 0x12345678, true, true, 0xFFFFFFFF, 0, none, none⟩

/-- Each clause's hypotheses are met together. -/
theorem witness :
    (∃ (d : Dev) (u space poly addr len : Nat) (cont : Bool) (w : Word) (c : CrcUnit), u < 8 ∧ c = d.crcUnit u ∧
      space = w.toNat / 2 ^ 4 % 4 ∧ poly = w.toNat / 2 ^ 8 % 4 ∧ addr = d.pair (Reg.CRC_ADDR_LO.addr u) % 2 ^ 40 ∧
      len = d.pair (Reg.CRC_LEN_LO.addr u) % 2 ^ 40 ∧ cont = w.toNat.testBit 13 ∧ d.crcModes = true ∧ c.running = true) ∧
    (∃ (d : Dev) (u space poly addr len : Nat) (cont : Bool) (w : Word) (c : CrcUnit), u < 8 ∧ c = d.crcUnit u ∧
      space = w.toNat / 2 ^ 4 % 4 ∧ poly = w.toNat / 2 ^ 8 % 4 ∧ addr = d.pair (Reg.CRC_ADDR_LO.addr u) % 2 ^ 40 ∧
      len = d.pair (Reg.CRC_LEN_LO.addr u) % 2 ^ 40 ∧ cont = w.toNat.testBit 13 ∧ d.crcModes = true ∧ c.running = false ∧ len = 0) ∧
    (∃ (d : Dev) (u space poly addr len : Nat) (cont : Bool) (w : Word) (c : CrcUnit), u < 8 ∧ c = d.crcUnit u ∧
      space = w.toNat / 2 ^ 4 % 4 ∧ poly = w.toNat / 2 ^ 8 % 4 ∧ addr = d.pair (Reg.CRC_ADDR_LO.addr u) % 2 ^ 40 ∧
      len = d.pair (Reg.CRC_LEN_LO.addr u) % 2 ^ 40 ∧ cont = w.toNat.testBit 13 ∧ d.crcModes = true ∧ c.running = false ∧ space = 3) ∧
    (∃ (d : Dev) (u space poly addr len : Nat) (cont : Bool) (w : Word) (c : CrcUnit), u < 8 ∧ c = d.crcUnit u ∧
      space = w.toNat / 2 ^ 4 % 4 ∧ poly = w.toNat / 2 ^ 8 % 4 ∧ addr = d.pair (Reg.CRC_ADDR_LO.addr u) % 2 ^ 40 ∧
      len = d.pair (Reg.CRC_LEN_LO.addr u) % 2 ^ 40 ∧ cont = w.toNat.testBit 13 ∧ d.crcModes = true ∧ c.running = false ∧
      d.crcLimit space < addr + len) ∧
    (∃ (d : Dev) (u space poly addr len : Nat) (cont : Bool) (w : Word) (c : CrcUnit), u < 8 ∧ c = d.crcUnit u ∧
      space = w.toNat / 2 ^ 4 % 4 ∧ poly = w.toNat / 2 ^ 8 % 4 ∧ addr = d.pair (Reg.CRC_ADDR_LO.addr u) % 2 ^ 40 ∧
      len = d.pair (Reg.CRC_LEN_LO.addr u) % 2 ^ 40 ∧ cont = w.toNat.testBit 13 ∧ d.crcModes = true ∧ c.running = false ∧ (space = 2 ∧
      d.fld Reg.CFG_FLASH_INFO.if_mode = 0)) ∧
    (∃ (d : Dev) (u space poly addr len : Nat) (cont : Bool) (w : Word) (c : CrcUnit), u < 8 ∧ c = d.crcUnit u ∧
      space = w.toNat / 2 ^ 4 % 4 ∧ poly = w.toNat / 2 ^ 8 % 4 ∧ addr = d.pair (Reg.CRC_ADDR_LO.addr u) % 2 ^ 40 ∧
      len = d.pair (Reg.CRC_LEN_LO.addr u) % 2 ^ 40 ∧ cont = w.toNat.testBit 13 ∧ d.crcModes = true ∧ c.running = false ∧ (cont = true ∧
      c.cont ≠ some poly)) ∧
    (∃ (d : Dev) (u space poly addr len : Nat) (cont : Bool) (w : Word) (c : CrcUnit), u < 8 ∧ c = d.crcUnit u ∧
      space = w.toNat / 2 ^ 4 % 4 ∧ poly = w.toNat / 2 ^ 8 % 4 ∧ addr = d.pair (Reg.CRC_ADDR_LO.addr u) % 2 ^ 40 ∧
      len = d.pair (Reg.CRC_LEN_LO.addr u) % 2 ^ 40 ∧ cont = w.toNat.testBit 13 ∧ d.crcModes = true ∧ c.running = false ∧ len ≠ 0 ∧
      space < 3 ∧ addr + len ≤ d.crcLimit space ∧ (space = 2 → d.fld Reg.CFG_FLASH_INFO.if_mode ≠ 0) ∧ (cont = true → c.cont = some poly)) ∧
    (∃ (d : Dev) (u space poly addr len : Nat) (cont : Bool) (w : Word) (c : CrcUnit), u < 8 ∧ c = d.crcUnit u ∧
      space = w.toNat / 2 ^ 4 % 4 ∧ poly = w.toNat / 2 ^ 8 % 4 ∧ addr = d.pair (Reg.CRC_ADDR_LO.addr u) % 2 ^ 40 ∧
      len = d.pair (Reg.CRC_LEN_LO.addr u) % 2 ^ 40 ∧ cont = w.toNat.testBit 13 ∧ d.crcModes = false) :=
  ⟨⟨(crcD run7 0 0), 7, ((0#32).toNat / 2 ^ 4 % 4), ((0#32).toNat / 2 ^ 8 % 4),
     ((crcD run7 0 0).pair (Reg.CRC_ADDR_LO.addr (7 : Nat)) % 2 ^ 40), ((crcD run7 0 0).pair (Reg.CRC_LEN_LO.addr (7 : Nat)) % 2 ^ 40),
     ((0#32).toNat.testBit 13), 0#32, ((crcD run7 0 0).crcUnit (7 : Nat)), by decide +kernel⟩,
   ⟨(crcD CrcUnit.rest 0 0), 7, ((0#32).toNat / 2 ^ 4 % 4), ((0#32).toNat / 2 ^ 8 % 4),
     ((crcD CrcUnit.rest 0 0).pair (Reg.CRC_ADDR_LO.addr (7 : Nat)) % 2 ^ 40),
     ((crcD CrcUnit.rest 0 0).pair (Reg.CRC_LEN_LO.addr (7 : Nat)) % 2 ^ 40), ((0#32).toNat.testBit 13), 0#32,
     ((crcD CrcUnit.rest 0 0).crcUnit (7 : Nat)), by decide +kernel⟩,
   ⟨(crcD CrcUnit.rest 0xFFFFFFFF 1), 7, ((0x131#32).toNat / 2 ^ 4 % 4), ((0x131#32).toNat / 2 ^ 8 % 4),
     ((crcD CrcUnit.rest 0xFFFFFFFF 1).pair (Reg.CRC_ADDR_LO.addr (7 : Nat)) % 2 ^ 40),
     ((crcD CrcUnit.rest 0xFFFFFFFF 1).pair (Reg.CRC_LEN_LO.addr (7 : Nat)) % 2 ^ 40), ((0x131#32).toNat.testBit 13), 0x131#32,
     ((crcD CrcUnit.rest 0xFFFFFFFF 1).crcUnit (7 : Nat)), by decide +kernel⟩,
   ⟨(crcD CrcUnit.rest 0xFFFFFFFF 1), 7, ((0x131#32).toNat / 2 ^ 4 % 4), ((0x131#32).toNat / 2 ^ 8 % 4),
     ((crcD CrcUnit.rest 0xFFFFFFFF 1).pair (Reg.CRC_ADDR_LO.addr (7 : Nat)) % 2 ^ 40),
     ((crcD CrcUnit.rest 0xFFFFFFFF 1).pair (Reg.CRC_LEN_LO.addr (7 : Nat)) % 2 ^ 40), ((0x131#32).toNat.testBit 13), 0x131#32,
     ((crcD CrcUnit.rest 0xFFFFFFFF 1).crcUnit (7 : Nat)), by decide +kernel⟩,
   ⟨(put [(Reg.CFG_FLASH_INFO.density_log2, 16), (Reg.CFG_FLASH_INFO.if_mode, 0)] (crcD CrcUnit.rest 0xFFFF 1)), 7,
     ((0x121#32).toNat / 2 ^ 4 % 4), ((0x121#32).toNat / 2 ^ 8 % 4), ((put [(Reg.CFG_FLASH_INFO.density_log2, 16),
     (Reg.CFG_FLASH_INFO.if_mode, 0)] (crcD CrcUnit.rest 0xFFFF 1)).pair (Reg.CRC_ADDR_LO.addr (7 : Nat)) % 2 ^ 40),
     ((put [(Reg.CFG_FLASH_INFO.density_log2, 16), (Reg.CFG_FLASH_INFO.if_mode,
     0)] (crcD CrcUnit.rest 0xFFFF 1)).pair (Reg.CRC_LEN_LO.addr (7 : Nat)) % 2 ^ 40), ((0x121#32).toNat.testBit 13), 0x121#32,
     ((put [(Reg.CFG_FLASH_INFO.density_log2, 16), (Reg.CFG_FLASH_INFO.if_mode, 0)] (crcD CrcUnit.rest 0xFFFF 1)).crcUnit (7 : Nat)),
     by decide +kernel⟩,
   ⟨(crcD CrcUnit.rest 0xFFFFFFFF 1), 7, ((0x2101#32).toNat / 2 ^ 4 % 4), ((0x2101#32).toNat / 2 ^ 8 % 4),
     ((crcD CrcUnit.rest 0xFFFFFFFF 1).pair (Reg.CRC_ADDR_LO.addr (7 : Nat)) % 2 ^ 40),
     ((crcD CrcUnit.rest 0xFFFFFFFF 1).pair (Reg.CRC_LEN_LO.addr (7 : Nat)) % 2 ^ 40), ((0x2101#32).toNat.testBit 13), 0x2101#32,
     ((crcD CrcUnit.rest 0xFFFFFFFF 1).crcUnit (7 : Nat)), by decide +kernel⟩,
   ⟨(crcD CrcUnit.rest 0xFFFFFFFF 1), 7, ((0x101#32).toNat / 2 ^ 4 % 4), ((0x101#32).toNat / 2 ^ 8 % 4),
     ((crcD CrcUnit.rest 0xFFFFFFFF 1).pair (Reg.CRC_ADDR_LO.addr (7 : Nat)) % 2 ^ 40),
     ((crcD CrcUnit.rest 0xFFFFFFFF 1).pair (Reg.CRC_LEN_LO.addr (7 : Nat)) % 2 ^ 40), ((0x101#32).toNat.testBit 13), 0x101#32,
     ((crcD CrcUnit.rest 0xFFFFFFFF 1).crcUnit (7 : Nat)), by decide +kernel⟩,
   ⟨(inMode 2), 7, ((1#32).toNat / 2 ^ 4 % 4), ((1#32).toNat / 2 ^ 8 % 4), ((inMode 2).pair (Reg.CRC_ADDR_LO.addr (7 : Nat)) % 2 ^ 40),
     ((inMode 2).pair (Reg.CRC_LEN_LO.addr (7 : Nat)) % 2 ^ 40), ((1#32).toNat.testBit 13), 1#32, ((inMode 2).crcUnit (7 : Nat)),
     by decide +kernel⟩⟩

end CheckValueScansStartOrAreRefused

namespace ScansTriggersAndCountersFollowTheirCommands

def crcD (c : CrcUnit) (a n : Nat) : Dev := ((standby.setPair (Reg.CRC_ADDR_LO.addr 7) a).setPair (Reg.CRC_LEN_LO.addr 7) n).modCrc fun _ => Tab.set [] CrcUnit.rest 7 c
def run7 : CrcUnit := ⟨true, 0, 0, 0x1000, 16, 0x12345678, true, true, 0xFFFFFFFF, 0, none, none⟩
def trgD (t : Nat) (x : Trg) : Dev := put [(Reg.TIM_TRG_CFG.target 15, t), (Reg.TIM_TRG_COUNT.count 15, 1), (Reg.TIM_TRG_PERIOD.period 15, 100)] (standby.modTim fun m => { m with trgs := Tab.set [] Trg.rest 15 x })

/-- Each clause's hypotheses are met together. -/
theorem witness :
    (∃ (d : Dev) (u n : Nat) (c : CrcUnit), u < 8 ∧ n < 16 ∧ c = d.crcUnit u ∧ d.crcModes = true ∧ c.running = true) ∧
    (∃ (d : Dev) (u n : Nat) (c : CrcUnit), u < 8 ∧ n < 16 ∧ c = d.crcUnit u ∧ c.running = false) ∧
    (∃ (d : Dev) (u n : Nat) (c : CrcUnit), u < 8 ∧ n < 16 ∧ c = d.crcUnit u ∧ c.running = true ∧ c.space ≠ 2 ∧
      (c.space = 0 → d.flag Reg.MEM_STAT.panic = false ∧ d.waitsRefetch (.other (0x88 + u)) = false) ∧ d.crcMemFail c = none) ∧
    (∃ (d : Dev) (u n : Nat) (c : CrcUnit), u < 8 ∧ n < 16 ∧ c = d.crcUnit u ∧ c.running = true ∧ d.cfg.cmd = none ∧
      (c.space = 0 → d.flag Reg.MEM_STAT.panic = false ∧ d.waitsRefetch (.other (0x88 + u)) = false) ∧ d.crcMemFail c = none) ∧
    (∃ (d : Dev) (u n a : Nat) (c : CrcUnit), u < 8 ∧ n < 16 ∧ c = d.crcUnit u ∧ c.running = true ∧ c.space ≠ 2 ∧
      (c.space = 0 → d.flag Reg.MEM_STAT.panic = false ∧ d.waitsRefetch (.other (0x88 + u)) = false) ∧ d.crcMemFail c = some a ∧
      d.fld Reg.MIG_LOG_LEN.len = 0 ∧ d.hasRoom (0x88 + u) = true) ∧
    (∃ (d : Dev) (u n a : Nat) (c : CrcUnit), u < 8 ∧ n < 16 ∧ c = d.crcUnit u ∧ c.running = true ∧ d.cfg.cmd = none ∧
      (c.space = 0 → d.flag Reg.MEM_STAT.panic = false ∧ d.waitsRefetch (.other (0x88 + u)) = false) ∧ d.crcMemFail c = some a ∧
      d.fld Reg.MIG_LOG_LEN.len = 0 ∧ d.hasRoom (0x88 + u) = true) ∧
    (∃ (d : Dev) (u n : Nat) (c : CrcUnit), u < 8 ∧ n < 16 ∧ c = d.crcUnit u ∧ d.timeRuns = true ∧ (d.trg n).armed = true ∧
      d.trgNext n ≤ d.tbRead (d.fld (Reg.TIM_TRG_CFG.tb n)) ∧ d.fld (Reg.TIM_TRG_CFG.target n) = 5 ∧ d.mode ≠ Mode.safe) ∧
    (∃ (d : Dev) (u n : Nat) (c : CrcUnit), u < 8 ∧ n < 16 ∧ c = d.crcUnit u ∧ d.timeRuns = true ∧ (d.trg n).armed = true ∧
      d.trgNext n ≤ d.tbRead (d.fld (Reg.TIM_TRG_CFG.tb n)) ∧ d.fld (Reg.TIM_TRG_CFG.target n) = 6) ∧
    (∃ (d : Dev) (u n : Nat) (c : CrcUnit), u < 8 ∧ n < 16 ∧ c = d.crcUnit u ∧ (d.trg n).armed = false) ∧
    (∃ (d : Dev) (u n : Nat) (c : CrcUnit), u < 8 ∧ n < 16 ∧ c = d.crcUnit u ∧ d.tbRead (d.fld (Reg.TIM_TRG_CFG.tb n)) < d.trgNext n) ∧
    (∃ (d : Dev) (u n : Nat) (c : CrcUnit), u < 8 ∧ n < 16 ∧ c = d.crcUnit u ∧ c.running = true ∧ c.space = 0 ∧
      d.flag Reg.MEM_STAT.panic = true) ∧
    (∃ (d : Dev) (u n : Nat) (c : CrcUnit), u < 8 ∧ n < 16 ∧ c = d.crcUnit u ∧ c.running = true ∧ c.space = 0 ∧
      d.waitsRefetch (.other (0x88 + u)) = true) ∧
    (∃ (d : Dev) (u n : Nat) (c : CrcUnit), u < 8 ∧ n < 16 ∧ c = d.crcUnit u ∧ d.responds Reg.TIM_TRG_CTL.addr = false) ∧
    (∃ (d : Dev) (u n : Nat) (c : CrcUnit), u < 8 ∧ n < 16 ∧ c = d.crcUnit u ∧ d.responds Reg.TIM_TRG_CTL.addr = true) ∧
    (∃ (d : Dev) (u n : Nat) (c : CrcUnit), u < 8 ∧ n < 16 ∧ c = d.crcUnit u ∧ d.responds Reg.PMU_CTL.addr = true ∧
      d.flag Reg.PMU_STAT.snap_busy = false) ∧
    (∃ (d : Dev) (u n : Nat) (c : CrcUnit), u < 8 ∧ n < 16 ∧ c = d.crcUnit u ∧ d.responds Reg.PMU_CTL.addr = true ∧
      d.flag Reg.PMU_STAT.snap_busy = true) ∧
    (∃ (d : Dev) (u n : Nat) (c : CrcUnit) (i : Instr), u < 8 ∧ n < 16 ∧ c = d.crcUnit u ∧ d.responds Reg.PMU_CTL.addr = false ∧
      i = Instr.pmuClear) ∧
    (∃ (d : Dev) (u n : Nat) (c : CrcUnit) (i : Instr), u < 8 ∧ n < 16 ∧ c = d.crcUnit u ∧ d.responds Reg.PMU_CTL.addr = false ∧
      i = .pmuSnap) ∧
    (∃ (d : Dev) (u n : Nat) (c : CrcUnit) (i : Instr), u < 8 ∧ n < 16 ∧ c = d.crcUnit u ∧ d.responds Reg.PMU_CTL.addr = false ∧
      i = .pmuFreeze) ∧
    (∃ (d : Dev) (u n : Nat) (c : CrcUnit) (i : Instr), u < 8 ∧ n < 16 ∧ c = d.crcUnit u ∧ d.responds Reg.PMU_CTL.addr = false ∧
      i = .pmuUnfreeze) :=
  ⟨⟨(crcD run7 0 0), 7, 15, ((crcD run7 0 0).crcUnit (7 : Nat)), by decide +kernel⟩,
   ⟨(crcD CrcUnit.rest 0 0), 7, 15, ((crcD CrcUnit.rest 0 0).crcUnit (7 : Nat)), by decide +kernel⟩,
   ⟨(crcD run7 0 0), 7, 15, ((crcD run7 0 0).crcUnit (7 : Nat)), by decide +kernel⟩,
   ⟨(crcD run7 0 0), 7, 15, ((crcD run7 0 0).crcUnit (7 : Nat)), by decide +kernel⟩,
   ⟨(crcD { run7 with failAt := some 0x1008 } 0 0), 7, 15, 0x1008, ((crcD { run7 with failAt := some 0x1008 } 0 0).crcUnit (7 : Nat)),
     by decide +kernel⟩,
   ⟨(crcD { run7 with failAt := some 0x1008 } 0 0), 7, 15, 0x1008, ((crcD { run7 with failAt := some 0x1008 } 0 0).crcUnit (7 : Nat)),
     by decide +kernel⟩,
   ⟨(trgD 5 ⟨true, 0, 0, 0⟩), 7, 15, ((trgD 5 ⟨true, 0, 0, 0⟩).crcUnit (7 : Nat)), by decide +kernel⟩,
   ⟨(trgD 6 ⟨true, 0, 0, 0⟩), 7, 15, ((trgD 6 ⟨true, 0, 0, 0⟩).crcUnit (7 : Nat)), by decide +kernel⟩,
   ⟨(crcD run7 0 0), 7, 15, ((crcD run7 0 0).crcUnit (7 : Nat)), by decide +kernel⟩,
   ⟨(trgD 5 ⟨true, 0x1000, 0, 0⟩), 7, 15, ((trgD 5 ⟨true, 0x1000, 0, 0⟩).crcUnit (7 : Nat)), by decide +kernel⟩,
   ⟨(put [(Reg.MEM_STAT.panic, 1)] (crcD run7 0 0)), 7, 15, ((put [(Reg.MEM_STAT.panic, 1)] (crcD run7 0 0)).crcUnit (7 : Nat)),
     by decide +kernel⟩,
   ⟨((crcD run7 0 0).modMig fun m => { m with refetches := [⟨5, [(.other 0x8F, 0)], false, false, true, [], 0⟩] }), 7, 15,
     (((crcD run7 0 0).modMig fun m => { m with refetches := [⟨5, [(.other 0x8F, 0)], false, false, true, [], 0⟩] }).crcUnit (7 : Nat)),
     by decide +kernel⟩,
   ⟨(inMode 5), 7, 15, ((inMode 5).crcUnit (7 : Nat)), by decide +kernel⟩,
   ⟨(crcD run7 0 0), 7, 15, ((crcD run7 0 0).crcUnit (7 : Nat)), by decide +kernel⟩,
   ⟨(crcD run7 0 0), 7, 15, ((crcD run7 0 0).crcUnit (7 : Nat)), by decide +kernel⟩,
   ⟨(put [(Reg.PMU_STAT.snap_busy, 1)] standby), 7, 15, ((put [(Reg.PMU_STAT.snap_busy, 1)] standby).crcUnit (7 : Nat)),
     by decide +kernel⟩,
   ⟨(inMode 5), 7, 15, ((inMode 5).crcUnit (7 : Nat)), Instr.pmuClear, by decide +kernel⟩,
   ⟨(inMode 5), 7, 15, ((inMode 5).crcUnit (7 : Nat)), Instr.pmuSnap, by decide +kernel⟩,
   ⟨(inMode 5), 7, 15, ((inMode 5).crcUnit (7 : Nat)), .pmuFreeze, by decide +kernel⟩,
   ⟨(inMode 5), 7, 15, ((inMode 5).crcUnit (7 : Nat)), .pmuUnfreeze, by decide +kernel⟩⟩

end ScansTriggersAndCountersFollowTheirCommands

namespace AxesHoldAndTheFantailWatchesAndWakes

def axm (x : Axis) : Dev := put [(Reg.MOT_AX_CFG.deb_n 5, 1), (Reg.MOT_AX_CFG.en 5, 1), (Reg.MOT_AX_IDLE.off_ms 5, 3)] (standby.modMot fun t => { t with axes := Tab.set [] Axis.rest 5 x, runAt := Tab.set [] 0 5 9 })
def fanD (m : Nat) (f : Fan → Fan) : Dev := put [(Reg.GLB_STATUS.aon_ok, 1), (Reg.FAN_AIN_CFG.en 7, 1), (Reg.FAN_AIN_CFG.k 7, 0)] ((inMode m).modFan f)

/-- Each clause's hypotheses are met together. -/
theorem witness :
    (∃ (d : Dev) (k i : Nat), k < 6 ∧ i < 8 ∧ d.axisOn k = true ∧ d.axisStill k = true ∧ (d.axis k).powered = true ∧
      d.fld (Reg.MOT_AX_IDLE.off_ms k) ≠ 0) ∧
    (∃ (d : Dev) (k i : Nat), k < 6 ∧ i < 8 ∧ d.axisStill k = false) ∧
    (∃ (d : Dev) (k i which : Nat) (high : Bool) (f : Ball), k < 6 ∧ i < 8 ∧ which < 2 ∧ d.mode ≠ Mode.reset ∧ d.mode ≠ Mode.sleep ∧
      f = (d.switchBall k which).next (d.fld (Reg.MOT_AX_CFG.deb_n k)) high (d.tbRead 2) ∧ f.level ≠ some high) ∧
    (∃ (d : Dev) (k i which : Nat) (high active : Bool) (f : Ball), k < 6 ∧ i < 8 ∧ which < 2 ∧ d.mode ≠ Mode.reset ∧
      d.mode ≠ Mode.sleep ∧ f = (d.switchBall k which).next (d.fld (Reg.MOT_AX_CFG.deb_n k)) high (d.tbRead 2) ∧ f.level = some high ∧
      active = (high != d.flag (if which = 0 then Reg.MOT_AX_CFG.home_pol k else Reg.MOT_AX_CFG.lim_pol k)) ∧
      (if which = 0 then (d.axis k).home else (d.axis k).lim) = none) ∧
    (∃ (d : Dev) (k i which : Nat) (high active : Bool) (f : Ball), k < 6 ∧ i < 8 ∧ which < 2 ∧ d.mode ≠ Mode.reset ∧
      d.mode ≠ Mode.sleep ∧ f = (d.switchBall k which).next (d.fld (Reg.MOT_AX_CFG.deb_n k)) high (d.tbRead 2) ∧ f.level = some high ∧
      active = (high != d.flag (if which = 0 then Reg.MOT_AX_CFG.home_pol k else Reg.MOT_AX_CFG.lim_pol k)) ∧ d.axisOn k = true ∧
      (if which = 0 then (d.axis k).home else (d.axis k).lim) = some (!active) ∧ (d.axis k).phase = 0) ∧
    (∃ (d : Dev) (k i which : Nat) (high active : Bool) (f : Ball), k < 6 ∧ i < 8 ∧ which < 2 ∧ d.mode ≠ Mode.reset ∧
      d.mode ≠ Mode.sleep ∧ f = (d.switchBall k which).next (d.fld (Reg.MOT_AX_CFG.deb_n k)) high (d.tbRead 2) ∧ f.level = some high ∧
      active = (high != d.flag (if which = 0 then Reg.MOT_AX_CFG.home_pol k else Reg.MOT_AX_CFG.lim_pol k)) ∧ d.axisOn k = true ∧
      (if which = 0 then (d.axis k).home else (d.axis k).lim) = some (!active) ∧ (d.axis k).phase = 3 ∧ which = 0 ∧ active = true ∧
      d.isShadow = false) ∧
    (∃ (d : Dev) (k i which : Nat) (high active : Bool) (f : Ball), k < 6 ∧ i < 8 ∧ which < 2 ∧ d.mode ≠ Mode.reset ∧
      d.mode ≠ Mode.sleep ∧ f = (d.switchBall k which).next (d.fld (Reg.MOT_AX_CFG.deb_n k)) high (d.tbRead 2) ∧ f.level = some high ∧
      active = (high != d.flag (if which = 0 then Reg.MOT_AX_CFG.home_pol k else Reg.MOT_AX_CFG.lim_pol k)) ∧ d.axisOn k = true ∧
      (if which = 0 then (d.axis k).home else (d.axis k).lim) = some (!active) ∧ (d.axis k).phase ≠ 0 ∧ which = 1 ∧ active = true ∧
      d.isShadow = false) ∧
    (∃ (d : Dev) (k i : Nat), k < 6 ∧ i < 8 ∧ d.aonOk = true ∧ d.flag (Reg.FAN_AIN_CFG.en i) = true ∧ d.awake = false) ∧
    (∃ (d : Dev) (k i : Nat), k < 6 ∧ i < 8 ∧ d.aonOk = true ∧ d.flag (Reg.FAN_AIN_CFG.en i) = true ∧ d.fanTriggered = false) ∧
    (∃ (d : Dev) (k i uv : Nat) (c : Instr), k < 6 ∧ i < 8 ∧ d.aonOk = false ∧ c = Instr.fanAinSample i uv) ∧
    (∃ (d : Dev) (k i levels : Nat) (wakeN : Bool) (c : Instr), k < 6 ∧ i < 8 ∧ d.aonOk = false ∧ c = .fanDinSample levels wakeN) ∧
    (∃ (d : Dev) (k i : Nat) (c : Instr), k < 6 ∧ i < 8 ∧ d.aonOk = false ∧ c = .fanEncoderEdge) ∧
    (∃ (d : Dev) (k i : Nat) (c : Instr), k < 6 ∧ i < 8 ∧ d.aonOk = false ∧ c = .keepwetTimer) ∧
    (∃ (d : Dev) (k i : Nat) (c : Instr), k < 6 ∧ i < 8 ∧ d.aonOk = false ∧ c = .fantailWake) ∧
    (∃ (d : Dev) (k i : Nat) (c : Instr), k < 6 ∧ i < 8 ∧ d.aonOk = false ∧ c = .pwrEnStep) ∧
    (∃ (d : Dev) (k i : Nat), k < 6 ∧ i < 8 ∧ d.aonOk = true ∧ d.mode = Mode.sleep ∧ d.fan.raising = false ∧
      d.flag Reg.FAN_ENC.enc_en = true ∧
      d.fld Reg.FAN_ENC.enc_cnt ≤ (d.fan.edges.filter fun t => Nat.ble d.aonMs (t + d.fld Reg.FAN_ENC.enc_win_ms)).length + 1) ∧
    (∃ (d : Dev) (k i : Nat), k < 6 ∧ i < 8 ∧ d.aonOk = true ∧ d.mode = Mode.sleep ∧ d.fan.raising = false ∧
      d.flag Reg.FAN_ENC.enc_en = true ∧
      (d.fan.edges.filter fun t => Nat.ble d.aonMs (t + d.fld Reg.FAN_ENC.enc_win_ms)).length + 1 < d.fld Reg.FAN_ENC.enc_cnt) ∧
    (∃ (d : Dev) (k i : Nat), k < 6 ∧ i < 8 ∧ d.aonOk = true ∧ d.mode = Mode.sleep ∧ d.fan.raising = false ∧
      d.fld Reg.FAN_KEEPWET.kw_min ≠ 0) ∧
    (∃ (d : Dev) (k i : Nat), k < 6 ∧ i < 8 ∧ d.aonOk = true ∧ d.mode = Mode.sleep ∧ d.fan.raising = false ∧ d.fan.releasing = false ∧
      d.fan.pendingCauses ≠ 0) ∧
    (∃ (d : Dev) (k i : Nat), k < 6 ∧ i < 8 ∧ d.aonOk = true ∧ d.mode = Mode.sleep ∧ d.fan.raising = false ∧ d.fan.releasing = true) ∧
    (∃ (d : Dev) (k i : Nat), k < 6 ∧ i < 8 ∧ d.aonOk = true ∧ d.mode = Mode.sleep ∧ d.fan.raising = false ∧ d.fan.pendingCauses = 0) ∧
    (∃ (d : Dev) (k i j : Nat), k < 6 ∧ i < 8 ∧ d.aonOk = true ∧ d.fan.releasing = true ∧ j < 4 ∧
      d.fld Reg.FAN_STAT.pwr_en = 2 ^ (j + 1) - 1) ∧
    (∃ (d : Dev) (k i j : Nat), k < 6 ∧ i < 8 ∧ d.aonOk = true ∧ d.fan.releasing = false ∧ d.fan.raising = true ∧ j < 4 ∧
      d.fld Reg.FAN_STAT.pwr_en = 2 ^ j - 1) :=
  ⟨⟨(axm { Axis.rest with powered := true, valid := true, home := some false, lim := some false }), 5, 7, by decide +kernel⟩,
   ⟨(axm { Axis.rest with powered := true, valid := true, home := some false, lim := some false, phase := 3, seek := true, p := 0x5000000 }),
     5, 7, by decide +kernel⟩,
   ⟨(fanD 6 id), 5, 7, 0, false,
     (((fanD 6 id).switchBall (5 : Nat) (0 : Nat)).next ((fanD 6 id).fld (Reg.MOT_AX_CFG.deb_n (5 : Nat))) false ((fanD 6 id).tbRead 2)),
     by decide +kernel⟩,
   ⟨(axm { Axis.rest with powered := true, valid := true, home := none, lim := none }), 5, 7, 1, false, false,
     (((axm { Axis.rest with powered := true, valid := true, home := none, lim := none }).switchBall (5 : Nat) (1 : Nat)).next ((axm { Axis.rest with powered := true, valid := true, home := none, lim := none }).fld (Reg.MOT_AX_CFG.deb_n (5 : Nat))) false ((axm { Axis.rest with powered := true, valid := true, home := none, lim := none }).tbRead 2)),
     by decide +kernel⟩,
   ⟨(axm { Axis.rest with powered := true, valid := true, home := some false, lim := some false }), 5, 7, 0, true, true,
     (((axm { Axis.rest with powered := true, valid := true, home := some false, lim := some false }).switchBall (5 : Nat) (0 : Nat)).next ((axm { Axis.rest with powered := true, valid := true, home := some false, lim := some false }).fld (Reg.MOT_AX_CFG.deb_n (5 : Nat))) true ((axm { Axis.rest with powered := true, valid := true, home := some false, lim := some false }).tbRead 2)),
     by decide +kernel⟩,
   ⟨(axm { Axis.rest with powered := true, valid := true, home := some false, lim := some false, phase := 3, seek := true, p := 0x5000000 }),
     5, 7, 0, true, true,
     (((axm { Axis.rest with powered := true, valid := true, home := some false, lim := some false, phase := 3, seek := true, p := 0x5000000 }).switchBall (5 : Nat) (0 : Nat)).next ((axm { Axis.rest with powered := true, valid := true, home := some false, lim := some false, phase := 3, seek := true, p := 0x5000000 }).fld (Reg.MOT_AX_CFG.deb_n (5 : Nat))) true ((axm { Axis.rest with powered := true, valid := true, home := some false, lim := some false, phase := 3, seek := true, p := 0x5000000 }).tbRead 2)),
     by decide +kernel⟩,
   ⟨(axm { Axis.rest with powered := true, valid := true, home := some false, lim := some false, phase := 1 }), 5, 7, 1, true, true,
     (((axm { Axis.rest with powered := true, valid := true, home := some false, lim := some false, phase := 1 }).switchBall (5 : Nat) (1 : Nat)).next ((axm { Axis.rest with powered := true, valid := true, home := some false, lim := some false, phase := 1 }).fld (Reg.MOT_AX_CFG.deb_n (5 : Nat))) true ((axm { Axis.rest with powered := true, valid := true, home := some false, lim := some false, phase := 1 }).tbRead 2)),
     by decide +kernel⟩,
   ⟨(fanD 5 (fun f => { f with din := [(16, ⟨some true, false, 2⟩)] })), 5, 7, by decide +kernel⟩,
   ⟨(fanD 6 id), 5, 7, by decide +kernel⟩,
   ⟨(inMode 5), 5, 7, 3, (Instr.fanAinSample (7 : Nat) (3 : Nat)), by decide +kernel⟩,
   ⟨(inMode 5), 5, 7, 1, false, (.fanDinSample (1 : Nat) false), by decide +kernel⟩,
   ⟨(inMode 5), 5, 7, .fanEncoderEdge, by decide +kernel⟩,
   ⟨(inMode 5), 5, 7, .keepwetTimer, by decide +kernel⟩,
   ⟨(inMode 5), 5, 7, .fantailWake, by decide +kernel⟩,
   ⟨(inMode 5), 5, 7, Instr.pwrEnStep, by decide +kernel⟩,
   ⟨(put [(Reg.FAN_ENC.enc_en, 1), (Reg.FAN_ENC.enc_cnt, 1), (Reg.FAN_KEEPWET.kw_min, 1)] (fanD 5 id)), 5, 7, by decide +kernel⟩,
   ⟨(put [(Reg.FAN_ENC.enc_en, 1), (Reg.FAN_ENC.enc_cnt, 2)] (fanD 5 fun f => { f with pendingCauses := 16 })), 5, 7, by decide +kernel⟩,
   ⟨(put [(Reg.FAN_ENC.enc_en, 1), (Reg.FAN_ENC.enc_cnt, 1), (Reg.FAN_KEEPWET.kw_min, 1)] (fanD 5 id)), 5, 7, by decide +kernel⟩,
   ⟨(put [(Reg.FAN_ENC.enc_en, 1), (Reg.FAN_ENC.enc_cnt, 2)] (fanD 5 fun f => { f with pendingCauses := 16 })), 5, 7, by decide +kernel⟩,
   ⟨(put [(Reg.FAN_STAT.pwr_en, 1)] (fanD 5 fun f => { f with releasing := true })), 5, 7, by decide +kernel⟩,
   ⟨(fanD 5 (fun f => { f with din := [(16, ⟨some true, false, 2⟩)] })), 5, 7, by decide +kernel⟩,
   ⟨(put [(Reg.FAN_STAT.pwr_en, 1)] (fanD 5 fun f => { f with releasing := true })), 5, 7, 0, by decide +kernel⟩,
   ⟨(put [(Reg.FAN_STAT.pwr_en, 7)] (fanD 5 fun f => { f with raising := true })), 5, 7, 3, by decide +kernel⟩⟩

end AxesHoldAndTheFantailWatchesAndWakes

namespace EveryStepKeepsMemoryAndRegistersCanonical

/-- Each clause's hypotheses are met together. -/
theorem witness :
    ∃ (s t : State), s.dev.canonical = true ∧ step s = .next t :=
  ⟨State.reset, State.reset, by decide +kernel, rfl⟩

end EveryStepKeepsMemoryAndRegistersCanonical


end Sys2Proof.Tests
end

/-! Host access to registers (R8 to R10, R70, R71): the two halves of a pair, the read-clear and write-1-to-clear bits, and requests
of the wrong shape. -/

namespace Sys2Proof.Machine

/-! ### Commands that change the device -/

/-- A command whose meaning is a function of the device completes with that function's result. -/
theorem Completes.of_did {i : Instr} {d : Dev} {f : Dev → Dev} {P : Dev → Prop} (hi : ∀ s : State, exec i s = s.did f) (hP : P (f d)) :
    Completes i d P :=
  fun q => ⟨f d, hi ⟨d, q⟩, hP⟩

/-! ### Words under a mask -/

theorem getLsbD_maskInto (mask w v : Nat) {i : Nat} (hi : i < 32) :
    (maskInto mask w v).getLsbD i = if mask.testBit i then v.testBit i else w.testBit i := by
  have hones : (0xFFFFFFFF).testBit i = true := by
    rw [show 0xFFFFFFFF = 2 ^ 32 - 1 from rfl, Nat.testBit_two_pow_sub_one, decide_eq_true hi]
  have hbit : (maskInto mask w v).getLsbD i = ((w &&& (mask ^^^ 0xFFFFFFFF)) ||| (v &&& mask)).testBit i := by
    show (BitVec.ofNat 32 _).getLsbD i = _
    rw [BitVec.getLsbD_ofNat, decide_eq_true hi, Bool.true_and]
    rfl
  rw [hbit, Nat.testBit_or, Nat.testBit_and, Nat.testBit_and, Nat.testBit_xor, hones]
  cases mask.testBit i <;> simp

/-! ### The two halves of a pair in the register table -/

theorem RegRow.eq_of_covers {r : RegRow} {a : Nat} (hc : 0 < r.count) (h : r.covers a = true) :
    ∃ i, i < r.count ∧ a = r.base + i * r.stride := by
  unfold RegRow.covers at h
  split at h
  · exact ⟨0, hc, by simpa using h⟩
  · simp only [Bool.and_eq_true, Nat.ble_eq, Nat.blt_eq, beq_iff_eq] at h
    obtain ⟨⟨hbase, hmod⟩, hlt⟩ := h
    have hdiv := Nat.div_add_mod' (a - r.base) r.stride
    exact ⟨_, hlt, by omega⟩

/-- Table fact: 4 above each low half, in the same block, stands the high half of a pair. -/
theorem highHalf_above_each_lowRow : ∀ b < 22, ∀ r ∈ regRowsOfBlock b, r.half = 1 → 0 < r.count ∧
    ∀ i < r.count, (r.base + i * r.stride + 4) / 0x100000 = b ∧ (regRow (r.base + i * r.stride + 4)).map RegRow.half = some 2 := by
  decide +kernel

theorem lt_of_mem_regRowsOfBlock {b : Nat} {r : RegRow} (h : r ∈ regRowsOfBlock b) : b < 22 := by
  by_contra hb
  obtain ⟨c, rfl⟩ := Nat.exists_eq_add_of_le' (Nat.le_of_not_lt hb)
  exact absurd h List.not_mem_nil

theorem mem_and_covers_of_regRow {a : Nat} {r : RegRow} (h : regRow a = some r) : r ∈ regRowsOfBlock (a / 0x100000) ∧ r.covers a = true := by
  unfold regRow at h
  exact ⟨List.mem_of_find?_eq_some h, (List.find?_some h :)⟩

theorem regRow_high_of_low {a : Nat} {r : RegRow} (hr : regRow a = some r) (hlo : r.half = 1) :
    (a + 4) / 0x100000 = a / 0x100000 ∧ ∃ rh, regRow (a + 4) = some rh ∧ rh.half = 2 := by
  obtain ⟨hmem, hcov⟩ := mem_and_covers_of_regRow hr
  obtain ⟨hcount, hhigh⟩ := highHalf_above_each_lowRow _ (lt_of_mem_regRowsOfBlock hmem) r hmem hlo
  obtain ⟨i, hi, ha⟩ := RegRow.eq_of_covers hcount hcov
  obtain ⟨hblock, hhalf⟩ := hhigh i hi
  rw [← ha] at hblock hhalf
  exact ⟨hblock, Option.map_eq_some_iff.mp hhalf⟩

theorem Dev.responds_congr {d e : Dev} {a b : Nat} (hreg : e.regs = d.regs) (hb : b / 0x100000 = a / 0x100000) :
    e.responds b = d.responds a := by
  unfold Dev.responds Dev.bar0 Dev.mode Dev.fld
  rw [Dev.reg_congr hreg, hb]

/-! ### The host's access as the pair takes it -/

/-- Where the pair takes no part, the write is the device's own. -/
theorem Dev.pairWrite_alone {d : Dev} {a : Nat} (v : Nat) (f : Dev → Dev) (h : d.aloneFor a = true) : d.pairWrite a v f = f d := by
  unfold Dev.pairWrite
  unfold Dev.aloneFor at h
  cases hr : relayed a with
  | false => simp
  | true =>
    rw [hr] at h
    simp only [Bool.not_true, Bool.false_or, Bool.not_eq_true', Bool.or_eq_false_iff] at h
    obtain ⟨hshadow, hactive⟩ := h
    simp [hshadow, hactive]

section Pairs

variable {d : Dev} {a : Nat} {r : RegRow} (hr : regRow a = some r) (hd : d.responds a = true)
include hr hd

/-! ### Writes of a pair (R9) -/

theorem Dev.hostWriteLo_eq (v : Word) (hlo : r.half = 1) (hrw : r.rw ≠ 0) (hcrc : d.crcLocked a = false) (halone : d.aloneFor a = true) :
    d.hostWriteLo a v = { d with staging := Tab.put d.staging a (maskInto r.rw (d.reg a).toNat v.toNat) } := by
  unfold Dev.hostWriteLo Dev.loWriteStage
  simp [hcrc, Dev.pairWrite_alone _ _ halone, hr, hlo, hd, hrw]

theorem Dev.hostWriteHi_eq (v : Word) (hhi : r.half = 2) (hrw : r.rw ≠ 0) (hcrc : d.crcLocked a = false) (halone : d.aloneFor a = true) :
    d.hostWriteHi a v =
      { (d.setReg (a - 4) ((Tab.find d.staging (a - 4)).getD (d.reg (a - 4)))).setReg a (maskInto r.rw (d.reg a).toNat v.toNat) with
        staging := Tab.del d.staging (a - 4) } := by
  unfold Dev.hostWriteHi Dev.hiWriteCommit
  simp [hcrc, Dev.pairWrite_alone _ _ halone, hr, hhi, hd, hrw]

/-! ### Reads of a pair (R9) -/

/-- A high half reads as its pair's latch. -/
theorem Dev.readReg_high (hhi : r.half = 2) : d.readReg a = Tab.get d.latches (regReset a) (a - 4) := by
  unfold Dev.readReg
  simp [hr, hd, hhi]

/-- A read of a low half answers the host and changes nothing else but the latches. -/
theorem Dev.loReadLatch_eq (hlo : r.half = 1) :
    d.loReadLatch a = { d.toHost (.completion (leBytes 4 (d.readReg a).toNat)) with latches := (d.loReadLatch a).latches } := by
  unfold Dev.loReadLatch
  simp [hr, hd, hlo]

/-- A read of a low half puts the live upper half into the pair's latch; a time base's fraction has a latch of its own. -/
theorem Dev.loReadLatch_latch (hlo : r.half = 1) : Tab.get (d.loReadLatch a).latches (regReset (a + 4)) a = d.liveReg (a + 4) := by
  unfold Dev.loReadLatch
  simp only [hr, hd, hlo, and_self, if_true]
  split
  · rw [Tab.get_set_other _ _ _ _ (by omega), Tab.get_set_same]
  · rw [Tab.get_set_same]

theorem Dev.loReadLatch_regs (hlo : r.half = 1) : (d.loReadLatch a).regs = d.regs := by
  rw [Dev.loReadLatch_eq hr hd hlo]
  rfl

/-- After a read of the low half the high half reads as it was at that instant. -/
theorem Dev.readReg_high_loReadLatch (hlo : r.half = 1) : (d.loReadLatch a).readReg (a + 4) = d.liveReg (a + 4) := by
  obtain ⟨hblock, rh, hrh, hhi⟩ := regRow_high_of_low hr hlo
  have hresp : (d.loReadLatch a).responds (a + 4) = true := by
    rw [Dev.responds_congr (Dev.loReadLatch_regs hr hd hlo) hblock, hd]
  rw [Dev.readReg_high hrh hresp hhi, Nat.add_sub_cancel, Dev.loReadLatch_latch hr hd hlo]

/-! ### Read-clear and write-1-to-clear bits (R10) -/

theorem Dev.rcRead_eq (hrc : r.rc ≠ 0) : d.rcRead a =
    (d.toHost (.completion (leBytes 4 (d.reg a).toNat))).setReg a (maskInto r.rc (d.reg a).toNat (regReset a).toNat) := by
  unfold Dev.rcRead
  simp [hr, hd, hrc]

theorem Dev.w1cWrite_eq (v : Word) (hw1c : r.w1c ≠ 0) :
    d.w1cWrite a v = d.setReg a (maskInto (r.w1c &&& v.toNat) (d.reg a).toNat 0) := by
  unfold Dev.w1cWrite
  simp only [hr, hd, hw1c, ne_eq, not_false_eq_true, and_self, if_true]
  rfl

end Pairs

theorem Dev.RegsKept.setReg (d : Dev) (a : Nat) (v : Word) : d.RegsKept [a] (d.setReg a v) :=
  fun _ hb => Dev.reg_setReg_other v d (List.ne_of_not_mem_cons hb)

/-! ### RESET -/

theorem Dev.enterReset_latches (d : Dev) : d.enterReset.latches = [] := by
  unfold Dev.enterReset Dev.powerLoss
  rw [Dev.setFlag_latches]
  rfl

theorem Dev.enterReset_staging (d : Dev) : d.enterReset.staging = [] := by
  unfold Dev.enterReset Dev.powerLoss
  rw [Dev.setFlag_staging]
  rfl

/-! ### Requests of the wrong shape (R70, R71) -/

/-- An event raised while its source's queue has room stands last in it, with the present time (R311, R315). -/
theorem Dev.raiseTo_waiting (ring : Option Nat) (code sev src arg0 arg1 : Nat) {d : Dev}
    (h : (Tab.get d.flt.queues EvQueue.empty src).waiting.length < evQueueRoom) :
    (Tab.get (d.raiseTo ring code sev src arg0 arg1).flt.queues EvQueue.empty src).waiting =
      (Tab.get d.flt.queues EvQueue.empty src).waiting ++ [⟨d.tb2ns, src, sev, code, arg0, arg1, ring, false, false, false⟩] := by
  unfold Dev.raiseTo Dev.raiseRec
  have hroom : Nat.blt (Tab.get d.flt.queues EvQueue.empty src).waiting.length evQueueRoom = true := Nat.blt_eq.mpr h
  simp only [Dev.count_flt, hroom, Bool.or_true, if_true, Dev.modFlt_flt, Tab.get_set_same]

/-- The effects of a misshapen request of BAR0: the host is sent `o` (its answer, or the AER record), and EV_HDMA_HOST_ERR waits. -/
theorem Dev.hostErr_effects (o : HostOut) (a : Nat) (d : Dev) (h : (Tab.get d.flt.queues EvQueue.empty 0x18).waiting.length < evQueueRoom) :
    ((d.toHost o).raise 0x0302 Sev.warn 1 a).hdma.out = d.hdma.out ++ [o] ∧
    (∀ b, b < 0xF00000 → ((d.toHost o).raise 0x0302 Sev.warn 1 a).reg b = d.reg b) ∧
    (Tab.get ((d.toHost o).raise 0x0302 Sev.warn 1 a).flt.queues EvQueue.empty 0x18).waiting =
      (Tab.get d.flt.queues EvQueue.empty 0x18).waiting ++ [⟨d.tb2ns, 0x18, Sev.warn, 0x0302, 1, a, none, false, false, false⟩] := by
  refine ⟨?_, fun b hb => ?_, ?_⟩
  · rw [Dev.raise_hdma]
    rfl
  · rw [Dev.raise_reg _ _ _ _ _ hb, Dev.toHost_reg]
  · exact Dev.raiseTo_waiting none 0x0302 Sev.warn 0x18 1 a (d := d.toHost o) h

theorem Dev.bar0BadRequest_ecrc {d : Dev} (a : Nat) (h : d.bar0 = true) :
    d.bar0BadRequest .ecrc a = if d.badEcrc then d.toHost .aerError else d := by
  unfold Dev.bar0BadRequest
  simp [h, Dev.when_eq]

theorem Dev.bar0BadRequest_shape {d : Dev} (write : Bool) (a : Nat) (h : d.bar0 = true) :
    d.bar0BadRequest (if write then .write else .read) a =
      (d.toHost (if write then .aerUnsupported else .unsupportedRequest)).raise 0x0302 Sev.warn 1 a := by
  unfold Dev.bar0BadRequest
  cases write <;> simp [h]

/-! ### The commands -/

section Commands

variable {d : Dev} {a : Nat} {r : RegRow} (hr : regRow a = some r) (hd : d.responds a = true)
include hr hd

theorem loWriteStage_completes (v : Word) (hlo : r.half = 1) (hrw : r.rw ≠ 0) (hcrc : d.crcLocked a = false) (halone : d.aloneFor a = true) :
    Completes (.loWriteStage a v) d fun e => { e with staging := d.staging } = d ∧
      ∃ w, Tab.find e.staging a = some w ∧ ∀ i, i < 32 → w.getLsbD i = if r.rw.testBit i then v.getLsbD i else (d.reg a).getLsbD i := by
  refine .of_did (f := Dev.hostWriteLo a v) (fun _ => rfl) ?_
  rw [Dev.hostWriteLo_eq hr hd v hlo hrw hcrc halone]
  exact ⟨rfl, _, Tab.find_put_same _ _ _, fun i hi => getLsbD_maskInto _ _ _ hi⟩

theorem hiWriteCommit_completes (v : Word) (hhi : r.half = 2) (hrw : r.rw ≠ 0) (ha : 4 ≤ a) (hcrc : d.crcLocked a = false)
    (halone : d.aloneFor a = true) :
    Completes (.hiWriteCommit a v) d fun e =>
      e.reg (a - 4) = (Tab.find d.staging (a - 4)).getD (d.reg (a - 4)) ∧
      (∀ i, i < 32 → (e.reg a).getLsbD i = if r.rw.testBit i then v.getLsbD i else (d.reg a).getLsbD i) ∧
      Tab.find e.staging (a - 4) = none ∧ d.RegsKept [a - 4, a] e ∧ { e with regs := d.regs, staging := d.staging } = d := by
  refine .of_did (f := Dev.hostWriteHi a v) (fun _ => rfl) ?_
  rw [Dev.hostWriteHi_eq hr hd v hhi hrw hcrc halone]
  set lo := (Tab.find d.staging (a - 4)).getD (d.reg (a - 4))
  set hi := maskInto r.rw (d.reg a).toNat v.toNat
  have hkept : d.RegsKept [a - 4, a] ((d.setReg (a - 4) lo).setReg a hi) := by
    intro b hb
    simp only [List.mem_cons, List.not_mem_nil, or_false, not_or] at hb
    obtain ⟨hblo, hbhi⟩ := hb
    rw [Dev.reg_setReg_other _ _ hbhi, Dev.reg_setReg_other _ _ hblo]
  have hlow : ((d.setReg (a - 4) lo).setReg a hi).reg (a - 4) = lo := by
    rw [Dev.reg_setReg_other _ _ (by omega), Dev.reg_setReg_same]
  have hhigh : ((d.setReg (a - 4) lo).setReg a hi).reg a = hi := Dev.reg_setReg_same _ _ _
  refine ⟨hlow, fun i h32 => ?_, Tab.find_del_same _ _, hkept, rfl⟩
  exact (congrArg (·.getLsbD i) hhigh).trans (getLsbD_maskInto _ _ _ h32)

theorem loReadLatch_latches_high (hlo : r.half = 1) : Completes (.loReadLatch a) d fun e => e.readReg (a + 4) = d.liveReg (a + 4) :=
  .of_did (f := Dev.loReadLatch a) (fun _ => rfl) (Dev.readReg_high_loReadLatch hr hd hlo)

theorem loReadLatch_answers (hlo : r.half = 1) : Completes (.loReadLatch a) d fun e =>
    e.hdma.out = d.hdma.out ++ [.completion (leBytes 4 (d.readReg a).toNat)] ∧ d.RegsKept [] e ∧ e.mem = d.mem := by
  refine .of_did (f := Dev.loReadLatch a) (fun _ => rfl) ?_
  rw [Dev.loReadLatch_eq hr hd hlo]
  exact ⟨rfl, fun _ _ => rfl, rfl⟩

theorem rcRead_completes (hrc : r.rc ≠ 0) : Completes (.rcRead a) d fun e =>
    e.hdma.out = d.hdma.out ++ [.completion (leBytes 4 (d.reg a).toNat)] ∧ d.RegsKept [a] e ∧
      ∀ i, i < 32 → (e.reg a).getLsbD i = if r.rc.testBit i then (regReset a).getLsbD i else (d.reg a).getLsbD i := by
  refine .of_did (f := Dev.rcRead a) (fun _ => rfl) ?_
  rw [Dev.rcRead_eq hr hd hrc]
  refine ⟨rfl, Dev.RegsKept.setReg _ _ _, fun i hi => ?_⟩
  rw [Dev.reg_setReg_same]
  exact getLsbD_maskInto _ _ _ hi

theorem w1cWrite_completes (v : Word) (hw1c : r.w1c ≠ 0) : Completes (.w1cWrite a v) d fun e => d.OnlyRegs [a] e ∧
    ∀ i, i < 32 → (e.reg a).getLsbD i = ((d.reg a).getLsbD i && !(r.w1c.testBit i && v.getLsbD i)) := by
  refine .of_did (f := Dev.w1cWrite a v) (fun _ => rfl) ?_
  rw [Dev.w1cWrite_eq hr hd v hw1c]
  refine ⟨⟨Dev.RegsKept.setReg _ _ _, rfl⟩, fun i hi => ?_⟩
  rw [Dev.reg_setReg_same, getLsbD_maskInto _ _ _ hi, Nat.testBit_and, Nat.zero_testBit, BitVec.testBit_toNat, BitVec.testBit_toNat]
  cases r.w1c.testBit i && v.getLsbD i <;> simp

end Commands

theorem bar0BadEcrc_completes (d : Dev) (a : Nat) (h : d.bar0 = true) : Completes (.bar0BadRequest .ecrc a) d fun e =>
    e.hdma.out = d.hdma.out ++ (if d.badEcrc then [.aerError] else []) ∧ e.regs = d.regs ∧ e.mem = d.mem := by
  refine .of_did (f := Dev.bar0BadRequest .ecrc a) (fun _ => rfl) ?_
  rw [Dev.bar0BadRequest_ecrc a h]
  split
  · exact ⟨rfl, rfl, rfl⟩
  · exact ⟨(List.append_nil _).symm, rfl, rfl⟩

theorem bar0BadShape_completes (d : Dev) (a : Nat) (write : Bool) (h : d.bar0 = true)
    (hroom : (Tab.get d.flt.queues EvQueue.empty 0x18).waiting.length < evQueueRoom) :
    Completes (.bar0BadRequest (if write then .write else .read) a) d fun e =>
      e.hdma.out = d.hdma.out ++ [if write then .aerUnsupported else .unsupportedRequest] ∧ (∀ b, b < 0xF00000 → e.reg b = d.reg b) ∧
      (Tab.get e.flt.queues EvQueue.empty 0x18).waiting =
        (Tab.get d.flt.queues EvQueue.empty 0x18).waiting ++ [⟨d.tb2ns, 0x18, Sev.warn, 0x0302, 1, a, none, false, false, false⟩] := by
  refine .of_did (f := Dev.bar0BadRequest (if write then .write else .read) a) (fun _ => rfl) ?_
  rw [Dev.bar0BadRequest_shape write a h]
  exact Dev.hostErr_effects _ a d hroom

/-- Settles O8: each clause is the completion lemma of its command, and the register table puts a high half 4 above each low half. -/
theorem pairsClearFieldsAndBadRequestsFollowTheirRules : Obligations.PairsClearFieldsAndBadRequestsFollowTheirRules := by
  unfold Obligations.PairsClearFieldsAndBadRequestsFollowTheirRules
  constructor
  · intro d a v r hd _ hr
    have hreset : d.enterReset.latches = [] ∧ d.enterReset.staging = [] := ⟨d.enterReset_latches, d.enterReset_staging⟩
    exact ⟨loWriteStage_completes hr hd v, hiWriteCommit_completes hr hd v, loReadLatch_latches_high hr hd, Dev.readReg_high hr hd,
      ⟨.of_did (fun _ => rfl) hreset, .of_did (fun _ => rfl) hreset⟩, loReadLatch_answers hr hd⟩
  · intro d a v
    exact ⟨fun r hr hd => rcRead_completes hr hd, fun r hr hd => w1cWrite_completes hr hd v, bar0BadEcrc_completes d a,
      bar0BadShape_completes d a⟩

end Sys2Proof.Machine

/-! Doorbells (R77, R86): what a host's write of HDMA_RING_DB does to a copy or job ring and to an event ring. -/

namespace Sys2Proof.Machine

/-! ### What a kept register keeps -/

theorem Dev.RegsKept.trans {as bs : List Nat} {d e f : Dev} (h : d.RegsKept as e) (g : e.RegsKept bs f) : d.RegsKept (as ++ bs) f := by
  intro a ha
  rw [List.mem_append, not_or] at ha
  exact (g a ha.2).trans (h a ha.1)

theorem Dev.RegsKept.setFld (d : Dev) (f : Fld) (v : Nat) : d.RegsKept [f.reg] (d.setFld f v) := Dev.RegsKept.setReg d f.reg _

theorem Dev.RegsKept.toHost (d : Dev) (o : HostOut) : d.RegsKept [] (d.toHost o) := fun a _ => Dev.toHost_reg o a d

theorem Dev.RegsKept.fld {as : List Nat} {d e : Dev} (h : d.RegsKept as e) {f : Fld} (hf : f.reg ∉ as) : e.fld f = d.fld f := by
  unfold Dev.fld
  rw [h _ hf]

theorem Dev.aloneFor_of_alone {d : Dev} (h : d.alone = true) (a : Nat) : d.aloneFor a = true := by
  unfold Dev.alone at h
  unfold Dev.aloneFor
  rw [h, Bool.or_true]

/-! ### The indices of a ring -/

theorem Dev.ringTail_setTail (d : Dev) (n : Nat) {idx : Nat} (h : idx < 65536) :
    (d.setFld (Reg.HDMA_RING_PTR.tail n) idx).ringTail n = idx :=
  (Dev.fld_setFld_same _ idx d (by decide : 31 < 32) (by decide : 16 ≤ 31)).trans (Nat.mod_eq_of_lt h)

theorem Dev.ringHead_setTail (d : Dev) (n idx : Nat) : (d.setFld (Reg.HDMA_RING_PTR.tail n) idx).ringHead n = d.ringHead n :=
  Dev.fld_setFld_apart idx d (by decide : 15 < 32) (by decide : 0 ≤ 15) (by decide : 16 ≤ 31) (.inr (.inl (by decide : 15 < 16)))

section Kept

variable {as : List Nat} {d e : Dev} (h : d.RegsKept as e) {n : Nat}
include h

theorem Dev.RegsKept.ringTail (hn : Reg.HDMA_RING_PTR.addr n ∉ as) : e.ringTail n = d.ringTail n := h.fld hn

theorem Dev.RegsKept.ringHead (hn : Reg.HDMA_RING_PTR.addr n ∉ as) : e.ringHead n = d.ringHead n := h.fld hn

theorem Dev.RegsKept.ringState (hn : Reg.HDMA_RING_STAT.addr n ∉ as) : e.ringState n = d.ringState n := h.fld hn

theorem Dev.RegsKept.ringEnabled (hn : Reg.HDMA_RING_CTL.addr n ∉ as) : e.ringEnabled n = d.ringEnabled n :=
  congrArg (· != 0) (h.fld hn)

theorem Dev.RegsKept.slotAddr (hlo : Reg.HDMA_RING_BASE_LO.addr n ∉ as) (hhi : Reg.HDMA_RING_BASE_LO.addr n + 4 ∉ as) (i : Nat) :
    e.slotAddr n i = d.slotAddr n i := by
  unfold Dev.slotAddr Dev.pair
  rw [h _ hlo, h _ hhi]

end Kept

/-! ### db_overrun -/

theorem Dev.dbOverrun_setDbOverrun (d : Dev) (n : Nat) :
    (d.setFld (Reg.HDMA_RING_STAT.db_overrun n) 1).fld (Reg.HDMA_RING_STAT.db_overrun n) = 1 :=
  Dev.fld_setFld_same _ 1 d (by decide : 2 < 32) (by decide : 2 ≤ 2)

theorem Dev.ringState_setDbOverrun (d : Dev) (n : Nat) : (d.setFld (Reg.HDMA_RING_STAT.db_overrun n) 1).ringState n = d.ringState n :=
  Dev.fld_setFld_apart 1 d (by decide : 31 < 32) (by decide : 28 ≤ 31) (by decide : 2 ≤ 2) (.inr (.inr (by decide : 2 < 28)))

/-! ### The read of the slot at the head (R78) -/

/-- The ring runs, and the host is asked for the slot at its head. -/
def Dev.headRequested (n : Nat) (d : Dev) : Dev :=
  (d.setFld (Reg.HDMA_RING_STAT.state n) RingState.running).toHost (.readReq (d.slotAddr n (d.ringHead n)) 32)

/-- The ring has a posted slot to read: it is enabled, not stopped, and no descriptor is in progress. -/
def Dev.ReadsHead (d : Dev) (n : Nat) : Prop :=
  d.ringEnabled n = true ∧ d.ringState n ≠ RingState.stopped ∧ d.ringHead n ≠ d.ringTail n ∧ (d.ring n).copy = none ∧ (d.ring n).job = none

theorem Dev.ringKick_of_readsHead {d : Dev} {n : Nat} (h : d.ReadsHead n) : d.ringKick n = d.headRequested n := by
  obtain ⟨hen, hstate, hposted, hcopy, hjob⟩ := h
  unfold Dev.ring at hcopy hjob
  unfold Dev.ringKick Dev.headRequested
  simp [hen, hstate, hposted, hcopy, hjob]

theorem Dev.ringKick_cases (n : Nat) (d : Dev) : d.ringKick n = d ∨ d.ringKick n = d.headRequested n := by
  unfold Dev.ringKick
  dsimp only
  split
  · exact .inr rfl
  · exact .inl rfl

theorem Dev.headRequested_regsKept (n : Nat) (d : Dev) : d.RegsKept [Reg.HDMA_RING_STAT.addr n] (d.headRequested n) :=
  (Dev.RegsKept.setFld d (Reg.HDMA_RING_STAT.state n) _).trans (Dev.RegsKept.toHost _ _)

theorem Dev.headRequested_running (n : Nat) (d : Dev) : (d.headRequested n).ringState n = RingState.running :=
  ((Dev.RegsKept.toHost _ _).ringState List.not_mem_nil).trans
    (Dev.fld_setFld_same (Reg.HDMA_RING_STAT.state n) RingState.running d (by decide : 31 < 32) (by decide : 28 ≤ 31))

theorem Dev.headRequested_sent (n : Nat) (d : Dev) : d.Sent [.readReq (d.slotAddr n (d.ringHead n)) 32] (d.headRequested n) := by
  simp [Dev.Sent, Dev.headRequested, Dev.toHost]

theorem Dev.headRequested_mem (n : Nat) (d : Dev) : (d.headRequested n).mem = d.mem := by simp [Dev.headRequested]

theorem Dev.headRequested_glb (n : Nat) (d : Dev) : (d.headRequested n).glb = d.glb := by simp [Dev.headRequested]

/-- Whether or not the slot at the head is read, only HDMA_RING_STAT and what stands between HDMA and the host can change. -/
theorem Dev.ringKick_frame (n : Nat) (d : Dev) :
    d.RegsKept [Reg.HDMA_RING_STAT.addr n] (d.ringKick n) ∧ (d.ringKick n).mem = d.mem ∧ (d.ringKick n).glb = d.glb := by
  rcases Dev.ringKick_cases n d with h | h <;> rw [h]
  · exact ⟨fun _ _ => rfl, rfl, rfl⟩
  · exact ⟨d.headRequested_regsKept n, d.headRequested_mem n, d.headRequested_glb n⟩

/-! ### The outcomes of a doorbell -/

/-- Any doorbell cancels a keep-wet return (R41). -/
def Dev.cancelKeepwet (d : Dev) : Dev := d.modGlb fun g => { g with keepwetCancelled := true }

/-- The doorbell of a copy or job ring has no effect, is discarded, or posts slots. -/
theorem Dev.ringDoorbell_eq {d : Dev} {n : Nat} (idx : Nat) (hd : d.responds (Reg.HDMA_RING_DB.addr n) = true) (hn : n < 56) :
    d.ringDoorbell n idx =
      if d.ringEnabled n = false ∨ idx = d.ringTail n then d.cancelKeepwet
      else if d.ringSlots n ≤ idx ∨ d.ringSlots n - 1 - d.ringDiff n (d.ringTail n) (d.ringHead n) < d.ringDiff n idx (d.ringTail n) then
        d.cancelKeepwet.setFld (Reg.HDMA_RING_STAT.db_overrun n) 1
      else (d.cancelKeepwet.setFld (Reg.HDMA_RING_PTR.tail n) idx).ringKick n := by
  have hring : Nat.ble 56 n = false := by rw [Bool.eq_false_iff, Ne, Nat.ble_eq]; omega
  unfold Dev.ringDoorbell
  simp only [hd, hring, Bool.not_true, Bool.or_false, Bool.false_eq_true, if_false, Bool.not_eq_true', Bool.or_eq_true, Nat.ble_eq, Nat.blt_eq,
    ite_or]
  rfl

/-- The doorbell of an event ring has no effect, is discarded, or frees slots. -/
theorem Dev.eventRingConsume_eq {d : Dev} {n : Nat} (idx : Nat) (hd : d.responds (Reg.HDMA_RING_DB.addr n) = true) (hlo : 56 ≤ n)
    (hhi : n < 64) :
    d.eventRingConsume n idx =
      if d.ringEnabled n = false then d.cancelKeepwet
      else if d.ringSlots n ≤ idx ∨ d.ringDiff n (d.ringHead n) (d.ringTail n) < d.ringDiff n idx (d.ringTail n) then
        d.cancelKeepwet.setFld (Reg.HDMA_RING_STAT.db_overrun n) 1
      else d.cancelKeepwet.setFld (Reg.HDMA_RING_PTR.tail n) idx := by
  have hevent : Nat.blt n 56 = false := by rw [Bool.eq_false_iff, Ne, Nat.blt_eq]; omega
  have hring : Nat.ble 64 n = false := by rw [Bool.eq_false_iff, Ne, Nat.ble_eq]; omega
  unfold Dev.eventRingConsume
  simp only [hd, hevent, hring, Bool.not_true, Bool.or_false, Bool.false_eq_true, if_false, Bool.not_eq_true', Bool.or_eq_true, Nat.ble_eq,
    Nat.blt_eq]
  rfl

/-! ### The commands of a device that serves its host alone -/

section Commands

variable {d : Dev} {n idx : Nat} (halone : d.alone = true) {P : Dev → Prop}
include halone

theorem Completes.ringDoorbell (hP : P (d.ringDoorbell n idx)) : Completes (.ringDoorbell n idx) d P := by
  refine .of_did (f := Dev.hostDoorbell n idx) (fun _ => rfl) ?_
  unfold Dev.hostDoorbell
  rwa [Dev.pairWrite_alone _ _ (Dev.aloneFor_of_alone halone _)]

theorem Completes.eventRingConsume (hP : P (d.eventRingConsume n idx)) : Completes (.eventRingConsume n idx) d P := by
  refine .of_did (f := Dev.hostConsume n idx) (fun _ => rfl) ?_
  unfold Dev.hostConsume
  rwa [Dev.pairWrite_alone _ _ (Dev.aloneFor_of_alone halone _)]

end Commands

/-! ### What each outcome leaves -/

/-- Slots that are posted: the tail is new, and a ring with nothing in progress reads the slot at its head. -/
theorem Dev.posted_effects (d : Dev) (n : Nat) {idx : Nat} (hen : d.ringEnabled n = true) (h16 : idx < 65536) :
    let e := (d.cancelKeepwet.setFld (Reg.HDMA_RING_PTR.tail n) idx).ringKick n
    e.ringTail n = idx ∧ e.ringHead n = d.ringHead n ∧ e.glb.keepwetCancelled = true ∧
      d.RegsKept [Reg.HDMA_RING_PTR.addr n, Reg.HDMA_RING_STAT.addr n] e ∧ e.mem = d.mem ∧
      (d.ringState n ≠ RingState.stopped → d.ringHead n ≠ idx → (d.ring n).copy = none → (d.ring n).job = none →
        d.Sent [.readReq (d.slotAddr n (d.ringHead n)) 32] e ∧ e.ringState n = RingState.running) := by
  intro e
  set p := d.cancelKeepwet.setFld (Reg.HDMA_RING_PTR.tail n) idx
  have hkept : d.RegsKept [Reg.HDMA_RING_PTR.addr n] p := Dev.RegsKept.setFld d.cancelKeepwet (Reg.HDMA_RING_PTR.tail n) idx
  have htail : p.ringTail n = idx := Dev.ringTail_setTail _ n h16
  have hhead : p.ringHead n = d.ringHead n := Dev.ringHead_setTail _ n idx
  obtain ⟨hkick, hmem, hglb⟩ := p.ringKick_frame n
  refine ⟨(hkick.ringTail (by simp)).trans htail, (hkick.ringHead (by simp)).trans hhead, by rw [hglb]; rfl, hkept.trans hkick, hmem, ?_⟩
  intro hstate hposted hcopy hjob
  have hreads : p.ReadsHead n := by
    refine ⟨(hkept.ringEnabled (by simp)).trans hen, ?_, ?_, hcopy, hjob⟩
    · rwa [hkept.ringState (by simp)]
    · rwa [htail, hhead]
  have he : e = p.headRequested n := Dev.ringKick_of_readsHead hreads
  have hhi : Reg.HDMA_RING_BASE_LO.addr n + 4 ∉ [Reg.HDMA_RING_PTR.addr n] := by
    rw [List.mem_singleton]
    unfold Reg.HDMA_RING_BASE_LO.addr Reg.HDMA_RING_PTR.addr
    omega
  have haddr : p.slotAddr n (p.ringHead n) = d.slotAddr n (d.ringHead n) := by rw [hhead, hkept.slotAddr (by simp) hhi]
  rw [he, ← haddr]
  exact ⟨p.headRequested_sent n, p.headRequested_running n⟩

/-- A doorbell that is discarded: db_overrun is set, and the mark of R41. -/
theorem Dev.discarded_effects (d : Dev) (n : Nat) :
    let e := d.cancelKeepwet.setFld (Reg.HDMA_RING_STAT.db_overrun n) 1
    e.fld (Reg.HDMA_RING_STAT.db_overrun n) = 1 ∧ e.ringTail n = d.ringTail n ∧ e.ringHead n = d.ringHead n ∧ e.ringState n = d.ringState n ∧
      d.OnlyRegs [Reg.HDMA_RING_STAT.addr n] { e with glb := d.glb } := by
  intro e
  have hkept : d.RegsKept [Reg.HDMA_RING_STAT.addr n] e := Dev.RegsKept.setFld d.cancelKeepwet (Reg.HDMA_RING_STAT.db_overrun n) 1
  exact ⟨Dev.dbOverrun_setDbOverrun _ n, hkept.ringTail (by simp), hkept.ringHead (by simp), Dev.ringState_setDbOverrun _ n, hkept, rfl⟩

/-- Slots that are freed: the consumer index is new, beside the mark of R41. -/
theorem Dev.consumed_effects (d : Dev) (n : Nat) {idx : Nat} (h16 : idx < 65536) :
    let e := d.cancelKeepwet.setFld (Reg.HDMA_RING_PTR.tail n) idx
    e.ringTail n = idx ∧ e.ringHead n = d.ringHead n ∧ d.OnlyRegs [Reg.HDMA_RING_PTR.addr n] { e with glb := d.glb } :=
  ⟨Dev.ringTail_setTail _ n h16, Dev.ringHead_setTail _ n idx,
    Dev.RegsKept.setFld d.cancelKeepwet (Reg.HDMA_RING_PTR.tail n) idx, rfl⟩

/-- Settles O18: each clause takes one branch of the doorbell's equation, and reads off what that outcome leaves. -/
theorem doorbellsPostAndFreeSlotsOrAreDiscarded : Obligations.DoorbellsPostAndFreeSlotsOrAreDiscarded := by
  unfold Obligations.DoorbellsPostAndFreeSlotsOrAreDiscarded
  intro d n idx halone hd
  refine ⟨fun hn hnone => ?noEffect, fun hlo hhi hdis => ?eventNoEffect, fun hen => ⟨?posts, ?discards, ?frees, ?eventDiscards⟩⟩
  case noEffect =>
    refine .ringDoorbell halone ?_
    rw [Dev.ringDoorbell_eq idx hd hn, if_pos hnone]
    rfl
  case eventNoEffect =>
    refine .eventRingConsume halone ?_
    rw [Dev.eventRingConsume_eq idx hd hlo hhi, if_pos hdis]
    rfl
  case posts =>
    intro hn hnew hslot h16 hroom
    refine .ringDoorbell halone ?_
    rw [Dev.ringDoorbell_eq idx hd hn, if_neg (by simp [hen, hnew]), if_neg (by omega)]
    exact d.posted_effects n hen h16
  case discards =>
    intro hn hnew hover
    refine .ringDoorbell halone ?_
    rw [Dev.ringDoorbell_eq idx hd hn, if_neg (by simp [hen, hnew]), if_pos hover]
    obtain ⟨hflag, htail, hhead, hstate, hkept, _⟩ := d.discarded_effects n
    exact ⟨hflag, htail, hhead, hstate, rfl, hkept, (List.append_nil _).symm⟩
  case frees =>
    intro hlo hhi hslot h16 hunread
    refine .eventRingConsume halone ?_
    rw [Dev.eventRingConsume_eq idx hd hlo hhi, if_neg (by simp [hen]), if_neg (by omega)]
    exact d.consumed_effects n h16
  case eventDiscards =>
    intro hlo hhi hover
    refine .eventRingConsume halone ?_
    rw [Dev.eventRingConsume_eq idx hd hlo hhi, if_neg (by simp [hen]), if_pos hover]
    obtain ⟨hflag, htail, _, hstate, honly⟩ := d.discarded_effects n
    exact ⟨hflag, htail, hstate, honly⟩

end Sys2Proof.Machine

/-! The grid of the line source (R217 to R219): what an encoder count and a line start leave of it alone, and what they make of it. -/

namespace Sys2Proof.Machine

/-! ### What the grid is read from -/

/-- The registers that a count reads the grid with, beside the position of its channel: the mode, the settings of PAC that R214 to R218 name,
and H. -/
def gridRegs : List Nat :=
  [Reg.GLB_MODE.addr, Reg.PAC_CFG.addr, Reg.PAC_LINE_NUM.addr, Reg.PAC_LINE_DEN.addr, Reg.PAC_FIRE_DLY.addr, Reg.PAC_HWM_LO.addr,
    Reg.PAC_HWM_LO.addr + 4]

/-- The boundary that comes next, and the line starts so far. -/
def Pac.lineState (a : Pac) : Int × Nat × Nat × Nat × Nat × Option Nat := (a.p0, a.j, a.q, a.rem, a.starts, a.lastTime)

/-- All that decides whether a count starts a line, and when. -/
def Pac.countState (a : Pac) := (a.lineState, a.grid, a.pass, a.lastMove)

theorem Pac.lineState_inj {a b : Pac} : a.lineState = b.lineState ↔
    a.p0 = b.p0 ∧ a.j = b.j ∧ a.q = b.q ∧ a.rem = b.rem ∧ a.starts = b.starts ∧ a.lastTime = b.lastTime := by
  simp only [Pac.lineState, Prod.mk.injEq]

theorem Pac.countState_inj {a b : Pac} : a.countState = b.countState ↔
    a.lineState = b.lineState ∧ a.grid = b.grid ∧ a.pass = b.pass ∧ a.lastMove = b.lastMove := by
  simp only [Pac.countState, Prod.mk.injEq]

/-- From `d` to `e` neither a register of the grid changes nor what `π` reads of PAC. -/
structure Dev.KeepsGrid {α : Type} (π : Pac → α) (d e : Dev) : Prop where
  reg : ∀ a, a ∈ gridRegs → e.reg a = d.reg a
  pac : π e.pac = π d.pac

/-- They stand in the blocks of GLB and PAC. -/
theorem not_mem_gridRegs_of_block {a : Nat} (h : (0x200000 ≤ a ∧ a < 0xA00000) ∨ 0xB00000 ≤ a) : a ∉ gridRegs := by
  simp only [gridRegs, Reg.GLB_MODE.addr, Reg.PAC_CFG.addr, Reg.PAC_LINE_NUM.addr, Reg.PAC_LINE_DEN.addr, Reg.PAC_FIRE_DLY.addr,
    Reg.PAC_HWM_LO.addr, List.mem_cons, List.not_mem_nil, or_false, not_or]
  omega

section Keeps

variable {α : Type} {π : Pac → α} {d e f : Dev}

theorem Dev.KeepsGrid.refl (d : Dev) : d.KeepsGrid π d := ⟨fun _ _ => rfl, rfl⟩

theorem Dev.KeepsGrid.trans (h : d.KeepsGrid π e) (g : e.KeepsGrid π f) : d.KeepsGrid π f :=
  ⟨fun a ha => (g.reg a ha).trans (h.reg a ha), g.pac.trans h.pac⟩

/-- A step that changes neither a register nor what `π` reads. -/
theorem Dev.KeepsGrid.congr (h : d.KeepsGrid π e) (hr : f.regs = e.regs) (hp : π f.pac = π e.pac) : d.KeepsGrid π f :=
  h.trans ⟨fun a _ => Dev.reg_congr hr a, hp⟩

theorem Dev.KeepsGrid.useFree (h : d.KeepsGrid π e) (n : Nat) : d.KeepsGrid π (e.useFree n) := h.congr rfl rfl
theorem Dev.KeepsGrid.modPac (h : d.KeepsGrid π e) {g : Pac → Pac} (hg : π (g e.pac) = π e.pac) : d.KeepsGrid π (e.modPac g) :=
  h.congr rfl hg
theorem Dev.KeepsGrid.modHlk (h : d.KeepsGrid π e) (g : Hlk → Hlk) : d.KeepsGrid π (e.modHlk g) := h.congr rfl rfl
theorem Dev.KeepsGrid.modAsm (h : d.KeepsGrid π e) (g : Asm → Asm) : d.KeepsGrid π (e.modAsm g) := h.congr rfl rfl
theorem Dev.KeepsGrid.modSeq (h : d.KeepsGrid π e) (g : Seq → Seq) : d.KeepsGrid π (e.modSeq g) := h.congr rfl rfl
theorem Dev.KeepsGrid.modGlb (h : d.KeepsGrid π e) (g : Glb → Glb) : d.KeepsGrid π (e.modGlb g) := h.congr rfl rfl

theorem Dev.KeepsGrid.setReg (h : d.KeepsGrid π e) {a : Nat} (v : Word) (ha : a ∉ gridRegs) : d.KeepsGrid π (e.setReg a v) :=
  h.trans ⟨fun _ hb => Dev.reg_setReg_other v e (ne_of_mem_of_not_mem hb ha), rfl⟩

theorem Dev.KeepsGrid.setFld (h : d.KeepsGrid π e) {g : Fld} (v : Nat) (hg : g.reg ∉ gridRegs) : d.KeepsGrid π (e.setFld g v) :=
  h.setReg _ hg

theorem Dev.KeepsGrid.setFlag (h : d.KeepsGrid π e) {g : Fld} (b : Bool) (hg : g.reg ∉ gridRegs) : d.KeepsGrid π (e.setFlag g b) :=
  h.setReg _ hg

theorem Dev.KeepsGrid.addFld (h : d.KeepsGrid π e) {g : Fld} (n : Nat) (hg : g.reg ∉ gridRegs) : d.KeepsGrid π (e.addFld g n) :=
  h.setReg _ hg

theorem Dev.KeepsGrid.satFld (h : d.KeepsGrid π e) {g : Fld} (n : Nat) (hg : g.reg ∉ gridRegs) : d.KeepsGrid π (e.satFld g n) :=
  h.setReg _ hg

theorem Dev.KeepsGrid.setPair (h : d.KeepsGrid π e) {a : Nat} (v : Nat) (ha : a ∉ gridRegs) (hb : a + 4 ∉ gridRegs) :
    d.KeepsGrid π (e.setPair a v) :=
  (h.setReg _ ha).setReg _ hb

/-- Bookkeeping keeps the grid. -/
theorem Dev.KeepsGrid.of_else (h : d.KeepsGrid π e) (g : e.Else [] f) : d.KeepsGrid π f := by
  have hlow : ∀ a ∈ gridRegs, a < 0xF00000 := by decide
  obtain ⟨_, _, _, _, _, _, _, _, _, _, _, _, _, _, hpac, _⟩ := g.parts
  exact h.trans ⟨fun a ha => g.1 a (hlow a ha) List.not_mem_nil, congrArg π hpac⟩

theorem Dev.KeepsGrid.count (h : d.KeepsGrid π e) (c n : Nat) : d.KeepsGrid π (e.count c n) := h.of_else (.count _ _ _ _)

theorem Dev.KeepsGrid.raiseTo (h : d.KeepsGrid π e) (r : Option Nat) (c sv src a b : Nat) : d.KeepsGrid π (e.raiseTo r c sv src a b) :=
  h.of_else (.raiseTo _ _ _ _ _ _ _ _)

theorem Dev.KeepsGrid.raise (h : d.KeepsGrid π e) (c sv a b : Nat) : d.KeepsGrid π (e.raise c sv a b) := h.of_else (.raise _ _ _ _ _ _)

theorem Dev.KeepsGrid.pairSend (h : d.KeepsGrid π e) (m : PairMsg) : d.KeepsGrid π (e.pairSend m) := h.congr (by simp) (by simp)

theorem Dev.KeepsGrid.when (h : d.KeepsGrid π e) {c : Bool} {g : Dev → Dev} (hg : d.KeepsGrid π (g e)) : d.KeepsGrid π (e.when c g) := by
  cases c
  · exact h
  · exact hg

theorem Dev.KeepsGrid.foldl {β : Type} (h : d.KeepsGrid π e) {l : List β} {g : Dev → β → Dev}
    (hg : ∀ (x : Dev) (b : β), b ∈ l → x.KeepsGrid π (g x b)) : d.KeepsGrid π (l.foldl g e) :=
  List.foldlRecOn l g h fun x hx b hb => hx.trans (hg x b hb)

/-! ### What a device that keeps the grid reads -/

theorem Dev.KeepsGrid.fld (h : d.KeepsGrid π e) {g : Fld} (hg : g.reg ∈ gridRegs) : e.fld g = d.fld g := by
  unfold Dev.fld
  rw [h.reg _ hg]

theorem Dev.KeepsGrid.hwm (h : d.KeepsGrid π e) : e.hwm = d.hwm := by
  unfold Dev.hwm Dev.pair
  rw [h.reg _ (by decide), h.reg _ (by decide)]

theorem Dev.KeepsGrid.isShadow (h : d.KeepsGrid π e) : e.isShadow = d.isShadow := congrArg (· == Mode.shadow) (h.fld (by decide))

end Keeps

/-! ### Blank lines -/

section Blanks

variable {α : Type} {π : Pac → α} (d : Dev)

theorem inRun_not_mem_gridRegs {port : Nat} (hp : port < 32) : (Reg.ASM_PORT_STAT.in_run port).reg ∉ gridRegs :=
  not_mem_gridRegs_of_block (.inl (by show 0x200000 ≤ 0x801010 + 0x20 * port ∧ 0x801010 + 0x20 * port < 0xA00000; omega))

theorem Dev.inRun_keepsGrid (rep : Nat) {port : Nat} (on : Bool) (hp : port < 32) : d.KeepsGrid π (d.inRun rep port on) :=
  (Dev.KeepsGrid.refl d).when ((Dev.KeepsGrid.refl d).setFlag on (inRun_not_mem_gridRegs hp))

theorem Dev.runClose_keepsGrid (rep : Nat) {port : Nat} (hp : port < 32) : d.KeepsGrid π (d.runClose rep port) := by
  unfold Dev.runClose
  split
  · exact .refl d
  · exact (((Dev.KeepsGrid.refl d).modAsm _).trans (Dev.inRun_keepsGrid _ rep false hp)).raiseTo _ _ _ _ _ _

theorem Dev.runLine_keepsGrid (rep page line cause detail : Nat) {port : Nat} (hp : port < 32) :
    d.KeepsGrid π (d.runLine rep port page line cause detail) := by
  have hopen : ∀ e : Dev, d.KeepsGrid π e → ∀ run : Asm → Asm, d.KeepsGrid π ((e.modAsm run).inRun rep port true) := fun _ h _ =>
    (h.modAsm _).trans (Dev.inRun_keepsGrid _ rep true hp)
  unfold Dev.runLine
  dsimp only
  split
  · split
    · exact ((Dev.KeepsGrid.refl d).modAsm _).when (((Dev.KeepsGrid.refl d).modAsm _).trans (Dev.runClose_keepsGrid _ rep hp))
    · exact hopen _ (Dev.runClose_keepsGrid d rep hp) _
  · exact hopen _ (.refl d) _

theorem Dev.countBlank_keepsGrid (cause : Nat) : d.KeepsGrid π (d.countBlank cause) :=
  ((Dev.KeepsGrid.refl d).addFld 1 (not_mem_gridRegs_of_block (.inr (by show 0xB00000 ≤ 0xF00060 + 0x4 * cause; omega)))).setPair _
    (by decide) (by decide)

theorem Dev.blankLine_keepsGrid (rep page line cause detail : Nat) {port : Nat} (hp : port < 32) :
    d.KeepsGrid π (d.blankLine rep port page line cause detail) := by
  have hspoil : d.KeepsGrid π ((d.countBlank cause).spoil page) := (d.countBlank_keepsGrid cause).modSeq _
  have hnak : (Reg.HLK_PORT_NAK.count port).reg ∉ gridRegs :=
    not_mem_gridRegs_of_block (.inr (by show 0xB00000 ≤ 0xB01028 + 0x40 * port; omega))
  unfold Dev.blankLine
  dsimp only
  refine Dev.KeepsGrid.trans ?_ (Dev.runLine_keepsGrid _ rep page line cause detail hp)
  split
  · exact (hspoil.addFld 1 (by decide)).count _ _
  split
  · exact (hspoil.addFld 1 (by decide)).count _ _
  split
  · exact hspoil.addFld 1 (by decide)
  split
  · exact (hspoil.addFld 1 hnak).count _ _
  · exact hspoil

/-! ### Lines that leave their buffers -/

theorem Dev.asmShow_keepsGrid : d.KeepsGrid π d.asmShow := by
  have hfill : ∀ k ∈ List.range 32, (Reg.ASM_PORT_STAT.fill k).reg ∉ gridRegs := fun k hk =>
    inRun_not_mem_gridRegs (List.mem_range.mp hk)
  unfold Dev.asmShow
  dsimp only
  exact (((Dev.KeepsGrid.refl d).setFld _ (by decide)).setFlag _ (by decide)).foldl fun x k hk => (Dev.KeepsGrid.refl x).setFld _ (hfill k hk)

theorem Dev.panicFollow_keepsGrid (was : Option Nat) : d.KeepsGrid π (d.panicFollow was) := by
  unfold Dev.panicFollow
  split
  · dsimp only
    split
    · exact (((Dev.KeepsGrid.refl d).setFlag _ (by decide)).addFld 1 (by decide)).count _ _
    split
    · exact (Dev.KeepsGrid.refl d).setFlag _ (by decide)
    · exact .refl d
  · exact .refl d

theorem Dev.lineGone_keepsGrid (k page line : Nat) : d.KeepsGrid π (d.lineGone k page line) := by
  unfold Dev.lineGone Dev.asmCounts Dev.modPort
  dsimp only
  exact ((((Dev.KeepsGrid.refl d).modHlk _).modAsm _).trans (Dev.asmShow_keepsGrid _)).trans (Dev.panicFollow_keepsGrid _ _)

theorem Dev.settle_keepsGrid (page : Nat) (blank : Bool) : d.KeepsGrid π (d.settle page blank) := by
  unfold Dev.settle Dev.modPage
  exact (Dev.KeepsGrid.refl d).modSeq _

theorem Dev.linkDownLine_keepsGrid (page line : Nat) {k : Nat} (hk : k < 32) : d.KeepsGrid π (d.linkDownLine k page line) :=
  ((((d.lineGone_keepsGrid k page line).trans (Dev.runClose_keepsGrid _ _ hk)).trans (Dev.runClose_keepsGrid _ _ hk)).trans
    (Dev.blankLine_keepsGrid _ _ _ _ _ _ hk)).trans (Dev.settle_keepsGrid _ _ _)

end Blanks

/-! ### The steps of a line start (R217 to R219) -/

section LineStart

variable (d : Dev)

theorem Dev.portStart_keepsLine (a t mask : Nat) {k : Nat} (hk : k < 32) : d.KeepsGrid Pac.lineState (d.portStart a t mask k) := by
  have hfired : ∀ b, d.KeepsGrid Pac.lineState (d.when b fun d => d.modPac fun p => { p with lastFire := Tab.put p.lastFire k t }) := fun _ =>
    (Dev.KeepsGrid.refl d).when ((Dev.KeepsGrid.refl d).modPac rfl)
  unfold Dev.portStart
  dsimp only
  split
  · exact .refl d
  split
  · exact (d.lineGone_keepsGrid _ _ _).trans (Dev.settle_keepsGrid _ _ _)
  split
  · exact ((hfired _).modSeq _).trans (Dev.linkDownLine_keepsGrid _ _ _ hk)
  · exact ((hfired _).modSeq _).modHlk _

theorem Dev.govDrive_keepsLine : d.KeepsGrid Pac.lineState d.govDrive := (Dev.KeepsGrid.refl d).modPac rfl

theorem Dev.govSet_keepsLine (on : Bool) (tNs : Nat) : d.KeepsGrid Pac.lineState (d.govSet on tNs) := by
  unfold Dev.govSet
  split
  · exact .refl d
  · exact ((((Dev.KeepsGrid.refl d).setFlag on (by decide)).trans (Dev.govDrive_keepsLine _)).count _ _).raiseTo _ _ _ _ _ _

theorem Dev.governor_keepsLine (t : Nat) : d.KeepsGrid Pac.lineState (d.governor t) := by
  have hslow : ∀ n, d.KeepsGrid Pac.lineState (d.modPac fun a => { a with slow := n }) := fun _ => (Dev.KeepsGrid.refl d).modPac rfl
  unfold Dev.governor
  dsimp only
  split
  · exact (Dev.KeepsGrid.refl d).when ((hslow 0).trans (Dev.govSet_keepsLine _ _ _))
  split
  · exact (hslow _).when ((hslow _).trans (Dev.govSet_keepsLine _ _ _))
  · exact hslow 0

theorem Dev.datumReject_keepsGrid {α : Type} {π : Pac → α} (reason z page : Nat) : d.KeepsGrid π (d.datumReject reason z page) :=
  ((Dev.KeepsGrid.refl d).satFld 1 (by decide)).raiseTo _ _ _ _ _ _

theorem Dev.datumsLate_keepsLine (a : Nat) : d.KeepsGrid Pac.lineState (d.datumsLate a) := by
  unfold Dev.datumsLate
  split
  · exact .refl d
  dsimp only
  split
  · exact .refl d
  · exact ((Dev.KeepsGrid.refl d).modPac rfl).foldl fun x _ _ => x.datumReject_keepsGrid _ _ _

theorem Dev.passStarted_keepsLine (t : Nat) : d.KeepsGrid Pac.lineState (d.passStarted t) := by
  unfold Dev.passStarted
  split
  · exact .refl d
  dsimp only
  split
  · exact (Dev.KeepsGrid.refl d).modPac rfl
  · exact ((Dev.KeepsGrid.refl d).modPac rfl).modPac rfl

theorem Dev.slackShow_keepsGrid {α : Type} {π : Pac → α} (s : Nat) (late : Bool) (line : Nat) :
    d.KeepsGrid π (d.slackShow s late line) := by
  unfold Dev.slackShow
  extract_lets now least kept
  have hnow : d.KeepsGrid π now :=
    (((Dev.KeepsGrid.refl d).setFlag _ (by decide)).setFlag _ (by decide)).setFld _ (by decide)
  have hkept : d.KeepsGrid π kept := (hnow.setFld _ (by decide)).modGlb _
  split
  · split
    · exact (((hkept.modGlb _).setFld 1 (by decide)).count _ _).raise _ _ _ _
    · exact hkept
  · exact hkept.modGlb _

theorem Dev.slackEvaluate_keepsGrid {α : Type} {π : Pac → α} : d.KeepsGrid π d.slackEvaluate := by
  unfold Dev.slackEvaluate
  split
  · exact .refl d
  dsimp only
  split
  · exact ((Dev.KeepsGrid.refl d).useFree _).trans (Dev.slackShow_keepsGrid _ _ _ _)
  · exact d.slackShow_keepsGrid _ _ _

theorem Dev.pacShow_keepsGrid {α : Type} {π : Pac → α} : d.KeepsGrid π d.pacShow :=
  ((Dev.KeepsGrid.refl d).setFlag _ (by decide)).setFld _ (by decide)

theorem Dev.enabledPorts_lt {k : Nat} (h : k ∈ d.enabledPorts) : k < 32 := List.mem_range.mp (List.mem_of_mem_filter h)

/-- PAC with one line start more, at time `t`. -/
def Pac.counted (t : Nat) (a : Pac) : Pac := { a with starts := a.starts + 1, lastTime := some t }

/-- A line start is counted with its time; what else it does keeps the grid and H. -/
theorem Dev.lineStart_keepsLine (t : Nat) (ovs : Option Nat) : (d.modPac (Pac.counted t)).KeepsGrid Pac.lineState (d.lineStart t ovs) := by
  unfold Dev.lineStart
  extract_lets a mask last counted shown z placed sent ported dated
  have hcounted : (d.modPac (Pac.counted t)).KeepsGrid Pac.lineState counted := (Dev.KeepsGrid.refl _).count _ _
  have hshown : (d.modPac (Pac.counted t)).KeepsGrid Pac.lineState shown := by
    unfold shown
    cases last with
    | some t0 => exact (hcounted.setFld _ (by decide)).trans (Dev.governor_keepsLine _ _)
    | none => exact hcounted
  have hplaced : (d.modPac (Pac.counted t)).KeepsGrid Pac.lineState placed := hshown.setFld _ (by decide)
  have hsent : (d.modPac (Pac.counted t)).KeepsGrid Pac.lineState sent := hplaced.when (hplaced.pairSend _)
  have hported : (d.modPac (Pac.counted t)).KeepsGrid Pac.lineState ported :=
    hsent.foldl fun x k hk => x.portStart_keepsLine a t mask (Dev.enabledPorts_lt _ hk)
  have hdated : (d.modPac (Pac.counted t)).KeepsGrid Pac.lineState dated := hported.when (hported.trans (Dev.datumsLate_keepsLine _ _))
  exact ((hdated.trans (Dev.passStarted_keepsLine _ t)).trans (Dev.slackEvaluate_keepsGrid _)).trans (Dev.pacShow_keepsGrid _)

end LineStart

/-! ### The samples of a channel (R213) -/

theorem Ball.next_level (n : Nat) (b : Bool) (t u : Nat) (f : Ball) : (f.next n b t).level = (f.next n b u).level := by
  unfold Ball.next
  split <;> simp only [apply_ite Ball.level]

theorem Dev.ballSample_eq {d : Dev} (hr : d.mode ≠ Mode.reset) (hs : d.mode ≠ Mode.sleep) (k : Nat) (b : Bool) (t : Nat) :
    d.ballSample k b t = d.modPac fun a => { a with balls := Tab.upd a.balls Ball.unknown k (Ball.next (d.ballN k) b t) } := by
  unfold Dev.ballSample
  rw [if_neg (by simp [hr, hs])]

/-- Passing a DIR level through changes nothing but the outputs. -/
theorem Dev.outDir_eq (n : Nat) (level : Bool) (d : Dev) : ∃ o, d.outDir n level = d.modPac fun a => { a with outs := o } := by
  unfold Dev.outDir
  dsimp only
  split
  · exact ⟨d.pac.outs, rfl⟩
  · exact ⟨_, rfl⟩

theorem Dev.dirThrough_eq (c : Nat) (level : Bool) (d : Dev) : ∃ o, d.dirThrough c level = d.modPac fun a => { a with outs := o } := by
  unfold Dev.dirThrough
  refine List.foldlRecOn (motive := fun x => ∃ o, x = d.modPac fun a => { a with outs := o }) _ _ ⟨d.pac.outs, rfl⟩ ?_
  rintro x ⟨o, hx⟩ n -
  split
  · obtain ⟨o', ho'⟩ := Dev.outDir_eq n level x
    exact ⟨o', by rw [ho', hx]; rfl⟩
  · exact ⟨o, hx⟩

/-- Channel `c` with the samples of its balls taken. -/
def Dev.sampled (c : Nat) (step dir : Bool) (t : Nat) (d : Dev) : Dev :=
  ((d.ballSample (Ball.step c) step t).ballSample (Ball.dir c) dir t).when (d.ballEdge (Ball.dir c) dir) fun d => d.dirThrough c dir

/-- The samples of a channel change its filters and the outputs alone. -/
theorem Dev.sampled_eq {d : Dev} (hr : d.mode ≠ Mode.reset) (hs : d.mode ≠ Mode.sleep) (c : Nat) (step dir : Bool) (t : Nat) :
    ∃ (balls : Tab Ball) (outs : Tab EncOut), d.sampled c step dir t = d.modPac (fun a => { a with balls := balls, outs := outs }) ∧
      Tab.get balls Ball.unknown (Ball.step c) = (d.ball (Ball.step c)).next (d.ballN (Ball.step c)) step t ∧
      Tab.get balls Ball.unknown (Ball.dir c) = (d.ball (Ball.dir c)).next (d.ballN (Ball.dir c)) dir t := by
  set stepped := Tab.upd d.pac.balls Ball.unknown (Ball.step c) (Ball.next (d.ballN (Ball.step c)) step t)
  set balls := Tab.upd stepped Ball.unknown (Ball.dir c) (Ball.next (d.ballN (Ball.dir c)) dir t)
  have hballs : (d.ballSample (Ball.step c) step t).ballSample (Ball.dir c) dir t = d.modPac fun a => { a with balls := balls } := by
    rw [Dev.ballSample_eq hr hs, Dev.ballSample_eq (d := d.modPac _) hr hs]
    rfl
  have hapart : Ball.step c ≠ Ball.dir c := Nat.ne_of_lt (Nat.lt_succ_self _)
  have hstep : Tab.get balls Ball.unknown (Ball.step c) = (d.ball (Ball.step c)).next (d.ballN (Ball.step c)) step t :=
    (Tab.get_set_other _ _ _ _ hapart).trans (Tab.get_set_same _ _ _ _)
  have hdir : Tab.get balls Ball.unknown (Ball.dir c) = (d.ball (Ball.dir c)).next (d.ballN (Ball.dir c)) dir t :=
    (Tab.get_set_same _ _ _ _).trans (congrArg _ (Tab.get_set_other _ _ _ _ hapart.symm))
  unfold Dev.sampled
  rw [hballs]
  cases d.ballEdge (Ball.dir c) dir
  · exact ⟨balls, d.pac.outs, rfl, hstep, hdir⟩
  · obtain ⟨outs, houts⟩ := Dev.dirThrough_eq c dir (d.modPac fun a => { a with balls := balls })
    exact ⟨balls, outs, houts, hstep, hdir⟩

/-! ### The counts of a channel (R212, R215) -/

theorem Dev.outStep_keepsCount (n : Nat) (forward : Bool) (d : Dev) : d.KeepsGrid Pac.countState (d.outStep n forward) := by
  unfold Dev.outStep Dev.modOut
  dsimp only
  split
  · exact (Dev.KeepsGrid.refl d).modPac rfl
  · exact ((Dev.KeepsGrid.refl d).modPac rfl).raiseTo _ _ _ _ _ _

theorem Dev.outDir_keepsCount (n : Nat) (level : Bool) (d : Dev) : d.KeepsGrid Pac.countState (d.outDir n level) := by
  obtain ⟨o, ho⟩ := Dev.outDir_eq n level d
  rw [ho]
  exact (Dev.KeepsGrid.refl d).modPac rfl

theorem Dev.outCount_keepsCount (up : Bool) (p0 p1 : Int) (c0 c1 : Nat) (through : Bool) (n : Nat) (d : Dev) :
    d.KeepsGrid Pac.countState (d.outCount up p0 p1 c0 c1 through n) := by
  unfold Dev.outCount
  dsimp only
  split
  · exact Dev.outStep_keepsCount _ _ _
  split
  · split
    · exact .refl d
    · exact Dev.outStep_keepsCount _ _ _
  split
  · split
    · exact Dev.outDir_keepsCount _ _ _
    · exact (Dev.outDir_keepsCount _ _ _).trans (Dev.outStep_keepsCount _ _ _)
  · exact .refl d

theorem posAddr_not_mem_gridRegs (c : Nat) : posAddr c ∉ gridRegs ∧ posAddr c + 4 ∉ gridRegs := by
  unfold posAddr
  split <;> decide

/-- A count of the line source: what it does to its channel and to the outputs leaves the grid as it was, and H takes the new position. -/
theorem Dev.encoderCounts_lineSource {d : Dev} {c : Nat} {step dir : Option Bool} {level : Bool} (t : Nat)
    (hcount : countSigns (d.encCfg c) step dir level ≠ 0) (hsrc : d.fld Reg.PAC_CFG.line_src = c) :
    ∃ m, d.KeepsGrid Pac.countState m ∧ d.encoderCounts c step dir level t =
      m.lineCount t (unsigned 48 ((d.pair (posAddr c) : Int) + countSigns (d.encCfg c) step dir level)) := by
  obtain ⟨hlo, hhi⟩ := posAddr_not_mem_gridRegs c
  unfold Dev.encoderCounts
  extract_lets cfg delta p0 p1 enc placed counted through out
  rw [if_neg hcount]
  have hplaced : d.KeepsGrid Pac.countState placed := ((Dev.KeepsGrid.refl d).setPair _ hlo hhi).count _ _
  have hcounted : d.KeepsGrid Pac.countState counted := hplaced.modPac rfl
  have hout : d.KeepsGrid Pac.countState out := hcounted.foldl fun x n _ => by
    split
    · exact x.outCount_keepsCount ..
    · exact .refl x
  rw [if_pos ((hout.fld (by decide)).trans hsrc)]
  exact ⟨out, hout, rfl⟩

/-- A sample that counts on the line source takes H to the new position, at the count's time. -/
theorem Dev.encoderCount_lineSource {d : Dev} {c : Nat} (step dir : Bool) (t : Nat) (hc : c < 2) (hr : d.mode ≠ Mode.reset)
    (hs : d.mode ≠ Mode.sleep) (hcount : d.counted c step dir ≠ 0) (hsrc : d.fld Reg.PAC_CFG.line_src = c) :
    ∃ m, d.KeepsGrid Pac.countState m ∧ d.encoderCount c step dir t =
      m.lineCount (d.countTime c step dir t) (unsigned 48 ((d.pair (posAddr c) : Int) + d.counted c step dir)) := by
  obtain ⟨balls, outs, hsampled, hstep, hdir⟩ := Dev.sampled_eq hr hs c step dir t
  have hkept : d.KeepsGrid Pac.countState (d.sampled c step dir t) := by
    rw [hsampled]
    exact (Dev.KeepsGrid.refl d).modPac rfl
  have hlevel : ((d.sampled c step dir t).ball (Ball.dir c)).level = d.levelAfter (Ball.dir c) dir := by
    rw [hsampled]
    exact (congrArg Ball.level hdir).trans (Ball.next_level _ _ _ _ _)
  have htime : ((d.sampled c step dir t).ball (if d.ballEdge (Ball.step c) step then Ball.step c else Ball.dir c)).since =
      d.countTime c step dir t := by
    rw [hsampled]
    unfold Dev.countTime
    dsimp only
    split
    · exact congrArg Ball.since hstep
    · exact congrArg Ball.since hdir
  have hregs : (d.sampled c step dir t).regs = d.regs := by rw [hsampled]; rfl
  have hcfg : (d.sampled c step dir t).encCfg c = d.encCfg c := Dev.reg_congr hregs _
  have hpair : (d.sampled c step dir t).pair (posAddr c) = d.pair (posAddr c) := by
    unfold Dev.pair
    rw [Dev.reg_congr hregs, Dev.reg_congr hregs]
  have hrun : d.encoderCount c step dir t = (d.sampled c step dir t).encoderCounts c
      (if d.ballEdge (Ball.step c) step then some step else none) (if d.ballEdge (Ball.dir c) dir then some dir else none)
      (d.levelAfter (Ball.dir c) dir == some true) (d.countTime c step dir t) := by
    unfold Dev.encoderCount
    rw [if_neg (by simp only [hr, hs, false_or]; omega), ← hlevel, ← htime]
    rfl
  obtain ⟨m, hm, hmoves⟩ := Dev.encoderCounts_lineSource (d := d.sampled c step dir t) (d.countTime c step dir t)
    (by rw [hcfg]; exact hcount) ((hkept.fld (by decide)).trans hsrc)
  rw [hcfg, hpair] at hmoves
  exact ⟨m, hkept.trans hm, hrun.trans hmoves⟩

/-! ### A count that moves H (R215 to R218) -/

section Kept

variable {d e : Dev} (h : d.KeepsGrid Pac.countState e)
include h

theorem Dev.KeepsGrid.lineState : d.KeepsGrid Pac.lineState e := ⟨h.reg, (Pac.countState_inj.mp h.pac).1⟩

theorem Dev.KeepsGrid.printSign : e.printSign = d.printSign := by
  obtain ⟨_, _, hpass, _⟩ := Pac.countState_inj.mp h.pac
  unfold Dev.printSign Dev.flag
  rw [hpass, h.fld (by decide)]

theorem Dev.KeepsGrid.ahead (a b : Int) : e.ahead a b = d.ahead a b := by
  unfold Dev.ahead
  rw [h.printSign]

theorem Dev.KeepsGrid.interpolated (t : Nat) : e.interpolated t = d.interpolated t := by
  obtain ⟨hline, _, _, hlast⟩ := Pac.countState_inj.mp h.pac
  obtain ⟨_, _, _, hrem, _, _⟩ := Pac.lineState_inj.mp hline
  unfold Dev.interpolated Dev.flag
  rw [hrem, hlast, h.fld (by decide), h.fld (by decide), h.fld (by decide)]

end Kept

theorem Dev.reverseClear_keepsGrid {α : Type} {π : Pac → α} (d : Dev) : d.KeepsGrid π d.reverseClear := by
  unfold Dev.reverseClear
  exact (Dev.KeepsGrid.refl d).when (((Dev.KeepsGrid.refl d).setFlag _ (by decide)).raiseTo _ _ _ _ _ _)

/-- Does H at `p` reach the boundary that comes next? -/
def Dev.boundaryReached (d : Dev) (p : Nat) : Bool := decide ((d.pac.q : Int) + (if d.pac.rem = 0 then 0 else 1) ≤ d.ahead p d.pac.p0)

theorem Dev.KeepsGrid.boundaryReached {d e : Dev} (h : d.KeepsGrid Pac.countState e) (p : Nat) :
    e.boundaryReached p = d.boundaryReached p := by
  obtain ⟨hp0, _, hq, hrem, _, _⟩ := Pac.lineState_inj.mp h.lineState.pac
  unfold Dev.boundaryReached
  rw [hp0, hq, hrem, h.ahead]

/-- The device with H at `p`. -/
def Dev.hwmAt (p : Nat) (d : Dev) : Dev := d.setPair Reg.PAC_HWM_LO.addr p

section HwmAt

variable (p : Nat) (d : Dev)

theorem Dev.hwmAt_hwm {p : Nat} (hp : p < 2 ^ 64) : (d.hwmAt p).hwm = p := (Dev.pair_setPair_same _ _ _).trans (Nat.mod_eq_of_lt hp)

theorem Dev.hwmAt_fld {g : Fld} (hlo : g.reg ≠ Reg.PAC_HWM_LO.addr) (hhi : g.reg ≠ Reg.PAC_HWM_LO.addr + 4) : (d.hwmAt p).fld g = d.fld g :=
  (Dev.fld_setReg_other _ _ hhi).trans (Dev.fld_setReg_other _ _ hlo)

theorem Dev.hwmAt_boundaryReached : (d.hwmAt p).boundaryReached p = d.boundaryReached p := by
  unfold Dev.boundaryReached Dev.ahead Dev.printSign Dev.flag
  rw [Dev.hwmAt_fld p d (by decide) (by decide)]
  rfl

theorem Dev.hwmAt_interpolated (t : Nat) : (d.hwmAt p).interpolated t = d.interpolated t := by
  unfold Dev.interpolated Dev.flag
  rw [Dev.hwmAt_fld p d (by decide) (by decide), Dev.hwmAt_fld p d (by decide) (by decide), Dev.hwmAt_fld p d (by decide) (by decide)]
  rfl

theorem Dev.hwmAt_isShadow : (d.hwmAt p).isShadow = d.isShadow := congrArg (· == Mode.shadow) (Dev.hwmAt_fld p d (by decide) (by decide))

end HwmAt

/-- H at its new place and the reverse fault over: the device on which R217 is judged. -/
theorem Dev.hwmMoves_eq (t p : Nat) (d : Dev) : ∃ m, (d.hwmAt p).KeepsGrid Pac.countState m ∧ d.hwmMoves t p =
    (m.modPac fun a => { a with lastMove := some t }).when (m.boundaryReached p) fun x =>
      (x.modPac (Pac.advance (x.fld Reg.PAC_LINE_NUM.value) (x.fld Reg.PAC_LINE_DEN.value))).ownStart (m.interpolated t) := by
  unfold Dev.hwmMoves
  extract_lets cleared ready due ts moved
  have hcleared : (d.hwmAt p).KeepsGrid Pac.countState cleared := Dev.reverseClear_keepsGrid _
  exact ⟨ready, (hcleared.modPac rfl).setFlag _ (by decide), rfl⟩

theorem Pac.advance_lineState {a b : Pac} (num den : Nat) (h : a.lineState = b.lineState) :
    (a.advance num den).lineState = (b.advance num den).lineState := by
  obtain ⟨hp0, hj, hq, hrem, hstarts, hlast⟩ := Pac.lineState_inj.mp h
  unfold Pac.advance
  dsimp only
  rw [hrem]
  split <;> simp only [Pac.lineState, hp0, hj, hq, hstarts, hlast]

theorem Pac.counted_lineState {a b : Pac} (t : Nat) (h : a.lineState = b.lineState) : (a.counted t).lineState = (b.counted t).lineState := by
  obtain ⟨hp0, hj, hq, hrem, hstarts, _⟩ := Pac.lineState_inj.mp h
  simp only [Pac.counted, Pac.lineState, hp0, hj, hq, hrem, hstarts]

theorem Dev.ownStart_of_not_shadow {d : Dev} (t : Nat) (h : d.isShadow = false) : d.ownStart t = d.lineStart t none := by
  unfold Dev.ownStart
  simp [h]

/-- H reaches the boundary: a line starts, and the grid takes its next index. -/
theorem Dev.hwmMoves_starts {d : Dev} {p : Nat} (t : Nat) (hp : p < 2 ^ 64) (hshadow : d.isShadow = false)
    (hreached : d.boundaryReached p = true) : (d.hwmMoves t p).hwm = p ∧ (d.hwmMoves t p).pac.lineState =
      ((d.pac.advance (d.fld Reg.PAC_LINE_NUM.value) (d.fld Reg.PAC_LINE_DEN.value)).counted (d.interpolated t)).lineState := by
  obtain ⟨m, hm, hmoves⟩ := Dev.hwmMoves_eq t p d
  rw [hm.boundaryReached, Dev.hwmAt_boundaryReached, hreached, Dev.when_true, hm.interpolated, Dev.hwmAt_interpolated] at hmoves
  set moved := m.modPac fun a => { a with lastMove := some t }
  have hmoved : (d.hwmAt p).KeepsGrid Pac.lineState moved := hm.lineState.modPac rfl
  have hnum : moved.fld Reg.PAC_LINE_NUM.value = d.fld Reg.PAC_LINE_NUM.value :=
    (hmoved.fld (by decide)).trans (Dev.hwmAt_fld p d (by decide) (by decide))
  have hden : moved.fld Reg.PAC_LINE_DEN.value = d.fld Reg.PAC_LINE_DEN.value :=
    (hmoved.fld (by decide)).trans (Dev.hwmAt_fld p d (by decide) (by decide))
  rw [hnum, hden] at hmoves
  set advanced := moved.modPac (Pac.advance (d.fld Reg.PAC_LINE_NUM.value) (d.fld Reg.PAC_LINE_DEN.value))
  have halone : advanced.isShadow = false := (hmoved.isShadow.trans (Dev.hwmAt_isShadow p d)).trans hshadow
  rw [Dev.ownStart_of_not_shadow _ halone] at hmoves
  rw [hmoves]
  have hstart := advanced.lineStart_keepsLine (d.interpolated t) none
  have hhwm : (advanced.modPac (Pac.counted (d.interpolated t))).hwm = p := hmoved.hwm.trans (Dev.hwmAt_hwm d hp)
  exact ⟨hstart.hwm.trans hhwm, hstart.pac.trans (Pac.counted_lineState _ (Pac.advance_lineState _ _ hmoved.pac))⟩

/-- H stays short of the boundary: no line starts. -/
theorem Dev.hwmMoves_rests {d : Dev} {p : Nat} (t : Nat) (hp : p < 2 ^ 64) (hshort : d.boundaryReached p = false) :
    (d.hwmMoves t p).hwm = p ∧ (d.hwmMoves t p).pac.lineState = d.pac.lineState := by
  obtain ⟨m, hm, hmoves⟩ := Dev.hwmMoves_eq t p d
  rw [hm.boundaryReached, Dev.hwmAt_boundaryReached, hshort, Dev.when_false] at hmoves
  have hkept : (d.hwmAt p).KeepsGrid Pac.lineState (d.hwmMoves t p) := by
    rw [hmoves]
    exact hm.lineState.modPac rfl
  exact ⟨hkept.hwm.trans (Dev.hwmAt_hwm d hp), hkept.pac⟩

theorem Dev.lineCount_forward {d : Dev} {p : Nat} (t : Nat) (hgrid : d.pac.grid = true) (hfwd : 0 < d.ahead p d.hwm) :
    d.lineCount t p = d.hwmMoves t p := by
  unfold Dev.lineCount
  simp [hgrid, hfwd]

/-! ### The time of a line start (R218) -/

theorem Dev.interpolated_of_off {d : Dev} (t : Nat) (h : d.flag Reg.PAC_CFG.interp_en = false ∨ d.pac.rem = 0) : d.interpolated t = t := by
  unfold Dev.interpolated
  rcases h with h | h <;> simp [h]

theorem Dev.interpolated_of_overshoot {d : Dev} (t : Nat) {t0 : Nat} (hon : d.flag Reg.PAC_CFG.interp_en = true) (hrem : d.pac.rem ≠ 0)
    (hlast : d.pac.lastMove = some t0) : d.interpolated t =
      t - ((d.fld Reg.PAC_LINE_DEN.value - d.pac.rem) * min (t - t0) (d.fld Reg.PAC_FIRE_DLY.interp_cap_ns * 65536) +
        d.fld Reg.PAC_LINE_DEN.value - 1) / d.fld Reg.PAC_LINE_DEN.value := by
  unfold Dev.interpolated
  simp [hon, hrem, hlast]

/-! ### The grid at an index (R217) -/

section Advance

variable {num den : Nat} {a : Pac}

theorem Pac.advance_of_lt (h : a.rem + num % den < den) :
    Pac.advance num den a = { a with j := a.j + 1, q := a.q + num / den, rem := a.rem + num % den } := by
  unfold Pac.advance
  exact if_neg (Nat.not_le_of_lt h)

theorem Pac.advance_of_le (h : den ≤ a.rem + num % den) :
    Pac.advance num den a = { a with j := a.j + 1, q := a.q + num / den + 1, rem := a.rem + num % den - den } := by
  unfold Pac.advance
  exact if_pos h

theorem Pac.advance_j (num den : Nat) (a : Pac) : (Pac.advance num den a).j = a.j + 1 := by
  unfold Pac.advance
  dsimp only
  split <;> rfl

theorem Pac.advance_starts (num den : Nat) (a : Pac) : (Pac.advance num den a).starts = a.starts := by
  unfold Pac.advance
  dsimp only
  split <;> rfl

/-- Quotient and remainder stay exact from index to index. -/
theorem Pac.advance_exact (hden : 0 < den) (hgrid : a.q * den + a.rem = a.j * num) (hrem : a.rem < den) :
    (Pac.advance num den a).q * den + (Pac.advance num den a).rem = (Pac.advance num den a).j * num ∧
      (Pac.advance num den a).rem < den ∧ (Pac.advance num den a).j = a.j + 1 := by
  have hstep : num / den * den + num % den = num := Nat.div_add_mod' num den
  have hmod : num % den < den := Nat.mod_lt _ hden
  rcases Nat.lt_or_ge (a.rem + num % den) den with h | h
  · rw [Pac.advance_of_lt h]
    refine ⟨?_, h, rfl⟩
    dsimp only
    rw [Nat.add_mul, Nat.add_mul]
    omega
  · rw [Pac.advance_of_le h]
    refine ⟨?_, by dsimp only; omega, rfl⟩
    dsimp only
    rw [Nat.add_mul, Nat.add_mul, Nat.add_mul]
    omega

end Advance

theorem Dev.gridAt_exact (d : Dev) (p0 : Int) (j : Nat) (hden : 0 < d.fld Reg.PAC_LINE_DEN.value) :
    (d.gridAt p0 j).pac.p0 = p0 ∧ (d.gridAt p0 j).pac.j = j ∧
      (d.gridAt p0 j).pac.q * d.fld Reg.PAC_LINE_DEN.value + (d.gridAt p0 j).pac.rem = j * d.fld Reg.PAC_LINE_NUM.value ∧
      (d.gridAt p0 j).pac.rem < d.fld Reg.PAC_LINE_DEN.value :=
  ⟨rfl, rfl, Nat.div_add_mod' _ _, Nat.mod_lt _ hden⟩

/-! ### The datum of a pass (R231) -/

theorem Dev.pacShow_pac (d : Dev) : d.pacShow.pac = d.pac := Dev.pacShow_keepsGrid (π := id) d |>.pac

theorem Dev.passBegin_grid {d : Dev} {q : Pass} {rest : List Pass} (p : Nat) (hsrc : d.fld Reg.PAC_CFG.line_src < 2)
    (hpasses : d.pac.passes = q :: rest) : ∃ p0, (d.passBegin p).pac =
      { d.pac with passes := rest, pass := some q, passStarts := 0, p0 := p0, j := 0, q := 0, rem := 0, grid := true } := by
  unfold Dev.passBegin
  rw [hpasses]
  dsimp only
  rw [Dev.pacShow_pac, Dev.fld_setFld_other _ _ (by decide), if_neg (by exact Nat.ne_of_lt hsrc)]
  unfold Dev.gridAt
  simp

theorem Dev.sosDatum_grid {d : Dev} {q : Pass} {rest : List Pass} (hmode : d.mode = Mode.printScan) (hsrc : d.fld Reg.PAC_CFG.line_src < 2)
    (harmed : d.passArmed = true) (hpasses : d.pac.passes = q :: rest) :
    d.sosDatum.pac.grid = true ∧ d.sosDatum.pac.j = 0 ∧ d.sosDatum.pac.q = 0 ∧ d.sosDatum.pac.rem = 0 := by
  have hsent : ∀ m, d.KeepsGrid id (d.when d.isActive fun d => d.pairSend m) := fun m =>
    (Dev.KeepsGrid.refl d).when ((Dev.KeepsGrid.refl d).pairSend m)
  unfold Dev.sosDatum
  extract_lets p z
  rw [if_neg (not_not_intro hmode), harmed, Bool.not_true, if_neg Bool.false_ne_true]
  obtain ⟨p0, hpac⟩ := Dev.passBegin_grid p (((hsent (.datum 2 p z)).fld (by decide)).trans_lt hsrc)
    ((congrArg Pac.passes (hsent (.datum 2 p z)).pac).trans hpasses)
  rw [hpac]
  exact ⟨rfl, rfl, rfl, rfl⟩

/-! ### The entry to a print mode (R219) -/

theorem Dev.nrgJobBegin_seq_pac (d : Dev) : d.nrgJobBegin.seq = d.seq ∧ d.nrgJobBegin.pac = d.pac := by
  unfold Dev.nrgJobBegin
  simp only [Dev.modNrg_seq, Dev.modNrg_pac]
  refine List.foldlRecOn (motive := fun x : Dev => x.seq = d.seq ∧ x.pac = d.pac) _ _ ⟨rfl, rfl⟩ fun x hx k _ => ?_
  rwa [Dev.setFlag_seq, Dev.setFlag_pac]

theorem Dev.waitsBind_jobs (js : Nat) (d : Dev) : (d.waitsBind js).seq.jobs = d.seq.jobs := rfl

theorem Dev.waitsBind_pac (js : Nat) (d : Dev) : (d.waitsBind js).pac = d.pac := rfl

theorem Dev.logWrite_of_no_log {d : Dev} {js : Nat} (type : Nat) (body : List Byte) (h : (d.job js).log.len = 0) :
    d.logWrite js type body = d := by
  unfold Dev.logWrite
  exact if_pos h

/-- A job without a log that opens on context 0 leaves PAC as it is. -/
theorem Dev.jobOpen_pac {d : Dev} (id : Nat) (hlog : (d.ctx 0).logLen = 0) : (d.jobOpen 0 id).pac = d.pac := by
  unfold Dev.jobOpen
  extract_lets c js before fresh j placed begun shown bound
  obtain ⟨hseq, hpac⟩ := shown.nrgJobBegin_seq_pac
  have hjobs : shown.seq.jobs = Tab.put d.seq.jobs js j := by simp [shown, begun, placed, Dev.modCtx]
  have hshown : shown.pac = d.pac := by simp [shown, begun, placed, Dev.modCtx]
  have hbound : bound = shown.nrgJobBegin.waitsBind js := Dev.when_true _ _
  have hjob : bound.job js = j := by
    unfold Dev.job Tab.get
    rw [hbound, Dev.waitsBind_jobs, hseq, hjobs, Tab.find_put_same, Option.getD_some]
  rw [Dev.logWrite_of_no_log _ _ (by rw [hjob]; exact hlog), hbound, Dev.waitsBind_pac, hpac, hshown]

theorem Dev.when_seq {d : Dev} {c : Bool} {f : Dev → Dev} (h : (f d).seq = d.seq) : (d.when c f).seq = d.seq := by
  cases c
  · rfl
  · exact h

theorem Dev.idleShow_keepsGrid {α : Type} {π : Pac → α} (k : Nat) (d : Dev) : d.KeepsGrid π (d.idleShow k) := by
  unfold Dev.idleShow Dev.headSend Dev.modPort
  dsimp only
  split
  · exact .refl d
  · exact ((Dev.KeepsGrid.refl d).modHlk _).modHlk _

theorem Dev.idleShow_seq (k : Nat) (d : Dev) : (d.idleShow k).seq = d.seq := by
  unfold Dev.idleShow Dev.headSend Dev.modPort
  dsimp only
  split <;> rfl

theorem Dev.activeShow_keepsGrid {α : Type} {π : Pac → α} (d : Dev) : d.KeepsGrid π d.activeShow := by
  have hactive : ∀ k, (Reg.HLK_PORT_STAT.active k).reg ∉ gridRegs := fun k =>
    not_mem_gridRegs_of_block (.inr (by show 0xB00000 ≤ 0xB01004 + 0x40 * k; omega))
  exact (Dev.KeepsGrid.refl d).foldl fun x k _ => ((Dev.KeepsGrid.refl x).setFlag _ (hactive k)).trans (Dev.idleShow_keepsGrid k _)

theorem Dev.activeShow_seq (d : Dev) : d.activeShow.seq = d.seq := by
  unfold Dev.activeShow
  refine List.foldlRecOn (motive := fun x : Dev => x.seq = d.seq) _ _ rfl fun x hx k _ => ?_
  rwa [Dev.idleShow_seq, Dev.setFlag_seq]

/-- A print mode arms and disarms no trigger unit. -/
theorem Dev.trgMode_of_print {m : Nat} (hm : 8 ≤ m) (d : Dev) : d.trgMode m = d := by
  unfold Dev.trgMode
  rw [if_neg (by show ¬m = 6; omega), if_neg (by show ¬(m = 1 ∨ m = 5 ∨ m = 0); omega)]

/-- A change to a print mode leaves the settings of PAC, H and the contexts. -/
theorem Dev.modeChange_grid {m : Nat} (trigger : Nat) (hm : 8 ≤ m) (d : Dev) :
    (∀ a ∈ gridRegs, a ≠ Reg.GLB_MODE.addr → (d.modeChange m trigger).reg a = d.reg a) ∧ (d.modeChange m trigger).seq = d.seq := by
  unfold Dev.modeChange
  extract_lets old set cut posted calm
  rw [Dev.trgMode_of_print hm]
  have hcut : set.KeepsGrid id cut := (Dev.KeepsGrid.refl set).when ((Dev.KeepsGrid.refl set).congr rfl rfl)
  have hposted : set.KeepsGrid id posted := hcut.when (hcut.modGlb _)
  have hcalm : set.KeepsGrid id calm := hposted.when (hposted.setFlag _ (by decide))
  have hshown := ((Dev.activeShow_keepsGrid (π := id) (calm.setFlag Reg.GLB_MODE.transit false)).count 0x00 1).raiseTo (some 0) 0x0101
    Sev.info 0x08 (old * 16 + m) trigger
  constructor
  · intro a ha hmode
    calc _ = (calm.setFlag Reg.GLB_MODE.transit false).reg a := hshown.reg a ha
      _ = calm.reg a := Dev.reg_setReg_other _ _ hmode
      _ = set.reg a := hcalm.reg a ha
      _ = d.reg a := (Dev.reg_setReg_other _ _ hmode).trans (Dev.reg_setReg_other _ _ hmode)
  · have hset : set.seq = d.seq := (Dev.setFld_seq ..).trans (Dev.setFld_seq ..)
    have hcalm : calm.seq = set.seq :=
      ((Dev.when_seq (Dev.setFlag_seq ..)).trans (Dev.when_seq (Dev.modGlb_seq ..))).trans (Dev.when_seq (Dev.modMsr_seq ..))
    rw [Dev.raiseTo_seq, Dev.count_seq, Dev.activeShow_seq, Dev.setFlag_seq, hcalm, hset]

theorem Dev.gridAt_pac (p0 : Int) (j : Nat) (d : Dev) : (d.gridAt p0 j).pac = { d.pac with
    p0 := p0, j := j, grid := true
    q := j * d.fld Reg.PAC_LINE_NUM.value / d.fld Reg.PAC_LINE_DEN.value
    rem := j * d.fld Reg.PAC_LINE_NUM.value % d.fld Reg.PAC_LINE_DEN.value } := rfl

theorem Dev.sessionStart_regs (d : Dev) : d.sessionStart.regs = d.regs := rfl

theorem Dev.sessionStart_ctxs (d : Dev) : d.sessionStart.seq.ctxs = d.seq.ctxs := rfl

/-- The device at the start of a session in a print mode. -/
def Dev.printSession (d : Dev) : Dev := (d.modeChange (8 + d.fld Reg.PAC_CFG.print_mode) 2).sessionStart

section PrintSession

variable (d : Dev)

theorem Dev.printSession_reg {a : Nat} (ha : a ∈ gridRegs) (hmode : a ≠ Reg.GLB_MODE.addr) : d.printSession.reg a = d.reg a :=
  (Dev.reg_congr (Dev.sessionStart_regs _) a).trans ((Dev.modeChange_grid 2 (Nat.le_add_right 8 _) d).1 a ha hmode)

theorem Dev.printSession_fld {g : Fld} (hg : g.reg ∈ gridRegs) (hmode : g.reg ≠ Reg.GLB_MODE.addr) : d.printSession.fld g = d.fld g := by
  unfold Dev.fld
  rw [d.printSession_reg hg hmode]

theorem Dev.printSession_hwm : d.printSession.hwm = d.hwm := by
  unfold Dev.hwm Dev.pair
  rw [d.printSession_reg (by decide) (by decide), d.printSession_reg (by decide) (by decide)]

theorem Dev.printSession_ctxs : d.printSession.seq.ctxs = d.seq.ctxs :=
  (Dev.sessionStart_ctxs _).trans (congrArg Seq.ctxs (Dev.modeChange_grid 2 (Nat.le_add_right 8 _) d).2)

/-- In a web and for sheets H becomes the datum, and the first boundary is that of index 1. -/
theorem Dev.printEnter_eq (hscan : d.isScan = false) : d.printEnter =
    ((d.printSession.when d.printSession.isActive fun d' => d'.pairSend (.datum 0 d.hwm 0)).gridAt (d.hwm : Nat) 1).pacShow := by
  have hsession : d.printSession.isScan = false :=
    (congrArg (· == 2) (d.printSession_fld (g := Reg.PAC_CFG.print_mode) (by decide) (by decide))).trans hscan
  unfold Dev.printEnter
  extract_lets session h
  rw [if_neg (by exact Bool.eq_false_iff.mp hsession), show h = d.hwm from d.printSession_hwm]
  rfl

end PrintSession

theorem Dev.printEnter_grid {d : Dev} (hscan : d.isScan = false) : d.printEnter.pac.grid = true ∧ d.printEnter.pac.p0 = d.hwm ∧
    d.printEnter.pac.j = 1 ∧ d.printEnter.pac.q = d.fld Reg.PAC_LINE_NUM.value / d.fld Reg.PAC_LINE_DEN.value ∧
    d.printEnter.pac.rem = d.fld Reg.PAC_LINE_NUM.value % d.fld Reg.PAC_LINE_DEN.value := by
  have hsent : d.printSession.KeepsGrid id (d.printSession.when d.printSession.isActive fun d' => d'.pairSend (.datum 0 d.hwm 0)) :=
    (Dev.KeepsGrid.refl _).when ((Dev.KeepsGrid.refl _).pairSend _)
  rw [d.printEnter_eq hscan, Dev.pacShow_pac, Dev.gridAt_pac, hsent.fld (by decide), hsent.fld (by decide),
    d.printSession_fld (by decide) (by decide), d.printSession_fld (by decide) (by decide), Nat.one_mul]
  exact ⟨rfl, rfl, rfl, rfl, rfl⟩

theorem Dev.printEnter_ctx {d : Dev} (hscan : d.isScan = false) (k : Nat) : d.printEnter.ctx k = d.ctx k := by
  have hseq : d.printEnter.seq.ctxs = d.seq.ctxs := by
    rw [d.printEnter_eq hscan, ← d.printSession_ctxs]
    unfold Dev.pacShow Dev.gridAt
    simp only [Dev.setFld_seq, Dev.setFlag_seq, Dev.modPac_seq]
    rw [Dev.when_seq (Dev.pairSend_seq ..)]
  unfold Dev.ctx
  rw [hseq]

/-! ### JOB_BEGIN in STANDBY (R219) -/

/-- From STANDBY nothing holds JOB_BEGIN: the print mode is entered, and the job opens in it. -/
theorem Dev.jobBeginBody_standby {d : Dev} (id : Nat) (hmode : d.mode = Mode.standby) :
    d.jobBeginBody 0 id = .done (d.cancelKeepwet.printEnter.jobOpen 0 id) := by
  have hexit : d.cancelKeepwet.exitDue = false := by
    unfold Dev.exitDue
    rw [show d.cancelKeepwet.mode = Mode.standby from hmode]
    rfl
  have hfree : ¬(d.cancelKeepwet.mode = Mode.service ∨ d.cancelKeepwet.mode = Mode.calibrate ∨ d.cancelKeepwet.exitDue = true) := by
    rw [hexit, show d.cancelKeepwet.mode = Mode.standby from hmode]
    decide
  have henter : (d.cancelKeepwet.mode == Mode.standby) = true := beq_iff_eq.mpr hmode
  unfold Dev.jobBeginBody
  rw [if_neg (not_not_intro rfl)]
  show (if d.cancelKeepwet.mode = Mode.service ∨ d.cancelKeepwet.mode = Mode.calibrate ∨ d.cancelKeepwet.exitDue = true then
      SeqOut.hold CtxState.mode 0 d.cancelKeepwet
    else .done ((d.cancelKeepwet.when (d.cancelKeepwet.mode == Mode.standby) Dev.printEnter).jobOpen 0 id)) = _
  rw [if_neg hfree, henter, Dev.when_true]

theorem Dev.ctx_cmdAt (d : Dev) (k w0 : Nat) : (d.cmdAt k w0).ctx k = { d.ctx k with lastCmd := d.ctxPc k, lastWord := w0 } :=
  Tab.get_set_same _ _ _ _

/-- What a command leaves of PAC is what its effect leaves. -/
theorem SeqOut.settle_done_pac {k : Nat} (w0 w1 words : Nat) (hk : k < 8) (d : Dev) : ((SeqOut.done d).settle k w0 w1 words).pac = d.pac := by
  obtain ⟨_, _, helse⟩ := SeqOut.settle_done k w0 w1 words hk d
  obtain ⟨_, _, _, _, _, _, _, _, _, _, _, _, _, _, hpac, _⟩ := helse.parts
  exact hpac

theorem Dev.cmdJobBegin_pac {d : Dev} {w : Nat} (hrun : d.canRun 0 1 = true) (hw : reservedBad w 0xFFFFFFFF = false)
    (hjob : d.openJob 0 = none) (hlog : (d.ctx 0).logLen = 0) (hmode : d.mode = Mode.standby) (hmargin : d.marginImage = false)
    (hscan : d.isScan = false) : (d.cmdJobBegin 0 w).pac = (d.cmdAt 0 (word0 0x01 w)).cancelKeepwet.printEnter.pac := by
  have hxjob : (d.cmdAt 0 (word0 0x01 w)).inJob 0 = false := by
    unfold Dev.inJob Dev.openJob
    rw [Dev.ctx_cmdAt]
    exact congrArg Option.isSome hjob
  have hxlog : ((d.cmdAt 0 (word0 0x01 w)).ctx 0).logLen = 0 := by rw [Dev.ctx_cmdAt]; exact hlog
  have hxmargin : (d.cmdAt 0 (word0 0x01 w)).marginImage = false := hmargin
  have hbegun : ((d.cmdAt 0 (word0 0x01 w)).cancelKeepwet.printEnter.ctx 0).logLen = 0 := by
    rw [Dev.printEnter_ctx (by exact hscan)]
    exact hxlog
  unfold Dev.cmdJobBegin
  rw [Dev.cmdExec_of hrun (by simp [firstFail, hw, hxjob, hxlog, hxmargin]), Dev.jobBeginBody_standby _ (by exact hmode),
    SeqOut.settle_done_pac _ _ _ (by decide), Dev.jobOpen_pac _ hbegun]

/-! ### The commands -/

theorem Dev.sosEdge_eq {d : Dev} {rising : Bool} (hmode : d.mode = Mode.printScan) (hedge : d.ballEdge Ball.sos rising = true)
    (hactive : rising ≠ d.flag Reg.PAC_DET_CFG.sos_pol) : d.sosEdge rising =
      (d.modPac fun a => { a with balls := Tab.upd a.balls Ball.unknown Ball.sos (Ball.next (d.ballN Ball.sos) rising 0) }).sosDatum := by
  have hpasses : (d.ballEdge Ball.sos rising && rising != d.flag Reg.PAC_DET_CFG.sos_pol) = true := by
    rw [hedge, bne_iff_ne.mpr hactive, Bool.and_self]
  unfold Dev.sosEdge
  dsimp only
  rw [hpasses, Dev.when_true, Dev.ballSample_eq (by rw [hmode]; decide) (by rw [hmode]; decide)]

section EncoderCount

variable {d : Dev} {c p1 : Nat} {step dir : Bool} {t : Nat} (hc : c < 2) (hr : d.mode ≠ Mode.reset) (hs : d.mode ≠ Mode.sleep)
  (hp1 : p1 = unsigned 48 ((d.pair (posAddr c) : Int) + d.counted c step dir)) (hcount : d.counted c step dir ≠ 0)
  (hsrc : d.fld Reg.PAC_CFG.line_src = c) (hgrid : d.pac.grid = true) (hfwd : 0 < d.ahead p1 d.hwm)
include hc hr hs hp1 hcount hsrc hgrid hfwd

theorem Dev.encoderCount_forward : ∃ m, d.KeepsGrid Pac.countState m ∧ p1 < 2 ^ 64 ∧
    d.encoderCount c step dir t = m.hwmMoves (d.countTime c step dir t) p1 := by
  obtain ⟨m, hm, hmoves⟩ := Dev.encoderCount_lineSource step dir t hc hr hs hcount hsrc
  obtain ⟨_, hmgrid, _, _⟩ := Pac.countState_inj.mp hm.pac
  have hmfwd : 0 < m.ahead p1 m.hwm := by rwa [hm.ahead, hm.hwm]
  have hlt : p1 < 2 ^ 48 := by
    rw [hp1]
    unfold unsigned
    omega
  rw [← hp1, Dev.lineCount_forward _ (hmgrid.trans hgrid) hmfwd] at hmoves
  exact ⟨m, hm, by omega, hmoves⟩

/-- A count that takes H to the boundary starts a line, and the grid takes its next index. -/
theorem Dev.encoderCount_starts (hshadow : d.isShadow = false) (hreached : d.boundaryReached p1 = true) :
    (d.encoderCount c step dir t).hwm = p1 ∧ (d.encoderCount c step dir t).pac.lineState =
      ((d.pac.advance (d.fld Reg.PAC_LINE_NUM.value) (d.fld Reg.PAC_LINE_DEN.value)).counted
        (d.interpolated (d.countTime c step dir t))).lineState := by
  obtain ⟨m, hm, hp, hmoves⟩ := Dev.encoderCount_forward (t := t) hc hr hs hp1 hcount hsrc hgrid hfwd
  obtain ⟨hhwm, hline⟩ := Dev.hwmMoves_starts (d.countTime c step dir t) hp (hm.isShadow.trans hshadow)
    ((hm.boundaryReached p1).trans hreached)
  rw [hm.fld (by decide), hm.fld (by decide), hm.interpolated] at hline
  rw [hmoves]
  exact ⟨hhwm, hline.trans (Pac.counted_lineState _ (Pac.advance_lineState _ _ hm.lineState.pac))⟩

/-- A count that leaves H short of the boundary starts none. -/
theorem Dev.encoderCount_rests (hshort : d.boundaryReached p1 = false) :
    (d.encoderCount c step dir t).hwm = p1 ∧ (d.encoderCount c step dir t).pac.lineState = d.pac.lineState := by
  obtain ⟨m, hm, hp, hmoves⟩ := Dev.encoderCount_forward (t := t) hc hr hs hp1 hcount hsrc hgrid hfwd
  obtain ⟨hhwm, hline⟩ := Dev.hwmMoves_rests (d.countTime c step dir t) hp ((hm.boundaryReached p1).trans hshort)
  rw [hmoves]
  exact ⟨hhwm, hline.trans hm.lineState.pac⟩

end EncoderCount

/-- Settles O43: quotient and remainder are those of the index at every entry and advance, and a count that moves H forward starts a line, with
the grid's next index, exactly where it reaches the boundary. -/
theorem theGridAdvancesWithoutCumulativeError : Obligations.TheGridAdvancesWithoutCumulativeError := by
  unfold Obligations.TheGridAdvancesWithoutCumulativeError
  refine ⟨fun _ _ _ => Pac.advance_exact, fun d p0 j => d.gridAt_exact p0 j, ?jobBegin, ?sosEdge, ?encoderCount⟩
  case jobBegin =>
    intro d w hrun hw hjob hlog hmode hmargin hscan _
    refine .of_did (f := Dev.cmdJobBegin 0 w.toNat) (fun _ => rfl) ?_
    rw [Dev.cmdJobBegin_pac hrun hw hjob hlog hmode hmargin hscan]
    exact Dev.printEnter_grid hscan
  case sosEdge =>
    intro d rising q rest hmode hedge hactive hsrc harmed hpasses
    refine .of_did (f := Dev.sosEdge rising) (fun _ => rfl) ?_
    rw [Dev.sosEdge_eq hmode hedge hactive]
    exact Dev.sosDatum_grid (d := d.modPac _) hmode hsrc harmed hpasses
  case encoderCount =>
    intro d c step dir ns frac t p1 hc hr hs ht hp1 hcount hsrc hgrid hfwd hshadow
    refine ⟨fun hreached => .of_did (f := Dev.encoderCount c step dir (ns * 65536 + frac)) (fun _ => rfl) ?starts,
      fun hshort => .of_did (f := Dev.encoderCount c step dir (ns * 65536 + frac)) (fun _ => rfl) ?rests⟩
    case starts =>
      obtain ⟨hhwm, hline⟩ := Dev.encoderCount_starts (t := ns * 65536 + frac) hc hr hs hp1 hcount hsrc hgrid hfwd hshadow
        (decide_eq_true hreached)
      obtain ⟨_, hj, hq, hrem, hstarts, htime⟩ := Pac.lineState_inj.mp hline
      rw [← ht] at htime
      refine ⟨hhwm, hstarts.trans (congrArg (· + 1) (Pac.advance_starts _ _ _)), hj.trans (Pac.advance_j _ _ _), fun hlt => ?_, fun hle => ?_,
        fun hoff => htime.trans (congrArg some (Dev.interpolated_of_off t hoff)),
        fun t0 hon hne hlast => htime.trans (congrArg some (Dev.interpolated_of_overshoot t hon hne hlast))⟩
      · rw [hq, hrem, Pac.advance_of_lt hlt]
        exact ⟨rfl, rfl⟩
      · rw [hq, hrem, Pac.advance_of_le hle]
        exact ⟨rfl, Nat.sub_add_cancel hle⟩
    case rests =>
      obtain ⟨hhwm, hline⟩ := Dev.encoderCount_rests (t := ns * 65536 + frac) hc hr hs hp1 hcount hsrc hgrid hfwd
        (decide_eq_false (by omega))
      obtain ⟨_, hj, hq, hrem, hstarts, _⟩ := Pac.lineState_inj.mp hline
      exact ⟨hhwm, hstarts, hj, hq, hrem⟩

end Sys2Proof.Machine

/-! Check-value scans (R360, R361, R366): what a START of a unit does, by whether the unit is busy and the scan legal. -/

namespace Sys2Proof.Machine

/-! ### Registers and units under the updates of a START -/

theorem Dev.OnlyRegs.setFld {as : List Nat} {d e : Dev} (h : d.OnlyRegs as e) {f : Fld} (v : Nat) (hf : f.reg ∈ as) :
    d.OnlyRegs as (e.setFld f v) := by
  obtain ⟨hkept, hframe⟩ := h
  exact ⟨fun a ha => (Dev.reg_setReg_other _ e (ne_of_mem_of_not_mem hf ha).symm).trans (hkept a ha), hframe⟩

/-- Where units change and then only registers, the result with the old units put back differs from the first device in registers only. -/
theorem Dev.OnlyRegs.of_modCrc {as : List Nat} {d e : Dev} {f : Tab CrcUnit → Tab CrcUnit} (h : (d.modCrc f).OnlyRegs as e) :
    d.OnlyRegs as { e with crc := d.crc } := by
  obtain ⟨hkept, hframe⟩ := h
  exact ⟨hkept, congrArg (fun x : Dev => { x with crc := d.crc }) hframe⟩

/-- A bit of a mask field that was set reads as set. -/
theorem Dev.testBit_fld_setBit_true {f : Fld} {k : Nat} (d : Dev) (hhi : f.hi < 32) (hlo : f.lo ≤ f.hi) (hk : k < f.width) :
    ((d.setBit f k true).fld f).testBit k = true := by
  have hset : (d.setBit f k true).fld f = (d.fld f ||| 2 ^ k) % 2 ^ f.width := Dev.fld_setFld_same f _ d hhi hlo
  rw [hset, Nat.testBit_mod_two_pow, Nat.testBit_or, Nat.testBit_two_pow_self]
  simp [hk]

theorem Dev.crcUnit_modCrcUnit (u : Nat) (f : CrcUnit → CrcUnit) (d : Dev) : (d.modCrcUnit u f).crcUnit u = f (d.crcUnit u) :=
  Tab.get_set_same _ _ _ _

theorem Dev.crcUnit_congr {d e : Dev} (h : e.crc = d.crc) (u : Nat) : e.crcUnit u = d.crcUnit u := by
  unfold Dev.crcUnit
  rw [h]

/-! ### The branches of a START -/

/-- The scan that a START with CRC_CTL word `w` asks of unit `u`: the word's fields, and the unit's registers as they stand (R360, R362). -/
def Dev.crcAsked (d : Dev) (u w : Nat) : CrcUnit := { d.crcUnit u with
  running := true
  space := w / 2 ^ 4 % 4
  poly := w / 2 ^ 8 % 4
  addr := d.pair (Reg.CRC_ADDR_LO.addr u) % 2 ^ 40
  len := d.pair (Reg.CRC_LEN_LO.addr u) % 2 ^ 40
  expect := d.pair (Reg.CRC_EXP_LO.addr u) % 2 ^ crcWidth (w / 2 ^ 8 % 4)
  cmp := w.testBit 12
  evt := w.testBit 14
  start := if w.testBit 13 then (d.crcUnit u).left else crcInit (w / 2 ^ 8 % 4)
  failAt := none }

/-- The refusals of R361: `n` is the scan asked, `cont` whether it goes on from the scan whose continuation is `prev`. -/
def Dev.CrcRefused (d : Dev) (n : CrcUnit) (cont : Bool) (prev : Option Nat) : Prop :=
  n.len = 0 ∨ n.space = 3 ∨ d.crcLimit n.space < n.addr + n.len ∨ (n.space = 2 ∧ d.fld Reg.CFG_FLASH_INFO.if_mode = 0) ∨
    (cont = true ∧ prev ≠ some n.poly)

/-- CRC_STAT and CRC_BUSY show that unit `u` scans. -/
def Dev.crcShowBusy (u space poly : Nat) (d : Dev) : Dev :=
  ((((d.setFlag (Reg.CRC_STAT.busy u) true).setFld (Reg.CRC_STAT.result u) 0).setFld (Reg.CRC_STAT.space u) space).setFld
    (Reg.CRC_STAT.poly u) poly).setBit Reg.CRC_BUSY.busy u true

theorem Dev.not_crcRefused {d : Dev} {n : CrcUnit} {cont : Bool} {prev : Option Nat} (hlen : n.len ≠ 0) (hspace : n.space < 3)
    (hlimit : n.addr + n.len ≤ d.crcLimit n.space) (hflash : n.space = 2 → d.fld Reg.CFG_FLASH_INFO.if_mode ≠ 0)
    (hcont : cont = true → prev = some n.poly) : ¬ d.CrcRefused n cont prev := by
  rintro (h | h | h | ⟨h, hmode⟩ | ⟨h, hprev⟩)
  · exact hlen h
  · exact absurd h (Nat.ne_of_lt hspace)
  · exact absurd h (Nat.not_lt.mpr hlimit)
  · exact hflash h hmode
  · exact hprev (hcont h)

theorem Dev.crcStart_of_no_modes {d : Dev} (u w : Nat) (hmodes : d.crcModes = false) : d.crcStart u w = d := by
  unfold Dev.crcStart
  simp [hmodes]

section Modes

variable {d : Dev} {u : Nat} (w : Nat) (hmodes : d.crcModes = true) (hu : u < 8)
include hmodes hu

theorem Dev.crcStart_of_running (hrun : (d.crcUnit u).running = true) :
    d.crcStart u w = d.setFld (Reg.CRC_STAT.result u) CrcRes.busy := by
  unfold Dev.crcStart
  simp [hmodes, hu, hrun]

/-- A free unit refuses the scan asked or begins it. -/
theorem Dev.crcStart_of_free (hfree : (d.crcUnit u).running = false) :
    (d.CrcRefused (d.crcAsked u w) (w.testBit 13) (d.crcUnit u).cont → d.crcStart u w = d.setFld (Reg.CRC_STAT.result u) CrcRes.illegal) ∧
    (¬ d.CrcRefused (d.crcAsked u w) (w.testBit 13) (d.crcUnit u).cont →
      d.crcStart u w = (d.modCrcUnit u fun _ => d.crcAsked u w).crcShowBusy u (w / 2 ^ 4 % 4) (w / 2 ^ 8 % 4)) := by
  have hon : ¬ (!d.crcModes || Nat.ble 8 u) = true := by simp [hmodes, hu]
  have hidle : ¬ (d.crcUnit u).running = true := by simp [hfree]
  exact ⟨fun h => (if_neg hon).trans ((if_neg hidle).trans (if_pos h)), fun h => (if_neg hon).trans ((if_neg hidle).trans (if_neg h))⟩

end Modes

/-! ### What each branch leaves -/

/-- A START without effect shows its result in CRC_STAT and changes nothing else. -/
theorem Dev.setResult_effects (d : Dev) (u : Nat) {r : Nat} (hr : r < 16) :
    (d.setFld (Reg.CRC_STAT.result u) r).fld (Reg.CRC_STAT.result u) = r ∧
    (d.setFld (Reg.CRC_STAT.result u) r).crcUnit u = d.crcUnit u ∧
    d.OnlyRegs [Reg.CRC_STAT.addr u] (d.setFld (Reg.CRC_STAT.result u) r) :=
  ⟨(Dev.fld_setFld_same (Reg.CRC_STAT.result u) r d (by decide : 27 < 32) (by decide : 24 ≤ 27)).trans (Nat.mod_eq_of_lt hr),
    Dev.crcUnit_congr (Dev.setFld_crc _ _ _) u, Dev.OnlyRegs.setFld ⟨fun _ _ => rfl, rfl⟩ r List.mem_cons_self⟩

section ShowBusy

variable (u space poly : Nat) (d : Dev)

theorem Dev.crcShowBusy_crc : (d.crcShowBusy u space poly).crc = d.crc := by
  unfold Dev.crcShowBusy Dev.setBit
  simp

theorem Dev.crcShowBusy_onlyRegs : d.OnlyRegs [Reg.CRC_STAT.addr u, Reg.CRC_BUSY.addr] (d.crcShowBusy u space poly) := by
  have hstat : Reg.CRC_STAT.addr u ∈ [Reg.CRC_STAT.addr u, Reg.CRC_BUSY.addr] := List.mem_cons_self
  have hbusy : Reg.CRC_BUSY.addr ∈ [Reg.CRC_STAT.addr u, Reg.CRC_BUSY.addr] := List.mem_cons_of_mem _ List.mem_cons_self
  have hrefl : d.OnlyRegs [Reg.CRC_STAT.addr u, Reg.CRC_BUSY.addr] d := ⟨fun _ _ => rfl, rfl⟩
  exact ((((hrefl.setFld _ hstat).setFld _ hstat).setFld _ hstat).setFld _ hstat).setFld _ hbusy

/-- CRC_STAT.busy is the register's top bit: no field below it disturbs it, nor does a field of CRC_BUSY. -/
theorem Dev.crcStatBusy_setFld {g : Fld} (v : Nat) (hlo : g.lo ≤ g.hi) (hhi : g.hi < 31) :
    (d.setFld g v).fld (Reg.CRC_STAT.busy u) = d.fld (Reg.CRC_STAT.busy u) :=
  Dev.fld_setFld_apart v d (by decide : 31 < 32) (le_refl 31) hlo (.inr (.inr hhi))

theorem Dev.crcShowBusy_stat : (d.crcShowBusy u space poly).flag (Reg.CRC_STAT.busy u) = true := by
  have hbusy : (d.crcShowBusy u space poly).fld (Reg.CRC_STAT.busy u) = 1 := by
    unfold Dev.crcShowBusy Dev.setBit Dev.setFlag
    rw [Dev.crcStatBusy_setFld _ _ _ (by decide : 0 ≤ 7) (by decide : 7 < 31),
      Dev.crcStatBusy_setFld _ _ _ (by decide : 18 ≤ 19) (by decide : 19 < 31),
      Dev.crcStatBusy_setFld _ _ _ (by decide : 20 ≤ 21) (by decide : 21 < 31),
      Dev.crcStatBusy_setFld _ _ _ (by decide : 24 ≤ 27) (by decide : 27 < 31)]
    exact Dev.fld_setFld_same (Reg.CRC_STAT.busy u) 1 d (by decide : 31 < 32) (le_refl 31)
  unfold Dev.flag
  rw [hbusy]
  rfl

theorem Dev.crcShowBusy_mask {u : Nat} (hu : u < 8) : ((d.crcShowBusy u space poly).fld Reg.CRC_BUSY.busy).testBit u = true :=
  Dev.testBit_fld_setBit_true _ (by decide) (by decide) hu

end ShowBusy

/-- Settles O57: in the modes of R366 a START takes one of the three branches of R361, and outside them none. -/
theorem checkValueScansStartOrAreRefused : Obligations.CheckValueScansStartOrAreRefused := by
  unfold Obligations.CheckValueScansStartOrAreRefused
  rintro d u _ _ _ _ _ w _ hu rfl rfl rfl rfl rfl rfl
  refine ⟨fun hmodes => ⟨fun hrun => ?busy, fun hfree hrefused => ?illegal, fun hfree hlen hspace hlimit hflash hcont => ?begins⟩,
    fun hoff => .of_did (f := Dev.crcStart u w.toNat) (fun _ => rfl) (Dev.crcStart_of_no_modes u _ hoff)⟩
  case busy =>
    refine .of_did (f := Dev.crcStart u w.toNat) (fun _ => rfl) ?_
    rw [Dev.crcStart_of_running _ hmodes hu hrun]
    exact Dev.setResult_effects d u (by decide)
  case illegal =>
    refine .of_did (f := Dev.crcStart u w.toNat) (fun _ => rfl) ?_
    rw [(Dev.crcStart_of_free _ hmodes hu hfree).1 hrefused]
    obtain ⟨hresult, hunit, hregs⟩ := Dev.setResult_effects d u (r := CrcRes.illegal) (by decide)
    exact ⟨hresult, (congrArg CrcUnit.running hunit).trans hfree, hregs⟩
  case begins =>
    refine .of_did (f := Dev.crcStart u w.toNat) (fun _ => rfl) ?_
    have hlegal : ¬ d.CrcRefused (d.crcAsked u w.toNat) (w.toNat.testBit 13) (d.crcUnit u).cont :=
      Dev.not_crcRefused hlen hspace hlimit hflash hcont
    rw [(Dev.crcStart_of_free _ hmodes hu hfree).2 hlegal]
    set begun := d.modCrcUnit u fun _ => d.crcAsked u w.toNat
    have hunit : (begun.crcShowBusy u (w.toNat / 2 ^ 4 % 4) (w.toNat / 2 ^ 8 % 4)).crcUnit u = d.crcAsked u w.toNat :=
      (Dev.crcUnit_congr (Dev.crcShowBusy_crc _ _ _ _) u).trans (Dev.crcUnit_modCrcUnit u _ d)
    rw [hunit]
    exact ⟨rfl, rfl, rfl, rfl, rfl, rfl, rfl, rfl, Dev.crcShowBusy_stat _ _ _ _, Dev.crcShowBusy_mask _ _ _ hu,
      (Dev.crcShowBusy_onlyRegs u _ _ begun).of_modCrc⟩

end Sys2Proof.Machine
